-- ==== Sys2Proof/Word.lean ====
section
/-! DEFINITION. The words of the part: bytes, zone sets, fixed tables, and the two whole-number operations every chapter
uses (saturation to the sample range and Q15 scaling). -/

namespace Sys2Proof

/-- One byte of a frame, a response or a store block. -/
abbrev Byte := BitVec 8

/-- A zone set (R212): bit `z` is zone `z`; in a frame byte `j` carries bits `8j` to `8j + 7`. -/
abbrev ZoneSet := BitVec 64

/-- Program ids 0 to 31 (R15). -/
abbrev ProgId := Fin 32

/-- Zones 0 to 63 (R23). -/
abbrev Zone := Fin 64

/-- Stations S0 to S31 (R146). -/
abbrev StationId := Fin 32

/-- Call ids 0 to 15 (R149). -/
abbrev CallId := Fin 16

/-- Clip channels CH0 to CH7; CH4 to CH7 are show channels 0 to 3 (R133). -/
abbrev ChanId := Fin 8

/-- Clip ids 0 to 255 (R121). -/
abbrev ClipId := Fin 256

/-- Pattern ids 0 to 15 (R93). -/
abbrev PatId := Fin 16

/-- A table of `n` records built from its entries. -/
def tabulate {α : Type} {n : Nat} (f : Fin n → α) : Vector α n := ⟨(List.ofFn f).toArray, by simp⟩

/-- A table with the record at `i` changed by `f`. -/
def adjust {α : Type} {n : Nat} (v : Vector α n) (i : Fin n) (f : α → α) : Vector α n := v.set i (f v[i])

/-- A table with every record changed. -/
def remap {α : Type} {n : Nat} (v : Vector α n) (f : Fin n → α → α) : Vector α n := tabulate fun i => f i v[i]

/-- The zones of a set in ascending zone number. -/
def zonesOf (zs : ZoneSet) : List Zone := (List.finRange 64).filter fun z => zs.getLsbD z

/-- The set that holds the one zone `z`. -/
def zoneBit (z : Zone) : ZoneSet := 1#64 <<< z.val

/-- The zones for which `f` holds. -/
def zonesWhere (f : Zone → Bool) : ZoneSet :=
  (List.finRange 64).foldl (fun zs z => if f z then zs ||| zoneBit z else zs) 0#64

/-- Every gain, level and factor is at most unity, 32,768 (Conventions). -/
def unity : Nat := 32768

/-- A gain given above 32,768 is taken as 32,768 (Conventions). -/
def clampGain (g : Nat) : Nat := min g unity

/-- Largest sample value. -/
def sampleMax : Int := 8388607

/-- Smallest sample value. -/
def sampleMin : Int := -8388608

/-- Saturation to the sample range (Conventions, R61, R162). -/
def saturate (x : Int) : Int := max sampleMin (min sampleMax x)

/-- Q15 scaling, floor((x * g + 16,384) / 32,768) (Conventions, R54). -/
def q15 (x : Int) (g : Nat) : Int := (x * (g : Int) + 16384) / 32768

/-- A duration of `d` milliseconds in audio frames (R8). -/
def framesOfMs (d : Nat) : Nat := 48 * d

/-- The ceiling of `a / b`, as the ramp step is computed (R66). -/
def ceilDiv (a b : Nat) : Nat := (a + b - 1) / b

end Sys2Proof
end

