-- ==== Sys2Proof/Config.lean ====
section
/-! DEFINITION. What the manual fixes for the part (Table values, built-in patterns' timings, defaults) and the values it
leaves open, which are constants without a body. -/

namespace Sys2Proof.Config

/-- Product code, two bytes (R210). -/
def productCode : List Byte := [0x64#8, 0x32#8]

/-- Revision of the part the manual describes (R210). -/
def revision : Byte := 1#8

/-- Length of a reset interval in audio frames (R14). -/
def resetFrames : Nat := 3

/-- Frames between two expiries of the ramp engine's millisecond timer (R8). -/
def framesPerMs : Nat := 48

/-- Longest ramp duration in milliseconds (R66). -/
def maxRampMs : Nat := 10000

/-- Fixed attack of the duck factor under a class 0 owner, in milliseconds (R71). -/
def alarmDuckMs : Nat := 20

/-- Entries a hold stack can hold (R24). -/
def stackDepth : Nat := 3

/-- Shield level that means no shield (R23). -/
def noShield : Nat := 7

/-- Default tail time of a LIVE program in milliseconds (R41). -/
def defaultTail : Nat := 100

/-- Default ring time of a call in milliseconds (R152). -/
def defaultRing : Nat := 30000

/-- Voice window duration after a reset in milliseconds (R87). -/
def defaultWindow : Nat := 60000

/-- Priming bound of a synchronized start in milliseconds (R178). -/
def primingBoundMs : Nat := 250

/-- Timeout of a store operation in milliseconds (R120). -/
def storeTimeoutMs : Nat := 500

/-- Bytes of a store block (R120). -/
def blockBytes : Nat := 4096

/-- Samples of a store block (R120). -/
def blockSamples : Nat := 2048

/-- Number of the store's last block (R120). -/
def lastBlock : Nat := 16383

/-- Places of the cue list (R169). -/
def maxCues : Nat := 64

/-- Frames between two switches of a TWO_TONE step (R97). -/
def twoToneFrames : Nat := 12000

/-- FREE VALUE, mark DESIGN CHOICE, safe (assumption log 17). R212 sends a count in one byte and does not say what is sent
for a number above 255; this constant has no body, so nothing can be proved of what it sends. -/
opaque wideCount8 : Nat → BitVec 8

/-- FREE VALUE, mark DESIGN CHOICE, safe (assumption log 17). R212 sends a counter in two bytes and does not say what is
sent for a number above 65,535. -/
opaque wideCount16 : Nat → BitVec 16

end Sys2Proof.Config
end

