-- ==== Sys2Proof/Syntax.lean ====
section
/-! DEFINITION. The commands of the part: one constructor of `Instr` per row of spec/opcode_table.json. The first 64 rows are
port commands; a constructor carries the transaction that brought the frame and the frame's parameters as raw fields of the
widths R212 to R214 give, so that every value a frame can carry, in range or not, is a term. The other rows are the
transactions that carry no good frame, the resets, the audio frame, and the part's own events. -/

namespace Sys2Proof

/-- The four control ports, in the order of their codes (R212). -/
inductive Port where
  | saf | ann | icm | shw
  deriving DecidableEq, Repr

/-- The transaction a frame was taken from: the port, and how many bytes were clocked after the frame's last byte. Those
bytes are disregarded as input (R204), but the part goes on shifting its response out during them (R205). -/
structure Txn where
  port : Port
  extra : Nat
  deriving DecidableEq, Repr

/-- The parameters of OPEN_PROGRAM as they stand in the frame (R214). -/
structure OpenArgs where
  kind : Byte
  cls : Byte
  source : Byte
  policy : Byte
  zones : ZoneSet
  gain : BitVec 16
  waitLimit : BitVec 24
  joinDeadline : BitVec 24
  chime : Byte
  clip : Byte
  repeats : BitVec 16
  trigger : Byte
  tail : BitVec 24
  deriving DecidableEq, Repr

/-- One step of LOAD_PATTERN as it stands in the frame, 14 bytes (R214). -/
structure RawStep where
  waveform : Byte
  freqA : BitVec 16
  freqB : BitVec 16
  level : BitVec 16
  onTime : BitVec 24
  offTime : BitVec 24
  repeats : Byte
  deriving DecidableEq, Repr

/-- One action of LOAD_CUE as it stands in the frame, 11 bytes: the action kind and ten bytes whose fields the kind gives
(R214); the first of the ten is the most significant byte of `fields`. -/
structure RawAction where
  kind : Byte
  fields : BitVec 80
  deriving DecidableEq, Repr

/-- The nine survey parameters as they stand in the frame (R199, R214). -/
structure RawSurveyParams where
  fStart : BitVec 16
  fEnd : BitVec 16
  coarse : Byte
  blank : Byte
  coarseDwell : BitVec 24
  backstep : Byte
  fineDwell : BitVec 24
  confirm : Byte
  pilot : BitVec 16
  deriving DecidableEq, Repr

/-- The seven pattern players (R96). -/
inductive PlayerId where
  | tg (slot : Fin 2)
  | cv (voice : Fin 4)
  | rc
  deriving DecidableEq, Repr

/-- The commands and events of the part, one constructor per row of spec/opcode_table.json, in the table's order. -/
inductive Instr where
  | poll (t : Txn)
  | identify (t : Txn)
  | readNotices (t : Txn)
  | clearNotices (t : Txn) (kinds : BitVec 16)
  | setNoticeMask (t : Txn) (mask : BitVec 16) (enable : Byte)
  | readResetCause (t : Txn)
  | restart (t : Txn)
  | openProgram (t : Txn) (a : OpenArgs)
  | addZones (t : Txn) (prog : Byte) (zones : ZoneSet)
  | dropZones (t : Txn) (prog : Byte) (zones : ZoneSet)
  | closeProgram (t : Txn) (prog : Byte)
  | forceClose (t : Txn) (prog : Byte)
  | readProgram (t : Txn) (prog : Byte)
  | readZone (t : Txn) (zone : Byte)
  | setShield (t : Txn) (zones : ZoneSet) (level : Byte)
  | setShowZones (t : Txn) (zones : ZoneSet)
  | excludeZones (t : Txn) (zones : ZoneSet)
  | readmitZones (t : Txn) (zones : ZoneSet)
  | setProgramGain (t : Txn) (prog : Byte) (target : BitVec 16) (duration : BitVec 24) (mode : Byte)
  | setZoneLevel (t : Txn) (zones : ZoneSet) (target : BitVec 16) (duration : BitVec 24) (mode : Byte)
  | setEmergencyLevel (t : Txn) (zones : ZoneSet) (level : BitVec 16)
  | setDuckProfile (t : Txn) (zones : ZoneSet) (level : BitVec 16) (attack release : BitVec 24)
  | setAlarmUnder (t : Txn) (level : BitVec 16)
  | readOverload (t : Txn) (zone : Byte)
  | alarmStart (t : Txn) (slot pattern : Byte) (zones : ZoneSet)
  | alarmSilence (t : Txn) (slot : Byte)
  | alarmResound (t : Txn) (slot : Byte)
  | alarmClear (t : Txn) (slot : Byte)
  | alarmVoiceOpen (t : Txn) (slot source clip : Byte) (repeats : BitVec 16)
  | alarmVoiceClose (t : Txn) (slot : Byte)
  | setVoiceWindow (t : Txn) (duration : BitVec 24)
  | readAlarm (t : Txn) (slot : Byte)
  | loadPattern (t : Txn) (pattern endAction loopTarget : Byte) (steps : List RawStep)
  | readPattern (t : Txn) (pattern : Byte)
  | loadBegin (t : Txn) (clip : Byte) (length loop check : BitVec 16) (marks : List (BitVec 16))
  | loadData (t : Txn) (offset : BitVec 32) (data : List Byte)
  | loadEnd (t : Txn)
  | loadAbandon (t : Txn)
  | eraseClip (t : Txn) (clip : Byte)
  | readClip (t : Txn) (clip : Byte)
  | readChannel (t : Txn) (channel : Byte)
  | setStation (t : Txn) (station home : Byte) (receive feed : BitVec 16) (service : Byte)
  | callPlace (t : Txn) (originator priority : Byte) (ringTime : BitVec 24) (callees : List Byte)
  | callAnswer (t : Txn) (station : Byte)
  | callAdd (t : Txn) (call station : Byte)
  | callHold (t : Txn) (station : Byte)
  | callRetrieve (t : Txn) (station : Byte)
  | callLeave (t : Txn) (station : Byte)
  | callEnd (t : Txn) (call : Byte)
  | readStation (t : Txn) (station : Byte)
  | readCall (t : Txn) (call : Byte)
  | loadCue (t : Txn) (number : BitVec 16) (follow : BitVec 24) (actions : List RawAction)
  | deleteCue (t : Txn) (number : BitVec 16)
  | cueStandby (t : Txn) (number : BitVec 16)
  | cueGo (t : Txn)
  | cueResume (t : Txn)
  | cueStopAll (t : Txn)
  | readCueEngine (t : Txn)
  | surveyZone (t : Txn) (zones : ZoneSet)
  | surveyCancel (t : Txn) (zones : ZoneSet)
  | setSurveyParams (t : Txn) (a : RawSurveyParams)
  | setThresholds (t : Txn) (openT shortT : BitVec 24) (freqTol : BitVec 16) (pct : Byte)
  | setReference (t : Txn) (zones : ZoneSet) (form : Byte) (freq : BitVec 16) (mag : BitVec 24)
  | setAutoSurvey (t : Txn) (base factor : Byte)
  | readSurvey (t : Txn) (zone : Byte)
  /-- A taken frame that fails a check of R206: the port and every byte clocked in. -/
  | unknownCommandFrame (p : Port) (bytes : List Byte)
  /-- Select released before the frame is complete (R204): the port and the whole bytes clocked in, if any. -/
  | transactionCutShort (p : Port) (bytes : List Byte)
  | powerOnReset
  /-- The safety port transaction that shifts out the RESTART response (R211), with the number of bytes clocked. -/
  | restartBegin (clocked : Nat)
  | resetIntervalEnd
  /-- One audio frame (R1 to R7): the 48 input slots and the 64 sense slots received in it, as 32-bit slot words, lane by
  lane from slot 0. A lane whose partner is absent reads as zero (R1), so a missing word is zero. -/
  | audioFrame (inputs sense : List (BitVec 32))
  | playerPhaseEnd (pl : PlayerId)
  | twoToneSwitch (pl : PlayerId)
  | toneGeneratorEnd (slot : Fin 2)
  | chimeEnd (voice : Fin 4)
  | blockDone (ch : ChanId)
  | terminalCount (ch : ChanId)
  | rampTick
  | waitLimitExpiry (prog : ProgId)
  | joinDeadlineExpiry (prog : ProgId)
  | voiceWindowExpiry (slot : Fin 2)
  | ringTimerExpiry (call : CallId) (station : StationId)
  | primingBoundExpiry
  | followCountdownExpiry
  | coarseDwellExpiry
  | fineDwellExpiry
  | autoSurveyIntervalExpiry
  | storeOperationTimeout
  /-- The store reports the end of a READ of an image block: the number of the operation it reports, and the 4,096 bytes
  read, or none for a failure (R120, R144). -/
  | scanReadCompletion (op : Nat) (data : Option (List Byte))
  /-- The store reports the end of a channel's block fetch (R120, R136). -/
  | fetchCompletion (op : Nat) (data : Option (List Byte))
  | directoryStepCompletion (op : Nat) (ok : Bool)
  | programmingStepCompletion (op : Nat) (ok : Bool)
  | eraseStepCompletion (op : Nat) (ok : Bool)
  deriving DecidableEq, Repr

end Sys2Proof
end

