-- ==== Sys2Proof/WellFormed.lean ====
section
/-! DEFINITION. Which terms of `Instr` are commands the part can receive. The raw fields of a port command carry every value
the frame's bits can carry, so what remains to check is that a list fits a frame of at most 250 bytes after LEN (R204), that
the two rows for bad transactions carry such transactions, that an audio frame brings one word per slot, and that the store
transfers whole blocks (R120). -/

namespace Sys2Proof

/-- Bytes of parameters a frame can hold: LEN is at most 250 and counts CMD and CHECK (R204). -/
def maxParamBytes : Nat := 248

/-- Parameter bytes of a command with a list: the fixed part, the count and the entries (R212). -/
def listFits (fixed entry count : Nat) : Bool := decide (fixed + 1 + entry * count ≤ maxParamBytes)

/-- The transaction `bytes` ends with its frame taken (R204): LEN is outside 2 to 250 or LEN + 1 bytes have arrived. -/
def frameTaken (bytes : List Byte) : Bool :=
  match bytes with
  | [] => false
  | len :: _ => decide (len.toNat < 2) || decide (250 < len.toNat) || decide (len.toNat + 1 ≤ bytes.length)

/-- A completion that transfers a block carries the whole block (R120). -/
def wholeBlock (data : Option (List Byte)) : Bool := data.all fun d => d.length == Config.blockBytes

/-- The command is one the part can receive. -/
def Instr.wellFormed (i : Instr) : Bool :=
  match i with
  | .loadPattern _ _ _ _ steps => listFits 3 14 steps.length
  | .loadBegin _ _ _ _ _ marks => listFits 7 2 marks.length
  | .loadData _ _ data => listFits 4 1 data.length
  | .callPlace _ _ _ _ callees => listFits 5 1 callees.length
  | .loadCue _ _ _ actions => listFits 5 11 actions.length
  | .unknownCommandFrame _ bytes => frameTaken bytes
  | .transactionCutShort _ bytes => !frameTaken bytes
  | .restartBegin clocked => decide (0 < clocked)
  | .audioFrame inputs sense => inputs.length == 48 && sense.length == 64
  | .scanReadCompletion _ data => wholeBlock data
  | .fetchCompletion _ data => wholeBlock data
  | .poll _ | .identify _ | .readNotices _ | .clearNotices _ _ | .setNoticeMask _ _ _ | .readResetCause _ | .restart _ => true
  | .openProgram _ _ | .addZones _ _ _ | .dropZones _ _ _ | .closeProgram _ _ | .forceClose _ _ | .readProgram _ _ => true
  | .readZone _ _ | .setShield _ _ _ | .setShowZones _ _ | .excludeZones _ _ | .readmitZones _ _ => true
  | .setProgramGain _ _ _ _ _ | .setZoneLevel _ _ _ _ _ | .setEmergencyLevel _ _ _ | .setDuckProfile _ _ _ _ _ => true
  | .setAlarmUnder _ _ | .readOverload _ _ | .alarmStart _ _ _ _ | .alarmSilence _ _ | .alarmResound _ _ => true
  | .alarmClear _ _ | .alarmVoiceOpen _ _ _ _ _ | .alarmVoiceClose _ _ | .setVoiceWindow _ _ | .readAlarm _ _ => true
  | .readPattern _ _ | .loadEnd _ | .loadAbandon _ | .eraseClip _ _ | .readClip _ _ | .readChannel _ _ => true
  | .setStation _ _ _ _ _ _ | .callAnswer _ _ | .callAdd _ _ _ | .callHold _ _ | .callRetrieve _ _ | .callLeave _ _ => true
  | .callEnd _ _ | .readStation _ _ | .readCall _ _ | .deleteCue _ _ | .cueStandby _ _ | .cueGo _ | .cueResume _ => true
  | .cueStopAll _ | .readCueEngine _ | .surveyZone _ _ | .surveyCancel _ _ | .setSurveyParams _ _ => true
  | .setThresholds _ _ _ _ _ | .setReference _ _ _ _ _ | .setAutoSurvey _ _ _ | .readSurvey _ _ => true
  | .powerOnReset | .resetIntervalEnd | .playerPhaseEnd _ | .twoToneSwitch _ | .toneGeneratorEnd _ | .chimeEnd _ => true
  | .blockDone _ | .terminalCount _ | .rampTick | .waitLimitExpiry _ | .joinDeadlineExpiry _ | .voiceWindowExpiry _ => true
  | .ringTimerExpiry _ _ | .primingBoundExpiry | .followCountdownExpiry | .coarseDwellExpiry | .fineDwellExpiry => true
  | .autoSurveyIntervalExpiry | .storeOperationTimeout | .directoryStepCompletion _ _ => true
  | .programmingStepCompletion _ _ | .eraseStepCompletion _ _ => true

end Sys2Proof
end

