-- ==== Sys2Proof/Decode.lean ====
section
/-! DEFINITION. Frames: the checks of R206, the frame layouts of R214 read into commands, and the layouts written from
commands; and the host's table decoder, which has no row to read. -/

namespace Sys2Proof

/-! ### Multi-byte values, most significant byte first (R212) -/

def put16 (x : BitVec 16) : List Byte := [x.extractLsb' 8 8, x.extractLsb' 0 8]

def put24 (x : BitVec 24) : List Byte := [x.extractLsb' 16 8, x.extractLsb' 8 8, x.extractLsb' 0 8]

def put32 (x : BitVec 32) : List Byte := [x.extractLsb' 24 8, x.extractLsb' 16 8, x.extractLsb' 8 8, x.extractLsb' 0 8]

/-- A zone set as its 8-byte mask: byte j carries zones 8j to 8j + 7 (R212). -/
def putZones (x : ZoneSet) : List Byte :=
  [x.extractLsb' 0 8, x.extractLsb' 8 8, x.extractLsb' 16 8, x.extractLsb' 24 8, x.extractLsb' 32 8, x.extractLsb' 40 8,
   x.extractLsb' 48 8, x.extractLsb' 56 8]

/-- The ten field bytes of a cue action, in the order sent. -/
def put80 (x : BitVec 80) : List Byte :=
  [x.extractLsb' 72 8, x.extractLsb' 64 8, x.extractLsb' 56 8, x.extractLsb' 48 8, x.extractLsb' 40 8, x.extractLsb' 32 8,
   x.extractLsb' 24 8, x.extractLsb' 16 8, x.extractLsb' 8 8, x.extractLsb' 0 8]

/-! ### Reading values from the front of a byte list -/

def get8 : List Byte → Option (Byte × List Byte)
  | a :: r => some (a, r)
  | _ => none

def get16 : List Byte → Option (BitVec 16 × List Byte)
  | a :: b :: r => some (a ++ b, r)
  | _ => none

def get24 : List Byte → Option (BitVec 24 × List Byte)
  | a :: b :: c :: r => some (a ++ b ++ c, r)
  | _ => none

def get32 : List Byte → Option (BitVec 32 × List Byte)
  | a :: b :: c :: d :: r => some (a ++ b ++ c ++ d, r)
  | _ => none

def getZones : List Byte → Option (ZoneSet × List Byte)
  | a :: b :: c :: d :: e :: f :: g :: h :: r => some (h ++ g ++ f ++ e ++ d ++ c ++ b ++ a, r)
  | _ => none

def get80 : List Byte → Option (BitVec 80 × List Byte)
  | a :: b :: c :: d :: e :: f :: g :: h :: i :: j :: r =>
    some (a ++ b ++ c ++ d ++ e ++ f ++ g ++ h ++ i ++ j, r)
  | _ => none

/-- `n` entries, each read by `f`. -/
def getList {α : Type} (f : List Byte → Option (α × List Byte)) : Nat → List Byte → Option (List α × List Byte)
  | 0, r => some ([], r)
  | n + 1, r =>
    match f r with
    | none => none
    | some (x, r') =>
      match getList f n r' with
      | none => none
      | some (xs, r'') => some (x :: xs, r'')

/-- A list: a one-byte count, then its entries (R212). -/
def getCounted {α : Type} (f : List Byte → Option (α × List Byte)) (r : List Byte) : Option (List α × List Byte) :=
  match get8 r with
  | none => none
  | some (n, r') => getList f n.toNat r'

/-- The value read, provided nothing is left over: a frame of any other length answers LENGTH (R212). -/
def done {α : Type} (x : α) : List Byte → Option α
  | [] => some x
  | _ => none

/-! ### The frame check (R206) -/

/-- One bit of the check register, polynomial x^8 + x^2 + x + 1. -/
def crc8Bit (c : BitVec 8) : BitVec 8 := if c.msb then (c <<< 1) ^^^ 0x07#8 else c <<< 1

/-- One byte into the check register, most significant bit first. -/
def crc8Byte (c : BitVec 8) (b : Byte) : BitVec 8 :=
  crc8Bit (crc8Bit (crc8Bit (crc8Bit (crc8Bit (crc8Bit (crc8Bit (crc8Bit (c ^^^ b))))))))

/-- The check over `bytes`, initial value 0xFF (R206). -/
def crc8 (bytes : List Byte) : BitVec 8 := bytes.foldl crc8Byte 0xFF#8

/-- LEN, the bytes given, and CHECK; LEN counts what follows it (R204, R206). -/
def sealFrame (body : List Byte) : List Byte :=
  let framed := BitVec.ofNat 8 (body.length + 1) :: body
  framed ++ [crc8 framed]

/-! ### Command frames (R214) -/

def putStep (x : RawStep) : List Byte :=
  [x.waveform] ++ put16 x.freqA ++ put16 x.freqB ++ put16 x.level ++ put24 x.onTime ++ put24 x.offTime ++ [x.repeats]

def getStep (r : List Byte) : Option (RawStep × List Byte) := do
  let (w, r) ← get8 r
  let (fa, r) ← get16 r
  let (fb, r) ← get16 r
  let (lv, r) ← get16 r
  let (on, r) ← get24 r
  let (off, r) ← get24 r
  let (n, r) ← get8 r
  return (⟨w, fa, fb, lv, on, off, n⟩, r)

def putAction (x : RawAction) : List Byte := x.kind :: put80 x.fields

def getAction (r : List Byte) : Option (RawAction × List Byte) := do
  let (k, r) ← get8 r
  let (f, r) ← get80 r
  return (⟨k, f⟩, r)

/-- A list as it is sent: its count in one byte, then its entries (R212). -/
def putCounted {α : Type} (f : α → List Byte) (xs : List α) : List Byte := BitVec.ofNat 8 xs.length :: xs.flatMap f

/-- The command code and parameter bytes of a port command (R214); none for the rows that are no command of the code table. -/
def Instr.frameBody (i : Instr) : Option (Txn × Byte × List Byte) :=
  match i with
  | .poll t => some (t, 0x00#8, [])
  | .identify t => some (t, 0x01#8, [])
  | .readNotices t => some (t, 0x02#8, [])
  | .clearNotices t k => some (t, 0x03#8, put16 k)
  | .setNoticeMask t m e => some (t, 0x04#8, put16 m ++ [e])
  | .readResetCause t => some (t, 0x05#8, [])
  | .restart t => some (t, 0x06#8, [])
  | .openProgram t a => some (t, 0x10#8, [a.kind, a.cls, a.source, a.policy] ++ putZones a.zones ++ put16 a.gain ++
      put24 a.waitLimit ++ put24 a.joinDeadline ++ [a.chime, a.clip] ++ put16 a.repeats ++ [a.trigger] ++ put24 a.tail)
  | .addZones t p z => some (t, 0x11#8, [p] ++ putZones z)
  | .dropZones t p z => some (t, 0x12#8, [p] ++ putZones z)
  | .closeProgram t p => some (t, 0x13#8, [p])
  | .forceClose t p => some (t, 0x14#8, [p])
  | .readProgram t p => some (t, 0x15#8, [p])
  | .readZone t z => some (t, 0x16#8, [z])
  | .setShield t z l => some (t, 0x17#8, putZones z ++ [l])
  | .setShowZones t z => some (t, 0x18#8, putZones z)
  | .excludeZones t z => some (t, 0x19#8, putZones z)
  | .readmitZones t z => some (t, 0x1A#8, putZones z)
  | .setProgramGain t p g d m => some (t, 0x20#8, [p] ++ put16 g ++ put24 d ++ [m])
  | .setZoneLevel t z g d m => some (t, 0x21#8, putZones z ++ put16 g ++ put24 d ++ [m])
  | .setEmergencyLevel t z l => some (t, 0x22#8, putZones z ++ put16 l)
  | .setDuckProfile t z l a r => some (t, 0x23#8, putZones z ++ put16 l ++ put24 a ++ put24 r)
  | .setAlarmUnder t l => some (t, 0x24#8, put16 l)
  | .readOverload t z => some (t, 0x25#8, [z])
  | .alarmStart t k p z => some (t, 0x30#8, [k, p] ++ putZones z)
  | .alarmSilence t k => some (t, 0x31#8, [k])
  | .alarmResound t k => some (t, 0x32#8, [k])
  | .alarmClear t k => some (t, 0x33#8, [k])
  | .alarmVoiceOpen t k s c n => some (t, 0x34#8, [k, s, c] ++ put16 n)
  | .alarmVoiceClose t k => some (t, 0x35#8, [k])
  | .setVoiceWindow t d => some (t, 0x36#8, put24 d)
  | .readAlarm t k => some (t, 0x37#8, [k])
  | .loadPattern t p e l steps => some (t, 0x38#8, [p, e, l] ++ putCounted putStep steps)
  | .readPattern t p => some (t, 0x39#8, [p])
  | .loadBegin t c n l k marks => some (t, 0x40#8, [c] ++ put16 n ++ put16 l ++ put16 k ++ putCounted put16 marks)
  | .loadData t o data => some (t, 0x41#8, put32 o ++ putCounted (fun b => [b]) data)
  | .loadEnd t => some (t, 0x42#8, [])
  | .loadAbandon t => some (t, 0x43#8, [])
  | .eraseClip t c => some (t, 0x44#8, [c])
  | .readClip t c => some (t, 0x45#8, [c])
  | .readChannel t c => some (t, 0x46#8, [c])
  | .setStation t s h g f v => some (t, 0x50#8, [s, h] ++ put16 g ++ put16 f ++ [v])
  | .callPlace t o p d callees => some (t, 0x51#8, [o, p] ++ put24 d ++ putCounted (fun b => [b]) callees)
  | .callAnswer t s => some (t, 0x52#8, [s])
  | .callAdd t c s => some (t, 0x53#8, [c, s])
  | .callHold t s => some (t, 0x54#8, [s])
  | .callRetrieve t s => some (t, 0x55#8, [s])
  | .callLeave t s => some (t, 0x56#8, [s])
  | .callEnd t c => some (t, 0x57#8, [c])
  | .readStation t s => some (t, 0x58#8, [s])
  | .readCall t c => some (t, 0x59#8, [c])
  | .loadCue t n f actions => some (t, 0x60#8, put16 n ++ put24 f ++ putCounted putAction actions)
  | .deleteCue t n => some (t, 0x61#8, put16 n)
  | .cueStandby t n => some (t, 0x62#8, put16 n)
  | .cueGo t => some (t, 0x63#8, [])
  | .cueResume t => some (t, 0x64#8, [])
  | .cueStopAll t => some (t, 0x65#8, [])
  | .readCueEngine t => some (t, 0x66#8, [])
  | .surveyZone t z => some (t, 0x70#8, putZones z)
  | .surveyCancel t z => some (t, 0x71#8, putZones z)
  | .setSurveyParams t a => some (t, 0x72#8, put16 a.fStart ++ put16 a.fEnd ++ [a.coarse, a.blank] ++ put24 a.coarseDwell ++
      [a.backstep] ++ put24 a.fineDwell ++ [a.confirm] ++ put16 a.pilot)
  | .setThresholds t o s f p => some (t, 0x73#8, put24 o ++ put24 s ++ put16 f ++ [p])
  | .setReference t z f q m => some (t, 0x74#8, putZones z ++ [f] ++ put16 q ++ put24 m)
  | .setAutoSurvey t b f => some (t, 0x75#8, [b, f])
  | .readSurvey t z => some (t, 0x76#8, [z])
  | .unknownCommandFrame _ _ | .transactionCutShort _ _ | .powerOnReset | .restartBegin _ | .resetIntervalEnd => none
  | .audioFrame _ _ | .playerPhaseEnd _ | .twoToneSwitch _ | .toneGeneratorEnd _ | .chimeEnd _ | .blockDone _ => none
  | .terminalCount _ | .rampTick | .waitLimitExpiry _ | .joinDeadlineExpiry _ | .voiceWindowExpiry _ => none
  | .ringTimerExpiry _ _ | .primingBoundExpiry | .followCountdownExpiry | .coarseDwellExpiry | .fineDwellExpiry => none
  | .autoSurveyIntervalExpiry | .storeOperationTimeout | .scanReadCompletion _ _ | .fetchCompletion _ _ => none
  | .directoryStepCompletion _ _ | .programmingStepCompletion _ _ | .eraseStepCompletion _ _ => none

/-- The frame of a port command, LEN to CHECK (R204, R214). -/
def Instr.frame (i : Instr) : Option (List Byte) :=
  match i.frameBody with
  | none => none
  | some (_, code, params) => some (sealFrame (code :: params))

/-- The bytes clocked in during the transaction of a port command; the bytes after the frame are disregarded (R204) and
stand here as zeros. -/
def Instr.clockedBytes (i : Instr) : Option (List Byte) :=
  match i.frameBody with
  | none => none
  | some (t, code, params) => some (sealFrame (code :: params) ++ List.replicate t.extra 0#8)

/-- Codes of the commands of R214. -/
def knownCodes : List Byte :=
  [0x00#8, 0x01#8, 0x02#8, 0x03#8, 0x04#8, 0x05#8, 0x06#8, 0x10#8, 0x11#8, 0x12#8, 0x13#8, 0x14#8, 0x15#8, 0x16#8, 0x17#8,
   0x18#8, 0x19#8, 0x1A#8, 0x20#8, 0x21#8, 0x22#8, 0x23#8, 0x24#8, 0x25#8, 0x30#8, 0x31#8, 0x32#8, 0x33#8, 0x34#8, 0x35#8,
   0x36#8, 0x37#8, 0x38#8, 0x39#8, 0x40#8, 0x41#8, 0x42#8, 0x43#8, 0x44#8, 0x45#8, 0x46#8, 0x50#8, 0x51#8, 0x52#8, 0x53#8,
   0x54#8, 0x55#8, 0x56#8, 0x57#8, 0x58#8, 0x59#8, 0x60#8, 0x61#8, 0x62#8, 0x63#8, 0x64#8, 0x65#8, 0x66#8, 0x70#8, 0x71#8,
   0x72#8, 0x73#8, 0x74#8, 0x75#8, 0x76#8]

/-- One program id and nothing more. -/
def parse8 (f : Byte → Instr) (r : List Byte) : Option Instr := do
  let (a, r) ← get8 r
  done (f a) r

/-- A zone set and nothing more. -/
def parseZones (f : ZoneSet → Instr) (r : List Byte) : Option Instr := do
  let (z, r) ← getZones r
  done (f z) r

/-- A two-byte value and nothing more. -/
def parse16 (f : BitVec 16 → Instr) (r : List Byte) : Option Instr := do
  let (a, r) ← get16 r
  done (f a) r

def parseOpen (t : Txn) (r : List Byte) : Option Instr := do
  let (kind, r) ← get8 r
  let (cls, r) ← get8 r
  let (source, r) ← get8 r
  let (policy, r) ← get8 r
  let (zones, r) ← getZones r
  let (gain, r) ← get16 r
  let (waitLimit, r) ← get24 r
  let (joinDeadline, r) ← get24 r
  let (chime, r) ← get8 r
  let (clip, r) ← get8 r
  let (repeats, r) ← get16 r
  let (trigger, r) ← get8 r
  let (tail, r) ← get24 r
  done (.openProgram t ⟨kind, cls, source, policy, zones, gain, waitLimit, joinDeadline, chime, clip, repeats, trigger,
    tail⟩) r

def parseProgZones (f : Byte → ZoneSet → Instr) (r : List Byte) : Option Instr := do
  let (p, r) ← get8 r
  let (z, r) ← getZones r
  done (f p z) r

def parseSurveyParams (t : Txn) (r : List Byte) : Option Instr := do
  let (fs, r) ← get16 r
  let (fe, r) ← get16 r
  let (c, r) ← get8 r
  let (b, r) ← get8 r
  let (cd, r) ← get24 r
  let (k, r) ← get8 r
  let (fd, r) ← get24 r
  let (n, r) ← get8 r
  let (pl, r) ← get16 r
  done (.setSurveyParams t ⟨fs, fe, c, b, cd, k, fd, n, pl⟩) r

/-- The parameters `r` of command code `code` read by its layout (R214); none where the length is not the one the layout
calls for. -/
def parseParams (t : Txn) (code : Byte) (r : List Byte) : Option Instr :=
  match code.toNat with
  | 0x00 => done (.poll t) r
  | 0x01 => done (.identify t) r
  | 0x02 => done (.readNotices t) r
  | 0x03 => parse16 (.clearNotices t) r
  | 0x04 => do
    let (m, r) ← get16 r
    let (e, r) ← get8 r
    done (.setNoticeMask t m e) r
  | 0x05 => done (.readResetCause t) r
  | 0x06 => done (.restart t) r
  | 0x10 => parseOpen t r
  | 0x11 => parseProgZones (.addZones t) r
  | 0x12 => parseProgZones (.dropZones t) r
  | 0x13 => parse8 (.closeProgram t) r
  | 0x14 => parse8 (.forceClose t) r
  | 0x15 => parse8 (.readProgram t) r
  | 0x16 => parse8 (.readZone t) r
  | 0x17 => do
    let (z, r) ← getZones r
    let (l, r) ← get8 r
    done (.setShield t z l) r
  | 0x18 => parseZones (.setShowZones t) r
  | 0x19 => parseZones (.excludeZones t) r
  | 0x1A => parseZones (.readmitZones t) r
  | 0x20 => do
    let (p, r) ← get8 r
    let (g, r) ← get16 r
    let (d, r) ← get24 r
    let (m, r) ← get8 r
    done (.setProgramGain t p g d m) r
  | 0x21 => do
    let (z, r) ← getZones r
    let (g, r) ← get16 r
    let (d, r) ← get24 r
    let (m, r) ← get8 r
    done (.setZoneLevel t z g d m) r
  | 0x22 => do
    let (z, r) ← getZones r
    let (l, r) ← get16 r
    done (.setEmergencyLevel t z l) r
  | 0x23 => do
    let (z, r) ← getZones r
    let (l, r) ← get16 r
    let (a, r) ← get24 r
    let (e, r) ← get24 r
    done (.setDuckProfile t z l a e) r
  | 0x24 => parse16 (.setAlarmUnder t) r
  | 0x25 => parse8 (.readOverload t) r
  | 0x30 => do
    let (k, r) ← get8 r
    let (p, r) ← get8 r
    let (z, r) ← getZones r
    done (.alarmStart t k p z) r
  | 0x31 => parse8 (.alarmSilence t) r
  | 0x32 => parse8 (.alarmResound t) r
  | 0x33 => parse8 (.alarmClear t) r
  | 0x34 => do
    let (k, r) ← get8 r
    let (s, r) ← get8 r
    let (c, r) ← get8 r
    let (n, r) ← get16 r
    done (.alarmVoiceOpen t k s c n) r
  | 0x35 => parse8 (.alarmVoiceClose t) r
  | 0x36 => do
    let (d, r) ← get24 r
    done (.setVoiceWindow t d) r
  | 0x37 => parse8 (.readAlarm t) r
  | 0x38 => do
    let (p, r) ← get8 r
    let (e, r) ← get8 r
    let (l, r) ← get8 r
    let (steps, r) ← getCounted getStep r
    done (.loadPattern t p e l steps) r
  | 0x39 => parse8 (.readPattern t) r
  | 0x40 => do
    let (c, r) ← get8 r
    let (n, r) ← get16 r
    let (l, r) ← get16 r
    let (k, r) ← get16 r
    let (marks, r) ← getCounted get16 r
    done (.loadBegin t c n l k marks) r
  | 0x41 => do
    let (o, r) ← get32 r
    let (data, r) ← getCounted get8 r
    done (.loadData t o data) r
  | 0x42 => done (.loadEnd t) r
  | 0x43 => done (.loadAbandon t) r
  | 0x44 => parse8 (.eraseClip t) r
  | 0x45 => parse8 (.readClip t) r
  | 0x46 => parse8 (.readChannel t) r
  | 0x50 => do
    let (s, r) ← get8 r
    let (h, r) ← get8 r
    let (g, r) ← get16 r
    let (f, r) ← get16 r
    let (v, r) ← get8 r
    done (.setStation t s h g f v) r
  | 0x51 => do
    let (o, r) ← get8 r
    let (p, r) ← get8 r
    let (d, r) ← get24 r
    let (callees, r) ← getCounted get8 r
    done (.callPlace t o p d callees) r
  | 0x52 => parse8 (.callAnswer t) r
  | 0x53 => do
    let (c, r) ← get8 r
    let (s, r) ← get8 r
    done (.callAdd t c s) r
  | 0x54 => parse8 (.callHold t) r
  | 0x55 => parse8 (.callRetrieve t) r
  | 0x56 => parse8 (.callLeave t) r
  | 0x57 => parse8 (.callEnd t) r
  | 0x58 => parse8 (.readStation t) r
  | 0x59 => parse8 (.readCall t) r
  | 0x60 => do
    let (n, r) ← get16 r
    let (f, r) ← get24 r
    let (actions, r) ← getCounted getAction r
    done (.loadCue t n f actions) r
  | 0x61 => parse16 (.deleteCue t) r
  | 0x62 => parse16 (.cueStandby t) r
  | 0x63 => done (.cueGo t) r
  | 0x64 => done (.cueResume t) r
  | 0x65 => done (.cueStopAll t) r
  | 0x66 => done (.readCueEngine t) r
  | 0x70 => parseZones (.surveyZone t) r
  | 0x71 => parseZones (.surveyCancel t) r
  | 0x72 => parseSurveyParams t r
  | 0x73 => do
    let (o, r) ← get24 r
    let (s, r) ← get24 r
    let (f, r) ← get16 r
    let (p, r) ← get8 r
    done (.setThresholds t o s f p) r
  | 0x74 => do
    let (z, r) ← getZones r
    let (f, r) ← get8 r
    let (q, r) ← get16 r
    let (m, r) ← get24 r
    done (.setReference t z f q m) r
  | 0x75 => do
    let (b, r) ← get8 r
    let (f, r) ← get8 r
    done (.setAutoSurvey t b f) r
  | 0x76 => parse8 (.readSurvey t) r
  | _ => none

/-- The checks of R206 a taken frame can fail. -/
inductive FrameError where
  | length | check | unknown
  deriving DecidableEq, Repr

/-- A taken frame, checked in the order of R206 and read by its layout. `bytes` is all that was clocked in. -/
def decodeFrame (p : Port) (bytes : List Byte) : Except FrameError Instr :=
  let len := (bytes.headD 0#8).toNat
  if len < 2 ∨ 250 < len then .error .length
  else
    let frame := bytes.take (len + 1)
    if crc8 frame.dropLast ≠ frame.getLastD 0#8 then .error .check
    else
      let code := frame.getD 1 0#8
      if code ∉ knownCodes then .error .unknown
      else
        match parseParams ⟨p, bytes.length - (len + 1)⟩ code (frame.drop 2).dropLast with
        | none => .error .length
        | some i => .ok i

/-! ### The opcode table -/

/-- The command that the table's bits of a word spell. The reader gives no row of this part's table any bits (a command
reaches the part as a frame of bytes, `decodeFrame`), so no word spells a command. -/
def decodeTableWord (_nbits _w : Nat) : Option Instr := none

end Sys2Proof
end

