-- ==== Sys2Proof/Machine/State.lean ====
section
/-! DEFINITION. The state of the part as plain data: every record, counter, timer, queue and latch the manual gives it, the
queue of waiting commands, and the machine right after reset. Timers hold the audio frames that remain (R8). -/

namespace Sys2Proof.Machine

/-! ### Port controllers (chapter 10) -/

/-- The nine notice kinds, in the order of their mask bits (R207). -/
inductive NoticeKind where
  | restarted | program | alarm | line | overload | clip | call | cue | survey
  deriving DecidableEq, Repr

/-- Status codes of a response, in the order of their codes (R206). -/
inductive Status where
  | ok | accepted | check | length | unknown | privilege | param | state | alarmActive | busy | full | notFound | notReady
  deriving DecidableEq, Repr

/-- Cause of the most recent reset (R210). -/
inductive ResetCause where
  | powerOn | restart
  deriving DecidableEq, Repr

/-- One port controller (R204 to R211). -/
structure PortCtl where
  /-- The receive frame: bytes of a transaction that has not ended. A transaction is one step here and ends in its own
  step, so this is empty between steps (assumption log 1). -/
  rx : List Byte
  /-- The pending response (R205). -/
  response : Option (List Byte)
  /-- The notice set, bit k for the kind of mask bit k (R207). -/
  notices : BitVec 9
  /-- The changed-program set (R207). -/
  changed : BitVec 32
  /-- The notice mask (R207). -/
  mask : BitVec 9
  /-- The attention enable (R207). -/
  attention : Bool
  /-- What data out carried during the last transaction of this port, one byte per byte clocked (R205). -/
  dataOut : List Byte
  deriving DecidableEq, Repr

/-- A port controller after a reset (R211). -/
def PortCtl.reset : PortCtl :=
  { rx := [], response := none, notices := 1#9, changed := 0#32, mask := 0x1FF#9, attention := true, dataOut := [] }

/-! ### Ramps (section 3.3) -/

/-- The ramp state of one ramped value (R65). -/
structure Ramp where
  current : Nat
  start : Nat
  target : Nat
  duration : Nat
  step : Nat
  running : Bool
  /-- Staged target with its duration; never present in a duck factor (R72). -/
  staged : Option (Nat × Nat)
  deriving DecidableEq, Repr

/-- A value at rest at `g`, no ramp running and nothing staged (R41, R64). Its start value, duration and step are the model's
(DESIGN CHOICE; assumption log 8). -/
def Ramp.still (g : Nat) : Ramp :=
  { current := g, start := g, target := g, duration := 0, step := 1, running := false, staged := none }

/-! ### Programs and zones (chapter 2) -/

/-- Program kinds (R15). -/
inductive ProgKind where
  | alarm | live | clip | callOut | showSound | bed
  deriving DecidableEq, Repr

/-- Start policies (R213). -/
inductive Policy where
  | allOrWait | takeAvailable
  deriving DecidableEq, Repr

/-- Program states (R15). -/
inductive ProgState where
  | free | pending | preamble | active | held | tail | ended
  deriving DecidableEq, Repr

/-- The return state of a program, PREAMBLE or ACTIVE (R20). -/
inductive ReturnState where
  | preamble | active
  deriving DecidableEq, Repr

/-- End reasons (R21). -/
inductive EndReason where
  | closed | complete | noZones | waitExpired | channelTaken | forced
  deriving DecidableEq, Repr

/-- Trigger modes (R213). -/
inductive Trigger where
  | free | gated | stepped
  deriving DecidableEq, Repr

/-- Clip part of a CLIP program (R15). `repeats` is none for continuous. -/
structure ClipPart where
  clip : ClipId
  repeats : Option Nat
  trigger : Trigger
  channel : Option ChanId
  deriving DecidableEq, Repr

/-- One record of the program table (R15). -/
structure Program where
  owner : Port
  kind : ProgKind
  cls : Nat
  source : Option Nat
  policy : Policy
  requested : ZoneSet
  granted : ZoneSet
  held : ZoneSet
  waiting : ZoneSet
  waitLimit : Option Nat
  joinDeadline : Option Nat
  /-- Frames left on the wait limit timer, when it runs (R37). -/
  waitTimer : Option Nat
  /-- Frames left on the join deadline timer, when it runs (R38). -/
  joinTimer : Option Nat
  gain : Ramp
  chime : Option PatId
  clipPart : Option ClipPart
  tail : Option Nat
  routeSlot : Option (Fin 8)
  arrival : Nat
  state : ProgState
  ret : Option ReturnState
  endReason : Option EndReason
  chimeSkipped : Bool
  /-- Set once an ALL_OR_WAIT program has been granted its requested set (R32). -/
  gotAll : Bool
  /-- Set once the bound channel of a CLIP program has been started (R111). -/
  clipStarted : Bool
  deriving DecidableEq, Repr

/-- A FREE record: every optional field absent, every set empty, no timer running (R15). -/
def Program.free : Program :=
  { owner := .saf, kind := .alarm, cls := 0, source := none, policy := .allOrWait, requested := 0#64, granted := 0#64,
    held := 0#64, waiting := 0#64, waitLimit := none, joinDeadline := none, waitTimer := none, joinTimer := none,
    gain := Ramp.still 0, chime := none, clipPart := none, tail := none, routeSlot := none, arrival := 0, state := .free,
    ret := none, endReason := none, chimeSkipped := false, gotAll := false, clipStarted := false }

/-- Line status and survey outcomes, in the order of their codes (R213). -/
inductive LineOutcome where
  | unsurveyed | opened | shorted | unreferenced | normal | degraded | noPeak | skipped | aborted
  deriving DecidableEq, Repr

/-- A zone's last survey result (R188): outcome, optional peak frequency and magnitude, EDGE flag. -/
structure SurveyResult where
  outcome : LineOutcome
  peak : Option (Nat × Nat)
  edge : Bool
  deriving DecidableEq, Repr

/-- One zone record (R23, R54, R188). -/
structure ZoneRec where
  owner : Option ProgId
  /-- The hold stack, top first (R23). -/
  stack : List ProgId
  bed : Option ProgId
  shield : Nat
  showZone : Bool
  excluded : Bool
  master : Ramp
  emergency : Nat
  duckLevel : Nat
  duckAttack : Nat
  duckRelease : Nat
  duck : Ramp
  overload : Nat
  lineStatus : LineOutcome
  reference : Option (Nat × Nat)
  lastResult : Option SurveyResult
  underSurvey : Bool
  deriving DecidableEq, Repr

/-- A zone after a reset (R23, R64, R188). -/
def ZoneRec.reset : ZoneRec :=
  { owner := none, stack := [], bed := none, shield := Config.noShield, showZone := false, excluded := false,
    master := Ramp.still unity, emergency := unity, duckLevel := 4096, duckAttack := 50, duckRelease := 500,
    duck := Ramp.still unity, overload := 0, lineStatus := .unsurveyed, reference := none, lastResult := none,
    underSurvey := false }

/-! ### Alarm sequencer (chapter 4) -/

/-- Waveforms of a pattern step (R93). -/
inductive Waveform where
  | square | triangle | twoTone
  deriving DecidableEq, Repr

/-- One step of a pattern (R93). -/
structure PatStep where
  waveform : Waveform
  freqA : Nat
  freqB : Nat
  level : Nat
  onTime : Nat
  offTime : Nat
  repeats : Nat
  deriving DecidableEq, Repr

/-- A pattern: empty when it has no steps; `loop` is the step an end action LOOP goes to, none for END (R93). -/
structure Pattern where
  steps : List PatStep
  loop : Option Nat
  deriving DecidableEq, Repr

/-- An empty pattern. -/
def Pattern.empty : Pattern := { steps := [], loop := none }

/-- Condition of a pattern player (R96). -/
inductive Cond where
  | stopped | running | paused
  deriving DecidableEq, Repr

/-- A pattern player (R96). -/
structure Player where
  cond : Cond
  pattern : PatId
  step : Nat
  rep : Nat
  /-- ON phase, else OFF phase. -/
  on : Bool
  left : Nat
  acc : BitVec 24
  /-- For a TWO_TONE step, whether tone B sounds. -/
  toneB : Bool
  switchLeft : Nat
  /-- The end action END has stopped the player and no user was there to take the report (assumption log 32). -/
  endReport : Bool
  deriving DecidableEq, Repr

/-- A STOPPED player has no position (R96). -/
def Player.stopped : Player :=
  { cond := .stopped, pattern := 0, step := 0, rep := 0, on := false, left := 0, acc := 0#24, toneB := false,
    switchLeft := 0, endReport := false }

/-- A chime voice: a player and the program bound to it (R101). -/
structure ChimeVoice where
  player : Player
  bound : Option ProgId
  deriving DecidableEq, Repr

/-- Alarm slot states (R77). -/
inductive SlotState where
  | idle | sounding | voice | voiceMixed | silenced
  deriving DecidableEq, Repr

/-- Voice source of a window (R87). -/
inductive VoiceSource where
  | input (ch : Fin 8)
  | clip (id : ClipId) (repeats : Nat) (ch : ChanId)
  deriving DecidableEq, Repr

/-- A voice window (R87): `toSilence` is return state SILENCED, else SOUNDING; `timer` is none when expired. -/
structure VoiceWindow where
  source : VoiceSource
  toSilence : Bool
  timer : Option Nat
  deriving DecidableEq, Repr

/-- An alarm slot (R77). Slot k's program is record k and its generator TGk. -/
structure AlarmSlot where
  state : SlotState
  pattern : Option PatId
  window : Option VoiceWindow
  deriving DecidableEq, Repr

/-- An IDLE slot (R77). -/
def AlarmSlot.idle : AlarmSlot := { state := .idle, pattern := none, window := none }

/-! ### Clip engine (chapter 6) -/

/-- States of a directory entry (R121). -/
inductive ClipState where
  | empty | loading | ready | erasing | damaged
  deriving DecidableEq, Repr

/-- One entry of the clip directory (R121). -/
structure DirEntry where
  state : ClipState
  first : Option Nat
  last : Option Nat
  loop : Option Nat
  marks : List Nat
  check : Option Nat
  erasePos : Option Nat
  deriving DecidableEq, Repr

/-- An EMPTY entry: its fields are absent (R121, R130). -/
def DirEntry.empty : DirEntry :=
  { state := .empty, first := none, last := none, loop := none, marks := [], check := none, erasePos := none }

/-- The two load buffers. -/
inductive BufId where
  | a | b
  deriving DecidableEq, Repr

/-- A load buffer: its bytes and the block it is destined for (section 6.2). -/
structure LoadBuf where
  data : List Byte
  dest : Nat
  deriving DecidableEq, Repr

/-- The load context (section 6.2). -/
structure Load where
  clip : ClipId
  total : Nat
  next : Nat
  crc : BitVec 16
  failed : Bool
  ending : Bool
  filling : BufId
  bufA : LoadBuf
  bufB : LoadBuf
  deriving DecidableEq, Repr

/-- An operation on the store link (R120, R132). A fetch or PROGRAM marked `discard` runs on, but its result is dropped. -/
inductive StoreOp where
  | scanRead (img : Fin 2)
  | fetch (ch : ChanId) (offset pass block : Nat) (discard : Bool)
  | directory (img : Fin 2) (image : List Byte)
  | programBlock (buf : BufId) (block : Nat) (data : List Byte) (discard : Bool)
  | erase (clip : ClipId) (block : Nat)
  deriving DecidableEq, Repr

/-- The operation in progress: its number, the frames left on its timeout, and what it is (R120). -/
structure Link where
  no : Nat
  left : Nat
  op : StoreOp
  deriving DecidableEq, Repr

/-- The start-up scan while it runs: the image block it reads, the failed attempts on it, and whether a block was lost
(R144). -/
structure Scan where
  img : Fin 2
  failures : Nat
  lost : Bool
  deriving DecidableEq, Repr

/-- Outcome of the last start-up scan (R144). -/
inductive ScanOutcome where
  | done | doneWithLoss
  deriving DecidableEq, Repr

/-- The clip engine but for its channels (chapter 6). -/
structure ClipEngine where
  dir : Vector DirEntry 256
  /-- Dirty flags of image blocks 0 and 1 (R123). -/
  dirty : Vector Bool 2
  load : Option Load
  eraseList : List ClipId
  /-- The last erase step of the head of the erase list failed on its present block (R130). -/
  eraseFailed : Bool
  link : Option Link
  /-- Number the next store operation takes (the model's own; assumption log 6). -/
  opNo : Nat
  scan : Option Scan
  scanOutcome : Option ScanOutcome
  deriving DecidableEq, Repr

/-- Channel states (R133). -/
inductive ChanState where
  | free | priming | playing | paused
  deriving DecidableEq, Repr

/-- Pause causes (R133). -/
inductive PauseCause where
  | gate | mark | start
  deriving DecidableEq, Repr

/-- The user a channel is bound to (R133). -/
inductive ChanUser where
  | prog (p : ProgId)
  | window (slot : Fin 2)
  | cue
  deriving DecidableEq, Repr

/-- A block in a ring place: its offset in the clip and its bytes. -/
structure RingBlock where
  offset : Nat
  data : List Byte
  deriving DecidableEq, Repr

/-- Where a channel stands: nothing begun; block `offset` to begin next; or the block playing and the sample to present
next, 2,048 once its last sample has been presented and the block is done (R133, R137). -/
inductive Cursor where
  | none
  | toBegin (offset : Nat)
  | playing (blk : RingBlock) (sample : Nat)
  deriving DecidableEq, Repr

/-- A clip channel record (R133). -/
structure Channel where
  state : ChanState
  user : Option ChanUser
  clip : Option ClipId
  cursor : Cursor
  remaining : Nat
  /-- HOLD address mode, else ADVANCE. -/
  hold : Bool
  trigger : Trigger
  pause : Option PauseCause
  /-- Repeats left, none for continuous. -/
  repeats : Option Nat
  /-- The repeat count given at the start, none for continuous: how many passes the fetches may reach. -/
  passes : Option Nat
  /-- The blocks ahead, next first; their number is the fill count (R133). -/
  ahead : List RingBlock
  /-- Offset and pass of the next block to fetch (R133); the first pass is pass 1. -/
  nextFetch : Option (Nat × Nat)
  underrun : Nat
  /-- A go reached the channel while it was PRIMING (R142). -/
  goMark : Bool
  deriving DecidableEq, Repr

/-- A channel after a reset, with the user given (R133). -/
def Channel.reset (u : Option ChanUser) : Channel :=
  { state := .free, user := u, clip := none, cursor := .none, remaining := 0, hold := false, trigger := .free,
    pause := none, repeats := some 0, passes := some 0, ahead := [], nextFetch := none, underrun := 0, goMark := false }

/-! ### Crew intercom (chapter 7) -/

/-- Station states, in the order of R146's record. -/
inductive StationState where
  | idle | ringing | calling | inCall | onHold | talkout | disabled
  deriving DecidableEq, Repr

/-- A station record (R146). -/
structure Station where
  state : StationState
  home : Option Zone
  receive : Nat
  feed : Nat
  current : Option CallId
  suspended : Option CallId
  deriving DecidableEq, Repr

/-- A station after a reset (R146). -/
def Station.reset : Station :=
  { state := .idle, home := none, receive := unity, feed := 8192, current := none, suspended := none }

/-- Call states (R149). -/
inductive CallState where
  | free | ringing | connected | ended
  deriving DecidableEq, Repr

/-- Call priorities (R213). -/
inductive Priority where
  | ordinary | urgent | emergency
  deriving DecidableEq, Repr

/-- Party states (R149). -/
inductive PartyState where
  | calling | ringing | active | onHold | suspended
  deriving DecidableEq, Repr

/-- A party of a call, with its ring timer while it rings (R149). -/
structure Party where
  station : StationId
  state : PartyState
  timer : Option Nat
  deriving DecidableEq, Repr

/-- Reasons of the left-out list (R149). -/
inductive LeftReason where
  | busy | disabled
  deriving DecidableEq, Repr

/-- End causes of a call (R149). -/
inductive EndCause where
  | cleared | depleted
  deriving DecidableEq, Repr

/-- A call record (R149). -/
structure Call where
  state : CallState
  priority : Priority
  ringTime : Nat
  parties : List Party
  leftOut : List (StationId × LeftReason)
  endCause : Option EndCause
  deriving DecidableEq, Repr

/-- A FREE call record (R149). -/
def Call.free : Call :=
  { state := .free, priority := .ordinary, ringTime := 0, parties := [], leftOut := [], endCause := none }

/-! ### Show cue engine (chapter 8) -/

/-- The part of a route slot a FADE names (R169). -/
inductive CuePart where
  | showPart | bedPart
  deriving DecidableEq, Repr

/-- Cue actions (R169). A route source is a source identifier; a show channel is 0 to 3. -/
inductive CueAction where
  | route (slot : Fin 8) (source : Nat) (zones : ZoneSet)
  | unroute (slot : Fin 8)
  | bed (slot : Fin 8) (zones : ZoneSet)
  | fade (slot : Fin 8) (part : CuePart) (target duration : Nat) (staged : Bool)
  | play (ch : Fin 4) (clip : ClipId) (trigger : Trigger) (repeats : Option Nat)
  | stop (ch : Fin 4)
  | step (ch : Fin 4)
  deriving DecidableEq, Repr

/-- A cue (R169). -/
structure Cue where
  number : Nat
  follow : Option Nat
  actions : List CueAction
  deriving DecidableEq, Repr

/-- States of the cue engine (R173). -/
inductive EngineState where
  | empty | standby | following | priming | held | finished
  deriving DecidableEq, Repr

/-- Faults of an action (R177). -/
inductive CueFault where
  | full | noZones | noSource | noProgram | notAtMark | notReady
  deriving DecidableEq, Repr

/-- The last result of the engine (R173): the first fault is its action index, counted from 1, and its reason. -/
structure CueResult where
  number : Nat
  late : Bool
  faults : Nat
  first : Option (Nat × CueFault)
  deriving DecidableEq, Repr

/-- The follow countdown (R173). -/
structure Countdown where
  left : Nat
  frozen : Bool
  deriving DecidableEq, Repr

/-- A route slot (R172). -/
structure RouteSlot where
  source : Option Nat
  showProg : Option ProgId
  bedProg : Option ProgId
  deriving DecidableEq, Repr

/-- An empty route slot (R172). -/
def RouteSlot.empty : RouteSlot := { source := none, showProg := none, bedProg := none }

/-- The cue engine (R169, R172, R173). -/
structure CueEngine where
  cues : List Cue
  slots : Vector RouteSlot 8
  state : EngineState
  standby : Option Nat
  executing : Option Nat
  /-- Show channels of the synchronized start, each with its primed mark (R173). -/
  startSet : List (Fin 4 × Bool)
  bound : Option Nat
  /-- The priming bound last ended by running out, and not by a stop: what a read sends while it does not run (R178, R212). -/
  boundExpired : Bool
  countdown : Option Countdown
  holdPending : Bool
  ret : Option EngineState
  last : Option CueResult
  /-- Faults of the execution under way, kept until the last result takes them (R177). -/
  faults : List (Nat × CueFault)
  deriving DecidableEq, Repr

/-- The cue engine after a reset (R169, R172, R173). -/
def CueEngine.reset : CueEngine :=
  { cues := [], slots := Vector.replicate 8 RouteSlot.empty, state := .empty, standby := none, executing := none,
    startSet := [], bound := none, boundExpired := false, countdown := none, holdPending := false, ret := none, last := none,
    faults := [] }

/-! ### Line survey (chapter 9) -/

/-- States of the survey engine (R188). -/
inductive SurveyState where
  | idle | coarse | fine
  deriving DecidableEq, Repr

/-- The eight sweep parameters (R199). -/
structure SweepParams where
  fStart : Nat
  fEnd : Nat
  coarse : Nat
  blank : Nat
  coarseDwell : Nat
  backstep : Nat
  fineDwell : Nat
  confirm : Nat
  deriving DecidableEq, Repr

/-- Default sweep parameters (R199). -/
def SweepParams.default : SweepParams :=
  { fStart := 18000, fEnd := 22000, coarse := 2, blank := 2, coarseDwell := 6, backstep := 5, fineDwell := 9, confirm := 1 }

/-- Classification thresholds (R200). -/
structure Thresholds where
  openT : Nat
  shortT : Nat
  freqTol : Nat
  pct : Nat
  deriving DecidableEq, Repr

/-- Default thresholds (R200). -/
def Thresholds.default : Thresholds := { openT := 50000, shortT := 7500000, freqTol := 500, pct := 25 }

/-- A set of the ports SAF and ANN (R188, R189). -/
structure Requesters where
  saf : Bool
  ann : Bool
  deriving DecidableEq, Repr

/-- An entry of the survey queue (R189). -/
structure QueueEntry where
  zone : Zone
  ports : Requesters
  deriving DecidableEq, Repr

/-- The auto survey setting: base in seconds, 1 or 16, and factor (R202). -/
structure AutoSetting where
  base : Nat
  factor : Nat
  deriving DecidableEq, Repr

/-- The line survey engine (R188). -/
structure Survey where
  state : SurveyState
  zone : Option Zone
  requesters : Requesters
  sweep : SweepParams
  pilotFreq : Nat
  dwell : Option Nat
  /-- The dwell timer last ended by running out, and not by a stop: what a read sends while it does not run (R195, R198,
  R212). -/
  dwellExpired : Bool
  readings : Nat
  /-- Maximum of the phase under way: reading and frequency. -/
  maximum : Option (Nat × Nat)
  /-- Coarse peak: reading and frequency. -/
  coarsePeak : Option (Nat × Nat)
  below : Nat
  queue : List QueueEntry
  params : SweepParams
  pilotLevel : Nat
  thresholds : Thresholds
  auto : Option AutoSetting
  autoTimer : Option Nat
  cycle : Zone
  /-- The pilot generator PG: RUNNING, else STOPPED, and its accumulator (R192). -/
  pgRunning : Bool
  pgAcc : BitVec 24
  deriving DecidableEq, Repr

/-- The survey engine after a reset (R188, R199, R200, R202). -/
def Survey.reset : Survey :=
  { state := .idle, zone := none, requesters := ⟨false, false⟩, sweep := SweepParams.default, pilotFreq := 18000,
    dwell := none, dwellExpired := false, readings := 0, maximum := none, coarsePeak := none, below := 0, queue := [],
    params := SweepParams.default, pilotLevel := 512, thresholds := Thresholds.default, auto := none, autoTimer := none,
    cycle := 0, pgRunning := false, pgAcc := 0#24 }

/-! ### Lanes (chapter 1) -/

/-- The latches and the output slots (R3 to R6). -/
structure Lanes where
  /-- Input channel latches IN0 to IN47. -/
  inputs : Vector Int 48
  /-- Sense latches, latched at the end of the last audio frame taken. -/
  sense : Vector Nat 64
  /-- Sense magnitudes latched one frame earlier; what an event at the end of that frame reads (R5, R192). -/
  senseBefore : Vector Nat 64
  /-- Zone samples of the last audio frame. -/
  zoneOut : Vector Int 64
  /-- Station samples of the last audio frame. -/
  stationOut : Vector Int 32
  deriving DecidableEq, Repr

/-- Latches and slots hold zero through a reset (R14). -/
def Lanes.reset : Lanes :=
  { inputs := Vector.replicate 48 0, sense := Vector.replicate 64 0, senseBefore := Vector.replicate 64 0,
    zoneOut := Vector.replicate 64 0, stationOut := Vector.replicate 32 0 }

/-! ### The part -/

/-- The whole part, with the queue of waiting commands. -/
structure State where
  /-- Commands that wait, first in, first out. -/
  pending : List Instr
  ports : Vector PortCtl 4
  /-- The pending response of SAF is that of RESTART: shifting it out begins the reset (R211). -/
  restartArmed : Bool
  resetCause : ResetCause
  /-- Audio frames left of the reset interval, none outside it (R14). -/
  resetLeft : Option Nat
  progs : Vector Program 32
  /-- Programs whose record is not FREE, in the order in which they were opened (R17). -/
  openOrder : List ProgId
  /-- ENDED programs, earliest ended first (R22). -/
  endOrder : List ProgId
  /-- Counter of arrival numbers (R17). -/
  arrivals : Nat
  zones : Vector ZoneRec 64
  alarmUnder : Nat
  /-- Audio frames since the last expiry of the millisecond timer (R8). -/
  msFrames : Nat
  slots : Vector AlarmSlot 2
  patterns : Vector Pattern 16
  tone : Vector Player 2
  voices : Vector ChimeVoice 4
  ring : Player
  /-- Voice window duration in milliseconds (R87). -/
  windowMs : Nat
  clips : ClipEngine
  chans : Vector Channel 8
  stations : Vector Station 32
  calls : Vector Call 16
  /-- ENDED calls, earliest ended first (R151). -/
  callEnds : List CallId
  cue : CueEngine
  survey : Survey
  lanes : Lanes
  deriving DecidableEq, Repr

/-- The four built-in patterns (R93); patterns 4 to 15 are empty after a reset. -/
def builtInPattern (k : Fin 16) : Pattern :=
  match k.val with
  | 0 => { steps := [{ waveform := .square, freqA := 800, freqB := 0, level := 32768, onTime := 1000, offTime := 1000,
                       repeats := 7 },
                     { waveform := .square, freqA := 800, freqB := 0, level := 32768, onTime := 6000, offTime := 3000,
                       repeats := 1 }], loop := some 1 }
  | 1 => { steps := [{ waveform := .twoTone, freqA := 650, freqB := 900, level := 32768, onTime := 10000, offTime := 0,
                       repeats := 1 }], loop := some 1 }
  | 2 => { steps := [{ waveform := .triangle, freqA := 1000, freqB := 0, level := 32768, onTime := 300, offTime := 50,
                       repeats := 1 },
                     { waveform := .triangle, freqA := 800, freqB := 0, level := 32768, onTime := 300, offTime := 50,
                       repeats := 1 },
                     { waveform := .triangle, freqA := 600, freqB := 0, level := 32768, onTime := 300, offTime := 50,
                       repeats := 1 }], loop := none }
  | 3 => { steps := [{ waveform := .square, freqA := 480, freqB := 0, level := 16384, onTime := 1000, offTime := 3000,
                       repeats := 1 }], loop := some 1 }
  | _ => Pattern.empty

/-- The clip engine after a reset, before the start-up scan has begun (R121, R123, R145). -/
def ClipEngine.reset (opNo : Nat) : ClipEngine :=
  { dir := Vector.replicate 256 DirEntry.empty, dirty := Vector.replicate 2 false, load := none, eraseList := [],
    eraseFailed := false, link := none, opNo := opNo, scan := none, scanOutcome := none }

/-- Channels after a reset: CH4 to CH7 have the cue engine as user at all times (R133). -/
def resetChannels : Vector Channel 8 := tabulate fun ch => Channel.reset (if ch.val < 4 then none else some .cue)

/-- Every block and port controller in its reset state, in the reset interval that follows; `opNo` numbers the next store
operation (R14, R211). -/
def State.blocksReset (cause : ResetCause) (opNo : Nat) : State :=
  { pending := [], ports := Vector.replicate 4 PortCtl.reset, restartArmed := false, resetCause := cause,
    resetLeft := some Config.resetFrames, progs := Vector.replicate 32 Program.free, openOrder := [], endOrder := [],
    arrivals := 0, zones := Vector.replicate 64 ZoneRec.reset, alarmUnder := 8192, msFrames := 0,
    slots := Vector.replicate 2 AlarmSlot.idle, patterns := tabulate builtInPattern,
    tone := Vector.replicate 2 Player.stopped, voices := Vector.replicate 4 ⟨Player.stopped, none⟩,
    ring := Player.stopped, windowMs := Config.defaultWindow, clips := ClipEngine.reset opNo, chans := resetChannels,
    stations := Vector.replicate 32 Station.reset, calls := Vector.replicate 16 Call.free, callEnds := [],
    cue := CueEngine.reset, survey := Survey.reset, lanes := Lanes.reset }

/-- The first scan read of the start-up scan on the link (R144). -/
def ClipEngine.scanBegun (c : ClipEngine) : ClipEngine :=
  { c with scan := some ⟨0, 0, false⟩, opNo := c.opNo + 1,
           link := some ⟨c.opNo, framesOfMs Config.storeTimeoutMs, .scanRead 0⟩ }

/-- The machine right after a power-on reset: its reset interval has ended, every block is in its reset state, and the
start-up scan has begun its first read (R14, R144; assumption log 3). -/
def State.reset : State :=
  let s := State.blocksReset .powerOn 0
  { s with resetLeft := none, clips := s.clips.scanBegun }

/-! ### Why a step can stop -/

/-- Reasons a step stops with a fault. There are none: the manual gives every command and every event of the part an effect
or an answer, so nothing raises a fault. -/
inductive Fault where
  deriving DecidableEq, Repr

/-- Reasons a step refuses a command. -/
inductive Refusal where
  /-- Raised by `exec` for a row of the table that has no meaning yet; no row is left so. Safe. -/
  | notModelled (mnemonic : String)
  deriving DecidableEq, Repr

end Sys2Proof.Machine
end

