-- ==== Sys2Proof/Machine/Flags.lean ====
section
/-! DEFINITION. Every flag the ports see: the notice kinds and their bits, raising a notice, the outputs RDY and ATN, and the
alarm active condition. -/

namespace Sys2Proof.Machine

/-- Place of a port in the table of port controllers; also its code (R212). -/
def portIdx : Port → Fin 4
  | .saf => 0
  | .ann => 1
  | .icm => 2
  | .shw => 3

/-- A change of one port controller. -/
def State.onPort (s : State) (p : Port) (f : PortCtl → PortCtl) : State := { s with ports := adjust s.ports (portIdx p) f }

/-- The controller of a port. -/
def State.port (s : State) (p : Port) : PortCtl := s.ports[portIdx p]

/-- The mask bit of a notice kind (R207). -/
def NoticeKind.bit : NoticeKind → BitVec 9
  | .restarted => 0x001#9
  | .program => 0x002#9
  | .alarm => 0x004#9
  | .line => 0x008#9
  | .overload => 0x010#9
  | .clip => 0x020#9
  | .call => 0x040#9
  | .cue => 0x080#9
  | .survey => 0x100#9

/-- The notice set of the port holds the kind. -/
def PortCtl.has (c : PortCtl) (k : NoticeKind) : Bool := c.notices &&& k.bit != 0#9

/-- Raising a kind at a port adds it to that port's notice set; a kind already present stays (R207). -/
def State.raise (s : State) (k : NoticeKind) (p : Port) : State := s.onPort p fun c => { c with notices := c.notices ||| k.bit }

/-- The bit of a program id in a changed-program set (R212). -/
def progBit (p : ProgId) : BitVec 32 := 1#32 <<< p.val

/-- A PROGRAM notice also adds the program's id to the port's changed-program set (R53, R207). -/
def State.raiseProgram (s : State) (p : Port) (id : ProgId) : State :=
  s.onPort p fun c => { c with notices := c.notices ||| NoticeKind.program.bit, changed := c.changed ||| progBit id }

/-- RDY is asserted while a response is pending (section 10). -/
def PortCtl.rdy (c : PortCtl) : Bool := c.response.isSome

/-- ATN is asserted while the attention enable is on and the notice set holds at least one kind of the mask (R207). -/
def PortCtl.atn (c : PortCtl) : Bool := c.attention && c.notices &&& c.mask != 0#9

/-- The alarm active condition: either slot is not IDLE (R78). -/
def State.alarmActive (s : State) : Bool := s.slots[(0 : Fin 2)].state != .idle || s.slots[(1 : Fin 2)].state != .idle

/-- The ALARM notice of a slot's change of state: at the announcement, intercom and show ports, and at the safety port unless
a safety port command that names the slot made the change (R78). -/
def State.raiseAlarm (s : State) (named : Bool) : State :=
  let s := ((s.raise .alarm .ann).raise .alarm .icm).raise .alarm .shw
  if named then s else s.raise .alarm .saf

/-- Ports of a requester set, SAF first. -/
def Requesters.ports (r : Requesters) : List Port := (if r.saf then [.saf] else []) ++ (if r.ann then [.ann] else [])

/-- A SURVEY notice: at the safety port and at each requester, except at the port `spare` (R191, R195, R198). -/
def State.raiseSurvey (s : State) (r : Requesters) (spare : Option Port) : State :=
  (Port.saf :: r.ports).foldl (fun s p => if spare = some p then s else s.raise .survey p) s

end Sys2Proof.Machine
end

