-- ==== Sys2Proof/Machine/Operands.lean ====
section
/-! DEFINITION. Every operand form: the fields of a command frame read as numbers, as optional values and as named values,
and the results of a response written as fields (R212, R213). -/

namespace Sys2Proof.Machine

/-! ### Reading fields -/

/-- A field of all ones reads as absent (R212). -/
def opt {w : Nat} (x : BitVec w) : Option Nat := if x = BitVec.allOnes w then none else some x.toNat

/-- A number that must name one of `n` records. -/
def idx? (n : Nat) (x : Byte) : Option (Fin n) := if h : x.toNat < n then some ⟨x.toNat, h⟩ else none

/-- A number in a closed range. -/
def inRange (lo hi n : Nat) : Bool := decide (lo ≤ n) && decide (n ≤ hi)

/-- An optional number: absent, or in a closed range. -/
def optInRange (lo hi : Nat) (n : Option Nat) : Bool := n.all (inRange lo hi)

def kind? (x : Byte) : Option ProgKind :=
  match x.toNat with
  | 0 => some .alarm
  | 1 => some .live
  | 2 => some .clip
  | 3 => some .callOut
  | 4 => some .showSound
  | 5 => some .bed
  | _ => none

def policy? (x : Byte) : Option Policy :=
  match x.toNat with
  | 0 => some .allOrWait
  | 1 => some .takeAvailable
  | _ => none

def trigger? (x : Byte) : Option Trigger :=
  match x.toNat with
  | 0 => some .free
  | 1 => some .gated
  | 2 => some .stepped
  | _ => none

/-- Retarget mode: true for STAGED, false for CUT (R213). -/
def staged? (x : Byte) : Option Bool :=
  match x.toNat with
  | 0 => some true
  | 1 => some false
  | _ => none

/-- A two-valued name whose second value is the true one: attention enable OFF/ON, service ENABLED/DISABLED (R213). -/
def onOff? (x : Byte) : Option Bool :=
  match x.toNat with
  | 0 => some false
  | 1 => some true
  | _ => none

def cuePart? (x : Byte) : Option CuePart :=
  match x.toNat with
  | 0 => some .showPart
  | 1 => some .bedPart
  | _ => none

def priority? (x : Byte) : Option Priority :=
  match x.toNat with
  | 0 => some .ordinary
  | 1 => some .urgent
  | 2 => some .emergency
  | _ => none

def waveform? (x : Byte) : Option Waveform :=
  match x.toNat with
  | 0 => some .square
  | 1 => some .triangle
  | 2 => some .twoTone
  | _ => none

/-- A repeat count: 1 to 255, or 256 for continuous, which is `some none` (R212); none for any other value. -/
def repeats? (x : BitVec 16) : Option (Option Nat) :=
  if x.toNat = 256 then some none else if inRange 1 255 x.toNat then some (some x.toNat) else none

/-! ### Field values of a frame's named parts -/

/-- Which sources a program of each kind opened by OPEN_PROGRAM may take (R10); a CLIP or ALARM program names none. -/
def sourceAllowed (k : ProgKind) (src : Nat) : Bool :=
  match k with
  | .live => inRange 0 7 src
  | .callOut => inRange 16 47 src
  | .showSound | .bed => inRange 0 15 src
  | .clip | .alarm => false

/-- Which class, kind and port belong together (R18). -/
def classAllowed (cls : Nat) (k : ProgKind) (p : Port) : Bool :=
  match cls with
  | 1 => (k == .live || k == .clip) && p == .saf
  | 2 => (k == .live || k == .clip || k == .callOut) && (p == .ann || p == .icm)
  | 3 => (k == .live || k == .clip) && p == .ann
  | 4 => k == .callOut && p == .icm
  | 5 => k == .showSound && p == .shw
  | 6 => k == .bed && (p == .ann || p == .shw)
  | _ => false

/-- CLIP, SHOW and ALARM are the resumable kinds (R18, R28). -/
def ProgKind.resumable : ProgKind → Bool
  | .clip | .showSound | .alarm => true
  | .live | .callOut | .bed => false

/-! ### Codes of named values (R212, R213) -/

def portCode (p : Port) : Nat := (portIdx p).val

def statusCode : Status → Nat
  | .ok => 0 | .accepted => 1 | .check => 2 | .length => 3 | .unknown => 4 | .privilege => 5 | .param => 6 | .state => 7
  | .alarmActive => 8 | .busy => 9 | .full => 10 | .notFound => 11 | .notReady => 12

def kindCode : ProgKind → Nat
  | .alarm => 0 | .live => 1 | .clip => 2 | .callOut => 3 | .showSound => 4 | .bed => 5

def policyCode : Policy → Nat
  | .allOrWait => 0 | .takeAvailable => 1

def progStateCode : ProgState → Nat
  | .free => 0 | .pending => 1 | .preamble => 2 | .active => 3 | .held => 4 | .tail => 5 | .ended => 6

/-- A return state is a program state and takes that state's code (assumption log 15). -/
def retCode : ReturnState → Nat
  | .preamble => progStateCode .preamble | .active => progStateCode .active

def endReasonCode : EndReason → Nat
  | .closed => 0 | .complete => 1 | .noZones => 2 | .waitExpired => 3 | .channelTaken => 4 | .forced => 5

def triggerCode : Trigger → Nat
  | .free => 0 | .gated => 1 | .stepped => 2

def lineCode : LineOutcome → Nat
  | .unsurveyed => 0 | .opened => 1 | .shorted => 2 | .unreferenced => 3 | .normal => 4 | .degraded => 5 | .noPeak => 6
  | .skipped => 7 | .aborted => 8

def slotStateCode : SlotState → Nat
  | .idle => 0 | .sounding => 1 | .voice => 2 | .voiceMixed => 3 | .silenced => 4

def waveformCode : Waveform → Nat
  | .square => 0 | .triangle => 1 | .twoTone => 2

def clipStateCode : ClipState → Nat
  | .empty => 0 | .loading => 1 | .ready => 2 | .erasing => 3 | .damaged => 4

def chanStateCode : ChanState → Nat
  | .free => 0 | .priming => 1 | .playing => 2 | .paused => 3

def pauseCode : PauseCause → Nat
  | .gate => 0 | .mark => 1 | .start => 2

def stationCode : StationState → Nat
  | .idle => 0 | .ringing => 1 | .calling => 2 | .inCall => 3 | .onHold => 4 | .talkout => 5 | .disabled => 6

def callStateCode : CallState → Nat
  | .free => 0 | .ringing => 1 | .connected => 2 | .ended => 3

def priorityCode : Priority → Nat
  | .ordinary => 0 | .urgent => 1 | .emergency => 2

def partyCode : PartyState → Nat
  | .calling => 0 | .ringing => 1 | .active => 2 | .onHold => 3 | .suspended => 4

def leftCode : LeftReason → Nat
  | .busy => 0 | .disabled => 1

def endCauseCode : EndCause → Nat
  | .cleared => 0 | .depleted => 1

def engineCode : EngineState → Nat
  | .empty => 0 | .standby => 1 | .following => 2 | .priming => 3 | .held => 4 | .finished => 5

def faultCode : CueFault → Nat
  | .full => 0 | .noZones => 1 | .noSource => 2 | .noProgram => 3 | .notAtMark => 4 | .notReady => 5

def surveyStateCode : SurveyState → Nat
  | .idle => 0 | .coarse => 1 | .fine => 2

def resetCauseCode : ResetCause → Nat
  | .powerOn => 0 | .restart => 1

def scanCode : ScanOutcome → Nat
  | .done => 0 | .doneWithLoss => 1

/-! ### Writing results -/

/-- A number in one byte. -/
def out8 (n : Nat) : List Byte := [BitVec.ofNat 8 n]

/-- A number in two bytes. -/
def out16 (n : Nat) : List Byte := put16 (BitVec.ofNat 16 n)

/-- A number in three bytes. -/
def out24 (n : Nat) : List Byte := put24 (BitVec.ofNat 24 n)

/-- A number in four bytes. -/
def out32 (n : Nat) : List Byte := put32 (BitVec.ofNat 32 n)

/-- A count in one byte; the byte sent for a number above 255 is left open (assumption log 17). -/
def outCount8 (n : Nat) : List Byte := if n < 256 then out8 n else [Config.wideCount8 n]

/-- A counter in two bytes; what is sent for a number above 65,535 is left open (assumption log 17). -/
def outCount16 (n : Nat) : List Byte := if n < 65536 then out16 n else put16 (Config.wideCount16 n)

/-- An optional field: absent is all ones in its width (R212). -/
def outOpt8 (n : Option Nat) : List Byte := out8 (n.getD 0xFF)
def outOpt16 (n : Option Nat) : List Byte := out16 (n.getD 0xFFFF)
def outOpt24 (n : Option Nat) : List Byte := out24 (n.getD 0xFFFFFF)
def outOpt32 (n : Option Nat) : List Byte := out32 (n.getD 0xFFFFFFFF)

/-- The audio-frames-remaining field of a timer that has expired (R212). -/
def expiredField : Nat := 0xFFFFFFFE

/-- The frames remaining of a timer that runs; of one that does not, the code for an expired timer where its time ran out, and
absent otherwise (R212). -/
def outTimer (left : Option Nat) (expired : Bool) : List Byte :=
  match left with
  | some n => out32 n
  | none => if expired then out32 expiredField else outOpt32 none

/-- A flag in one byte (R212). -/
def outFlag (b : Bool) : List Byte := out8 (if b then 1 else 0)

/-- A repeat count: 256 for continuous (R212). -/
def outRepeats (n : Option Nat) : List Byte := out16 (n.getD 256)

/-- A notice kind set in two bytes (R212). -/
def outKinds (k : BitVec 9) : List Byte := put16 (k.setWidth 16)

/-- A program id set in four bytes: byte j carries ids 8j to 8j + 7 (R212). -/
def outProgSet (x : BitVec 32) : List Byte :=
  [x.extractLsb' 0 8, x.extractLsb' 8 8, x.extractLsb' 16 8, x.extractLsb' 24 8]

/-- A port set in one byte (R212). -/
def outPorts (r : Requesters) : List Byte := out8 ((if r.saf then 1 else 0) + (if r.ann then 2 else 0))

end Sys2Proof.Machine
end

