-- ==== Sys2Proof/Machine/Ops.lean ====
section
/-! DEFINITION. The named changes of one record of the state, the reset of the part, and the port transaction: shifting the
pending response out, taking a frame, and composing its response (R204 to R211). A block has no exception entry; raising a
notice is the nearest thing it has, and stands in Flags.lean. -/

namespace Sys2Proof.Machine

/-- What a command or event of the part answers. -/
abbrev Out := Host.Outcome State Fault Refusal

/-! ### One record changed -/

def State.onProg (s : State) (p : ProgId) (f : Program → Program) : State := { s with progs := adjust s.progs p f }

def State.onZone (s : State) (z : Zone) (f : ZoneRec → ZoneRec) : State := { s with zones := adjust s.zones z f }

def State.onSlot (s : State) (k : Fin 2) (f : AlarmSlot → AlarmSlot) : State := { s with slots := adjust s.slots k f }

def State.onTone (s : State) (k : Fin 2) (f : Player → Player) : State := { s with tone := adjust s.tone k f }

def State.onVoice (s : State) (v : Fin 4) (f : ChimeVoice → ChimeVoice) : State := { s with voices := adjust s.voices v f }

def State.onChan (s : State) (c : ChanId) (f : Channel → Channel) : State := { s with chans := adjust s.chans c f }

def State.onStation (s : State) (a : StationId) (f : Station → Station) : State :=
  { s with stations := adjust s.stations a f }

def State.onCall (s : State) (x : CallId) (f : Call → Call) : State := { s with calls := adjust s.calls x f }

def State.onClips (s : State) (f : ClipEngine → ClipEngine) : State := { s with clips := f s.clips }

def State.onCue (s : State) (f : CueEngine → CueEngine) : State := { s with cue := f s.cue }

def State.onSurvey (s : State) (f : Survey → Survey) : State := { s with survey := f s.survey }

/-- The same change made in every zone of a set. -/
def State.onZones (s : State) (zs : ZoneSet) (f : ZoneRec → ZoneRec) : State :=
  { s with zones := remap s.zones fun z r => if zs.getLsbD z.val then f r else r }

/-- A change of one route slot. -/
def CueEngine.onRoute (c : CueEngine) (k : Fin 8) (f : RouteSlot → RouteSlot) : CueEngine :=
  { c with slots := adjust c.slots k f }

/-- A change of one directory entry; the image block that holds the entry's record becomes dirty (R123). -/
def ClipEngine.onEntry (c : ClipEngine) (id : ClipId) (f : DirEntry → DirEntry) : ClipEngine :=
  { c with dir := adjust c.dir id f, dirty := adjust c.dirty (if id.val < 128 then 0 else 1) fun _ => true }

/-- Clip channel of show channel k (R133). -/
def showChan (k : Fin 4) : ChanId := ⟨4 + k.val, by omega⟩

/-- The class of a zone's owner, when it has one. -/
def State.ownerClass (s : State) (z : Zone) : Option Nat :=
  match s.zones[z].owner with
  | none => none
  | some o => some s.progs[o].cls

/-! ### Resets (R14, R211) -/

/-- Power-on reset: every block and port controller takes its reset state and the reset interval of three frames begins. The
queue of commands is not the part's, and a store operation in progress is abandoned, so the numbers of later operations go
on from where they stood (assumption log 6). -/
def State.powerOn (s : State) : State :=
  { State.blocksReset .powerOn s.clips.opNo with pending := s.pending }

/-- The latches cleared and the output slots as they are: frame m of a RESTART is transmitted with the samples already
computed for it, and its input is not latched (R14). -/
def Lanes.cleared (l : Lanes) : Lanes := { Lanes.reset with zoneOut := l.zoneOut, stationOut := l.stationOut }

/-- The reset of a RESTART. The slots of the frame under way keep their samples; the frames of the reset interval carry zero
(R14). What data out has carried stays readable at the port that clocked it. -/
def State.restartNow (s : State) : State :=
  { State.blocksReset .restart s.clips.opNo with
    pending := s.pending
    lanes := s.lanes.cleared
    ports := remap s.ports fun _ c => { PortCtl.reset with dataOut := c.dataOut } }

/-! ### Transactions -/

/-- The bytes data out carries while `n` bytes are clocked: the pending response, then zeros (R205). -/
def shiftedOut (response : Option (List Byte)) (n : Nat) : List Byte :=
  let r := (response.getD []).take n
  r ++ List.replicate (n - r.length) 0#8

/-- `n` bytes are clocked on a port and select is released: the response that was pending is gone if one byte or more was
shifted out (R205). With no whole byte nothing at all happens (R204). -/
def State.clockThrough (s : State) (p : Port) (n : Nat) : State :=
  if n = 0 then s
  else s.onPort p fun c => { c with rx := [], response := none, dataOut := shiftedOut c.response n }

/-- A response: LEN, the CMD echo, STATUS, the results and CHECK (R206). -/
def responseBytes (code : Byte) (st : Status) (results : List Byte) : List Byte :=
  sealFrame (code :: BitVec.ofNat 8 (statusCode st) :: results)

/-- The response becomes the pending response of the port and RDY rises (R205). -/
def State.respond (s : State) (p : Port) (code : Byte) (st : Status) (results : List Byte) : State :=
  s.onPort p fun c => { c with response := some (responseBytes code st results) }

/-- A command's result: the state it leaves, its status and its results. -/
abbrev Reply := State × Status × List Byte

/-- A refusal: no effect and no results (R206). -/
def refuse (s : State) (st : Status) : Reply := (s, st, [])

/-- Taken and carried out (R206). -/
def okWith (s : State) (results : List Byte) : Reply := (s, .ok, results)

/-- The transaction of a frame whose command is known and whose parameters take `n` bytes. While the reset interval lasts no
frame is taken (R211). A safety port transaction that shifts out the RESTART response begins the reset and its own frame is
discarded (R211). Otherwise the command takes effect and its response is composed in the same step (R205). -/
def State.transact (s : State) (t : Txn) (code : Byte) (n : Nat) (body : State → Reply) : State :=
  let s1 := s.clockThrough t.port (n + 3 + t.extra)
  if s.resetLeft.isSome then s1
  else if s.restartArmed && t.port == .saf then s1.restartNow
  else
    let r := body s1
    r.1.respond t.port code r.2.1 r.2.2

end Sys2Proof.Machine
end

