-- ==== Sys2Proof/Machine/Ramps.lean ====
section
/-! DEFINITION. The ramp engine (section 3.3): setting a ramp up, STAGED and CUT retargets, one step at the millisecond
expiry; and the duck factor's retarget at a change of owner (section 3.4). -/

namespace Sys2Proof.Machine

/-- A ramp is set up from the current value (R66). One that completes at once leaves start value, duration and step of the
former ramp, of which the rule says nothing and which nothing reads (DESIGN CHOICE; assumption log 39). Target and duration
are numbers that clamp, all ones among them (assumption log 29). -/
def Ramp.setUp (r : Ramp) (target duration : Nat) : Ramp :=
  let t := clampGain target
  let d := min duration Config.maxRampMs
  if d = 0 ∨ t = r.current then { r with current := t, target := t, running := false }
  else
    { r with start := r.current, target := t, duration := d,
             step := ceilDiv (if r.current ≤ t then t - r.current else r.current - t) d, running := true }

/-- A CUT retarget discards any staged target and sets a new ramp up at once (R69). -/
def Ramp.cut (r : Ramp) (target duration : Nat) : Ramp := { r with staged := none }.setUp target duration

/-- A STAGED retarget waits for the running ramp, or acts at once when none runs (R68). -/
def Ramp.stage (r : Ramp) (target duration : Nat) : Ramp :=
  if r.running then { r with staged := some (clampGain target, min duration Config.maxRampMs) }
  else r.setUp target duration

/-- A retarget in either mode. -/
def Ramp.retarget (r : Ramp) (staged : Bool) (target duration : Nat) : Ramp :=
  if staged then r.stage target duration else r.cut target duration

/-- The value one step nearer the target, never past it (R67). -/
def Ramp.moved (r : Ramp) : Nat :=
  if r.current ≤ r.target then min r.target (r.current + r.step) else max r.target (r.current - r.step)

/-- One expiry of the millisecond timer: the running ramp steps; a ramp that reaches its target is complete, and a staged
target is then taken out of store and set up in the same step (R67, R68). -/
def Ramp.tick (r : Ramp) : Ramp :=
  if r.running then
    let v := r.moved
    if v = r.target then
      let done := { r with current := v, running := false }
      match r.staged with
      | none => done
      | some (t, d) => { done with staged := none }.setUp t d
    else { r with current := v }
  else r

/-- A ramp stopped where it stands, its staged target discarded (R70). -/
def Ramp.halt (r : Ramp) : Ramp := { r with running := false, staged := none }

/-- The duck target of a zone whose owner has the class given (R71). -/
def duckTarget (z : ZoneRec) (cls : Option Nat) : Nat :=
  match cls with
  | none => unity
  | some 0 => 0
  | some _ => z.duckLevel

/-- The duck factor retargeted for an owner of the class given: 20 ms under class 0, otherwise attack when moving down and
release when moving up (R71, R72). -/
def ZoneRec.duckFor (z : ZoneRec) (cls : Option Nat) : ZoneRec :=
  let t := duckTarget z cls
  let d := if cls = some 0 then Config.alarmDuckMs else if t < z.duck.current then z.duckAttack else z.duckRelease
  { z with duck := z.duck.cut t d }

end Sys2Proof.Machine
end

