-- ==== Sys2Proof/Machine/Players.lean ====
section
/-! DEFINITION. Pattern players (section 4.4): starting, pausing and stopping; the sample of a frame and the advance after
it; the end of a phase; and the switch of a TWO_TONE step. -/

namespace Sys2Proof.Machine

/-- A step that stands for none; no pattern holds it. -/
def PatStep.none : PatStep := ⟨.square, 100, 0, 0, 10, 0, 1⟩

/-- Step `k` of a pattern, counted from 1. -/
def Pattern.stepAt (p : Pattern) (k : Nat) : PatStep := p.steps.getD (k - 1) PatStep.none

/-- The pattern a player plays. -/
def State.patternOf (s : State) (pl : Player) : Pattern := s.patterns[pl.pattern]

/-- Entering the ON phase of repetition `rep` of step `k`: full on time, accumulator 0, tone A (R97). -/
def Player.enterOn (pl : Player) (pat : Pattern) (k rep : Nat) : Player :=
  { pl with step := k, rep := rep, on := true, left := framesOfMs (pat.stepAt k).onTime, acc := 0#24, toneB := false,
            switchLeft := if (pat.stepAt k).waveform = .twoTone then Config.twoToneFrames else 0 }

/-- A player started on a pattern at step 1 (R97). -/
def Player.start (id : PatId) (pat : Pattern) : Player :=
  { Player.stopped with cond := .running, pattern := id }.enterOn pat 1 1

/-- A player set paused at the start of step 1 of a pattern (R81, R88, R100). -/
def Player.parked (id : PatId) (pat : Pattern) : Player := { Player.start id pat with cond := .paused }

/-- Pausing freezes the position of a running player (R99). -/
def Player.pause (pl : Player) : Player := if pl.cond = .running then { pl with cond := .paused } else pl

/-- Continuing makes a paused player run again from the same position (R99). -/
def Player.continue (pl : Player) : Player := if pl.cond = .paused then { pl with cond := .running } else pl

/-- The phase increment of a frequency, floor(f * 16,777,216 / 48,000 + 1/2) (R98, R192). -/
def increment (f : Nat) : BitVec 24 := BitVec.ofNat 24 ((f * 16777216 + 24000) / 48000)

/-- The square wave's value (R98, R192). -/
def squareWave (p : Nat) : Int := if p < 8388608 then 8388607 else -8388607

/-- The triangle wave's value (R98). -/
def triangleWave (p : Nat) : Int :=
  let w : Int := if p < 4194304 then 2 * p else if p ≤ 12582911 then 16777216 - 2 * p else 2 * p - 33554432
  max (-8388607) (min 8388607 w)

/-- The wave value of a step at accumulator `p` (R98). -/
def waveValue (w : Waveform) (p : Nat) : Int :=
  match w with
  | .square | .twoTone => squareWave p
  | .triangle => triangleWave p

/-- The player is running in an ON phase that has frames left. -/
def Player.sounding (pl : Player) : Bool := pl.cond == .running && pl.on && decide (0 < pl.left)

/-- The sample a player presents for the frame: the scaled wave in the ON phase, 0 in every other case (R97, R98). -/
def Player.sample (pl : Player) (pat : Pattern) : Int :=
  if pl.sounding then
    let st := pat.stepAt pl.step
    q15 (waveValue st.waveform pl.acc.toNat) st.level
  else 0

/-- The advance after a frame: the frames remaining count down, and in the ON phase the accumulator takes the increment and a
TWO_TONE step counts down to its switch (R97, R98). A count that has reached 0 waits for its event. -/
def Player.advance (pl : Player) (pat : Pattern) : Player :=
  if pl.cond = .running then
    if pl.sounding then
      let st := pat.stepAt pl.step
      { pl with left := pl.left - 1, acc := pl.acc + increment (if pl.toneB then st.freqB else st.freqA),
                switchLeft := pl.switchLeft - 1 }
    else { pl with left := pl.left - 1 }
  else pl

/-- A player's phase has run out: it is running and no frames remain (R97). One paused before the phase
end was taken moves on after the continue (DESIGN CHOICE; assumption log 4). -/
def Player.phaseDue (pl : Player) : Bool := pl.cond == .running && pl.left == 0

/-- A TWO_TONE step has counted 12,000 frames (R98). -/
def Player.switchDue (pl : Player) (pat : Pattern) : Bool :=
  pl.cond == .running && pl.on && (pat.stepAt pl.step).waveform == .twoTone && pl.switchLeft == 0

/-- The tone changes and the count starts again; the accumulator is not reset (R98). -/
def Player.switchTone (pl : Player) : Player := { pl with toneB := !pl.toneB, switchLeft := Config.twoToneFrames }

/-- The pattern's last repetition is complete: END stops the player, which has then an end to report; LOOP goes to its step,
but a chime voice takes LOOP as END (R97, R101). -/
def Player.atEnd (pl : Player) (pat : Pattern) (loops : Bool) : Player :=
  match (if loops then pat.loop else none) with
  | some k => pl.enterOn pat k 1
  | none => { Player.stopped with pattern := pl.pattern, endReport := true }

/-- What follows a complete repetition (R97, items 2 to 4). -/
def Player.repDone (pl : Player) (pat : Pattern) (loops : Bool) : Player :=
  if pl.rep < (pat.stepAt pl.step).repeats then pl.enterOn pat pl.step (pl.rep + 1)
  else if pl.step < pat.steps.length then pl.enterOn pat (pl.step + 1) 1
  else pl.atEnd pat loops

/-- The move at the end of a phase (R97). -/
def Player.phaseEnd (pl : Player) (pat : Pattern) (loops : Bool) : Player :=
  if pl.phaseDue then
    let st := pat.stepAt pl.step
    if pl.on && decide (0 < st.offTime) then { pl with on := false, left := framesOfMs st.offTime }
    else pl.repDone pat loops
  else pl

/-- The chime voice bound to a program (R101). -/
def State.voiceOf (s : State) (p : ProgId) : Option (Fin 4) :=
  (List.finRange 4).find? fun v => s.voices[v].bound = some p

/-- The voice stopped and without a bound program (R102). -/
def ChimeVoice.released : ChimeVoice := ⟨Player.stopped, none⟩

/-- A chime voice bound to the program is stopped and released (R102). -/
def State.releaseVoice (s : State) (p : ProgId) : State :=
  match s.voiceOf p with
  | none => s
  | some v => s.onVoice v fun _ => ChimeVoice.released

/-- The bound chime voice changed, where there is one. -/
def State.onBoundVoice (s : State) (p : ProgId) (f : Player → Player) : State :=
  match s.voiceOf p with
  | none => s
  | some v => s.onVoice v fun c => { c with player := f c.player }

/-- The lowest-numbered chime voice without a bound program is bound and started on the pattern; none when all four are bound
or the pattern is empty (R101). -/
def State.bindVoice (s : State) (p : ProgId) (pat : PatId) : Option State :=
  if s.patterns[pat].steps.isEmpty then none
  else
    match (List.finRange 4).find? fun v => s.voices[v].bound = none with
    | none => none
    | some v => some (s.onVoice v fun _ => ⟨Player.start pat s.patterns[pat], some p⟩)

/-- A pattern is in use while it is that of a slot that is not IDLE, or is played or held paused by a chime voice bound to a
program (R94). -/
def State.patternInUse (s : State) (pat : PatId) : Bool :=
  (List.finRange 2).any (fun k => s.slots[k].state != .idle && s.slots[k].pattern == some pat) ||
  (List.finRange 4).any fun v => s.voices[v].bound.isSome && s.voices[v].player.pattern == pat

end Sys2Proof.Machine
end

