-- ==== Sys2Proof/Machine/Channels.lean ====
section
/-! DEFINITION. Clip channels (section 6.6) and the store arbiter (section 6.5): stopping, starting, pausing and continuing a
channel, beginning a block, filling the ring, and choosing the operation that takes the link. -/

namespace Sys2Proof.Machine

/-- The last-block offset of an entry. -/
def DirEntry.lastOffset (e : DirEntry) : Nat := e.last.getD 0

/-- The offset at which every pass after the first begins: the loop-start offset, or 0 when none is given (R136, R138). -/
def DirEntry.passStart (e : DirEntry) : Nat := e.loop.getD 0

/-- The directory entry of the clip a channel is bound to. -/
def State.chanEntry (s : State) (c : Channel) : DirEntry :=
  match c.clip with
  | none => DirEntry.empty
  | some id => s.clips.dir[id]

/-! ### Stop and start -/

/-- A channel stopped: FREE, its ring empty, nothing to fetch, no pause cause (R135); HOLD lasts until then (R139). -/
def Channel.stopped (c : Channel) : Channel :=
  { c with state := .free, ahead := [], nextFetch := none, cursor := .none, hold := false, pause := none, goMark := false }

/-- A started fetch of the channel is left to be discarded at its completion (R132, R135). -/
def StoreOp.dropFetch (op : StoreOp) (ch : ChanId) : StoreOp :=
  match op with
  | .fetch c o p b d => .fetch c o p b (d || c == ch)
  | .scanRead i => .scanRead i
  | .directory i b => .directory i b
  | .programBlock x b d k => .programBlock x b d k
  | .erase c b => .erase c b

/-- A change of the operation on the link. -/
def ClipEngine.onOp (c : ClipEngine) (f : StoreOp → StoreOp) : ClipEngine :=
  { c with link := c.link.map fun l => { l with op := f l.op } }

/-- The channel stopped, its user and clip id kept (R135). -/
def State.stopChan (s : State) (ch : ChanId) : State :=
  (s.onChan ch Channel.stopped).onClips fun c => c.onOp fun op => op.dropFetch ch

/-- A pool channel stopped and released: it loses its user and clip id (R135). -/
def State.releaseChan (s : State) (ch : ChanId) : State :=
  (s.stopChan ch).onChan ch fun c => { c with user := none, clip := none }

/-- A show channel stopped: it keeps the cue engine as user and loses its clip id (R135). -/
def State.stopShow (s : State) (ch : ChanId) : State := (s.stopChan ch).onChan ch fun c => { c with clip := none }

/-- A channel started by its user (R136). -/
def Channel.started (c : Channel) (last : Nat) (repeats : Option Nat) (trigger : Trigger) : Channel :=
  { c with state := .priming, cursor := .none, remaining := last, hold := false, trigger := trigger, pause := none,
           repeats := repeats, passes := repeats, ahead := [], nextFetch := some (0, 1), underrun := 0, goMark := false }

/-- The channel, bound to its clip, is started (R136). -/
def State.startChan (s : State) (ch : ChanId) (repeats : Option Nat) (trigger : Trigger) : State :=
  s.onChan ch fun c => c.started (s.chanEntry c).lastOffset repeats trigger

/-! ### Beginning a block -/

/-- The first underrun since the start raises a CLIP notice at the announcement port, and for a show channel at the show port
as well (R137). -/
def State.raiseUnderrun (s : State) (ch : ChanId) : State :=
  let s := s.raise .clip .ann
  if ch.val < 4 then s else s.raise .clip .shw

/-- The next block to play is late: the underrun count rises by 1 and stays at 65,535 (R137). -/
def State.lateBlock (s : State) (ch : ChanId) (offset : Nat) : State :=
  let c := s.chans[ch]
  let s1 := s.onChan ch fun c => { c with state := .playing, pause := none, cursor := .toBegin offset,
                                          underrun := min 65535 (c.underrun + 1) }
  if c.underrun = 0 then s1.raiseUnderrun ch else s1

/-- The next block begins when it is ahead, and the fill count falls by 1; otherwise it is late (R137). The cursor stands at its
sample 0 until the frame in which it begins (DESIGN CHOICE; assumption log 44). -/
def State.takeBlock (s : State) (ch : ChanId) (offset : Nat) : State :=
  match s.chans[ch].ahead with
  | b :: rest =>
    s.onChan ch fun c => { c with state := .playing, pause := none, cursor := .playing b 0, ahead := rest }
  | [] => s.lateBlock ch offset

/-- The block at `offset` is a step mark at which a STEPPED channel pauses (R141). -/
def State.marked (s : State) (ch : ChanId) (offset : Nat) : Bool :=
  let c := s.chans[ch]
  c.trigger == .stepped && (s.chanEntry c).marks.contains offset

/-- The channel goes on to the block at `offset`: a STEPPED channel pauses instead at a step mark (R137, R141). -/
def State.nextBlock (s : State) (ch : ChanId) (offset : Nat) : State :=
  if s.marked ch offset then
    s.onChan ch fun c => { c with state := .paused, pause := some .mark, cursor := .toBegin offset }
  else s.takeBlock ch offset

/-- A primed channel begins to play: its first block begins in the next audio frame, unless it is a step mark of a STEPPED
channel (R136, R141, R142). -/
def State.beginPlaying (s : State) (ch : ChanId) : State :=
  if s.marked ch 0 then
    s.onChan ch fun c => { c with state := .paused, pause := some .mark, cursor := .toBegin 0, goMark := false }
  else s.onChan ch fun c => { c with state := .playing, pause := none, cursor := .toBegin 0, goMark := false }

/-- A block that was to begin, by priming or after a late fetch, begins in this frame if it is ahead (R136, R137). -/
def Channel.frameBegin (c : Channel) : Channel :=
  match c.state, c.cursor, c.ahead with
  | .playing, .toBegin _, b :: rest => { c with cursor := .playing b 0, ahead := rest }
  | _, _, _ => c

/-- The byte at place `i` of a block. -/
def byteAt (data : List Byte) (i : Nat) : Byte := data.getD i 0#8

/-- Sample k of a block: 16-bit two's complement, less significant byte first, widened by 256 (R120). -/
def blockSample (data : List Byte) (k : Nat) : Int :=
  (byteAt data (2 * k + 1) ++ byteAt data (2 * k) : BitVec 16).toInt * 256

/-- The sample a channel presents: that of its position while it plays, 0 in every other case (R137). -/
def Channel.sample (c : Channel) : Int :=
  match c.state, c.cursor with
  | .playing, .playing b k => if k < Config.blockSamples then blockSample b.data k else 0
  | _, _ => 0

/-- The advance after a frame: one sample (R137). -/
def Channel.advance (c : Channel) : Channel :=
  match c.state, c.cursor with
  | .playing, .playing b k => { c with cursor := .playing b (min Config.blockSamples (k + 1)) }
  | _, _ => c

/-- The block playing is done: its sample 2,047 has been presented and the channel plays on (R137). Of a channel that
a GATE pause has made PAUSED in between it is not: the end of the block, and the terminal count with it, waits for the
continue, for R137 and R140 order no such tie (DESIGN CHOICE; assumption log 4). -/
def Channel.blockDue (c : Channel) : Bool :=
  match c.state, c.cursor with
  | .playing, .playing _ k => decide (Config.blockSamples ≤ k)
  | _, _ => false

/-! ### Gate, start and step pauses -/

/-- Every block still to be played is ahead, or two blocks are (R136). -/
def Channel.primed (c : Channel) : Bool := decide (2 ≤ c.ahead.length) || c.nextFetch.isNone

/-- A pause by the user of a channel that is PRIMING or PLAYING (R140). -/
def Channel.gatePause (c : Channel) : Channel :=
  match c.state with
  | .priming | .playing => { c with state := .paused, pause := some .gate }
  | .free | .paused => c

/-- A continue of a GATE-paused channel: PLAYING from the kept position; a channel paused while priming plays from its first
block if it is primed by now, and is PRIMING again otherwise (R140). -/
def Channel.gateContinue (c : Channel) : Channel :=
  if c.state = .paused ∧ c.pause = some .gate then
    match c.cursor with
    | .none =>
      if c.primed then { c with state := .playing, pause := none, cursor := .toBegin 0, goMark := false }
      else { c with state := .priming, pause := none }
    | .toBegin _ | .playing _ _ => { c with state := .playing, pause := none }
  else c

/-- The gate pause or continue of a CLIP program's channel, in GATED mode only (R112). -/
def State.gateProgram (s : State) (p : ProgId) (pause : Bool) : State :=
  match s.progs[p].clipPart with
  | none => s
  | some part =>
    match part.channel with
    | none => s
    | some ch =>
      if s.progs[p].clipStarted && part.trigger == .gated then
        s.onChan ch (if pause then Channel.gatePause else Channel.gateContinue)
      else s

/-- The GATED show channels paused or continued together (R181, R183). -/
def State.gateShow (s : State) (pause : Bool) : State :=
  { s with chans := remap s.chans fun ch c =>
      if 4 ≤ ch.val ∧ c.trigger = .gated then (if pause then c.gatePause else c.gateContinue) else c }

/-- A go: a START-paused channel begins to play; one still PRIMING is marked to play at the end of its priming (R142). -/
def State.goChan (s : State) (ch : ChanId) : State :=
  let c := s.chans[ch]
  if c.state = .paused ∧ c.pause = some .start then s.beginPlaying ch
  else if c.state = .priming then s.onChan ch fun c => { c with goMark := true }
  else s

/-- A STEP moves a channel on from its mark; none when the channel is not waiting at a mark (R141). A marked block that is ahead
is taken from the ring at the STEP, where the rule says only that it begins in the next frame (DEDUCED; assumption log 26). -/
def State.stepChan (s : State) (ch : ChanId) : Option State :=
  let c := s.chans[ch]
  if c.state = .paused ∧ c.pause = some .mark then
    match c.cursor with
    | .toBegin o => some (s.takeBlock ch o)
    | .playing _ _ | .none => some (s.onChan ch fun c => { c with state := .playing, pause := none })
  else none

/-! ### Fetching -/

/-- The next fetch after the block at `offset` of pass `pass` (R136, R139): within the pass the following offset; after the
last-block offset the pass start of the following pass, if one will be played; none when HOLD will follow. -/
def Channel.fetchAfter (c : Channel) (e : DirEntry) (offset pass : Nat) : Option (Nat × Nat) :=
  if offset < e.lastOffset then some (offset + 1, pass)
  else
    match c.passes with
    | none => if e.passStart = e.lastOffset then none else some (e.passStart, pass + 1)
    | some n => if pass < n then some (e.passStart, pass + 1) else none

/-- A fetch of the channel is on the link, one that is to be discarded included (DEDUCED; assumption log 26). -/
def State.fetching (s : State) (ch : ChanId) : Bool :=
  match s.clips.link with
  | some ⟨_, _, .fetch c _ _ _ _⟩ => c == ch
  | _ => false

/-- The channel's request for a fetch (R136). -/
def State.fetchWanted (s : State) (ch : ChanId) : Option (Nat × Nat) :=
  let c := s.chans[ch]
  if (c.state != .free && !c.hold && decide (c.ahead.length < 3) && !s.fetching ch) then c.nextFetch else none

/-! ### Image blocks (R123) -/

/-- A field of a stored record: absent is all ones in its width. -/
def stored16 (n : Option Nat) : List Byte := outOpt16 n

/-- The stored record of an entry, 26 bytes (R123). An EMPTY entry, whose fields are absent by R130, has the mark count 0 there,
not all ones (DEDUCED; assumption log 24). -/
def DirEntry.record (e : DirEntry) : List Byte :=
  out8 (clipStateCode e.state) ++ stored16 e.first ++ stored16 e.last ++ stored16 e.loop ++ out8 e.marks.length ++
  ((List.range 8).flatMap fun i => stored16 e.marks[i]?) ++ stored16 e.check

/-- One bit of the clip check, polynomial x^16 + x^12 + x^5 + 1 (R127). -/
def crc16Bit (c : BitVec 16) : BitVec 16 := if c.msb then (c <<< 1) ^^^ 0x1021#16 else c <<< 1

/-- One byte into the clip check, most significant bit first (R127). -/
def crc16Byte (c : BitVec 16) (b : Byte) : BitVec 16 :=
  crc16Bit (crc16Bit (crc16Bit (crc16Bit (crc16Bit (crc16Bit (crc16Bit (crc16Bit (c ^^^ (b ++ 0#8)))))))))

/-- The clip check over bytes, continued from `c` (R127). -/
def crc16From (c : BitVec 16) (bytes : List Byte) : BitVec 16 := bytes.foldl crc16Byte c

/-- The initial value of the clip check (R127). -/
def crc16Init : BitVec 16 := 0xFFFF#16

/-- The clip ids whose records an image block holds, ascending (R120). -/
def imageIds (img : Fin 2) : List ClipId := (List.finRange 256).filter fun id => id.val / 128 = img.val

/-- An image block as a directory step writes it: 128 records, their check, and zeros (R123). -/
def ClipEngine.image (c : ClipEngine) (img : Fin 2) : List Byte :=
  let records := (imageIds img).flatMap fun id => c.dir[id].record
  let sum := put16 (crc16From crc16Init records)
  records ++ sum ++ List.replicate (Config.blockBytes - (records.length + sum.length)) 0#8

/-! ### The arbiter (R132) -/

/-- The load buffer of a load. -/
def Load.buf (l : Load) : BufId → LoadBuf
  | .a => l.bufA
  | .b => l.bufB

/-- The full buffer that was filled first: of two full buffers the one destined for the lower block (R126). -/
def Load.fullBuf (l : Load) : Option BufId :=
  let fa := decide (Config.blockBytes ≤ l.bufA.data.length)
  let fb := decide (Config.blockBytes ≤ l.bufB.data.length)
  if fa && fb then some (if l.bufA.dest ≤ l.bufB.dest then .a else .b)
  else if fa then some .a
  else if fb then some .b
  else none

/-- The block an erase step of the head of the erase list clears (R130). -/
def ClipEngine.eraseStep (c : ClipEngine) : Option StoreOp :=
  match c.eraseList with
  | [] => none
  | id :: _ => some (.erase id (c.dir[id].first.getD 0 + c.dir[id].erasePos.getD 0))

/-- The waiting operation that comes first: a scan read, then the lowest-numbered channel's fetch, then a directory step,
image block 0 first, then the programming step, then the erase step (R132). -/
def State.firstWaiting (s : State) : Option StoreOp :=
  match s.clips.scan with
  | some sc => some (.scanRead sc.img)
  | none =>
    match (List.finRange 8).find? fun ch => (s.fetchWanted ch).isSome with
    | some ch =>
      (s.fetchWanted ch).map fun f =>
        .fetch ch f.1 f.2 ((s.chanEntry s.chans[ch]).first.getD 0 + f.1) false
    | none =>
      if s.clips.dirty[(0 : Fin 2)] then some (.directory 0 (s.clips.image 0))
      else if s.clips.dirty[(1 : Fin 2)] then some (.directory 1 (s.clips.image 1))
      else
        match s.clips.load.bind fun l => l.fullBuf.map fun b => (l, b) with
        | some (l, b) => some (.programBlock b (l.buf b).dest (l.buf b).data false)
        | none => s.clips.eraseStep

/-- An operation takes the link; the dirty flag of a directory step is cleared at its start (R120, R123). -/
def ClipEngine.startOp (c : ClipEngine) (op : StoreOp) : ClipEngine :=
  { c with
    link := some ⟨c.opNo, framesOfMs Config.storeTimeoutMs, op⟩
    opNo := c.opNo + 1
    dirty := match op with
      | .directory i _ => adjust c.dirty i fun _ => false
      | .scanRead _ | .fetch _ _ _ _ _ | .programBlock _ _ _ _ | .erase _ _ => c.dirty }

/-- At the end of a step a free link takes the first waiting operation (R132). Through a reset interval nothing waits. -/
def State.arbitrate (s : State) : State :=
  if s.resetLeft.isSome || s.clips.link.isSome then s
  else
    match s.firstWaiting with
    | none => s
    | some op => s.onClips fun c => c.startOp op

/-- The answer to a port command: its transaction, then the arbiter at the end of the step. -/
def portCommand (s : State) (t : Txn) (code : Byte) (n : Nat) (body : State → Reply) : Out :=
  .next (s.transact t code n body).arbitrate

/-- The answer to an event: its work, then the arbiter at the end of the step. -/
def partEvent (s : State) : Out := .next s.arbitrate

end Sys2Proof.Machine
end

