-- ==== Sys2Proof/Machine/SurveyOps.lean ====
section
/-! DEFINITION. The line survey engine's own steps (chapter 9): taking the queue head, aborting, the coarse and fine
readings, completion and classification. -/

namespace Sys2Proof.Machine

def Requesters.none : Requesters := ⟨false, false⟩

/-- The requester set with a port joined; only SAF and ANN ask for surveys (R189). -/
def Requesters.join (r : Requesters) (p : Port) : Requesters :=
  match p with
  | .saf => { r with saf := true }
  | .ann => { r with ann := true }
  | .icm | .shw => r

/-- A survey result that carries no peak (R191, R198). -/
def SurveyResult.without (o : LineOutcome) : SurveyResult := ⟨o, Option.none, false⟩

/-- The survey of a zone begins (R191, R192). -/
def State.beginSurvey (s : State) (e : QueueEntry) : State :=
  (s.onSurvey fun v =>
    { v with state := .coarse, zone := some e.zone, requesters := e.ports, sweep := v.params, pilotFreq := v.params.fStart,
             readings := 0, maximum := Option.none, coarsePeak := Option.none, below := 0,
             dwell := some (framesOfMs v.params.coarseDwell), pgRunning := true, pgAcc := 0#24 }).onZone e.zone fun z =>
    { z with underSurvey := true }

/-- The engine, when IDLE, takes the heads of the queue: zones owned by class 0 to 2 are skipped until a survey begins or the
queue is empty (R191). `q` is what is left of the queue. -/
def State.takeHeads (s : State) : List QueueEntry → State
  | [] => s.onSurvey fun v => { v with queue := [] }
  | e :: rest =>
    match s.ownerClass e.zone with
    | some c =>
      if c ≤ 2 then
        State.takeHeads ((s.onZone e.zone fun z => { z with lastResult := some (SurveyResult.without .skipped) }).raiseSurvey
          e.ports Option.none) rest
      else (s.onSurvey fun v => { v with queue := rest }).beginSurvey e
    | none => (s.onSurvey fun v => { v with queue := rest }).beginSurvey e

/-- The engine takes the queue head whenever it is IDLE and the queue is not empty (R191). -/
def State.takeHead (s : State) : State :=
  if s.survey.state = .idle then s.takeHeads s.survey.queue else s

/-- The engine idle again and the pilot stopped: at a completion the dwell timer has expired, at an abort it stops (R195,
R198). The readings of the sweep stand until the next survey begins, as no rule clears them earlier (R191; assumption log
23). -/
def Survey.idle (v : Survey) (expired : Bool) : Survey :=
  { v with state := .idle, zone := Option.none, requesters := Requesters.none, dwell := Option.none, dwellExpired := expired,
           pgRunning := false }

/-- The survey in progress is aborted, and the engine takes the next head (R198). A SURVEY_CANCEL spares its own port the
notice. -/
def State.abortSurvey (s : State) (spare : Option Port) : State :=
  match s.survey.zone with
  | none => s
  | some z =>
    let s1 := s.onZone z fun r => { r with lastResult := some (SurveyResult.without .aborted), underSurvey := false }
    ((s1.onSurvey fun v => v.idle false).raiseSurvey s.survey.requesters spare).takeHead

/-- A program of class 0 to 2 that owns the zone under survey aborts the survey (R52, R198). -/
def State.surveyCheck (s : State) : State :=
  match s.survey.zone with
  | none => s
  | some z =>
    match s.ownerClass z with
    | some c => if c ≤ 2 then s.abortSurvey none else s
    | none => s

/-- The distance between two numbers. -/
def absDiff (a b : Nat) : Nat := if a ≤ b then b - a else a - b

/-- Classification: the first row whose condition holds (R196). `peak` is frequency and magnitude. -/
def classify (th : Thresholds) (ref : Option (Nat × Nat)) (peak : Option (Nat × Nat)) (noPeak : Bool) : LineOutcome :=
  match peak with
  | none => .noPeak
  | some (f, m) =>
    if m < th.openT then .opened
    else if th.shortT < m then .shorted
    else if noPeak then .noPeak
    else
      match ref with
      | none => .unreferenced
      | some (fr, mr) =>
        if absDiff f fr ≤ th.freqTol ∧ absDiff m mr * 100 ≤ mr * th.pct then .normal else .degraded

/-- A survey completes with a peak or without one; `peak` is frequency and magnitude (R195, R197). -/
def State.completeSurvey (s : State) (z : Zone) (peak : Option (Nat × Nat)) (edge noPeak : Bool) : State :=
  let r := s.zones[z]
  let o := classify s.survey.thresholds r.reference peak noPeak
  let s1 := s.onZone z fun r => { r with lastResult := some ⟨o, peak, edge⟩, lineStatus := o, underSurvey := false }
  let s2 := if r.lineStatus = o then s1 else (s1.raise .line .saf).raise .line .ann
  ((s2.onSurvey fun v => v.idle true).raiseSurvey s.survey.requesters none).takeHead

/-- Frequency first, as a peak is carried in a result; the engine's maximum holds the reading first. -/
def asPeak (m : Option (Nat × Nat)) : Option (Nat × Nat) := m.map fun x => (x.2, x.1)

/-- The next coarse frequency, or the end of the band without a peak (R193). -/
def State.coarseOn (s : State) (z : Zone) : State :=
  let v := s.survey
  let f := v.pilotFreq + v.sweep.coarse * 25
  if v.sweep.fEnd < f then s.completeSurvey z (asPeak v.maximum) false true
  else s.onSurvey fun v => { v with pilotFreq := f, dwell := some (framesOfMs v.sweep.coarseDwell) }

/-- The fine phase begins from the coarse peak (R194). -/
def Survey.beginFine (v : Survey) (peak : Nat × Nat) : Survey :=
  { v with coarsePeak := some peak, state := .fine, maximum := none, below := 0,
           pilotFreq := min 23000 (peak.2 + v.sweep.backstep * 25), dwell := some (framesOfMs v.sweep.fineDwell) }

/-- A coarse dwell expires and takes reading `r` (R193). -/
def State.coarseReading (s : State) (z : Zone) (r : Nat) : State :=
  let s := s.onSurvey fun v => { v with readings := v.readings + 1 }
  let v := s.survey
  if v.readings ≤ v.sweep.blank then s.coarseOn z
  else
    match v.maximum with
    | none => (s.onSurvey fun v => { v with maximum := some (r, v.pilotFreq) }).coarseOn z
    | some m =>
      if m.1 < r then (s.onSurvey fun v => { v with maximum := some (r, v.pilotFreq) }).coarseOn z
      else if r = m.1 then s.coarseOn z
      else s.onSurvey fun v => v.beginFine m

/-- A fine reading taken into the maximum and the below count (R194). -/
def Survey.fineRead (v : Survey) (r : Nat) : Survey :=
  match v.maximum with
  | none => { v with maximum := some (r, v.pilotFreq), below := 0 }
  | some m =>
    if m.1 < r then { v with maximum := some (r, v.pilotFreq), below := 0 }
    else if r = m.1 then { v with below := 0 }
    else { v with below := v.below + 1 }

/-- A fine dwell expires and takes reading `r` (R194). -/
def State.fineReading (s : State) (z : Zone) (r : Nat) : State :=
  let s := s.onSurvey fun v => v.fineRead r
  let v := s.survey
  if v.sweep.confirm ≤ v.below then s.completeSurvey z (asPeak v.maximum) false false
  else if v.pilotFreq < v.sweep.fStart + 25 then s.completeSurvey z (asPeak v.maximum) true false
  else s.onSurvey fun v => { v with pilotFreq := v.pilotFreq - 25, dwell := some (framesOfMs v.sweep.fineDwell) }

end Sys2Proof.Machine
end

