-- ==== Sys2Proof/Machine/CueHold.lean ====
section
/-! DEFINITION. What the cue engine does at the claim manager's reports (section 8.5): entering HELD, the hold pending flag,
the clear-to-resume condition, and the end of a route program. -/

namespace Sys2Proof.Machine

/-- A CUE notice at the show port, unless the change is made within a cue command, whose response reports it (R187). -/
def State.raiseCue (s : State) (quiet : Bool) : State := if quiet then s else s.raise .cue .shw

/-- The engine enters HELD with the return state given: a running countdown is frozen and every GATED show channel is paused
(R181). -/
def State.enterHeld (s : State) (ret : EngineState) (quiet : Bool) : State :=
  ((s.onCue fun c =>
    { c with state := .held, ret := some ret,
             countdown := c.countdown.map fun d => { d with frozen := true } }).gateShow true).raiseCue quiet

/-- The claim manager reports that a route SHOW program lost a zone, or was pushed or evicted, by a program of class 0 to 2
(R181). -/
def State.reportTakeover (s : State) (quiet : Bool) : State :=
  match s.cue.state with
  | .standby | .following | .finished => s.enterHeld s.cue.state quiet
  | .priming => s.onCue fun c => { c with holdPending := true }
  | .held | .empty => s

/-- The clear-to-resume condition: every route SHOW program has an empty held set (R182). -/
def State.clearToResume (s : State) : Bool :=
  (List.finRange 8).all fun k =>
    match s.cue.slots[k].showProg with
    | none => true
    | some p => s.progs[p].held == 0#64

/-- The clear-to-resume condition has become true while the engine is HELD (R182, R187). `s0` is the state before. -/
def State.resumeCheck (s0 s : State) (quiet : Bool) : State :=
  if s0.cue.state = .held ∧ s.cue.state = .held ∧ s0.clearToResume = false ∧ s.clearToResume = true then s.raiseCue quiet
  else s

/-- A program that ends leaves the route slot that refers to it; the slot's source stays (R172). -/
def RouteSlot.drop (r : RouteSlot) (p : ProgId) : RouteSlot :=
  { r with showProg := if r.showProg = some p then none else r.showProg,
           bedProg := if r.bedProg = some p then none else r.bedProg }

/-- The route slot of a program that ends is emptied of it (R52, R172). -/
def State.dropRoute (s : State) (p : ProgId) : State :=
  match s.progs[p].routeSlot with
  | none => s
  | some k => s.onCue fun c => c.onRoute k fun r => r.drop p

end Sys2Proof.Machine
end

