-- ==== Sys2Proof/Machine/AlarmOps.lean ====
section
/-! DEFINITION. Changes of an alarm slot made by more than one command or event (sections 4.1, 4.2 and 4.5). -/

namespace Sys2Proof.Machine

/-- The pool channel bound for a clip voice (R87). -/
def VoiceSource.channel : VoiceSource → Option ChanId
  | .input _ => none
  | .clip _ _ ch => some ch

/-- The window of a slot removed: its timer stops and a bound clip channel is stopped and released (R90). -/
def State.closeWindow (s : State) (k : Fin 2) : State :=
  match s.slots[k].window with
  | none => s
  | some w =>
    let s1 := s.onSlot k fun a => { a with window := none }
    match w.source.channel with
    | none => s1
    | some ch => s1.releaseChan ch

/-- The tone generator of a slot takes the slot's pattern at step 1, running (R79, R82). -/
def State.startTone (s : State) (k : Fin 2) : State :=
  match s.slots[k].pattern with
  | none => s
  | some p => s.onTone k fun _ => Player.start p s.patterns[p]

/-- The tone generator of a slot is set paused at the start of step 1 of the slot's pattern (R81, R88, R100). -/
def State.parkTone (s : State) (k : Fin 2) : State :=
  match s.slots[k].pattern with
  | none => s
  | some p => s.onTone k fun _ => Player.parked p s.patterns[p]

/-- The tone generator of a slot stops and its position is discarded (R81, R83). -/
def State.stopTone (s : State) (k : Fin 2) : State := s.onTone k fun _ => Player.stopped

/-- The slot becomes IDLE: window closed, generator stopped, pattern absent (R83, R84). `named` says that a safety port
command naming the slot made the change. -/
def State.idleSlot (s : State) (k : Fin 2) (named : Bool) : State :=
  (((s.closeWindow k).stopTone k).onSlot k fun _ => AlarmSlot.idle).raiseAlarm named

/-- The window closes and the slot takes its return state: SOUNDING continues the pattern, SILENCED stops it (R90, R91). -/
def State.returnFromVoice (s : State) (k : Fin 2) (named : Bool) : State :=
  match s.slots[k].window with
  | none => s
  | some w =>
    let s1 := s.closeWindow k
    if w.toSilence then ((s1.stopTone k).onSlot k fun a => { a with state := .silenced }).raiseAlarm named
    else ((s1.onTone k Player.continue).onSlot k fun a => { a with state := .sounding }).raiseAlarm named

/-- The window's return state becomes SILENCED. -/
def AlarmSlot.silenceReturn (a : AlarmSlot) : AlarmSlot :=
  { a with window := a.window.map fun w => { w with toSilence := true } }

/-- What silencing does in each state of the slot (R81): at ALARM_SILENCE, and at a pattern's END (R100). -/
def State.silence (s : State) (k : Fin 2) (named : Bool) : State :=
  match s.slots[k].state with
  | .idle | .silenced => s
  | .sounding => ((s.stopTone k).onSlot k fun a => { a with state := .silenced }).raiseAlarm named
  | .voice => (s.parkTone k).onSlot k AlarmSlot.silenceReturn
  | .voiceMixed => ((s.parkTone k).onSlot k fun a => { a.silenceReturn with state := .voice }).raiseAlarm named

/-- The alarm slot whose program a record is (R77). -/
def slotOfProg (p : ProgId) : Option (Fin 2) := if h : p.val < 2 then some ⟨p.val, h⟩ else none

/-- The record of a slot's program (R77). -/
def progOfSlot (k : Fin 2) : ProgId := ⟨k.val, by omega⟩

/-- A slot's program has ended: a slot that is not IDLE becomes IDLE (R84). -/
def State.slotProgramEnded (s : State) (p : ProgId) : State :=
  match slotOfProg p with
  | none => s
  | some k => if s.slots[k].state = .idle then s else s.idleSlot k false

end Sys2Proof.Machine
end

