-- ==== Sys2Proof/Machine/Claims.lean ====
section
/-! DEFINITION. The claim manager (chapter 2): the preemption test, taking a zone, claiming under the two start policies,
ending a program, the release step, and what the manager hands to the other blocks at the end of each of its operations. -/

namespace Sys2Proof.Machine

/-! ### Zone sets of one program -/

def Program.addGranted (g : Program) (z : Zone) : Program :=
  { g with granted := g.granted ||| zoneBit z, requested := g.requested ||| zoneBit z, waiting := g.waiting &&& ~~~zoneBit z,
           held := g.held &&& ~~~zoneBit z }

def Program.addWaiting (g : Program) (z : Zone) : Program :=
  { g with waiting := g.waiting ||| zoneBit z, requested := g.requested ||| zoneBit z }

/-- A granted zone is suspended: it moves to the held set (R28). -/
def Program.suspend (g : Program) (z : Zone) : Program :=
  { g with granted := g.granted &&& ~~~zoneBit z, held := g.held ||| zoneBit z }

/-- The zones of a set leave every set of the program (R16). -/
def Program.without (g : Program) (zs : ZoneSet) : Program :=
  { g with requested := g.requested &&& ~~~zs, granted := g.granted &&& ~~~zs, held := g.held &&& ~~~zs,
           waiting := g.waiting &&& ~~~zs }

/-- Program opened by the cue engine through a route slot that stands in the foreground (R181). -/
def Program.routeShow (g : Program) : Bool := g.kind == .showSound && g.routeSlot.isSome

/-- The program takes nothing until it can take its whole requested set (R32). -/
def Program.together (g : Program) : Bool := g.policy == .allOrWait && !g.gotAll

/-! ### The wait list (R25) -/

/-- The wait list: programs whose waiting set is not empty, by class, and within a class in the order in which they were
opened (R17, R25). It is computed from the records that determine it (assumption log 9). -/
def State.waitList (s : State) : List ProgId :=
  (List.range 7).flatMap fun c => s.openOrder.filter fun p => s.progs[p].cls == c && s.progs[p].waiting != 0#64

/-! ### The test (R26, R27, R30) -/

/-- A program of class `c` passes the test against owner `o` in a zone of shield level `h` (R26); within class 0 only program
0 against program 1 (R27). -/
def State.beats (s : State) (p o : ProgId) (h : Nat) : Bool :=
  let c := s.progs[p].cls
  let d := s.progs[o].cls
  if c = 0 ∧ d = 0 then p == 0 && o == 1
  else decide (c < d) && (decide (c ≤ 2) || decide (c < h))

/-- The test of a claim on zone `z`, which is not excluded (R26, R30). -/
def State.passes (s : State) (p : ProgId) (z : Zone) : Bool :=
  let r := s.zones[z]
  if s.progs[p].kind = .bed then r.bed.isNone
  else
    match r.owner with
    | none => true
    | some o => s.beats p o r.shield

/-! ### Taking a zone (R28, R29, R30) -/

/-- The program becomes the zone's owner. -/
def State.own (s : State) (p : ProgId) (z : Zone) : State :=
  (s.onZone z fun r => { r with owner := some p }).onProg p fun g => g.addGranted z

/-- The bottom entry of a full hold stack is evicted (R29). -/
def State.evict (s : State) (z : Zone) : State :=
  match s.zones[z].stack.getLast? with
  | none => s
  | some b => (s.onZone z fun r => { r with stack := r.stack.dropLast }).onProg b fun g => g.without (zoneBit z)

/-- The entry a push onto the zone's stack would evict (R29). -/
def ZoneRec.evicted (r : ZoneRec) : Option ProgId := if Config.stackDepth ≤ r.stack.length then r.stack.getLast? else none

/-- The owner `o` of the zone is suspended onto its stack when it is of a resumable kind, and otherwise loses the zone for
good (R28, R29). -/
def State.displace (s : State) (o : ProgId) (z : Zone) : State :=
  if s.progs[o].kind.resumable then
    let s1 := if (s.zones[z].evicted).isSome then s.evict z else s
    (s1.onZone z fun r => { r with stack := o :: r.stack }).onProg o fun g => g.suspend z
  else s.onProg o fun g => g.without (zoneBit z)

/-- Some route SHOW program is displaced or evicted when the zone is taken (R181). -/
def State.takeoverHits (s : State) (z : Zone) : Bool :=
  match s.zones[z].owner with
  | none => false
  | some o =>
    s.progs[o].routeShow ||
      (s.progs[o].kind.resumable && (s.zones[z].evicted).any fun b => s.progs[b].routeShow)

/-- A passing program takes a foreground zone (R28); a takeover of a route program by class 0 to 2 is reported (R52). -/
def State.takeForeground (s : State) (quiet : Bool) (p : ProgId) (z : Zone) : State :=
  match s.zones[z].owner with
  | none => s.own p z
  | some o =>
    let s1 := (s.displace o z).own p z
    if s.takeoverHits z && decide (s.progs[p].cls ≤ 2) then s1.reportTakeover quiet else s1

/-- A BED program becomes the zone's bed (R30). -/
def State.takeBed (s : State) (p : ProgId) (z : Zone) : State :=
  (s.onZone z fun r => { r with bed := some p }).onProg p fun g => g.addGranted z

/-- A passing program takes the zone or, for BED, its bed slot. -/
def State.take (s : State) (quiet : Bool) (p : ProgId) (z : Zone) : State :=
  if s.progs[p].kind = .bed then s.takeBed p z else s.takeForeground quiet p z

/-! ### Claiming (R31, R32) -/

/-- The excluded zones (R48). -/
def State.excludedSet (s : State) : ZoneSet := zonesWhere fun z => s.zones[z].excluded

/-- One claimed zone: refused when excluded, taken when it passes, waited for otherwise (R26, R31). -/
def State.claimOne (s : State) (quiet : Bool) (p : ProgId) (z : Zone) : State :=
  if s.zones[z].excluded then s
  else if s.passes p z then s.take quiet p z
  else s.onProg p fun g => g.addWaiting z

/-- The claimed zones one at a time in ascending zone number (R31). -/
def State.claimEach (s : State) (quiet : Bool) (p : ProgId) (zs : ZoneSet) : State :=
  (zonesOf zs).foldl (fun s z => s.claimOne quiet p z) s

/-- All the zones of a set taken in one step in ascending zone number; the program has then been granted its requested set
(R32). -/
def State.takeAll (s : State) (quiet : Bool) (p : ProgId) (zs : ZoneSet) : State :=
  (zonesOf zs).foldl (fun s z => s.take quiet p z) (s.onProg p fun g => { g with gotAll := true })

/-- The whole requested set `zs` together: taken when every zone passes, waited for otherwise (R32). -/
def State.claimTogether (s : State) (quiet : Bool) (p : ProgId) (zs : ZoneSet) : State :=
  if (zonesOf zs).all fun z => s.passes p z then s.takeAll quiet p zs
  else s.onProg p fun g => { g with requested := zs, waiting := zs }

/-- Zones newly named for a program: those granted or held are left as they are; the others are tested together or one by one
as the program's start policy stands (R32, R42). Of the zones already waiting, those the command names are tested again; the
rule can also be read as meaning all of them (DESIGN CHOICE; assumption log 38). -/
def State.claimMore (s : State) (quiet : Bool) (p : ProgId) (zs : ZoneSet) : State :=
  let g := s.progs[p]
  let fresh := zs &&& ~~~(s.excludedSet ||| g.granted ||| g.held)
  if g.together then s.claimTogether quiet p (g.requested ||| fresh)
  else s.claimEach quiet p fresh

/-! ### Release and succession (R33 to R36) -/

/-- The LOCAL alarm's program waits for the zone. It waits only where program 0 owns, and it is the successor there whatever
else waits (R27). -/
def State.alarmWaits (s : State) (z : Zone) : Bool := s.progs[(1 : ProgId)].waiting.getLsbD z.val

/-- A waiting ALL_OR_WAIT program can have its whole requested set when zone `z` of the release set `rs` is released (R35). A
zone of the step that the LOCAL alarm waits for does not pass, so that the law of R27 holds: R35 alone would let the program
take that zone before its turn (DEDUCED; assumption log 37). -/
def State.grantableTogether (s : State) (rs : ZoneSet) (w : ProgId) (z : Zone) : Bool :=
  (zonesOf s.progs[w].requested).all fun y =>
    if y = z then true
    else
      match s.zones[y].owner with
      | some _ => s.passes w y
      | none =>
        if rs.getLsbD y.val then
          !s.alarmWaits y &&
          match s.zones[y].stack with
          | [] => true
          | t :: _ => decide (s.progs[w].cls < s.progs[t].cls)
        else true

/-- The waiting candidate of a released zone: first on the wait list, not a BED, waiting for the zone and grantable now
(R34). -/
def State.waiterFor (s : State) (rs : ZoneSet) (z : Zone) : Option ProgId :=
  s.waitList.find? fun w =>
    s.progs[w].kind != .bed && s.progs[w].waiting.getLsbD z.val &&
      (!s.progs[w].together || s.grantableTogether rs w z)

/-- The winner from the wait list takes the zone, or all its zones when it takes them together (R34, R35). -/
def State.grantWaiter (s : State) (quiet : Bool) (w : ProgId) (z : Zone) : State :=
  if s.progs[w].together then s.takeAll quiet w s.progs[w].requested else s.own w z

/-- The top of the zone's hold stack is popped and becomes the owner (R34). -/
def State.popStack (s : State) (z : Zone) : State :=
  match s.zones[z].stack with
  | [] => s
  | t :: rest => (s.onZone z fun r => { r with owner := some t, stack := rest }).onProg t fun g => g.addGranted z

/-- The successor of a released zone: the stack top, unless a waiting program of lower class number wins (R34). -/
def State.succeed (s : State) (quiet : Bool) (rs : ZoneSet) (z : Zone) : State :=
  match s.zones[z].stack, s.waiterFor rs z with
  | [], none => s
  | [], some w => s.grantWaiter quiet w z
  | _ :: _, none => s.popStack z
  | t :: _, some w => if s.progs[w].cls < s.progs[t].cls then s.grantWaiter quiet w z else s.popStack z

/-- The BED program that takes a released bed slot: first on the wait list for it and grantable now (R36). -/
def State.bedWaiter (s : State) (z : Zone) : Option ProgId :=
  s.waitList.find? fun w =>
    s.progs[w].kind == .bed && s.progs[w].waiting.getLsbD z.val &&
      (!s.progs[w].together ||
        (zonesOf s.progs[w].requested).all fun y => y == z || s.zones[y].bed.isNone)

/-- A released bed slot is filled (R36). -/
def State.fillBed (s : State) (quiet : Bool) (z : Zone) : State :=
  match s.bedWaiter z with
  | none => s
  | some w => if s.progs[w].together then s.takeAll quiet w s.progs[w].requested else s.takeBed w z

/-- One zone of the release set `rs`: its foreground, whether its owner or only its bed slot was given up, then its bed slot
where that is of `beds`, the slots given up (R33, R36). A zone with an owner is passed over for its foreground: one that has
gained it in this step, and one that gave up its bed slot alone and keeps its owner (DEDUCED; assumption log 43). -/
def State.releaseZone (s : State) (quiet : Bool) (rs beds : ZoneSet) (z : Zone) : State :=
  let s1 := if s.zones[z].owner.isNone then s.succeed quiet rs z else s
  if beds.getLsbD z.val && s1.zones[z].bed.isNone then s1.fillBed quiet z else s1

/-- The release step over the zones whose owner (`fg`) or bed slot (`beds`) was given up, in ascending zone number (R33). -/
def State.releaseStep (s : State) (quiet : Bool) (fg beds : ZoneSet) : State :=
  (zonesOf (fg ||| beds)).foldl (fun s z => s.releaseZone quiet (fg ||| beds) beds z) s

/-! ### Ending a program (R21, R52) -/

/-- Zones a program owns. -/
def State.ownedBy (s : State) (p : ProgId) : ZoneSet := zonesWhere fun z => s.zones[z].owner == some p

/-- Zones whose bed slot a program holds. -/
def State.bedsOf (s : State) (p : ProgId) : ZoneSet := zonesWhere fun z => s.zones[z].bed == some p

/-- The zone without the program as owner, stack entry or bed; the order of the other entries is kept (R21). -/
def ZoneRec.strip (r : ZoneRec) (p : ProgId) : ZoneRec :=
  { r with owner := if r.owner = some p then none else r.owner, stack := r.stack.filter fun q => q != p,
           bed := if r.bed = some p then none else r.bed }

/-- The record of a program that ends (R21, R22, R70). -/
def Program.finished (g : Program) (why : EndReason) : Program :=
  { g with requested := 0#64, granted := 0#64, held := 0#64, waiting := 0#64, waitTimer := none, joinTimer := none,
           state := .ended, endReason := some why, gain := g.gain.halt }

/-- The clip engine releases the bound channel of a CLIP program that ends (R52). -/
def State.releaseProgChan (s : State) (p : ProgId) : State :=
  match s.progs[p].clipPart.bind fun c => c.channel with
  | none => s
  | some ch => if s.chans[ch].user = some (.prog p) then s.releaseChan ch else s

/-- The station whose input a CALL_OUT program has as its source (R115). -/
def Program.station (g : Program) : Option StationId :=
  match g.kind, g.source with
  | .callOut, some src => if h : 16 ≤ src ∧ src < 48 then some ⟨src - 16, by omega⟩ else none
  | _, _ => none

/-- The intercom switch returns the station of a CALL_OUT program that ends to IDLE (R52, R116). -/
def State.releaseStation (s : State) (p : ProgId) : State :=
  match s.progs[p].station with
  | none => s
  | some a => s.onStation a fun r => if r.state = .talkout then { r with state := .idle } else r

/-- A program ends, but for the release step: it leaves every zone, stack and the wait list, and the blocks bound to it are
told (R21, R52). -/
def State.endProgram (s : State) (p : ProgId) (why : EndReason) : State :=
  let s1 : State := { s with zones := remap s.zones (fun _ r => r.strip p), endOrder := s.endOrder ++ [p] }
  (((((s1.onProg p fun g => g.finished why).releaseVoice p).releaseProgChan p).releaseStation p).dropRoute
    p).slotProgramEnded p

/-! ### States from the sets (R19, R20) and what follows from a change of state -/

/-- The bound channel of a CLIP program is started, once, when the program first enters ACTIVE (R111). -/
def State.startClip (s : State) (p : ProgId) : State :=
  match s.progs[p].clipPart with
  | none => s
  | some part =>
    match part.channel with
    | none => s
    | some ch =>
      if s.progs[p].clipStarted then s
      else (s.startChan ch part.repeats part.trigger).onProg p fun g => { g with clipStarted := true }

/-- The program enters ACTIVE for the first time (R104, R111). -/
def State.firstActive (s : State) (p : ProgId) (skipped : Bool) : State :=
  (s.onProg p fun g => { g with state := .active, chimeSkipped := g.chimeSkipped || skipped }).startClip p

/-- A PENDING or HELD program that has been granted a zone (R20, R104, R106, R112). -/
def State.enterGranted (s : State) (p : ProgId) : State :=
  let g := s.progs[p]
  match g.ret with
  | some .preamble => (s.onProg p fun g => { g with state := .preamble, ret := none }).onBoundVoice p Player.continue
  | some .active => (s.onProg p fun g => { g with state := .active, ret := none }).gateProgram p false
  | none =>
    match g.kind, g.chime with
    | .live, some pat | .clip, some pat =>
      match s.bindVoice p pat with
      | some s1 => s1.onProg p fun g => { g with state := .preamble }
      | none => s.firstActive p true
    | _, _ => s.firstActive p false

/-- A program that lost its last granted zone without ending: HELD or PENDING, with the state it left as return state
(R19, R20, R106, R112). -/
def State.enterUngranted (s : State) (p : ProgId) : State :=
  let g := s.progs[p]
  let next : ProgState := if g.held != 0#64 then .held else .pending
  match g.state with
  | .preamble =>
    (s.onProg p fun g => { g with state := next, ret := some .preamble }).onBoundVoice p Player.pause
  | .active => (s.onProg p fun g => { g with state := next, ret := some .active }).gateProgram p true
  | .free | .pending | .held | .tail | .ended => s.onProg p fun g => { g with state := next }

/-- The wait timer starts with the full limit when the granted set is empty, and stops when a zone is granted (R37). -/
def Program.waitClock (g : Program) : Program :=
  match g.state with
  | .pending | .held =>
    { g with waitTimer := match g.waitTimer with
        | some n => some n
        | none => g.waitLimit.map framesOfMs }
  | .free | .preamble | .active | .tail | .ended => { g with waitTimer := none }

/-- A program's state is set from its sets at the end of an operation (R19). -/
def State.settleProgram (s : State) (p : ProgId) : State :=
  let g := s.progs[p]
  match g.state with
  | .free | .ended => s
  | .tail => if g.granted = 0#64 then s.endProgram p .noZones else s
  | .pending | .preamble | .active | .held =>
    if g.granted = 0#64 ∧ g.held = 0#64 ∧ g.waiting = 0#64 then s.endProgram p .noZones
    else
      let s1 :=
        if g.granted = 0#64 then s.enterUngranted p
        else if g.state = .pending ∨ g.state = .held then s.enterGranted p
        else s
      s1.onProg p Program.waitClock

/-! ### The hand-off at the end of an operation (R52, R53) -/

/-- What a claim manager operation is done for: the program a command of its own port names, whose changes the response
reports (R53), and whether a cue command makes it (R187). -/
structure Cause where
  named : Option ProgId
  quiet : Bool
  deriving DecidableEq, Repr

/-- Changes no response reports. -/
def Cause.event : Cause := ⟨none, false⟩

/-- Each zone whose owner changed is handed to the ramp engine (R52, R71). -/
def State.duckHandOff (s0 s : State) : State :=
  { s with zones := remap s.zones fun z r => if s0.zones[z].owner = r.owner then r else r.duckFor (s.ownerClass z) }

/-- Two records differ in the state or the sets that a PROGRAM notice reports (R53). -/
def Program.changed (a b : Program) : Bool :=
  a.state != b.state || a.requested != b.requested || a.granted != b.granted || a.held != b.held || a.waiting != b.waiting

/-- A PROGRAM notice at the owning port of every program that changed, but for the one the command names (R53). -/
def State.programNotices (s0 s : State) (named : Option ProgId) : State :=
  (List.finRange 32).foldl (fun t p =>
    if named ≠ some p ∧ s0.progs[p].changed s.progs[p] = true then t.raiseProgram s.progs[p].owner p else t) s

/-- The end of a claim manager operation that started in `s0` and has changed the zone table and the sets to those of `s`:
every program takes its state, and the changes are handed to the ramp engine, the survey engine, the cue engine and the
ports (R19, R52, R53). Programs settle in ascending id, where the rules give no order: that is the order of several programs
that end NO_ZONES in one operation (R22), of several that enter PREAMBLE, and what says whether a chime voice freed by one is
free for another (R101, R104; DESIGN CHOICE, assumption log 11). -/
def State.finish (s0 s : State) (c : Cause) : State :=
  let s1 := (List.finRange 32).foldl (fun s p => s.settleProgram p) s
  let s2 := (State.duckHandOff s0 s1).surveyCheck
  let s3 := State.resumeCheck s0 s2 c.quiet
  State.programNotices s0 s3 c.named

/-- A program ends and its zones are released together in one release step (R21, R33). -/
def State.endAndRelease (s : State) (p : ProgId) (why : EndReason) (c : Cause) : State :=
  let fg := s.ownedBy p
  let beds := s.bedsOf p
  State.finish s ((s.endProgram p why).releaseStep c.quiet fg beds) c

/-- Zones of a program's request are dropped: granted ones are given up, held ones leave their stacks, waiting ones the wait
list, and the zones given up form a release step (R43). -/
def State.dropZonesOf (s : State) (p : ProgId) (zs : ZoneSet) (c : Cause) : State :=
  let fg := s.ownedBy p &&& zs
  let beds := s.bedsOf p &&& zs
  let s1 := (s.onZones zs fun r => r.strip p).onProg p fun g => g.without zs
  State.finish s (s1.releaseStep c.quiet fg beds) c

/-- Zones are claimed for a program that is open (R42). -/
def State.addZonesTo (s : State) (p : ProgId) (zs : ZoneSet) (c : Cause) : State :=
  State.finish s (s.claimMore c.quiet p zs) c

/-! ### Opening (R40, R41) -/

/-- The record an open takes: the lowest-numbered FREE one of its range, else the one of the range that ended earliest
(R40). -/
def State.allocate (s : State) (low : Nat) : Option ProgId :=
  match (List.finRange 32).find? fun p => decide (low ≤ p.val) && s.progs[p].state == .free with
  | some p => some p
  | none => s.endOrder.find? fun p => decide (low ≤ p.val)

/-- The record is taken for a new program, which gets the next arrival number (R17, R41). -/
def State.takeRecord (s : State) (p : ProgId) (g : Program) : State :=
  { s.onProg p (fun _ => { g with arrival := s.arrivals }) with
    arrivals := (s.arrivals + 1) % 65536
    openOrder := s.openOrder.erase p ++ [p]
    endOrder := s.endOrder.erase p }

/-- The zones of a program just opened are claimed under its start policy; with none left after the exclusions it ends
NO_ZONES at the settling (R41). `s0` is the state before the open. For the notices its record counts as FREE there, for a
reclaimed record holds another program's last state (R40, R53). -/
def State.claimOpened (s0 s : State) (p : ProgId) (zs : ZoneSet) (c : Cause) : State :=
  let left := zs &&& ~~~s.excludedSet
  let s1 := if left = 0#64 then s else if s.progs[p].together then s.claimTogether c.quiet p left
    else s.claimEach c.quiet p left
  State.finish (s0.onProg p fun _ => Program.free) s1 c

/-! ### Pool channels (R134) -/

/-- Place of a program in the order of opening: greater is later (R17). -/
def State.openedAt (s : State) (p : ProgId) : Nat := s.openOrder.idxOf p

/-- The program bound to a pool channel. -/
def Channel.program (c : Channel) : Option ProgId :=
  match c.user with
  | some (.prog p) => some p
  | some (.window _) | some .cue | none => none

/-- The pool channels, lowest first (R133). -/
def poolChans : List ChanId := [0, 1, 2, 3]

/-- The better victim of two: the higher class number, then the later arrival (R134). -/
def State.worse (s : State) (a b : ChanId × ProgId) : ChanId × ProgId :=
  let ca := s.progs[a.2].cls
  let cb := s.progs[b.2].cls
  if ca < cb ∨ (ca = cb ∧ s.openedAt a.2 < s.openedAt b.2) then b else a

/-- The channel a voice window or a class 1 program takes when all four have users (R134). -/
def State.victim (s : State) : Option (ChanId × ProgId) :=
  match poolChans.filterMap fun ch => s.chans[ch].program.map fun p => (ch, p) with
  | [] => none
  | a :: rest => some (rest.foldl (fun x y => s.worse x y) a)

/-- The lowest-numbered pool channel without a bound user (R134). -/
def State.freePool (s : State) : Option ChanId := poolChans.find? fun ch => s.chans[ch].user.isNone

/-- The clip may be bound: the start-up scan is over and its entry is READY (R134). -/
def State.clipReady (s : State) (id : ClipId) : Bool := s.clips.scan.isNone && s.clips.dir[id].state == .ready

/-- The answer to a request for a pool channel, before any state changes: the channel and the program it is taken from, or the
refusal (R134). -/
def State.poolRequest (s : State) (id : ClipId) (mayTake : Bool) : Except Status (ChanId × Option ProgId) :=
  if !s.clipReady id then .error .notReady
  else
    match s.freePool with
    | some ch => .ok (ch, none)
    | none =>
      if mayTake then
        match s.victim with
        | some (ch, p) => .ok (ch, some p)
        | none => .error .full
      else .error .full

/-- The channel is bound; a program it is taken from ends CHANNEL_TAKEN first, with its release step (R41, R134). -/
def State.bindPool (s : State) (ch : ChanId) (from? : Option ProgId) (u : ChanUser) (id : ClipId) (c : Cause) : State :=
  let s1 := match from? with
    | none => s
    | some p => s.endAndRelease p .channelTaken c
  s1.onChan ch fun r => { r.stopped with user := some u, clip := some id }

end Sys2Proof.Machine
end

