-- ==== Sys2Proof/Machine/ProgramCommands.lean ====
section
/-! DEFINITION. Meanings of the general commands (section 10.4) and of the claim manager's commands (sections 2.8 to 2.11). -/

namespace Sys2Proof.Machine

/-! ### General commands (R207 to R211) -/

/-- POLL does nothing and answers OK (R210). -/
def execPoll (t : Txn) (s : State) : Out := portCommand s t 0x00#8 0 fun s => okWith s []

/-- IDENTIFY: product code, revision and the port's identity (R210). -/
def execIdentify (t : Txn) (s : State) : Out :=
  portCommand s t 0x01#8 0 fun s => okWith s (Config.productCode ++ [Config.revision] ++ out8 (portCode t.port))

/-- READ_NOTICES clears neither set (R208). -/
def execReadNotices (t : Txn) (s : State) : Out :=
  portCommand s t 0x02#8 0 fun s => okWith s (outKinds (s.port t.port).notices ++ outProgSet (s.port t.port).changed)

/-- The nine kinds of a two-byte kind set, unless it names a bit above 8 (R208, R209). -/
def kinds? (k : BitVec 16) : Option (BitVec 9) := if k.toNat < 512 then some (k.setWidth 9) else none

/-- The named kinds leave the set; a clear that names PROGRAM empties the changed-program set (R208). -/
def PortCtl.clear (c : PortCtl) (k : BitVec 9) : PortCtl :=
  { c with notices := c.notices &&& ~~~k, changed := if k &&& NoticeKind.program.bit != 0#9 then 0#32 else c.changed }

/-- CLEAR_NOTICES (R208). -/
def execClearNotices (t : Txn) (kinds : BitVec 16) (s : State) : Out :=
  portCommand s t 0x03#8 2 fun s =>
    match kinds? kinds with
    | none => refuse s .param
    | some k =>
      let s1 := s.onPort t.port fun c => c.clear k
      okWith s1 (outKinds (s1.port t.port).notices)

/-- SET_NOTICE_MASK (R209). -/
def execSetNoticeMask (t : Txn) (mask : BitVec 16) (enable : Byte) (s : State) : Out :=
  portCommand s t 0x04#8 3 fun s =>
    match kinds? mask, onOff? enable with
    | some m, some e => okWith (s.onPort t.port fun c => { c with mask := m, attention := e }) []
    | _, _ => refuse s .param

/-- READ_RESET_CAUSE (R210). -/
def execReadResetCause (t : Txn) (s : State) : Out :=
  portCommand s t 0x05#8 0 fun s => okWith s (out8 (resetCauseCode s.resetCause))

/-- RESTART: the part goes on until the safety port shifts the response out (R211). -/
def execRestart (t : Txn) (s : State) : Out :=
  portCommand s t 0x06#8 0 fun s =>
    if t.port != .saf then refuse s .privilege else okWith { s with restartArmed := true } []

/-! ### Opening (R39 to R41) -/

/-- The parameter checks of R39, item 4. -/
def openParamsOk (a : OpenArgs) (k : ProgKind) : Bool :=
  (match k, opt a.source with
    | .clip, src => src.isNone
    | _, some src => sourceAllowed k src
    | _, none => false) &&
  a.zones != 0#64 && (policy? a.policy).isSome && optInRange 1000 120000 (opt a.waitLimit) &&
  optInRange 1000 120000 (opt a.joinDeadline) &&
  (match opt a.chime with
    | none => true
    | some c => (c == 2 || inRange 12 15 c) && (k == .live || k == .clip)) &&
  ((opt a.clip).isSome == (k == .clip)) &&
  (k != .clip || ((repeats? a.repeats).isSome && (trigger? a.trigger == some .free || trigger? a.trigger == some .gated))) &&
  (match opt a.tail with
    | none => true
    | some d => decide (d ≤ 2000) && k == .live)

/-- The clip part of an open, its channel not yet bound (R15). -/
def openClipPart (a : OpenArgs) : Option ClipPart :=
  match idx? 256 a.clip, repeats? a.repeats, trigger? a.trigger with
  | some id, some r, some tr => some ⟨id, r, tr, none⟩
  | _, _, _ => none

/-- The record of the program an accepted open describes, before its channel is bound and its zones are claimed (R41).
R41 gives the tail time 100 ms where none is given, R15 gives the field to LIVE programs only: the record of another kind holds
none, and READ_PROGRAM sends it absent (DEDUCED; assumption log 42). The start value, duration and step of its gain at rest are
the model's (DESIGN CHOICE; assumption log 8). -/
def openRecord (a : OpenArgs) (p : Port) (k : ProgKind) : Program :=
  { Program.free with
    owner := p
    kind := k
    cls := a.cls.toNat
    source := opt a.source
    policy := (policy? a.policy).getD .allOrWait
    waitLimit := opt a.waitLimit
    joinDeadline := opt a.joinDeadline
    joinTimer := (opt a.joinDeadline).map framesOfMs
    gain := Ramp.still (clampGain a.gain.toNat)
    chime := (opt a.chime).bind fun c => if h : c < 16 then some ⟨c, h⟩ else none
    clipPart := if k = .clip then openClipPart a else none
    tail := if k = .live then some ((opt a.tail).getD Config.defaultTail) else none
    state := .pending }

/-- The refusals of R39, items 1 to 4, in order; otherwise the kind. -/
def openCheck (s : State) (p : Port) (a : OpenArgs) : Except Status ProgKind :=
  match kind? a.kind with
  | none => .error .param
  | some k =>
    if 6 < a.cls.toNat then .error .param
    else if !classAllowed a.cls.toNat k p then .error .privilege
    else if s.alarmActive && decide (3 ≤ a.cls.toNat) then .error .alarmActive
    else if !openParamsOk a k then .error .param
    else .ok k

/-- First record of the range a port opens programs in (R15, R40). -/
def recordLow (p : Port) : Nat := if p = .saf then 2 else 4

/-- The channel of a program's clip part recorded, and its source with it (R11). -/
def Program.bindChan (g : Program) (ch : ChanId) : Program :=
  { g with clipPart := g.clipPart.map fun c => { c with channel := some ch }, source := some (48 + ch.val) }

/-- The results of an accepted open. -/
def openResults (s : State) (r : ProgId) : List Byte :=
  let g := s.progs[r]
  out8 r.val ++ out8 (progStateCode g.state) ++ putZones g.granted ++ putZones g.waiting

/-- An accepted open of the program `g` in record `r` (R41, steps 1 to 5). -/
def State.openIn (s : State) (r : ProgId) (g : Program) (chan : Option (ChanId × Option ProgId)) (zs : ZoneSet) : State :=
  let s1 := match chan, g.clipPart with
    | some (ch, from?), some part => s.bindPool ch from? (.prog r) part.clip Cause.event
    | _, _ => s
  let g1 := match chan with
    | none => g
    | some (ch, _) => g.bindChan ch
  let s2 := s1.takeRecord r g1
  let s3 := match g1.station with
    | none => s2
    | some a => s2.onStation a fun x => { x with state := .talkout }
  State.claimOpened s1 s3 r zs ⟨some r, false⟩

/-- What the other blocks answer to an open (R39, item 6): the pool channel of a CLIP program, a busy station of a
CALL_OUT. -/
def State.openBlocks (s : State) (g : Program) : Except Status (Option (ChanId × Option ProgId)) :=
  match g.clipPart with
  | some part =>
    match s.poolRequest part.clip (g.cls == 1) with
    | .error e => .error e
    | .ok x => .ok (some x)
  | none =>
    match g.station with
    | none => .ok none
    | some a => if s.stations[a].state = .idle then .ok none else .error .busy

/-- OPEN_PROGRAM (R39 to R41). -/
def execOpenProgram (t : Txn) (a : OpenArgs) (s : State) : Out :=
  portCommand s t 0x10#8 28 fun s =>
    match openCheck s t.port a with
    | .error e => refuse s e
    | .ok k =>
      match s.allocate (recordLow t.port) with
      | none => refuse s .full
      | some r =>
        let g := openRecord a t.port k
        match s.openBlocks g with
        | .error e => refuse s e
        | .ok chan =>
          let s1 := s.openIn r g chan a.zones
          okWith s1 (openResults s1 r)

/-! ### Changing and closing (R42 to R45) -/

/-- The refusals shared by the commands that change an open program: PARAM, NOT_FOUND, PRIVILEGE (R42, R43, R44, R74). `bad`
is what else answers PARAM. -/
def State.ownedProgram (s : State) (p : Port) (prog : Byte) (bad : Bool) : Except Status ProgId :=
  match idx? 32 prog with
  | none => .error .param
  | some r =>
    let g := s.progs[r]
    if bad then .error .param
    else if g.state = .free then .error .notFound
    else if g.owner ≠ p ∨ r.val < 2 ∨ g.routeSlot.isSome then .error .privilege
    else .ok r

/-- ADD_ZONES (R42). -/
def execAddZones (t : Txn) (prog : Byte) (zones : ZoneSet) (s : State) : Out :=
  portCommand s t 0x11#8 9 fun s =>
    match s.ownedProgram t.port prog (zones == 0#64) with
    | .error e => refuse s e
    | .ok r =>
      if s.alarmActive && decide (3 ≤ s.progs[r].cls) then refuse s .alarmActive
      else if s.progs[r].state = .tail ∨ s.progs[r].state = .ended then refuse s .state
      else
        let s1 := s.addZonesTo r zones ⟨some r, false⟩
        let g := s1.progs[r]
        okWith s1 (out8 (progStateCode g.state) ++ putZones g.granted ++ putZones g.waiting)

/-- DROP_ZONES (R43). -/
def execDropZones (t : Txn) (prog : Byte) (zones : ZoneSet) (s : State) : Out :=
  portCommand s t 0x12#8 9 fun s =>
    match s.ownedProgram t.port prog (zones == 0#64) with
    | .error e => refuse s e
    | .ok r =>
      if s.progs[r].state = .tail ∨ s.progs[r].state = .ended then refuse s .state
      else
        let s1 := s.dropZonesOf r zones ⟨some r, false⟩
        okWith s1 (out8 (progStateCode s1.progs[r].state))

/-- The record of a LIVE program that enters TAIL: its waiting set leaves its request, its timers stop and its gain fades to 0
over its tail time (R44, R109). -/
def Program.intoTail (g : Program) : Program :=
  { g with requested := g.requested &&& ~~~g.waiting, waiting := 0#64, waitTimer := none, joinTimer := none, state := .tail,
           gain := g.gain.cut 0 (g.tail.getD Config.defaultTail) }

/-- What a close does to a program that is not ENDED (R44, R109). -/
def State.closeProg (s : State) (r : ProgId) (c : Cause) : State :=
  let g := s.progs[r]
  if g.kind = .live ∧ g.granted ≠ 0#64 ∧ g.state ≠ .tail then
    let s1 := (s.onProg r Program.intoTail).releaseVoice r
    if s1.progs[r].gain.running then State.finish s s1 c else s1.endAndRelease r .closed c
  else s.endAndRelease r .closed c

/-- CLOSE_PROGRAM (R44). -/
def execCloseProgram (t : Txn) (prog : Byte) (s : State) : Out :=
  portCommand s t 0x13#8 1 fun s =>
    match s.ownedProgram t.port prog false with
    | .error e => refuse s e
    | .ok r =>
      if s.progs[r].state = .ended then refuse s .state
      else
        let s1 := s.closeProg r ⟨some r, false⟩
        okWith s1 (out8 (progStateCode s1.progs[r].state))

/-- FORCE_CLOSE (R45); the change is named by a command of the owning port only where SAF owns the program (R53). -/
def execForceClose (t : Txn) (prog : Byte) (s : State) : Out :=
  portCommand s t 0x14#8 1 fun s =>
    if t.port != .saf || decide (prog.toNat < 2) then refuse s .privilege
    else
      match idx? 32 prog with
      | none => refuse s .param
      | some r =>
        let g := s.progs[r]
        if g.state = .free then refuse s .notFound
        else if g.state = .ended then refuse s .state
        else okWith (s.endAndRelease r .forced ⟨if g.owner = .saf then some r else none, false⟩) []

/-! ### Reads (R50, R51) -/

/-- The results of READ_PROGRAM, in the order of R212. The tail time of a program that is not LIVE is absent (DEDUCED;
assumption log 42). -/
def programResults (r : ProgId) (g : Program) : List Byte :=
  out8 r.val ++ out8 (kindCode g.kind) ++ out8 g.cls ++ out8 (portCode g.owner) ++ outOpt8 g.source ++
  out8 (policyCode g.policy) ++ out8 (progStateCode g.state) ++ outOpt8 (g.ret.map retCode) ++
  outOpt8 (g.endReason.map endReasonCode) ++ outFlag g.chimeSkipped ++ putZones g.requested ++ putZones g.granted ++
  putZones g.held ++ putZones g.waiting ++ out16 g.arrival ++ outOpt8 (g.routeSlot.map (·.val)) ++ outOpt24 g.waitLimit ++
  outOpt24 g.joinDeadline ++ outOpt8 (g.chime.map (·.val)) ++ outOpt8 (g.clipPart.map fun c => c.clip.val) ++
  (match g.clipPart with
    | none => outOpt16 none
    | some c => outRepeats c.repeats) ++
  outOpt8 (g.clipPart.map fun c => triggerCode c.trigger) ++
  outOpt8 (g.clipPart.bind fun c => c.channel.map (·.val)) ++ outOpt24 g.tail ++ out16 g.gain.current ++ out16 g.gain.target

/-- A record becomes FREE (R22, R50). No PROGRAM notice is raised for it (DEDUCED; assumption log 12). -/
def State.freeRecord (s : State) (r : ProgId) : State :=
  { s.onProg r (fun _ => Program.free) with openOrder := s.openOrder.erase r, endOrder := s.endOrder.erase r }

/-- READ_PROGRAM removes the id from the reading port's changed-program set, and frees an ENDED record that its owning port
reads (R50). -/
def execReadProgram (t : Txn) (prog : Byte) (s : State) : Out :=
  portCommand s t 0x15#8 1 fun s =>
    match idx? 32 prog with
    | none => refuse s .param
    | some r =>
      let g := s.progs[r]
      if g.state = .free then refuse s .notFound
      else
        let s1 := s.onPort t.port fun c => { c with changed := c.changed &&& ~~~progBit r }
        okWith (if g.state = .ended ∧ g.owner = t.port then s1.freeRecord r else s1) (programResults r g)

/-- The four fields of a last survey result: outcome, frequency, magnitude and EDGE flag (R212); absent when there is none
(assumption log 23). -/
def resultFields (r : Option SurveyResult) : List Byte :=
  match r with
  | none => outOpt8 none ++ outOpt16 none ++ outOpt24 none ++ outOpt8 none
  | some x => out8 (lineCode x.outcome) ++ outOpt16 (x.peak.map (·.1)) ++ outOpt24 (x.peak.map (·.2)) ++ outFlag x.edge

/-- The results of READ_ZONE, in the order of R212. -/
def zoneResults (s : State) (z : Zone) : List Byte :=
  let r := s.zones[z]
  out8 z.val ++ outOpt8 (r.owner.map (·.val)) ++ outOpt8 (s.ownerClass z) ++ out8 r.stack.length ++
  outOpt8 (r.stack[0]?.map (·.val)) ++ outOpt8 (r.stack[1]?.map (·.val)) ++ outOpt8 (r.stack[2]?.map (·.val)) ++
  outOpt8 (r.bed.map (·.val)) ++ out8 r.shield ++ outFlag r.showZone ++ outFlag r.excluded ++ out16 r.master.current ++
  out16 r.emergency ++ out16 r.duckLevel ++ out24 r.duckAttack ++ out24 r.duckRelease ++ out16 r.duck.current ++
  out16 r.overload ++ out8 (lineCode r.lineStatus) ++ resultFields r.lastResult ++ outFlag r.underSurvey

/-- READ_ZONE (R51). -/
def execReadZone (t : Txn) (zone : Byte) (s : State) : Out :=
  portCommand s t 0x16#8 1 fun s =>
    match idx? 64 zone with
    | none => refuse s .param
    | some z => okWith s (zoneResults s z)

/-! ### Show zones, shields and exclusion (R46 to R49) -/

/-- SET_SHIELD (R47). -/
def execSetShield (t : Txn) (zones : ZoneSet) (level : Byte) (s : State) : Out :=
  portCommand s t 0x17#8 9 fun s =>
    if t.port != .shw then refuse s .privilege
    else if s.alarmActive then refuse s .alarmActive
    else if zones == 0#64 || !inRange 3 7 level.toNat || !((zonesOf zones).all fun z => s.zones[z].showZone) then
      refuse s .param
    else okWith (s.onZones zones fun r => { r with shield := level.toNat }) []

/-- A zone as the complete set of show zones leaves it (R46). -/
def ZoneRec.showMark (r : ZoneRec) (isShow : Bool) : ZoneRec :=
  { r with showZone := isShow, shield := if isShow then r.shield else Config.noShield }

/-- SET_SHOW_ZONES (R46). -/
def execSetShowZones (t : Txn) (zones : ZoneSet) (s : State) : Out :=
  portCommand s t 0x18#8 8 fun s =>
    if t.port != .ann then refuse s .privilege
    else okWith { s with zones := remap s.zones fun z r => r.showMark (zones.getLsbD z.val) } []

/-- A zone newly excluded (R48). -/
def ZoneRec.exclude (r : ZoneRec) : ZoneRec := { r with excluded := true, owner := none, stack := [], bed := none }

/-- Zones excluded in one step: no successor is chosen in them, and every program touched takes its state (R48). -/
def State.exclude (s : State) (zs : ZoneSet) : State :=
  let fresh := zs &&& ~~~s.excludedSet
  let s1 := s.onZones fresh ZoneRec.exclude
  State.finish s { s1 with progs := remap s1.progs fun _ g => g.without fresh } Cause.event

/-- EXCLUDE_ZONES (R48). -/
def execExcludeZones (t : Txn) (zones : ZoneSet) (s : State) : Out :=
  portCommand s t 0x19#8 8 fun s =>
    if t.port != .saf then refuse s .privilege
    else if zones == 0#64 then refuse s .param
    else okWith (s.exclude zones) []

/-- READMIT_ZONES (R49). -/
def execReadmitZones (t : Txn) (zones : ZoneSet) (s : State) : Out :=
  portCommand s t 0x1A#8 8 fun s =>
    if t.port != .saf then refuse s .privilege
    else if zones == 0#64 then refuse s .param
    else okWith (s.onZones zones fun r => { r with excluded := false }) []

end Sys2Proof.Machine
end

