-- ==== Sys2Proof/Machine/MixerCommands.lean ====
section
/-! DEFINITION. Meanings of the commands that set gains, levels and profiles, and of READ_OVERLOAD (sections 3.1, 3.4, 3.5). -/

namespace Sys2Proof.Machine

/-- SET_PROGRAM_GAIN (R74). -/
def execSetProgramGain (t : Txn) (prog : Byte) (target : BitVec 16) (duration : BitVec 24) (mode : Byte) (s : State) : Out :=
  portCommand s t 0x20#8 7 fun s =>
    match staged? mode with
    | none => refuse s .param
    | some st =>
      match s.ownedProgram t.port prog false with
      | .error e => refuse s e
      | .ok r =>
        if s.progs[r].state = .tail ∨ s.progs[r].state = .ended then refuse s .state
        else
          let s1 := s.onProg r fun g => { g with gain := g.gain.retarget st target.toNat duration.toNat }
          okWith s1 (out16 s1.progs[r].gain.current ++ out16 s1.progs[r].gain.target)

/-- SET_ZONE_LEVEL (R75). -/
def execSetZoneLevel (t : Txn) (zones : ZoneSet) (target : BitVec 16) (duration : BitVec 24) (mode : Byte) (s : State) : Out :=
  portCommand s t 0x21#8 14 fun s =>
    if t.port != .ann then refuse s .privilege
    else if zones == 0#64 then refuse s .param
    else
      match staged? mode with
      | none => refuse s .param
      | some st =>
        okWith (s.onZones zones fun r => { r with master := r.master.retarget st target.toNat duration.toNat }) []

/-- SET_EMERGENCY_LEVEL (R76). -/
def execSetEmergencyLevel (t : Txn) (zones : ZoneSet) (level : BitVec 16) (s : State) : Out :=
  portCommand s t 0x22#8 10 fun s =>
    if t.port != .saf then refuse s .privilege
    else if zones == 0#64 then refuse s .param
    else okWith (s.onZones zones fun r => { r with emergency := clampGain level.toNat }) []

/-- A duck profile given to a zone whose owner has the class `cls`: with an owner of class 1 to 5 the duck factor is
retargeted toward the new level (R73). Attack and release are numbers that clamp, all ones among them (assumption log 29). -/
def ZoneRec.profiled (r : ZoneRec) (cls : Option Nat) (level attack release : Nat) : ZoneRec :=
  let r1 := { r with duckLevel := clampGain level, duckAttack := min attack Config.maxRampMs,
                     duckRelease := min release Config.maxRampMs }
  match cls with
  | none => r1
  | some c => if inRange 1 5 c then r1.duckFor (some c) else r1

/-- SET_DUCK_PROFILE (R73). -/
def execSetDuckProfile (t : Txn) (zones : ZoneSet) (level : BitVec 16) (attack release : BitVec 24) (s : State) : Out :=
  portCommand s t 0x23#8 16 fun s =>
    if t.port != .ann then refuse s .privilege
    else if zones == 0#64 then refuse s .param
    else
      okWith { s with zones := remap s.zones fun z r =>
        if zones.getLsbD z.val then r.profiled (s.ownerClass z) level.toNat attack.toNat release.toNat else r } []

/-- SET_ALARM_UNDER (R59). -/
def execSetAlarmUnder (t : Txn) (level : BitVec 16) (s : State) : Out :=
  portCommand s t 0x24#8 2 fun s =>
    if t.port != .saf then refuse s .privilege
    else okWith { s with alarmUnder := clampGain level.toNat } (out16 (clampGain level.toNat))

/-- READ_OVERLOAD returns the counter and zeroes it (R63). -/
def execReadOverload (t : Txn) (zone : Byte) (s : State) : Out :=
  portCommand s t 0x25#8 1 fun s =>
    if t.port != .ann then refuse s .privilege
    else
      match idx? 64 zone with
      | none => refuse s .param
      | some z => okWith (s.onZone z fun r => { r with overload := 0 }) (out16 s.zones[z].overload)

end Sys2Proof.Machine
end

