-- ==== Sys2Proof/Machine/AlarmCommands.lean ====
section
/-! DEFINITION. Meanings of the alarm sequencer's commands (sections 4.1 to 4.3). -/

namespace Sys2Proof.Machine

/-- The record of a slot's program as ALARM_START sets it (R79). The start value, duration and step of its gain at rest are
the model's (DESIGN CHOICE; assumption log 8). -/
def alarmRecord (k : Fin 2) : Program :=
  { Program.free with owner := .saf, kind := .alarm, cls := 0, source := some (56 + k.val), policy := .takeAvailable,
                      gain := Ramp.still unity, state := .pending }

/-- ALARM_START on an IDLE slot: the program is opened; with no zone left after the exclusions it ends NO_ZONES and the slot
stays IDLE (R79). -/
def State.alarmOpen (s : State) (k : Fin 2) (pat : PatId) (zs : ZoneSet) : State :=
  let p := progOfSlot k
  let s1 := s.takeRecord p (alarmRecord k)
  if zs &&& ~~~s.excludedSet = 0#64 then State.claimOpened s s1 p zs ⟨some p, false⟩
  else
    let s2 := s1.onSlot k fun a => { a with state := .sounding, pattern := some pat }
    State.claimOpened s ((s2.startTone k).raiseAlarm true) p zs ⟨some p, false⟩

/-- ALARM_START on a slot that is not IDLE (R80). -/
def State.alarmAgain (s : State) (k : Fin 2) (pat : PatId) (zs : ZoneSet) : State :=
  let p := progOfSlot k
  let old := s.slots[k].state
  let s1 := s.closeWindow k
  let s2 := s1.addZonesTo p (zs &&& ~~~s1.progs[p].requested) ⟨some p, false⟩
  let s3 := (s2.onSlot k fun a => { a with state := .sounding, pattern := some pat }).startTone k
  if old = .sounding then s3 else s3.raiseAlarm true

/-- The results of ALARM_START (R79). -/
def alarmResults (s : State) (k : Fin 2) : List Byte :=
  let g := s.progs[progOfSlot k]
  out8 (slotStateCode s.slots[k].state) ++ out8 (progStateCode g.state) ++ putZones g.granted ++ putZones g.waiting

/-- The result that is a slot's state. -/
def slotResult (s : State) (k : Fin 2) : List Byte := out8 (slotStateCode s.slots[k].state)

/-- ALARM_START (R79, R80). -/
def execAlarmStart (t : Txn) (slot pattern : Byte) (zones : ZoneSet) (s : State) : Out :=
  portCommand s t 0x30#8 10 fun s =>
    if t.port != .saf then refuse s .privilege
    else
      match idx? 2 slot, idx? 16 pattern with
      | some k, some pat =>
        if zones == 0#64 then refuse s .param
        else if s.patterns[pat].steps.isEmpty then refuse s .notFound
        else
          let s1 := if s.slots[k].state = .idle then s.alarmOpen k pat zones else s.alarmAgain k pat zones
          okWith s1 (alarmResults s1 k)
      | _, _ => refuse s .param

/-- ALARM_SILENCE (R81). -/
def execAlarmSilence (t : Txn) (slot : Byte) (s : State) : Out :=
  portCommand s t 0x31#8 1 fun s =>
    if t.port != .saf then refuse s .privilege
    else
      match idx? 2 slot with
      | none => refuse s .param
      | some k =>
        if s.slots[k].state = .idle then refuse s .state
        else
          let s1 := s.silence k true
          okWith s1 (slotResult s1 k)

/-- ALARM_RESOUND (R82). -/
def execAlarmResound (t : Txn) (slot : Byte) (s : State) : Out :=
  portCommand s t 0x32#8 1 fun s =>
    if t.port != .saf then refuse s .privilege
    else
      match idx? 2 slot with
      | none => refuse s .param
      | some k =>
        if s.slots[k].state = .silenced then
          let s1 := ((s.startTone k).onSlot k fun a => { a with state := .sounding }).raiseAlarm true
          okWith s1 (slotResult s1 k)
        else refuse s .state

/-- ALARM_CLEAR (R83). -/
def execAlarmClear (t : Txn) (slot : Byte) (s : State) : Out :=
  portCommand s t 0x33#8 1 fun s =>
    if t.port != .saf then refuse s .privilege
    else
      match idx? 2 slot with
      | none => refuse s .param
      | some k =>
        if s.slots[k].state = .idle then refuse s .state
        else okWith ((s.idleSlot k true).endAndRelease (progOfSlot k) .closed ⟨some (progOfSlot k), false⟩) []

/-- The voice source a frame names: an input channel IN0 to IN7, or a clip id with a repeat count of 1 to 255 (R87, R214). -/
inductive VoiceRequest where
  | input (ch : Fin 8)
  | clip (id : ClipId) (repeats : Nat)
  deriving DecidableEq, Repr

/-- The voice source read from the frame; none where it answers PARAM (R88, R214). -/
def voiceRequest? (source clip : Byte) (repeats : BitVec 16) : Option VoiceRequest :=
  match opt source, opt clip with
  | some n, none => if h : n < 8 then some (.input ⟨n, h⟩) else none
  | none, some _ =>
    match idx? 256 clip, repeats? repeats with
    | some id, some (some r) => some (.clip id r)
    | _, _ => none
  | _, _ => none

/-- The window opens: the generator is paused, the timer starts and the slot becomes VOICE (R88). -/
def State.openWindow (s : State) (k : Fin 2) (src : VoiceSource) : State :=
  let silenced := s.slots[k].state == .silenced
  let s1 := if silenced then s.parkTone k else s.onTone k Player.pause
  (s1.onSlot k fun a =>
    { a with state := .voice, window := some ⟨src, silenced, some (framesOfMs s.windowMs)⟩ }).raiseAlarm true

/-- A clip voice: the pool channel is bound, taken from a program if none is free, and started (R88, R134). -/
def State.openClipWindow (s : State) (k : Fin 2) (id : ClipId) (r : Nat) (ch : ChanId) (from? : Option ProgId) : State :=
  ((s.bindPool ch from? (.window k) id Cause.event).startChan ch (some r) .free).openWindow k (.clip id r ch)

/-- ALARM_VOICE_OPEN (R88). -/
def execAlarmVoiceOpen (t : Txn) (slot source clip : Byte) (repeats : BitVec 16) (s : State) : Out :=
  portCommand s t 0x34#8 5 fun s =>
    if t.port != .saf then refuse s .privilege
    else
      match idx? 2 slot, voiceRequest? source clip repeats with
      | some k, some req =>
        if s.slots[k].state ≠ .sounding ∧ s.slots[k].state ≠ .silenced then refuse s .state
        else
          match req with
          | .input n =>
            let s1 := s.openWindow k (.input n)
            okWith s1 (slotResult s1 k ++ outOpt8 none)
          | .clip id r =>
            match s.poolRequest id true with
            | .error e => refuse s e
            | .ok (ch, from?) =>
              let s1 := s.openClipWindow k id r ch from?
              okWith s1 (slotResult s1 k ++ out8 ch.val)
      | _, _ => refuse s .param

/-- ALARM_VOICE_CLOSE (R90). -/
def execAlarmVoiceClose (t : Txn) (slot : Byte) (s : State) : Out :=
  portCommand s t 0x35#8 1 fun s =>
    if t.port != .saf then refuse s .privilege
    else
      match idx? 2 slot with
      | none => refuse s .param
      | some k =>
        if s.slots[k].state ≠ .voice ∧ s.slots[k].state ≠ .voiceMixed then refuse s .state
        else
          let s1 := s.returnFromVoice k true
          okWith s1 (slotResult s1 k)

/-- SET_VOICE_WINDOW (R92). -/
def execSetVoiceWindow (t : Txn) (duration : BitVec 24) (s : State) : Out :=
  portCommand s t 0x36#8 3 fun s =>
    if t.port != .saf then refuse s .privilege
    else if inRange 10000 300000 duration.toNat then okWith { s with windowMs := duration.toNat } []
    else refuse s .param

/-- The position of a generator: step, repetition, phase and frames remaining; a stopped one has none and is sent as stopped
(R86, R212). -/
def positionFields (pl : Player) : List Byte :=
  if pl.cond = .stopped then outOpt8 none ++ outOpt8 none ++ outOpt8 none ++ out32 expiredField
  else out8 pl.step ++ out8 pl.rep ++ out8 (if pl.on then 0 else 1) ++ out32 pl.left

/-- The window fields: voice source, clip id, channel, return state and frames remaining (R86, R212). -/
def windowFields (w : Option VoiceWindow) : List Byte :=
  match w with
  | none => outOpt8 none ++ outOpt8 none ++ outOpt8 none ++ outOpt8 none ++ outOpt32 none
  | some w =>
    (match w.source with
      | .input n => out8 n.val ++ outOpt8 none ++ outOpt8 none
      | .clip id _ ch => outOpt8 none ++ out8 id.val ++ out8 ch.val) ++
    out8 (slotStateCode (if w.toSilence then .silenced else .sounding)) ++ out32 (w.timer.getD expiredField)

/-- READ_ALARM (R86). -/
def execReadAlarm (t : Txn) (slot : Byte) (s : State) : Out :=
  portCommand s t 0x37#8 1 fun s =>
    match idx? 2 slot with
    | none => refuse s .param
    | some k =>
      let a := s.slots[k]
      okWith s (out8 (slotStateCode a.state) ++ outOpt8 (a.pattern.map (·.val)) ++ positionFields s.tone[k] ++
        windowFields a.window ++ out24 s.windowMs ++ outFlag s.alarmActive)

/-- The step read from its raw fields after the clamping of R94; none where it is malformed. All ones is a number like any
other here, for no field of a step is optional (assumption log 29). -/
def RawStep.read (x : RawStep) : Option PatStep :=
  match waveform? x.waveform with
  | none => none
  | some w =>
    if inRange 10 10000 x.onTime.toNat && decide (x.offTime.toNat ≤ 10000) && inRange 1 16 x.repeats.toNat then
      some ⟨w, max 100 (min 6000 x.freqA.toNat), if w = .twoTone then max 100 (min 6000 x.freqB.toNat) else 0,
        clampGain x.level.toNat, x.onTime.toNat, x.offTime.toNat, x.repeats.toNat⟩
    else none

/-- Every element read, when each can be. -/
def readAll {α β : Type} (f : α → Option β) : List α → Option (List β)
  | [] => some []
  | x :: xs =>
    match f x, readAll f xs with
    | some y, some ys => some (y :: ys)
    | _, _ => none

/-- The pattern a LOAD_PATTERN frame describes; none where it is malformed (R93, R94). End action LOOP is 0, END is 1
(R213). -/
def patternOfFrame (endAction loopTarget : Byte) (steps : List RawStep) : Option Pattern :=
  match readAll RawStep.read steps with
  | none => none
  | some xs =>
    if !inRange 1 8 xs.length then none
    else if endAction.toNat = 1 then some ⟨xs, none⟩
    else if endAction.toNat = 0 ∧ inRange 1 xs.length loopTarget.toNat = true then some ⟨xs, some loopTarget.toNat⟩
    else none

/-- A pattern the port may load (R94). -/
def mayLoad (p : Port) (pat : PatId) : Bool :=
  (p == .saf && inRange 4 11 pat.val) || (p == .ann && inRange 12 15 pat.val)

/-- LOAD_PATTERN (R94). -/
def execLoadPattern (t : Txn) (pattern endAction loopTarget : Byte) (steps : List RawStep) (s : State) : Out :=
  portCommand s t 0x38#8 (4 + 14 * steps.length) fun s =>
    match idx? 16 pattern with
    | none => refuse s .param
    | some pat =>
      if !mayLoad t.port pat then refuse s .privilege
      else
        match patternOfFrame endAction loopTarget steps with
        | none => refuse s .param
        | some x =>
          if s.patternInUse pat then refuse s .busy
          else okWith { s with patterns := adjust s.patterns pat fun _ => x } []

/-- A stored step as READ_PATTERN sends it, 14 bytes (R214). -/
def stepResult (x : PatStep) : List Byte :=
  out8 (waveformCode x.waveform) ++ out16 x.freqA ++ out16 x.freqB ++ out16 x.level ++ out24 x.onTime ++ out24 x.offTime ++
  out8 x.repeats

/-- The end action and the loop target of a pattern; an empty pattern has neither (assumption log 25). -/
def endFields (p : Pattern) : List Byte :=
  if p.steps.isEmpty then outOpt8 none ++ outOpt8 none
  else
    match p.loop with
    | some k => out8 0 ++ out8 k
    | none => out8 1 ++ outOpt8 none

/-- READ_PATTERN (R95). -/
def execReadPattern (t : Txn) (pattern : Byte) (s : State) : Out :=
  portCommand s t 0x39#8 1 fun s =>
    match idx? 16 pattern with
    | none => refuse s .param
    | some pat =>
      let p := s.patterns[pat]
      okWith s (outFlag (s.patternInUse pat) ++ endFields p ++ out8 p.steps.length ++ p.steps.flatMap stepResult)

end Sys2Proof.Machine
end

