-- ==== Sys2Proof/Machine/StoreOps.lean ====
section
/-! DEFINITION. The clip directory and the load (sections 6.1 to 6.3), and the start-up scan's reading of an image block
(section 6.7). -/

namespace Sys2Proof.Machine

/-! ### Allocation (R122) -/

/-- The block range of an entry, first and last block; an EMPTY entry has none (R121, R122). -/
def DirEntry.range (e : DirEntry) : Option (Nat × Nat) :=
  match e.state, e.first, e.last with
  | .empty, _, _ => none
  | _, some f, some l => some (f, f + l)
  | _, _, _ => none

/-- The block ranges of every entry but the one left out. -/
def ClipEngine.ranges (c : ClipEngine) (skip : Option ClipId) : List (Nat × Nat) :=
  (List.finRange 256).filterMap fun id => if skip = some id then none else c.dir[id].range

/-- Blocks `b` to `b + n - 1` are data blocks and lie in no allocated range (R122). -/
def fits (rs : List (Nat × Nat)) (n b : Nat) : Bool :=
  decide (2 ≤ b) && decide (b + n ≤ 16384) && rs.all fun r => decide (r.2 < b) || decide (b + n ≤ r.1)

/-- First fit: the lowest-numbered block at which `n` blocks fit (R122). A lowest place is block 2 or stands right after an
allocated range, so only those are tried; that no lower block fits is a statement for the provers. -/
def firstFit (rs : List (Nat × Nat)) (n : Nat) : Option Nat :=
  ((2 :: rs.map fun r => r.2 + 1).filter (fits rs n)).min?

/-- Free blocks from `b` up to the next allocated range or the end of the store. -/
def freeRun (rs : List (Nat × Nat)) (b : Nat) : Nat :=
  (rs.filterMap fun r => if b ≤ r.1 then some r.1 else none).foldl min 16384 - b

/-- The lengths of the runs of free data blocks (R131). -/
def freeRuns (rs : List (Nat × Nat)) : List Nat :=
  (((2 :: rs.map fun r => r.2 + 1).eraseDups).filter (fits rs 1)).map (freeRun rs)

/-! ### The load (R124 to R128) -/

/-- The load buffer changed. -/
def Load.onBuf (l : Load) (b : BufId) (f : LoadBuf → LoadBuf) : Load :=
  match b with
  | .a => { l with bufA := f l.bufA }
  | .b => { l with bufB := f l.bufB }

def BufId.other : BufId → BufId
  | .a => .b
  | .b => .a

/-- Room left in the filling buffer. -/
def Load.room (l : Load) : Nat := Config.blockBytes - (l.buf l.filling).data.length

/-- Bytes that fit: the room of the filling buffer, and the other buffer where it is wholly empty (R125). -/
def Load.fitsBytes (l : Load) (n : Nat) : Bool :=
  decide (n ≤ l.room + if (l.buf l.filling.other).data.isEmpty then Config.blockBytes else 0)

/-- The bytes of an accepted LOAD_DATA placed in order; bytes that run past the end of the filling buffer go to the other
one, which becomes the filling buffer, destined for the next block (R125). -/
def Load.place (l : Load) (data : List Byte) : Load :=
  let n := l.room
  let l1 := l.onBuf l.filling fun b => { b with data := b.data ++ data.take n }
  let l2 :=
    if n < data.length then
      { l1.onBuf l.filling.other (fun _ => ⟨data.drop n, (l.buf l.filling).dest + 1⟩) with filling := l.filling.other }
    else l1
  { l2 with next := l.next + data.length, crc := crc16From l.crc data }

/-- The load context at LOAD_BEGIN (R124). The rule gives buffer B no destination; the model sets the entry's first block,
which nothing reads, for B gets its own when the first bytes enter it (DESIGN CHOICE; assumption log 40). -/
def Load.begun (id : ClipId) (length first : Nat) : Load :=
  { clip := id, total := length * Config.blockBytes, next := 0, crc := crc16Init, failed := false, ending := false,
    filling := .a, bufA := ⟨[], first⟩, bufB := ⟨[], first⟩ }

/-- The block an emptied buffer is destined for: the one after the last block that has bytes, its own or the other buffer's
where that holds any (R125, R126). -/
def Load.following (l : Load) (b : BufId) : Nat :=
  (if (l.buf b.other).data.isEmpty then (l.buf b).dest else (l.buf b.other).dest) + 1

/-- The buffer becomes empty at the completion of its programming step, destined for the next block of the clip, and is the
filling buffer if the other one is full; a failure sets the failed mark (R126). -/
def Load.programmed (l : Load) (b : BufId) (ok : Bool) : Load :=
  let l1 := l.onBuf b fun _ => ⟨[], l.following b⟩
  { l1 with filling := if Config.blockBytes ≤ (l.buf b.other).data.length then b else l.filling,
            failed := l.failed || !ok }

/-- The load is complete: ended, and its last programming step has completed (R127). -/
def Load.complete (l : Load) : Bool := l.ending && l.bufA.data.isEmpty && l.bufB.data.isEmpty

/-- The entry becomes READY when the check agrees and no step failed, DAMAGED otherwise; the load context is removed (R127). -/
def State.completeLoad (s : State) : State :=
  match s.clips.load with
  | none => s
  | some l =>
    if l.complete then
      (s.onClips fun c =>
        { c.onEntry l.clip (fun e =>
            { e with state := if e.check = some l.crc.toNat ∧ l.failed = false then .ready else .damaged }) with
          load := none }).raise .clip .ann
    else s

/-! ### Erasing (R130) -/

/-- An erased or damaged clip leaves the erase list (R130). -/
def State.leaveEraseList (s : State) (id : ClipId) (f : DirEntry → DirEntry) : State :=
  (s.onClips fun c => { c.onEntry id f with eraseList := c.eraseList.erase id, eraseFailed := false }).raise .clip .ann

/-- An erase step of the clip has completed (R130). -/
def State.eraseDone (s : State) (id : ClipId) (ok : Bool) : State :=
  let e := s.clips.dir[id]
  let pos := e.erasePos.getD 0
  if ok then
    if e.lastOffset ≤ pos then s.leaveEraseList id fun _ => DirEntry.empty
    else s.onClips fun c => { c.onEntry id (fun e => { e with erasePos := some (pos + 1) }) with eraseFailed := false }
  else if s.clips.eraseFailed then s.leaveEraseList id fun e => { e with state := .damaged, erasePos := none }
  else s.onClips fun c => { c with eraseFailed := true }

/-! ### The start-up scan (R144) -/

/-- A two-byte value of an image block, most significant byte first (R123). -/
def imageWord (data : List Byte) (i : Nat) : Nat := (byteAt data i ++ byteAt data (i + 1) : BitVec 16).toNat

/-- An optional two-byte field of a stored record: all ones is absent (R123). -/
def imageOpt (data : List Byte) (i : Nat) : Option Nat := if imageWord data i = 0xFFFF then none else some (imageWord data i)

/-- The check stored with the records agrees with them (R123, R144). -/
def imageAgrees (data : List Byte) : Bool := (crc16From crc16Init (data.take 3328)).toNat == imageWord data 3328

/-- Numbers in strictly rising order, none above `hi`. -/
def risingTo (hi : Nat) : List Nat → Bool
  | [] => true
  | [a] => decide (a ≤ hi)
  | a :: b :: rest => decide (a < b) && risingTo hi (b :: rest)

/-- The state a stored record names; none when it is unknown (R123). -/
def clipState? (n : Nat) : Option ClipState :=
  match n with
  | 0 => some .empty
  | 1 => some .loading
  | 2 => some .ready
  | 3 => some .erasing
  | 4 => some .damaged
  | _ => none

/-- What the scan makes of one stored record (R144): none is a rejected record. `rs` are the ranges accepted before it. The
flag says that a record found LOADING is taken as DAMAGED. -/
def scanEntry (rs : List (Nat × Nat)) (data : List Byte) (at0 : Nat) : Option (DirEntry × Bool) :=
  match clipState? (byteAt data at0).toNat with
  | none => none
  | some .empty => some (DirEntry.empty, false)
  | some st =>
    let first := imageWord data (at0 + 1)
    let last := imageWord data (at0 + 3)
    let loop := imageOpt data (at0 + 5)
    let count := (byteAt data (at0 + 7)).toNat
    let marks := (List.range (min count 8)).map fun i => imageWord data (at0 + 8 + 2 * i)
    if decide (first < 2) || decide (Config.lastBlock < first + last) || decide (8 < count) || !risingTo last marks ||
        !loop.all (fun k => decide (k ≤ last)) || rs.any (fun r => decide (first ≤ r.2) && decide (r.1 ≤ first + last)) then none
    else
      some ({ state := if st = .loading then .damaged else st, first := some first, last := some last, loop := loop,
              marks := marks, check := some (imageWord data (at0 + 24)),
              erasePos := if st = .erasing then some 0 else none }, st == .loading)

/-- The dirty flag of an image block set. -/
def ClipEngine.soil (c : ClipEngine) (img : Fin 2) : ClipEngine := { c with dirty := adjust c.dirty img fun _ => true }

/-- One record of an image block taken into its entry (R144). -/
def ClipEngine.scanRecord (c : ClipEngine) (img : Fin 2) (data : List Byte) (id : ClipId) : ClipEngine :=
  match scanEntry (c.ranges (some id)) data (26 * (id.val % 128)) with
  | none => { c.soil img with dir := adjust c.dir id fun _ => DirEntry.empty }
  | some (e, wasLoading) =>
    let c1 := if wasLoading then c.soil img else c
    { c1 with dir := adjust c.dir id fun _ => e,
              eraseList := if e.state = .erasing then c.eraseList ++ [id] else c.eraseList }

/-- The records of an image block taken in ascending clip id (R144). -/
def ClipEngine.scanImage (c : ClipEngine) (img : Fin 2) (data : List Byte) : ClipEngine :=
  (imageIds img).foldl (fun c id => c.scanRecord img data id) c

/-- An image block is lost: its entries are EMPTY and its dirty flag is set (R144). -/
def ClipEngine.loseImage (c : ClipEngine) (img : Fin 2) : ClipEngine :=
  { c.soil img with dir := remap c.dir fun id e => if id.val / 128 = img.val then DirEntry.empty else e }

/-- The image block is dealt with: the scan goes on to block 1, or completes with a CLIP notice (R144). -/
def State.scanOn (s : State) (sc : Scan) : State :=
  if sc.img = 0 then s.onClips fun c => { c with scan := some ⟨1, 0, sc.lost⟩ }
  else
    (s.onClips fun c => { c with scan := none, scanOutcome := some (if sc.lost then .doneWithLoss else .done) }).raise
      .clip .ann

/-- A scan read has completed, with the block's bytes or with a failure (R144). -/
def State.scanReadDone (s : State) (data : Option (List Byte)) : State :=
  match s.clips.scan with
  | none => s
  | some sc =>
    match data.filter imageAgrees with
    | some d => (s.onClips fun c => c.scanImage sc.img d).scanOn sc
    | none =>
      if sc.failures < 3 then s.onClips fun c => { c with scan := some { sc with failures := sc.failures + 1 } }
      else (s.onClips fun c => c.loseImage sc.img).scanOn { sc with lost := true }

/-! ### A report of the store (R120) -/

/-- The operation on the link that a report numbered `no` ends; a report for any other operation is disregarded (R120). -/
def State.linkOp (s : State) (no : Nat) : Option StoreOp :=
  match s.clips.link with
  | none => none
  | some l => if l.no = no ∧ s.resetLeft = none then some l.op else none

/-- The link is free again. -/
def State.freeLink (s : State) : State := s.onClips fun c => { c with link := none }

/-- A directory step has completed; a failure sets the flag again (R123). -/
def State.directoryDone (s : State) (img : Fin 2) (ok : Bool) : State := if ok then s else s.onClips fun c => c.soil img

/-- A programming step has completed; one withdrawn by LOAD_ABANDON is disregarded (R126, R128). -/
def State.programmingDone (s : State) (b : BufId) (discard ok : Bool) : State :=
  if discard then s
  else (s.onClips fun c => { c with load := c.load.map fun l => l.programmed b ok }).completeLoad

end Sys2Proof.Machine
end

