-- ==== Sys2Proof/Machine/ClipCommands.lean ====
section
/-! DEFINITION. Meanings of the clip engine's commands (sections 6.2 to 6.4 and 6.6). -/

namespace Sys2Proof.Machine

/-- The marks of a LOAD_BEGIN are well formed (R124). -/
def marksOk (length : Nat) (marks : List Nat) : Bool := decide (marks.length ≤ 8) && risingTo (length - 1) marks

/-- LOAD_BEGIN accepted: the entry is LOADING in its new blocks and the load context is set up (R124). -/
def State.beginLoad (s : State) (id : ClipId) (length : Nat) (loop : Option Nat) (check : Nat) (marks : List Nat)
    (first : Nat) : State :=
  s.onClips fun c =>
    { c.onEntry id (fun _ =>
        { state := .loading, first := some first, last := some (length - 1), loop := loop, marks := marks,
          check := some check, erasePos := none }) with
      load := some (Load.begun id length first) }

/-- LOAD_BEGIN (R124). -/
def execLoadBegin (t : Txn) (clip : Byte) (length loop check : BitVec 16) (marks : List (BitVec 16)) (s : State) : Out :=
  portCommand s t 0x40#8 (8 + 2 * marks.length) fun s =>
    if t.port != .ann then refuse s .privilege
    else if s.alarmActive then refuse s .alarmActive
    else if s.clips.scan.isSome then refuse s .notReady
    else
      match idx? 256 clip with
      | none => refuse s .param
      | some id =>
        let n := length.toNat
        let ms := marks.map (·.toNat)
        if !inRange 1 16384 n || !optInRange 0 (n - 1) (opt loop) || !marksOk n ms then refuse s .param
        else
          let e := s.clips.dir[id]
          if s.clips.load.isSome || e.state == .loading || e.state == .ready || e.state == .erasing then refuse s .busy
          else
            match firstFit (s.clips.ranges (some id)) n with
            | none => refuse s .full
            | some b => okWith (s.beginLoad id n (opt loop) check.toNat ms b) (out16 b)

/-- The next expected offset that every answer to LOAD_DATA carries; absent with no load in progress (R125; assumption
log 19). -/
def State.nextOffset (s : State) : List Byte := outOpt32 (s.clips.load.map (·.next))

/-- LOAD_DATA (R125). -/
def execLoadData (t : Txn) (offset : BitVec 32) (data : List Byte) (s : State) : Out :=
  portCommand s t 0x41#8 (5 + data.length) fun s =>
    if t.port != .ann then (s, .privilege, s.nextOffset)
    else
      match s.clips.load with
      | none => (s, .state, s.nextOffset)
      | some l =>
        if l.ending then (s, .state, s.nextOffset)
        else if !inRange 1 240 data.length || offset.toNat != l.next || decide (l.total < l.next + data.length) then
          (s, .param, s.nextOffset)
        else if !l.fitsBytes data.length then (s, .busy, s.nextOffset)
        else
          let s1 := s.onClips fun c => { c with load := some (l.place data) }
          okWith s1 s1.nextOffset

/-- LOAD_END (R127). -/
def execLoadEnd (t : Txn) (s : State) : Out :=
  portCommand s t 0x42#8 0 fun s =>
    if t.port != .ann then refuse s .privilege
    else
      match s.clips.load with
      | none => refuse s .state
      | some l =>
        if l.ending then refuse s .state
        else if l.next ≠ l.total then refuse s .param
        else ((s.onClips fun c => { c with load := some { l with ending := true } }).completeLoad, .accepted, [])

/-- A programming step already started is left to be disregarded (R128). -/
def StoreOp.dropProgram (op : StoreOp) : StoreOp :=
  match op with
  | .programBlock b n d _ => .programBlock b n d true
  | .scanRead i => .scanRead i
  | .fetch c o p b d => .fetch c o p b d
  | .directory i b => .directory i b
  | .erase c b => .erase c b

/-- LOAD_ABANDON (R128). -/
def execLoadAbandon (t : Txn) (s : State) : Out :=
  portCommand s t 0x43#8 0 fun s =>
    if t.port != .ann then refuse s .privilege
    else
      match s.clips.load with
      | none => refuse s .state
      | some l =>
        okWith (s.onClips fun c =>
          { (c.onEntry l.clip fun e => { e with state := .damaged }).onOp StoreOp.dropProgram with load := none }) []

/-- Some channel is bound to the clip (R129). -/
def State.clipBound (s : State) (id : ClipId) : Bool := (List.finRange 8).any fun ch => s.chans[ch].clip == some id

/-- ERASE_CLIP (R129). -/
def execEraseClip (t : Txn) (clip : Byte) (s : State) : Out :=
  portCommand s t 0x44#8 1 fun s =>
    if t.port != .ann then refuse s .privilege
    else if s.alarmActive then refuse s .alarmActive
    else if s.clips.scan.isSome then refuse s .notReady
    else
      match idx? 256 clip with
      | none => refuse s .param
      | some id =>
        let e := s.clips.dir[id]
        if e.state = .empty then refuse s .state
        else if e.state == .loading || e.state == .erasing || s.clipBound id then refuse s .busy
        else
          (s.onClips fun c =>
            { c.onEntry id (fun e => { e with state := .erasing, erasePos := some 0 }) with
              eraseList := c.eraseList ++ [id] }, .accepted, [])

/-- The set of channels bound to a clip, one bit per channel (R212). -/
def State.boundSet (s : State) (id : ClipId) : List Byte :=
  out8 ((List.finRange 8).foldl (fun n ch => if s.chans[ch].clip = some id then n + 2 ^ ch.val else n) 0)

/-- The fields of READ_CLIP that only a LOADING entry has. -/
def loadFields (l : Option Load) : List Byte :=
  match l with
  | none => outOpt32 none ++ outOpt8 none ++ outOpt8 none
  | some l => out32 l.next ++ outFlag l.ending ++ outFlag l.failed

/-- The results of READ_CLIP, in the order of R212. An EMPTY entry sends the mark count 0 and no marks (DEDUCED; assumption
log 24). -/
def clipResults (s : State) (id : ClipId) : List Byte :=
  let e := s.clips.dir[id]
  let runs := freeRuns (s.clips.ranges none)
  out8 id.val ++ out8 (clipStateCode e.state) ++ outOpt16 e.first ++ outOpt16 e.last ++ outOpt16 e.loop ++
  out8 e.marks.length ++ e.marks.flatMap out16 ++ outOpt16 e.check ++ s.boundSet id ++
  loadFields (s.clips.load.filter fun l => l.clip == id) ++ outOpt16 e.erasePos ++
  outOpt8 (s.clips.eraseList.findIdx? (· == id)) ++ out16 runs.sum ++ out16 (runs.foldl max 0) ++
  outOpt8 (s.clips.scanOutcome.map scanCode)

/-- READ_CLIP (R131). -/
def execReadClip (t : Txn) (clip : Byte) (s : State) : Out :=
  portCommand s t 0x45#8 1 fun s =>
    if s.clips.scan.isSome then refuse s .notReady
    else
      match idx? 256 clip with
      | none => refuse s .param
      | some id => okWith s (clipResults s id)

/-- User kind and user number of a channel (R212 to R214). -/
def userFields (u : Option ChanUser) : List Byte :=
  match u with
  | none => outOpt8 none ++ outOpt8 none
  | some (.prog p) => out8 0 ++ out8 p.val
  | some (.window k) => out8 1 ++ out8 k.val
  | some .cue => out8 2 ++ outOpt8 none

/-- Offset of the block playing and the sample within it; absent when no block plays (assumption log 23). A block that has
been taken to begin in the next frame counts as the one playing, at sample 0 (DESIGN CHOICE; assumption log 44). -/
def cursorFields (c : Cursor) : List Byte :=
  match c with
  | .playing b k => if k < Config.blockSamples then out16 b.offset ++ out16 k else outOpt16 none ++ outOpt16 none
  | .none | .toBegin _ => outOpt16 none ++ outOpt16 none

/-- Offset and pass of the next fetch. -/
def nextFetchFields (f : Option (Nat × Nat)) : List Byte :=
  match f with
  | none => outOpt16 none ++ outOpt16 none
  | some (o, p) => out16 o ++ outCount16 p

/-- The results of READ_CHANNEL, in the order of R214. The underrun count is sent in the two bytes of a counter, for R133 lets
it reach 65,535 (DEDUCED; assumption log 41). A fetch that is to be discarded is reported as in progress (DEDUCED; assumption
log 26). -/
def channelResults (s : State) (ch : ChanId) : List Byte :=
  let c := s.chans[ch]
  out8 ch.val ++ out8 (chanStateCode c.state) ++ userFields c.user ++ outOpt8 (c.clip.map (·.val)) ++ cursorFields c.cursor ++
  out16 c.remaining ++ out8 (if c.hold then 1 else 0) ++ out8 (triggerCode c.trigger) ++ outOpt8 (c.pause.map pauseCode) ++
  outRepeats c.repeats ++ out8 c.ahead.length ++ nextFetchFields c.nextFetch ++ out16 c.underrun ++
  out8 (if s.fetching ch then 2 else if (s.fetchWanted ch).isSome then 1 else 0)

/-- READ_CHANNEL (R143). -/
def execReadChannel (t : Txn) (channel : Byte) (s : State) : Out :=
  portCommand s t 0x46#8 1 fun s =>
    match idx? 8 channel with
    | none => refuse s .param
    | some ch => okWith s (channelResults s ch)

end Sys2Proof.Machine
end

