-- ==== Sys2Proof/Machine/CueOps.lean ====
section
/-! DEFINITION. Executing a cue (section 8.4): the actions of the first part, the synchronized start, the end of an execution,
and the follow countdown. `quiet` says that a cue command makes the change, whose response reports it (R187). -/

namespace Sys2Proof.Machine

/-! ### The list -/

/-- The cue of a number. -/
def CueEngine.find (c : CueEngine) (n : Nat) : Option Cue := c.cues.find? fun q => q.number == n

/-- The next cue after number `n` in the list as it stands (R169). -/
def nextCue (cues : List Cue) (n : Nat) : Option Nat := (cues.find? fun q => decide (n < q.number)).map (·.number)

/-! ### Route programs (R172, R176) -/

/-- A claim manager operation of the cue engine. Route programs answer to no command that names them, so each change of one
raises its PROGRAM notice (R172). -/
def cueCause (quiet : Bool) : Cause := ⟨none, quiet⟩

/-- A fault of action `i` (R177). -/
def State.cueFault (s : State) (i : Nat) (f : CueFault) : State := s.onCue fun c => { c with faults := c.faults ++ [(i, f)] }

/-- The record of a route program (R172). The start value, duration and step of its gain at rest are the model's (DESIGN
CHOICE; assumption log 8). -/
def routeRecord (slot : Fin 8) (bed : Bool) (src : Nat) : Program :=
  { Program.free with owner := .shw, kind := if bed then .bed else .showSound, cls := if bed then 6 else 5,
                      source := some src, policy := .takeAvailable, gain := Ramp.still unity, routeSlot := some slot,
                      state := .pending }

/-- The slot's reference to a program of one part set. -/
def RouteSlot.refer (r : RouteSlot) (bed : Bool) (p : ProgId) : RouteSlot :=
  if bed then { r with bedProg := some p } else { r with showProg := some p }

/-- The slot's program of one part. -/
def RouteSlot.part (r : RouteSlot) (bed : Bool) : Option ProgId := if bed then r.bedProg else r.showProg

/-- NO_ZONES is a fault when the program ended within the action (R177). -/
def State.zonesFault (s : State) (i : Nat) (p : ProgId) : State :=
  if s.progs[p].state = .ended then s.cueFault i .noZones else s

/-- A route program is opened as an open from the show port (R40, R41, R176). -/
def State.openRoute (s : State) (quiet : Bool) (i : Nat) (slot : Fin 8) (bed : Bool) (src : Nat) (zs : ZoneSet) : State :=
  match s.allocate 4 with
  | none => s.cueFault i .full
  | some p =>
    let s1 := (s.takeRecord p (routeRecord slot bed src)).onCue fun c => c.onRoute slot fun r => r.refer bed p
    (State.claimOpened s s1 p zs (cueCause quiet)).zonesFault i p

/-- The zones of a route program changed: zones of the set are claimed first, then the others of its request are dropped
(R176). -/
def State.changeRoute (s : State) (quiet : Bool) (i : Nat) (p : ProgId) (zs : ZoneSet) : State :=
  let s1 := s.addZonesTo p zs (cueCause quiet)
  let drop := s1.progs[p].requested &&& ~~~zs
  (if drop = 0#64 then s1 else s1.dropZonesOf p drop (cueCause quiet)).zonesFault i p

/-- A route program, where there is one, closed CLOSED with its release step (R176). -/
def State.closeRoute (s : State) (quiet : Bool) (p : Option ProgId) : State :=
  match p with
  | none => s
  | some p => s.endAndRelease p .closed (cueCause quiet)

/-- A slot's program of one part is to play source `src` in the zones `zs` (R176). -/
def State.setRoute (s : State) (quiet : Bool) (i : Nat) (slot : Fin 8) (bed : Bool) (src : Nat) (zs : ZoneSet) : State :=
  match s.cue.slots[slot].part bed with
  | none => s.openRoute quiet i slot bed src zs
  | some p =>
    if s.progs[p].source = some src then s.changeRoute quiet i p zs
    else (s.closeRoute quiet (some p)).openRoute quiet i slot bed src zs

/-- A slot's programs closed, each with its release step, and the slot emptied (R176, R184). SHOW is closed before BED, where
the rules give no order (DESIGN CHOICE; assumption log 11). -/
def State.emptyRoute (s : State) (quiet : Bool) (slot : Fin 8) : State :=
  let s1 := s.closeRoute quiet s.cue.slots[slot].showProg
  let s2 := s1.closeRoute quiet s1.cue.slots[slot].bedProg
  s2.onCue fun c => c.onRoute slot fun _ => RouteSlot.empty

/-! ### Actions (R176 to R178) -/

/-- A play request to the clip engine; none where it answers NOT_READY (R142). -/
def State.playShow (s : State) (k : Fin 4) (id : ClipId) (tr : Trigger) (n : Option Nat) : Option State :=
  if s.clipReady id then
    some (((s.stopShow (showChan k)).onChan (showChan k) fun c => { c with clip := some id }).startChan (showChan k) n tr)
  else none

/-- An action of the first part takes effect; a PLAY waits for the end of the first part (R176, R177). -/
def State.runAction (s : State) (quiet : Bool) (i : Nat) (a : CueAction) : State :=
  match a with
  | .route slot src zs =>
    (s.setRoute quiet i slot false src zs).onCue fun c => c.onRoute slot fun r => { r with source := some src }
  | .unroute slot => s.emptyRoute quiet slot
  | .bed slot zs =>
    match s.cue.slots[slot].source with
    | none => s.cueFault i .noSource
    | some src => s.setRoute quiet i slot true src zs
  | .fade slot part target duration st =>
    match s.cue.slots[slot].part (part == .bedPart) with
    | none => s.cueFault i .noProgram
    | some p => s.onProg p fun g => { g with gain := g.gain.retarget st target duration }
  | .play _ _ _ _ => s
  | .stop k => s.stopShow (showChan k)
  | .step k =>
    match s.stepChan (showChan k) with
    | none => s.cueFault i .notAtMark
    | some s1 => s1

/-- A PLAY is handed to the clip engine; its channel enters the start set as awaited (R178), at the end.
The manual gives the set no order; that it is held in the order of the PLAY actions, and so sent by READ_CUE_ENGINE, is a
DESIGN CHOICE (assumption log 18). -/
def State.runPlay (s : State) (i : Nat) (a : CueAction) : State :=
  match a with
  | .play k id tr n =>
    match s.playShow k id tr n with
    | none => s.cueFault i .notReady
    | some s1 => s1.onCue fun c => { c with startSet := c.startSet ++ [(k, false)] }
  | .route _ _ _ | .unroute _ | .bed _ _ | .fade _ _ _ _ _ | .stop _ | .step _ => s

/-- The actions with their indexes, counted from 1 (assumption log 18). -/
def Cue.indexed (q : Cue) : List (Nat × CueAction) := q.actions.zipIdx.map fun x => (x.2 + 1, x.1)

/-- The first part of an execution: every action but the PLAYs in order, then the PLAYs; with a start set the priming bound
starts (R176 to R178). A takeover report meanwhile finds the engine as in PRIMING (assumption log 22). -/
def State.firstPart (s : State) (q : Cue) (quiet : Bool) : State :=
  let s1 := s.onCue fun c =>
    { c with state := .priming, executing := some q.number, countdown := none, startSet := [], faults := [] }
  let s2 := q.indexed.foldl (fun s x => s.runAction quiet x.1 x.2) s1
  let s3 := q.indexed.foldl (fun s x => s.runPlay x.1 x.2) s2
  if s3.cue.startSet.isEmpty then s3
  else s3.onCue fun c => { c with bound := some (framesOfMs Config.primingBoundMs) }

/-- A countdown that has run out, or a follow delay of 0, is withheld while an alarm is active (R180). -/
def State.withhold (s : State) (quiet : Bool) : State := (s.onCue fun c => { c with state := .standby }).raiseCue quiet

/-- The state steps 3 and 4 of R179 give, for the return state of a hold. -/
def afterExecution (delay : Option Nat) (standby : Option Nat) : EngineState :=
  match delay, standby with
  | some _, _ => .following
  | none, some _ => .standby
  | none, none => .finished

/-- The record of an execution that ends: the standby pointer moves to the next cue, and the last result takes the execution's
LATE mark and faults (R179). A running priming bound has expired where the start is LATE and stops otherwise (R178). -/
def CueEngine.concluded (c : CueEngine) (n : Nat) (late : Bool) : CueEngine :=
  { c with standby := nextCue c.cues n, executing := none, startSet := [], bound := none,
           boundExpired := if c.bound.isSome then late else c.boundExpired,
           last := some ⟨n, late, c.faults.length, c.faults.head?⟩, faults := [] }

/-- The follow delay that counts at the end of cue `n`: one on the last cue of the list starts no countdown (R179). -/
def CueEngine.followOf (c : CueEngine) (n : Nat) : Option Nat :=
  if (nextCue c.cues n).isSome then (c.find n).bind (·.follow) else none

/-- An execution ends (R179). A follow delay of 0 executes the standby cue in the same step; each such cue has a higher
number than the one before, so the 64 places of the list bound the chain, which `fuel` counts. -/
def State.endExecution (fuel : Nat) (s : State) (late quiet : Bool) : State :=
  match s.cue.executing with
  | none => s
  | some n =>
    let delay := s.cue.followOf n
    let next := nextCue s.cue.cues n
    let s1 := s.onCue fun c => c.concluded n late
    if s.cue.holdPending then
      (s1.onCue fun c =>
        { c with holdPending := false, countdown := delay.map fun d => ⟨framesOfMs d, true⟩ }).enterHeld
        (afterExecution delay next) quiet
    else
      match delay with
      | none => s1.onCue fun c => { c with state := afterExecution none next }
      | some (d + 1) => s1.onCue fun c => { c with state := .following, countdown := some ⟨framesOfMs (d + 1), false⟩ }
      | some 0 =>
        if s.alarmActive then s1.withhold quiet
        else
          match fuel, next.bind s1.cue.find with
          | fuel + 1, some q =>
            let s2 := (s1.firstPart q quiet).raiseCue quiet
            if s2.cue.startSet.isEmpty then State.endExecution fuel s2 false quiet else s2
          | 0, _ | _, none => s1.onCue fun c => { c with state := afterExecution none next }

/-- The standby cue is executed (R175, R178). -/
def State.executeStandby (s : State) (quiet : Bool) : State :=
  match s.cue.standby.bind s.cue.find with
  | none => s
  | some q =>
    let s1 := s.firstPart q quiet
    if s1.cue.startSet.isEmpty then s1.endExecution Config.maxCues false quiet else s1

/-- The follow countdown has run out (R180). -/
def State.followDone (s : State) (quiet : Bool) : State :=
  let s1 := s.onCue fun c => { c with countdown := none }
  if s.alarmActive then s1.withhold quiet else (s1.executeStandby quiet).raiseCue quiet

/-! ### The synchronized start (R178) -/

/-- The go is given to every channel of the start set in one step, and the execution ends with a CUE notice (R178, R187). -/
def State.giveGo (s : State) (late : Bool) : State :=
  let s1 := s.cue.startSet.foldl (fun s m => s.goChan (showChan m.1)) s
  (s1.endExecution Config.maxCues late false).raiseCue false

/-- Show channel k reports that it is primed (R178). -/
def State.reportPrimed (s : State) (k : Fin 4) : State :=
  let set := s.cue.startSet.map fun m => if m.1 = k then (m.1, true) else m
  let s1 := s.onCue fun c => { c with startSet := set }
  if s.cue.state = .priming ∧ !set.isEmpty ∧ set.all (·.2) then s1.giveGo false else s1

end Sys2Proof.Machine
end

