-- ==== Sys2Proof/Machine/CueCommands.lean ====
section
/-! DEFINITION. Meanings of the show cue engine's commands (sections 8.1 and 8.3 to 8.7). -/

namespace Sys2Proof.Machine

/-! ### Actions as they stand in a frame (R214) -/

/-- A ROUTE source: IN8 to IN15, or show channel 0 to 3 by its identifier 52 to 55 (R10, R214). -/
def routeSource? (x : Byte) : Option Nat := if inRange 8 15 x.toNat || inRange 52 55 x.toNat then some x.toNat else none

/-- A zone set that is not empty. -/
def someZones (zs : ZoneSet) : Option ZoneSet := if zs = 0#64 then none else some zs

/-- The eleven bytes of an action read by its kind; none for a value the kind does not allow (R170, R214). The first of the
ten field bytes is the most significant. -/
def RawAction.read (x : RawAction) : Option CueAction :=
  let b (i : Nat) : Byte := (put80 x.fields).getD i 0#8
  match x.kind.toNat with
  | 0 => do
    let slot ← idx? 8 (b 0)
    let src ← routeSource? (b 1)
    let zs ← someZones (b 9 ++ b 8 ++ b 7 ++ b 6 ++ b 5 ++ b 4 ++ b 3 ++ b 2)
    return .route slot src zs
  | 1 => do
    let slot ← idx? 8 (b 0)
    return .unroute slot
  | 2 => do
    let slot ← idx? 8 (b 0)
    let zs ← someZones (b 8 ++ b 7 ++ b 6 ++ b 5 ++ b 4 ++ b 3 ++ b 2 ++ b 1)
    return .bed slot zs
  | 3 => do
    let slot ← idx? 8 (b 0)
    let part ← cuePart? (b 1)
    let st ← staged? (b 7)
    return .fade slot part (clampGain (b 2 ++ b 3 : BitVec 16).toNat)
      (min Config.maxRampMs (b 4 ++ b 5 ++ b 6 : BitVec 24).toNat) st
  | 4 => do
    let k ← idx? 4 (b 0)
    let id ← idx? 256 (b 1)
    let tr ← trigger? (b 2)
    let n ← repeats? (b 3 ++ b 4)
    return .play k id tr n
  | 5 => do
    let k ← idx? 4 (b 0)
    return .stop k
  | 6 => do
    let k ← idx? 4 (b 0)
    return .step k
  | _ => none

/-- The show channels an action plays on. -/
def CueAction.plays (a : CueAction) : List (Fin 4) :=
  match a with
  | .play k _ _ _ => [k]
  | .route _ _ _ | .unroute _ | .bed _ _ | .fade _ _ _ _ _ | .stop _ | .step _ => []

/-- The cue a LOAD_CUE frame describes; none where it answers PARAM (R170). -/
def cueOfFrame (number : BitVec 16) (follow : BitVec 24) (actions : List RawAction) : Option Cue :=
  match readAll RawAction.read actions with
  | none => none
  | some xs =>
    if inRange 1 9999 number.toNat && optInRange 0 600000 (opt follow) && inRange 1 8 xs.length &&
        decide (xs.flatMap CueAction.plays).Nodup then some ⟨number.toNat, opt follow, xs⟩
    else none

/-! ### Editing the list (R170, R171) -/

/-- The list with a cue put at its place in number order, in place of one of the same number (R170). -/
def insertCue (q : Cue) : List Cue → List Cue
  | [] => [q]
  | x :: rest =>
    if q.number < x.number then q :: x :: rest
    else if q.number = x.number then q :: rest
    else x :: insertCue q rest

/-- The engine after a LOAD_CUE (R170). -/
def CueEngine.load (c : CueEngine) (q : Cue) : CueEngine :=
  let c1 := { c with cues := insertCue q c.cues }
  if c.state = .empty then { c1 with state := .standby, standby := some q.number }
  else if c.state = .held ∧ c.ret = some .empty then { c1 with standby := some q.number, ret := some .standby }
  else c1

/-- The number is that of the cue now being executed in PRIMING (R170, R171). -/
def CueEngine.executes (c : CueEngine) (n : Nat) : Bool := c.state == .priming && c.executing == some n

/-- LOAD_CUE (R170). -/
def execLoadCue (t : Txn) (number : BitVec 16) (follow : BitVec 24) (actions : List RawAction) (s : State) : Out :=
  portCommand s t 0x60#8 (6 + 11 * actions.length) fun s =>
    if t.port != .shw then refuse s .privilege
    else
      match cueOfFrame number follow actions with
      | none => refuse s .param
      | some q =>
        if s.cue.executes q.number then refuse s .busy
        else if (s.cue.find q.number).isNone && decide (Config.maxCues ≤ s.cue.cues.length) then refuse s .full
        else
          let s1 := s.onCue fun c => c.load q
          okWith s1 (out8 s1.cue.cues.length)

/-- An engine state when the standby cue is deleted with no next cue (R171). -/
def EngineState.lost (e : EngineState) : EngineState :=
  match e with
  | .standby | .following => .finished
  | .empty | .priming | .held | .finished => e

/-- The engine after the cue of number `n` has left the list (R171). -/
def CueEngine.delete (c : CueEngine) (n : Nat) : CueEngine :=
  let left := c.cues.filter fun q => q.number != n
  let c1 := { c with cues := left }
  let c2 :=
    if c.standby = some n then
      match nextCue left n with
      | some m => { c1 with standby := some m }
      | none => { c1 with standby := none, countdown := none, state := c.state.lost, ret := c.ret.map EngineState.lost }
    else c1
  if left.isEmpty then
    let c3 := { c2 with standby := none, countdown := none }
    if c.state = .held then { c3 with ret := some .empty } else { c3 with state := .empty }
  else c2

/-- The two results of the commands that move the standby pointer. -/
def standbyResults (s : State) : List Byte := out8 (engineCode s.cue.state) ++ outOpt16 s.cue.standby

/-- DELETE_CUE (R171). -/
def execDeleteCue (t : Txn) (number : BitVec 16) (s : State) : Out :=
  portCommand s t 0x61#8 2 fun s =>
    if t.port != .shw then refuse s .privilege
    else if !inRange 1 9999 number.toNat then refuse s .param
    else if (s.cue.find number.toNat).isNone then refuse s .notFound
    else if s.cue.executes number.toNat then refuse s .busy
    else
      let s1 := s.onCue fun c => c.delete number.toNat
      okWith s1 (standbyResults s1)

/-! ### Running the engine (R174, R175, R183, R184) -/

/-- CUE_STANDBY (R174). -/
def execCueStandby (t : Txn) (number : BitVec 16) (s : State) : Out :=
  portCommand s t 0x62#8 2 fun s =>
    if t.port != .shw then refuse s .privilege
    else if !inRange 1 9999 number.toNat then refuse s .param
    else if s.cue.state = .priming ∨ s.cue.state = .held then refuse s .state
    else if (s.cue.find number.toNat).isNone then refuse s .notFound
    else
      let s1 := s.onCue fun c => { c with standby := some number.toNat, countdown := none, state := .standby }
      okWith s1 (standbyResults s1)

/-- The results of CUE_GO: the cue executed and its faults, and the engine state at the end of the step (R175; assumption
log 21). -/
def goResults (s : State) (n : Nat) (faults : List (Nat × CueFault)) : List Byte :=
  out16 n ++ out8 (engineCode s.cue.state) ++ out8 faults.length ++ outOpt8 (faults.head?.map (·.1)) ++
  outOpt8 (faults.head?.map fun f => faultCode f.2)

/-- CUE_GO (R175). -/
def execCueGo (t : Txn) (s : State) : Out :=
  portCommand s t 0x63#8 0 fun s =>
    if t.port != .shw then refuse s .privilege
    else if s.alarmActive then refuse s .alarmActive
    else if s.cue.state = .priming then refuse s .busy
    else if s.cue.state ≠ .standby ∧ s.cue.state ≠ .following then refuse s .state
    else
      match s.cue.standby.bind s.cue.find with
      | none => refuse s .state
      | some q =>
        let s1 := s.firstPart q true
        let s2 := if s1.cue.startSet.isEmpty then s1.endExecution Config.maxCues false true else s1
        okWith s2 (goResults s2 q.number s1.cue.faults)

/-- The engine as it resumes: its return state, and its countdown running again (R183). -/
def CueEngine.resumed (c : CueEngine) (e : EngineState) : CueEngine :=
  { c with state := e, ret := none, countdown := c.countdown.map fun d => { d with frozen := false } }

/-- CUE_RESUME (R183). -/
def execCueResume (t : Txn) (s : State) : Out :=
  portCommand s t 0x64#8 0 fun s =>
    if t.port != .shw then refuse s .privilege
    else if s.cue.state ≠ .held ∨ s.clearToResume = false then refuse s .state
    else
      let s1 := (s.onCue fun c => c.resumed (c.ret.getD .standby)).gateShow false
      let s2 := if s.cue.countdown.map (·.left) = some 0 then s1.followDone true else s1
      okWith s2 (out8 (engineCode s2.cue.state))

/-- The engine at the end of a CUE_STOP_ALL, which removes the priming bound: it has not expired (R184; assumption log 23). -/
def CueEngine.stopped (c : CueEngine) : CueEngine :=
  let c1 := { c with bound := none, boundExpired := false, countdown := none, holdPending := false, executing := none,
                     ret := none, startSet := [], faults := [] }
  match c.cues with
  | [] => { c1 with state := .empty }
  | q :: _ => { c1 with state := .standby, standby := some (c.standby.getD q.number) }

/-- CUE_STOP_ALL (R184). The route slots are emptied in ascending number, the SHOW program of each before its BED program,
where the rule gives no order (DESIGN CHOICE; assumption log 11). -/
def execCueStopAll (t : Txn) (s : State) : Out :=
  portCommand s t 0x65#8 0 fun s =>
    if t.port != .shw then refuse s .privilege
    else
      let s1 := (List.finRange 4).foldl (fun s k => s.stopShow (showChan k)) s
      let s2 := (List.finRange 8).foldl (fun s slot => s.emptyRoute true slot) s1
      let s3 := s2.onCue CueEngine.stopped
      okWith s3 (standbyResults s3)

/-! ### READ_CUE_ENGINE (R186) -/

/-- The countdown's frames remaining and whether it is frozen; both absent without a countdown (assumption log 23). -/
def countdownFields (d : Option Countdown) : List Byte :=
  match d with
  | none => outOpt32 none ++ outOpt8 none
  | some d => out32 d.left ++ outFlag d.frozen

/-- The last result: cue, LATE flag, fault count, first fault (R186). -/
def lastFields (r : Option CueResult) : List Byte :=
  match r with
  | none => outOpt16 none ++ outOpt8 none ++ outOpt8 none ++ outOpt8 none ++ outOpt8 none
  | some r => out16 r.number ++ outFlag r.late ++ out8 r.faults ++ outOpt8 (r.first.map (·.1)) ++
      outOpt8 (r.first.map fun f => faultCode f.2)

/-- READ_CUE_ENGINE (R186). The members of the start set are sent in the order of the cue's PLAY actions; R173, R186 and R212
give no order (DESIGN CHOICE; assumption log 18). A bound that has expired is sent as such (R212), one that has stopped or
never ran as absent (DEDUCED; assumption log 23). -/
def execReadCueEngine (t : Txn) (s : State) : Out :=
  portCommand s t 0x66#8 0 fun s =>
    let c := s.cue
    okWith s (out8 (engineCode c.state) ++ outOpt8 (c.ret.map engineCode) ++ outOpt16 c.standby ++ outOpt16 c.executing ++
      out8 c.startSet.length ++ c.startSet.flatMap (fun m => out8 m.1.val ++ outFlag m.2) ++
      outTimer c.bound c.boundExpired ++
      countdownFields c.countdown ++ outFlag c.holdPending ++ outFlag s.clearToResume ++ lastFields c.last ++
      out8 c.cues.length ++ outOpt16 (c.cues.head?.map (·.number)) ++ outOpt16 (c.cues.getLast?.map (·.number)) ++
      (List.finRange 8).flatMap fun k =>
        outOpt8 c.slots[k].source ++ outOpt8 (c.slots[k].showProg.map (·.val)) ++ outOpt8 (c.slots[k].bedProg.map (·.val)))

end Sys2Proof.Machine
end

