-- ==== Sys2Proof/Machine/IntercomOps.lean ====
section
/-! DEFINITION. The intercom switch's own steps (sections 7.2 to 7.5): ringing and barging a station, settling and ending a
call, the recall, the ring cadence's reports, and the CALL notice. -/

namespace Sys2Proof.Machine

/-! ### One call -/

/-- Standing parties: CALLING, ACTIVE, ON_HOLD or SUSPENDED (R149). -/
def PartyState.standing (p : PartyState) : Bool := p != .ringing

/-- Number of standing parties (R150). -/
def Call.standing (c : Call) : Nat := c.parties.countP fun p => p.state.standing

/-- Number of ringing parties (R150). -/
def Call.ringing (c : Call) : Nat := c.parties.countP fun p => !p.state.standing

/-- The party entry of a station in a call. -/
def Call.party (c : Call) (a : StationId) : Option Party := c.parties.find? fun p => p.station == a

/-- The station's party takes a state; a ring timer runs only while the party is RINGING (R155). -/
def Call.setParty (c : Call) (a : StationId) (st : PartyState) : Call :=
  { c with parties := c.parties.map fun p => if p.station = a then { p with state := st, timer := none } else p }

/-- The station's party leaves the call. -/
def Call.remove (c : Call) (a : StationId) : Call := { c with parties := c.parties.filter fun p => p.station != a }

/-- The station joins as a RINGING party, its timer started with the call's ring time (R153). -/
def Call.ring (c : Call) (a : StationId) : Call :=
  { c with parties := c.parties ++ [⟨a, .ringing, some (framesOfMs c.ringTime)⟩] }

/-- The call is RINGING or CONNECTED. -/
def Call.live (c : Call) : Bool := c.state == .ringing || c.state == .connected

/-! ### Settling (R150) -/

/-- What settling does to a call. -/
inductive Settling where
  | deplete | fallBack | keep
  deriving DecidableEq, Repr

/-- The three cases of R150, by the numbers of standing and ringing parties. -/
def Call.settling (c : Call) : Settling :=
  if !c.live then .keep
  else if (c.ringing = 0 ∧ c.standing < 2) ∨ c.standing = 0 then .deplete
  else if c.state = .connected ∧ c.standing = 1 ∧ 1 ≤ c.ringing then .fallBack
  else .keep

/-- A party that is left waiting when its call returns to RINGING (R150). -/
def Party.waits (p : Party) : Party := if p.state = .active ∨ p.state = .onHold then { p with state := .calling } else p

/-- The call returns to RINGING: an ACTIVE or ON_HOLD standing party becomes CALLING, and so does its station (R150). -/
def State.fallBack (s : State) (x : CallId) : State :=
  let waiting := (s.calls[x].parties.filter fun p => p.state == .active || p.state == .onHold).map (·.station)
  let s1 := s.onCall x fun c => { c with state := .ringing, parties := c.parties.map Party.waits }
  waiting.foldl (fun s a => s.onStation a fun r => { r with state := .calling }) s1

/-- A station that leaves its current call becomes IDLE (R158, R160). -/
def Station.leave (r : Station) : Station := { r with state := .idle, current := none }

/-- The record of a call that ends keeps its party list as it stood, each ring timer at the frames that remained when it
stopped (R151, R160). -/
def Call.over (c : Call) (why : EndCause) : Call := { c with state := .ended, endCause := some why }

/-- The record becomes ENDED, and every station whose suspended call it is loses that field (R160, items 4 and 5). -/
def State.closeCall (s : State) (x : CallId) (why : EndCause) : State :=
  { s.onCall x (fun c => c.over why) with
    stations := remap s.stations fun _ r => if r.suspended = some x then { r with suspended := none } else r
    callEnds := s.callEnds ++ [x] }

/-- A call of ORDINARY or URGENT priority ends: no recall follows for its parties (R160). -/
def State.endPlain (s : State) (x : CallId) (why : EndCause) : State :=
  (s.calls[x].parties.foldl (fun s p =>
    if p.state = .suspended then s else s.onStation p.station Station.leave) s).closeCall x why

/-- Settling of a call that is not of EMERGENCY priority (R150). -/
def State.settlePlain (s : State) (x : CallId) : State :=
  match s.calls[x].settling with
  | .deplete => s.endPlain x .depleted
  | .fallBack => s.fallBack x
  | .keep => s

/-- The recall of a station that has left an EMERGENCY call and is IDLE: its SUSPENDED party in its suspended call becomes
ACTIVE or CALLING, and that call, which is not of EMERGENCY priority, is settled (R161). -/
def State.recall (s : State) (a : StationId) : State :=
  match s.stations[a].suspended with
  | none => s
  | some y =>
    let talks := s.calls[y].state == .connected
    let s1 := s.onCall y fun c => c.setParty a (if talks then .active else .calling)
    (s1.onStation a fun r =>
      { r with state := if talks then .inCall else .calling, current := some y, suspended := none }).settlePlain y

/-- A party leaves an ending call; from a call of EMERGENCY priority it is recalled (R160, item 2). -/
def State.partyOut (s : State) (emergency : Bool) (p : Party) : State :=
  if p.state = .suspended then s
  else
    let s1 := s.onStation p.station Station.leave
    if emergency then s1.recall p.station else s1

/-- A call ends (R160). -/
def State.endCall (s : State) (x : CallId) (why : EndCause) : State :=
  let emergency := s.calls[x].priority == .emergency
  (s.calls[x].parties.foldl (fun s p => s.partyOut emergency p) s).closeCall x why

/-- A call is settled (R150). -/
def State.settle (s : State) (x : CallId) : State :=
  match s.calls[x].settling with
  | .deplete => s.endCall x .depleted
  | .fallBack => s.fallBack x
  | .keep => s

/-! ### Ringing a station (R153) -/

/-- The station is rung in the call. -/
def State.ringStation (s : State) (x : CallId) (a : StationId) : State :=
  (s.onCall x fun c => c.ring a).onStation a fun r => { r with state := .ringing, current := some x }

/-- The membership of a barged station in its old call, which is then settled (R153). -/
def State.barge (s : State) (a : StationId) (old : CallId) : State :=
  if s.stations[a].state = .ringing then
    ((s.onCall old fun c => c.remove a).onStation a Station.leave).settle old
  else
    ((s.onCall old fun c => c.setParty a .suspended).onStation a fun r =>
      { r with state := .idle, current := none, suspended := some old }).settle old

/-- A callee treated by its state as it stands when its turn comes (R153): it is rung, or left out with a reason. -/
def State.treat (s : State) (x : CallId) (a : StationId) : State × Option LeftReason :=
  let r := s.stations[a]
  match r.state with
  | .idle => (s.ringStation x a, none)
  | .disabled => (s, some .disabled)
  | .talkout => (s, some .busy)
  | .ringing | .calling | .inCall | .onHold =>
    match r.current with
    | none => (s, some .busy)
    | some old =>
      if s.calls[old].priority = .emergency ∨ s.calls[x].priority ≠ .emergency then (s, some .busy)
      else ((s.barge a old).ringStation x a, none)

/-! ### Leaving a call (R155, R158) -/

/-- The station leaves call `x`, is recalled where due, and the call is settled (R155, R158). -/
def State.leaveCall (s : State) (x : CallId) (a : StationId) : State :=
  let s1 := (s.onCall x fun c => c.remove a).onStation a Station.leave
  let s2 := if s.calls[x].priority = .emergency then s1.recall a else s1
  s2.settle x

/-! ### Reports to RC and notices -/

/-- Number of stations that are RINGING or CALLING (R103, R164). -/
def State.ringingStations (s : State) : Nat :=
  (List.finRange 32).countP fun a => s.stations[a].state == .ringing || s.stations[a].state == .calling

/-- RC starts pattern 3 when the number rises from 0, and stops when it falls to 0 (R103). -/
def State.cadence (s0 s : State) : State :=
  if s0.ringingStations = 0 ∧ 0 < s.ringingStations then { s with ring := Player.start 3 s.patterns[(3 : PatId)] }
  else if 0 < s0.ringingStations ∧ s.ringingStations = 0 then { s with ring := Player.stopped }
  else s

/-- What a CALL notice reports of a call: its state and its parties with their states (R168). -/
def Call.view (c : Call) : CallState × List (StationId × PartyState) :=
  (c.state, c.parties.map fun p => (p.station, p.state))

/-- Stations that are parties of a call. -/
def Call.stations (c : Call) : List StationId := c.parties.map (·.station)

/-- Some call or station outside those a command names has changed; or a call that a leave has settled to its end had a party
SUSPENDED, so that a barged station's old call has ended (R168; assumption log 20). `x` is the call the command names or
creates, with its parties before and after. -/
def callChanged (s0 s : State) (x : CallId) (a : Option StationId) (cleared : Bool) : Bool :=
  let spared := s0.calls[x].stations ++ s.calls[x].stations ++ a.toList
  ((List.finRange 16).any fun y => y != x && decide (s0.calls[y].view ≠ s.calls[y].view)) ||
  ((List.finRange 32).any fun b => !spared.contains b && s0.stations[b].state != s.stations[b].state) ||
  (!cleared && s0.calls[x].live && s.calls[x].state == .ended && s0.calls[x].parties.any fun p => p.state == .suspended)

/-- The end of a call command's work: the report to RC, and the CALL notice for what the command does not name. -/
def State.callDone (s0 s : State) (x : CallId) (a : Option StationId) (cleared : Bool) : State :=
  let s1 := State.cadence s0 s
  if callChanged s0 s x a cleared then s1.raise .call .icm else s1

end Sys2Proof.Machine
end

