-- ==== Sys2Proof/Machine/IntercomCommands.lean ====
section
/-! DEFINITION. Meanings of the crew intercom's commands (chapter 7). -/

namespace Sys2Proof.Machine

/-! ### SET_STATION (R148) -/

/-- The home zone a SET_STATION gives: not given, "none" (0xFE), or a zone (R214); none for any other value. -/
def homeSetting? (x : Byte) : Option (Option (Option Zone)) :=
  if x = 0xFF#8 then some none
  else if x = 0xFE#8 then some (some none)
  else (idx? 64 x).map fun z => some (some z)

/-- The service setting: not given, or true for DISABLED (R213); none for any other value. -/
def serviceSetting? (x : Byte) : Option (Option Bool) := if x = 0xFF#8 then some none else (onOff? x).map some

/-- The station with the settings given (R148). -/
def Station.configured (r : Station) (home : Option (Option Zone)) (gain feed : Option Nat) (service : Option Bool) : Station :=
  { r with
    home := home.getD r.home
    receive := (gain.map clampGain).getD r.receive
    feed := (feed.map clampGain).getD r.feed
    state := match service with
      | none => r.state
      | some true => .disabled
      | some false => if r.state = .disabled then .idle else r.state }

/-- The results of SET_STATION (R214). -/
def stationResults (s : State) (a : StationId) : List Byte :=
  let r := s.stations[a]
  out8 a.val ++ out8 (stationCode r.state) ++ outOpt8 (r.home.map (·.val)) ++ out16 r.receive ++ out16 r.feed ++
  outOpt8 (r.current.map (·.val)) ++ outOpt8 (r.suspended.map (·.val))

/-- SET_STATION (R148). -/
def execSetStation (t : Txn) (station home : Byte) (receive feed : BitVec 16) (service : Byte) (s : State) : Out :=
  portCommand s t 0x50#8 7 fun s =>
    if t.port != .icm then refuse s .privilege
    else
      match idx? 32 station, homeSetting? home, serviceSetting? service with
      | some a, some h, some v =>
        let st := s.stations[a].state
        if v = some true ∧ st ≠ .idle ∧ st ≠ .disabled then refuse s .busy
        else
          let s1 := s.onStation a fun r => r.configured h (opt receive) (opt feed) v
          okWith s1 (stationResults s1 a)
      | _, _, _ => refuse s .param

/-! ### CALL_PLACE (R152) -/

/-- What a CALL_PLACE frame asks for. -/
structure CallRequest where
  originator : StationId
  priority : Priority
  ringTime : Nat
  callees : List StationId
  deriving DecidableEq, Repr

/-- The request read from the frame; none where it answers PARAM (R152). -/
def callRequest? (originator priority : Byte) (ringTime : BitVec 24) (callees : List Byte) : Option CallRequest :=
  match idx? 32 originator, priority? priority, readAll (idx? 32) callees with
  | some o, some p, some cs =>
    if optInRange 5000 120000 (opt ringTime) && inRange 1 3 cs.length && decide cs.Nodup && !cs.contains o then
      some ⟨o, p, (opt ringTime).getD Config.defaultRing, cs⟩
    else none
  | _, _, _ => none

/-- The record a CALL_PLACE takes: the lowest-numbered FREE one, else the one that ended earliest (R152). -/
def State.callRecord (s : State) : Option CallId :=
  match (List.finRange 16).find? fun x => s.calls[x].state == .free with
  | some x => some x
  | none => s.callEnds.head?

/-- The record set up with its originator CALLING (R152). -/
def State.newCall (s : State) (x : CallId) (q : CallRequest) : State :=
  let s1 : State := { s with callEnds := s.callEnds.erase x }
  (s1.onCall x fun _ =>
    { state := .ringing, priority := q.priority, ringTime := q.ringTime, parties := [⟨q.originator, .calling, none⟩],
      leftOut := [], endCause := none }).onStation q.originator fun r => { r with state := .calling, current := some x }

/-- One callee treated in its turn; a callee left out enters the left-out list (R152, R153). -/
def State.placeCallee (s : State) (x : CallId) (a : StationId) : State × Option LeftReason :=
  match s.treat x a with
  | (s1, none) => (s1, none)
  | (s1, some why) => (s1.onCall x fun c => { c with leftOut := c.leftOut ++ [(a, why)] }, some why)

/-- Code of a callee outcome (R213). -/
def calleeCode (o : Option LeftReason) : Nat :=
  match o with
  | none => 0
  | some .busy => 1
  | some .disabled => 2

/-- The callees treated in list order, with their outcomes. -/
def State.placeCallees (s : State) (x : CallId) : List StationId → State × List (StationId × Option LeftReason)
  | [] => (s, [])
  | a :: rest =>
    let r := s.placeCallee x a
    let q := State.placeCallees r.1 x rest
    (q.1, (a, r.2) :: q.2)

/-- An accepted CALL_PLACE: the state after the settling, and each callee's outcome (R152). -/
def State.placeCall (s : State) (x : CallId) (q : CallRequest) : State × List (StationId × Option LeftReason) :=
  let r := (s.newCall x q).placeCallees x q.callees
  (State.callDone s (r.1.settle x) x none false, r.2)

/-- The results of CALL_PLACE (R152). -/
def placeResults (s : State) (x : CallId) (outs : List (StationId × Option LeftReason)) : List Byte :=
  out8 x.val ++ out8 (callStateCode s.calls[x].state) ++ out8 outs.length ++
  outs.flatMap fun o => out8 o.1.val ++ out8 (calleeCode o.2)

/-- CALL_PLACE (R152). -/
def execCallPlace (t : Txn) (originator priority : Byte) (ringTime : BitVec 24) (callees : List Byte) (s : State) : Out :=
  portCommand s t 0x51#8 (6 + callees.length) fun s =>
    if t.port != .icm then refuse s .privilege
    else
      match callRequest? originator priority ringTime callees with
      | none => refuse s .param
      | some q =>
        if q.priority == .ordinary && s.alarmActive then refuse s .alarmActive
        else if s.stations[q.originator].state ≠ .idle then refuse s .busy
        else
          match s.callRecord with
          | none => refuse s .full
          | some x =>
            let r := s.placeCall x q
            okWith r.1 (placeResults r.1 x r.2)

/-! ### The call in progress (R154, R156 to R159) -/

/-- Party states of an answered call: the CALLING party is ACTIVE when the call connects (R154). -/
def Call.answered (c : Call) (a : StationId) : Call :=
  let c1 := c.setParty a .active
  if c.state = .ringing then
    { c1 with state := .connected, parties := c1.parties.map fun p =>
        if p.state = .calling then { p with state := .active } else p }
  else c1

/-- A station answers the call it rings in (R154). -/
def State.answer (s : State) (x : CallId) (a : StationId) : State :=
  let callers := if s.calls[x].state = .ringing then (s.calls[x].parties.filter fun p => p.state == .calling).map (·.station)
    else []
  let s1 := s.onCall x fun c => c.answered a
  ((a :: callers).foldl (fun s b => s.onStation b fun r => { r with state := .inCall }) s1).settle x

/-- CALL_ANSWER (R154). -/
def execCallAnswer (t : Txn) (station : Byte) (s : State) : Out :=
  portCommand s t 0x52#8 1 fun s =>
    if t.port != .icm then refuse s .privilege
    else
      match idx? 32 station with
      | none => refuse s .param
      | some a =>
        match s.stations[a].state, s.stations[a].current with
        | .ringing, some x =>
          let s1 := State.callDone s (s.answer x a) x (some a) false
          okWith s1 (out8 x.val ++ out8 (callStateCode s1.calls[x].state))
        | _, _ => refuse s .state

/-- A call's party list as CALL_ADD carries it (R156). -/
def partyResults (c : Call) : List Byte :=
  out8 c.parties.length ++ c.parties.flatMap fun p => out8 p.station.val ++ out8 (partyCode p.state)

/-- CALL_ADD (R156). -/
def execCallAdd (t : Txn) (call station : Byte) (s : State) : Out :=
  portCommand s t 0x53#8 2 fun s =>
    if t.port != .icm then refuse s .privilege
    else
      match idx? 16 call, idx? 32 station with
      | some x, some a =>
        let c := s.calls[x]
        if c.state = .free then refuse s .notFound
        else if c.state ≠ .connected then refuse s .state
        else if 4 ≤ c.parties.length then refuse s .full
        else if c.stations.contains a then refuse s .busy
        else
          match s.treat x a with
          | (_, some _) => refuse s .busy
          | (s1, none) =>
            let s2 := State.callDone s (s1.settle x) x none false
            okWith s2 (partyResults s2.calls[x])
      | _, _ => refuse s .param

/-- The party of a station in its current call, and the station, take new states (R157). -/
def State.setHold (s : State) (x : CallId) (a : StationId) (hold : Bool) : State :=
  (s.onCall x fun c => c.setParty a (if hold then .onHold else .active)).onStation a fun r =>
    { r with state := if hold then .onHold else .inCall }

/-- The result that is a station's state. -/
def stationResult (s : State) (a : StationId) : List Byte := out8 (stationCode s.stations[a].state)

/-- CALL_HOLD (R157). -/
def execCallHold (t : Txn) (station : Byte) (s : State) : Out :=
  portCommand s t 0x54#8 1 fun s =>
    if t.port != .icm then refuse s .privilege
    else
      match idx? 32 station with
      | none => refuse s .param
      | some a =>
        match s.stations[a].state, s.stations[a].current with
        | .inCall, some x =>
          let s1 := s.setHold x a true
          okWith s1 (stationResult s1 a)
        | _, _ => refuse s .state

/-- CALL_RETRIEVE (R157). -/
def execCallRetrieve (t : Txn) (station : Byte) (s : State) : Out :=
  portCommand s t 0x55#8 1 fun s =>
    if t.port != .icm then refuse s .privilege
    else
      match idx? 32 station with
      | none => refuse s .param
      | some a =>
        match s.stations[a].state, s.stations[a].current with
        | .onHold, some x =>
          let s1 := s.setHold x a false
          okWith s1 (stationResult s1 a)
        | _, _ => refuse s .state

/-- CALL_LEAVE (R158). -/
def execCallLeave (t : Txn) (station : Byte) (s : State) : Out :=
  portCommand s t 0x56#8 1 fun s =>
    if t.port != .icm then refuse s .privilege
    else
      match idx? 32 station with
      | none => refuse s .param
      | some a =>
        match s.stations[a].current with
        | none => refuse s .state
        | some x =>
          let s1 := State.callDone s (s.leaveCall x a) x (some a) false
          okWith s1 (out8 (callStateCode s1.calls[x].state) ++ stationResult s1 a)

/-- CALL_END (R159). -/
def execCallEnd (t : Txn) (call : Byte) (s : State) : Out :=
  portCommand s t 0x57#8 1 fun s =>
    if t.port != .icm then refuse s .privilege
    else
      match idx? 16 call with
      | none => refuse s .param
      | some x =>
        if s.calls[x].state = .free then refuse s .notFound
        else if s.calls[x].state = .ended then refuse s .state
        else okWith (State.callDone s (s.endCall x .cleared) x none true) []

/-! ### Reads (R166, R167) -/

/-- The state of a station's party in one of its calls, where it has one. -/
def State.partyIn (s : State) (a : StationId) (x : Option CallId) : Option Nat :=
  x.bind fun x => (s.calls[x].party a).map fun p => partyCode p.state

/-- READ_STATION (R166). -/
def execReadStation (t : Txn) (station : Byte) (s : State) : Out :=
  portCommand s t 0x58#8 1 fun s =>
    match idx? 32 station with
    | none => refuse s .param
    | some a =>
      okWith s (stationResults s a ++ outOpt8 (s.partyIn a s.stations[a].current) ++
        outOpt8 (s.partyIn a s.stations[a].suspended))

/-- The results of READ_CALL, in the order of R212. -/
def callResults (x : CallId) (c : Call) : List Byte :=
  out8 x.val ++ out8 (callStateCode c.state) ++ out8 (priorityCode c.priority) ++ out24 c.ringTime ++
  outOpt8 (c.endCause.map endCauseCode) ++ out8 c.parties.length ++
  c.parties.flatMap (fun p => out8 p.station.val ++ out8 (partyCode p.state) ++ outOpt32 p.timer) ++ out8 c.leftOut.length ++
  c.leftOut.flatMap fun l => out8 l.1.val ++ out8 (leftCode l.2)

/-- READ_CALL frees an ENDED record that the intercom port reads (R167). The freeing raises no CALL notice (DEDUCED;
assumption log 20). -/
def execReadCall (t : Txn) (call : Byte) (s : State) : Out :=
  portCommand s t 0x59#8 1 fun s =>
    match idx? 16 call with
    | none => refuse s .param
    | some x =>
      let c := s.calls[x]
      if c.state = .free then refuse s .notFound
      else
        let s1 : State := if c.state = .ended ∧ t.port = .icm then
            { s.onCall x (fun _ => Call.free) with callEnds := s.callEnds.erase x }
          else s
        okWith s1 (callResults x c)

end Sys2Proof.Machine
end

