-- ==== Sys2Proof/Machine/SurveyCommands.lean ====
section
/-! DEFINITION. Meanings of the line survey engine's commands (sections 9.2, 9.6 and 9.7). -/

namespace Sys2Proof.Machine

/-- A zone asked for by a port, or by the auto survey: it joins the survey in progress or its queue entry, or is appended
(R189, R202). -/
def Survey.ask (v : Survey) (z : Zone) (join : Requesters → Requesters) : Survey :=
  if v.zone = some z then { v with requesters := join v.requesters }
  else if v.queue.any fun e => e.zone == z then
    { v with queue := v.queue.map fun e => if e.zone = z then { e with ports := join e.ports } else e }
  else { v with queue := v.queue ++ [⟨z, join Requesters.none⟩] }

/-- SURVEY_ZONE (R189). -/
def execSurveyZone (t : Txn) (zones : ZoneSet) (s : State) : Out :=
  portCommand s t 0x70#8 8 fun s =>
    if t.port != .saf && t.port != .ann then refuse s .privilege
    else if zones == 0#64 then refuse s .param
    else
      let s1 := s.onSurvey fun v => (zonesOf zones).foldl (fun v z => v.ask z fun r => r.join t.port) v
      okWith s1.takeHead (out8 (s1.survey.queue.length - s.survey.queue.length) ++ out8 s1.survey.queue.length)

/-- SURVEY_CANCEL (R190). -/
def execSurveyCancel (t : Txn) (zones : ZoneSet) (s : State) : Out :=
  portCommand s t 0x71#8 8 fun s =>
    if t.port != .saf && t.port != .ann then refuse s .privilege
    else if zones == 0#64 then refuse s .param
    else
      let s1 := s.onSurvey fun v => { v with queue := v.queue.filter fun e => !zones.getLsbD e.zone.val }
      let hit := s.survey.zone.any fun z => zones.getLsbD z.val
      okWith (if hit then s1.abortSurvey (some t.port) else s1)
        (out8 (s.survey.queue.length - s1.survey.queue.length) ++ outFlag hit)

/-- Every value of the nine lies in its range (R199). -/
def surveyParamsOk (a : RawSurveyParams) : Bool :=
  inRange 15000 21000 a.fStart.toNat && inRange (a.fStart.toNat + 500) 23000 a.fEnd.toNat && a.fStart.toNat % 25 == 0 &&
  a.fEnd.toNat % 25 == 0 && inRange 1 10 a.coarse.toNat && inRange 1 4 a.blank.toNat && inRange 4 20 a.coarseDwell.toNat &&
  inRange 1 10 a.backstep.toNat && inRange 8 35 a.fineDwell.toNat && inRange 1 5 a.confirm.toNat &&
  inRange 64 2048 a.pilot.toNat

/-- The eight sweep parameters of the frame. -/
def sweepOf (a : RawSurveyParams) : SweepParams :=
  { fStart := a.fStart.toNat, fEnd := a.fEnd.toNat, coarse := a.coarse.toNat, blank := a.blank.toNat,
    coarseDwell := a.coarseDwell.toNat, backstep := a.backstep.toNat, fineDwell := a.fineDwell.toNat,
    confirm := a.confirm.toNat }

/-- SET_SURVEY_PARAMS (R199). -/
def execSetSurveyParams (t : Txn) (a : RawSurveyParams) (s : State) : Out :=
  portCommand s t 0x72#8 16 fun s =>
    if t.port != .saf then refuse s .privilege
    else if surveyParamsOk a then
      okWith (s.onSurvey fun v => { v with params := sweepOf a, pilotLevel := a.pilot.toNat }) []
    else refuse s .param

/-- SET_THRESHOLDS (R200). -/
def execSetThresholds (t : Txn) (openT shortT : BitVec 24) (freqTol : BitVec 16) (pct : Byte) (s : State) : Out :=
  portCommand s t 0x73#8 9 fun s =>
    if t.port != .saf then refuse s .privilege
    else if inRange 0 8388607 openT.toNat && inRange 0 8388607 shortT.toNat && inRange 25 2000 freqTol.toNat &&
        inRange 1 100 pct.toNat && decide (openT.toNat < shortT.toNat) then
      okWith (s.onSurvey fun v => { v with thresholds := ⟨openT.toNat, shortT.toNat, freqTol.toNat, pct.toNat⟩ }) []
    else refuse s .param

/-- The peak of a last survey result that may serve as a reference (R201). -/
def ZoneRec.lastPeak (r : ZoneRec) : Option (Nat × Nat) :=
  match r.lastResult with
  | none => none
  | some x => x.peak.filter fun p => decide (1 ≤ p.2)

/-- SET_REFERENCE; form GIVEN is 0, FROM_LAST 1, CLEAR 2 (R201, R213). -/
def execSetReference (t : Txn) (zones : ZoneSet) (form : Byte) (freq : BitVec 16) (mag : BitVec 24) (s : State) : Out :=
  portCommand s t 0x74#8 14 fun s =>
    if t.port != .saf then refuse s .privilege
    else if zones == 0#64 then refuse s .param
    else
      match form.toNat with
      | 0 =>
        if inRange 15000 23000 freq.toNat && inRange 1 8388607 mag.toNat then
          okWith (s.onZones zones fun r => { r with reference := some (freq.toNat, mag.toNat) }) []
        else refuse s .param
      | 1 =>
        if (zonesOf zones).all fun z => (s.zones[z].lastPeak).isSome then
          okWith (s.onZones zones fun r => { r with reference := r.lastPeak }) []
        else refuse s .state
      | 2 => okWith (s.onZones zones fun r => { r with reference := none }) []
      | _ => refuse s .param

/-- The auto survey setting a frame gives: OFF, or a base with a factor of 1 to 64; none where it answers PARAM (R202,
R213). -/
def autoSetting? (base factor : Byte) : Option (Option AutoSetting) :=
  match base.toNat with
  | 0 => some none
  | 1 => if inRange 1 64 factor.toNat then some (some ⟨1, factor.toNat⟩) else none
  | 2 => if inRange 1 64 factor.toNat then some (some ⟨16, factor.toNat⟩) else none
  | _ => none

/-- The interval of an auto survey setting in audio frames (R8, R202). -/
def AutoSetting.frames (a : AutoSetting) : Nat := framesOfMs (a.base * a.factor * 1000)

/-- SET_AUTO_SURVEY (R202). -/
def execSetAutoSurvey (t : Txn) (base factor : Byte) (s : State) : Out :=
  portCommand s t 0x75#8 2 fun s =>
    if t.port != .saf then refuse s .privilege
    else
      match autoSetting? base factor with
      | none => refuse s .param
      | some a => okWith (s.onSurvey fun v => { v with auto := a, autoTimer := a.map AutoSetting.frames })
          (out8 s.survey.cycle.val)

/-- A frequency and a magnitude, both absent where there is none; `m` is reading and frequency. -/
def peakFields (m : Option (Nat × Nat)) : List Byte := outOpt16 (m.map (·.2)) ++ outOpt24 (m.map (·.1))

/-- The nine survey parameters in the order of R199. -/
def paramFields (p : SweepParams) (pilot : Nat) : List Byte :=
  out16 p.fStart ++ out16 p.fEnd ++ out8 p.coarse ++ out8 p.blank ++ out24 p.coarseDwell ++ out8 p.backstep ++
  out24 p.fineDwell ++ out8 p.confirm ++ out16 pilot

/-- Auto base and factor; with OFF the factor is absent (assumption log 23). -/
def autoFields (a : Option AutoSetting) : List Byte :=
  match a with
  | none => out8 0 ++ outOpt8 none
  | some a => out8 (if a.base = 1 then 1 else 2) ++ out8 a.factor

/-- The fields of the zone READ_SURVEY names; all absent where it names none (R203, R212). -/
def surveyZoneFields (r : Option ZoneRec) : List Byte :=
  match r with
  | none => outOpt16 none ++ outOpt24 none ++ outOpt8 none ++ resultFields none
  | some r => outOpt16 (r.reference.map (·.1)) ++ outOpt24 (r.reference.map (·.2)) ++ out8 (lineCode r.lineStatus) ++
      resultFields r.lastResult

/-- The results of READ_SURVEY, in the order of R212. A dwell timer that has expired is sent as such;
one that has stopped or never ran, and an interval timer that does not run, as absent, and a timer at 0 that waits for its
event as 0 (DEDUCED; assumption log 23). -/
def surveyResults (s : State) (z : Option Zone) : List Byte :=
  let v := s.survey
  out8 (surveyStateCode v.state) ++ outOpt8 (v.zone.map (·.val)) ++ outPorts v.requesters ++ out16 v.pilotFreq ++
  peakFields v.maximum ++ peakFields v.coarsePeak ++ outCount8 v.readings ++ out8 v.below ++
  outTimer v.dwell v.dwellExpired ++
  paramFields v.params v.pilotLevel ++
  (out24 v.thresholds.openT ++ out24 v.thresholds.shortT ++ out16 v.thresholds.freqTol ++ out8 v.thresholds.pct) ++
  autoFields v.auto ++ out8 v.cycle.val ++ outOpt32 v.autoTimer ++ surveyZoneFields (z.map fun z => s.zones[z]) ++
  out8 v.queue.length ++ v.queue.flatMap fun e => out8 e.zone.val ++ outPorts e.ports

/-- READ_SURVEY (R203). -/
def execReadSurvey (t : Txn) (zone : Byte) (s : State) : Out :=
  portCommand s t 0x76#8 1 fun s =>
    match opt zone with
    | none => okWith s (surveyResults s none)
    | some _ =>
      match idx? 64 zone with
      | none => refuse s .param
      | some z => okWith s (surveyResults s (some z))

end Sys2Proof.Machine
end

