-- ==== Sys2Proof/Machine/Mixer.lean ====
section
/-! DEFINITION. The samples of one audio frame: sources (R7, R9), zone samples (section 3.1) and station samples (section
7.6). -/

namespace Sys2Proof.Machine

/-! ### Sources (R9) -/

/-- The sample of the pilot generator: a square wave while it runs (R192). -/
def Survey.pilot (v : Survey) : Int := if v.pgRunning then squareWave v.pgAcc.toNat else 0

/-- The sample a player presents in the frame (R97, R98). -/
def State.playerSample (s : State) (pl : Player) : Int := pl.sample (s.patternOf pl)

/-- The sample of a source in the frame, by its identifier (R9). -/
def State.sourceSample (s : State) (id : Nat) : Int :=
  if h : id < 48 then s.lanes.inputs[id]
  else if h : id < 56 then s.chans[id - 48].sample
  else if h : id < 58 then s.playerSample s.tone[id - 56]
  else if h : id < 62 then s.playerSample s.voices[id - 58].player
  else if id = 62 then s.playerSample s.ring
  else if id = 63 then s.survey.pilot
  else 0

/-- The sample of an optional source. -/
def State.sampleOf (s : State) (src : Option Nat) : Int :=
  match src with
  | none => 0
  | some id => s.sourceSample id

/-- Source identifier of a window's voice source (R55). -/
def VoiceSource.id (v : VoiceSource) : Nat :=
  match v with
  | .input n => n.val
  | .clip _ _ ch => 48 + ch.val

/-- Source identifier of the chime voice bound to a program (R55). -/
def State.chimeSource (s : State) (p : ProgId) : Option Nat := (s.voiceOf p).map fun v => 58 + v.val

/-- The foreground source an alarm slot's state gives (R55). -/
def State.alarmSource (s : State) (k : Fin 2) : Option Nat :=
  match s.slots[k].state with
  | .sounding => some (56 + k.val)
  | .voice | .voiceMixed => s.slots[k].window.map fun w => w.source.id
  | .idle | .silenced => none

/-- The foreground source of a zone with owner `p` (R55). -/
def State.foreground (s : State) (p : ProgId) : Option Nat :=
  match slotOfProg p with
  | some k => s.alarmSource k
  | none =>
    match s.progs[p].state with
    | .preamble => s.chimeSource p
    | .active | .tail => s.progs[p].source
    | .free | .pending | .held | .ended => none

/-! ### Zone samples (R56 to R61) -/

/-- The foreground term (R56). -/
def State.fgTerm (s : State) (z : Zone) : Int :=
  let r := s.zones[z]
  if r.lineStatus = .shorted then 0
  else
    match r.owner with
    | none => 0
    | some p => q15 (s.sampleOf (s.foreground p)) s.progs[p].gain.current

/-- The bed term: the effective bed gain is scaled first (R57). -/
def State.bedTerm (s : State) (z : Zone) : Int :=
  let r := s.zones[z]
  match r.bed with
  | none => 0
  | some p => q15 (s.sampleOf s.progs[p].source) (q15 (s.progs[p].gain.current : Int) r.duck.current).toNat

/-- The alarm-under term, while the owner is an alarm program whose slot is in VOICE_MIXED (R58). -/
def State.underTerm (s : State) (z : Zone) : Int :=
  match s.zones[z].owner.bind slotOfProg with
  | none => 0
  | some k => if s.slots[k].state = .voiceMixed then q15 (s.playerSample s.tone[k]) s.alarmUnder else 0

/-- The zone level: the emergency level under an owner of class 0 or 1, else the master gain (R60). -/
def State.zoneLevel (s : State) (z : Zone) : Nat :=
  let r := s.zones[z]
  match s.ownerClass z with
  | some c => if c ≤ 1 then r.emergency else r.master.current
  | none => r.master.current

/-- The pilot term (R61). -/
def State.pilotTerm (s : State) (z : Zone) : Int :=
  if s.zones[z].underSurvey then q15 s.survey.pilot s.survey.pilotLevel else 0

/-- The sum M + P before saturation: M is muted on a SHORT line (R60, R61). -/
def State.zoneSum (s : State) (z : Zone) : Int :=
  let m := q15 (s.fgTerm z + s.bedTerm z + s.underTerm z) (s.zoneLevel z)
  (if s.zones[z].lineStatus = .shorted then 0 else m) + s.pilotTerm z

/-- The zone sample Y (R61). -/
def State.zoneSample (s : State) (z : Zone) : Int := saturate (s.zoneSum z)

/-- Saturation changes the sum (R62). -/
def State.overloads (s : State) (z : Zone) : Bool := s.zoneSample z != s.zoneSum z

/-! ### Station samples (R162 to R165) -/

/-- The microphone of a station, IN(16 + s) (R2). -/
def State.micSample (s : State) (a : StationId) : Int := s.lanes.inputs[16 + a.val]

/-- The call term: the other ACTIVE parties of the station's current call (R163). -/
def State.callTerm (s : State) (a : StationId) : Int :=
  match s.stations[a].current with
  | none => 0
  | some x =>
    ((s.calls[x].parties.filter fun p => p.station != a && p.state == .active).map fun p =>
      q15 (s.micSample p.station) s.stations[a].receive).sum

/-- The ring term (R164). -/
def State.ringTerm (s : State) (a : StationId) : Int := q15 (s.playerSample s.ring) s.stations[a].receive

/-- The alarm feed term, due while the home zone's owner has class 0 or 1 (R165). -/
def State.feedTerm (s : State) (a : StationId) : Int :=
  match s.stations[a].home with
  | none => 0
  | some z =>
    match s.ownerClass z with
    | some c => if c ≤ 1 then q15 (s.fgTerm z) s.stations[a].feed else 0
    | none => 0

/-- The terms of a station by its state (R162). -/
def State.stationSum (s : State) (a : StationId) : Int :=
  match s.stations[a].state with
  | .inCall => s.callTerm a + s.feedTerm a
  | .calling | .ringing => s.ringTerm a + s.feedTerm a
  | .onHold | .idle | .talkout => s.feedTerm a
  | .disabled => 0

/-- The station sample O (R162). -/
def State.stationSample (s : State) (a : StationId) : Int := saturate (s.stationSum a)

end Sys2Proof.Machine
end

