-- ==== Sys2Proof/Machine/FrameEvents.lean ====
section
/-! DEFINITION. Meanings of the audio frame (R1 to R7, R54, R62, R162), of the ramp engine's expiry (R67), and of the resets
(R14, R211). A frame is one step: its samples are computed from the latches and sources as they stand, then every source and
timer advances, then the slots received are latched (assumption log 5). -/

namespace Sys2Proof.Machine

/-! ### Slot words (R1, R4) -/

/-- The 24-bit value of a 32-bit slot word, its first 24 bit periods (R1). -/
def slotValue (w : BitVec 32) : BitVec 24 := w.extractLsb' 8 24

/-- The slot word at place `i`; a lane that is not driven reads as zero (R1). -/
def slotWord (ws : List (BitVec 32)) (i : Nat) : BitVec 32 := ws.getD i 0#32

/-- An input slot's sample (R1). -/
def inputValue (w : BitVec 32) : Int := (slotValue w).toInt

/-- A sense slot's magnitude; 8,388,608 or more is taken as 8,388,607 (R4). -/
def senseValue (w : BitVec 32) : Nat := min 8388607 (slotValue w).toNat

/-- The word of an output slot: the sample's 24-bit two's complement value, most significant bit first, then eight zeros
(R1). -/
def outputSlot (x : Int) : BitVec 32 := BitVec.ofInt 24 x ++ 0#8

/-- What zone output lane ZLj transmits in its slots 0 to 15: slot k carries zone 16 j + k (R1, R3). -/
def Lanes.zoneLane (l : Lanes) (j : Fin 4) : Vector (BitVec 32) 16 :=
  tabulate fun k => outputSlot (l.zoneOut[16 * j.val + k.val]'(by omega))

/-- What station output lane SLj transmits in its slots 0 to 15: slot k carries station output O(16 j + k) (R1, R3). -/
def Lanes.stationLane (l : Lanes) (j : Fin 2) : Vector (BitVec 32) 16 :=
  tabulate fun k => outputSlot (l.stationOut[16 * j.val + k.val]'(by omega))

/-! ### Counting down -/

/-- A timer one frame nearer its expiry; at 0 it waits for its event (assumption log 4). -/
def countDown (t : Option Nat) : Option Nat := t.map fun n => n - 1

def Program.countDown (g : Program) : Program :=
  { g with waitTimer := Machine.countDown g.waitTimer, joinTimer := Machine.countDown g.joinTimer }

def AlarmSlot.countDown (a : AlarmSlot) : AlarmSlot :=
  { a with window := a.window.map fun w => { w with timer := Machine.countDown w.timer } }

/-- The ring timers of a call run while it is RINGING or CONNECTED; at its end they stop (R155, R160). -/
def Call.countDown (c : Call) : Call :=
  if c.live then { c with parties := c.parties.map fun p => { p with timer := Machine.countDown p.timer } } else c

/-- The priming bound, and the follow countdown unless it is frozen (R173). -/
def CueEngine.countDown (c : CueEngine) : CueEngine :=
  { c with bound := Machine.countDown c.bound,
           countdown := c.countdown.map fun d => if d.frozen then d else { d with left := d.left - 1 } }

/-- The dwell timer, the interval timer and the pilot generator (R192, R202). -/
def Survey.advance (v : Survey) : Survey :=
  { v with dwell := Machine.countDown v.dwell, autoTimer := Machine.countDown v.autoTimer,
           pgAcc := if v.pgRunning then v.pgAcc + increment v.pilotFreq else v.pgAcc }

/-! ### The frame -/

/-- Blocks that were to begin in this frame begin (R136, R137). -/
def State.beginBlocks (s : State) : State := { s with chans := remap s.chans fun _ c => c.frameBegin }

/-- The samples of the frame, which the output lanes transmit in its slots (R3, R6, R54, R162; `Lanes.zoneLane`,
`Lanes.stationLane`). -/
def State.output (s : State) : State :=
  { s with lanes := { s.lanes with zoneOut := tabulate fun z => s.zoneSample z,
                                   stationOut := tabulate fun a => s.stationSample a } }

/-- A saturated zone counts, and stays at 65,535 (R62). -/
def ZoneRec.counted (r : ZoneRec) (hot : Bool) : ZoneRec :=
  if hot then { r with overload := min 65535 (r.overload + 1) } else r

/-- The overload counters, and the OVERLOAD notice of each zone that steps from 0 to 1 (R62). -/
def State.countOverloads (s : State) : State :=
  let s1 : State := { s with zones := remap s.zones fun z r => r.counted (s.overloads z) }
  if (List.finRange 64).any fun z => s.overloads z && s.zones[z].overload == 0 then s1.raise .overload .ann else s1

/-- Every internal source advances once (R7). -/
def State.advanceSources (s : State) : State :=
  { s with chans := remap s.chans fun _ c => c.advance
           tone := remap s.tone fun _ pl => pl.advance (s.patternOf pl)
           voices := remap s.voices fun _ v => { v with player := v.player.advance (s.patternOf v.player) }
           ring := s.ring.advance (s.patternOf s.ring)
           survey := s.survey.advance }

/-- Every timer of the part counts the frame (R8). -/
def State.countTimers (s : State) : State :=
  { s with progs := remap s.progs fun _ g => g.countDown
           slots := remap s.slots fun _ a => a.countDown
           calls := remap s.calls fun _ c => c.countDown
           cue := s.cue.countDown
           clips := { s.clips with link := s.clips.link.map fun l => { l with left := l.left - 1 } }
           msFrames := s.msFrames + 1 }

/-- Every input slot and every sense slot received in the frame is latched (R5). -/
def Lanes.latch (l : Lanes) (inputs sense : List (BitVec 32)) : Lanes :=
  { l with inputs := tabulate fun i => inputValue (slotWord inputs i.val)
           sense := tabulate fun z => senseValue (slotWord sense z.val)
           senseBefore := l.sense }

/-- The frame of a part that is not in a reset interval. -/
def State.frame (s : State) (inputs sense : List (BitVec 32)) : State :=
  let s1 := s.beginBlocks.output.countOverloads.advanceSources.countTimers
  { s1 with lanes := s1.lanes.latch inputs sense }

/-- A frame of the reset interval: every slot carries zero and nothing is latched (R14). -/
def State.resetFrame (s : State) (left : Nat) : State := { s with lanes := Lanes.reset, resetLeft := some (left - 1) }

/-- AUDIO_FRAME (R54; R1 to R7, R62, R162). -/
def execAudioFrame (inputs sense : List (BitVec 32)) (s : State) : Out :=
  partEvent (match s.resetLeft with
    | some left => s.resetFrame left
    | none => s.frame inputs sense)

/-! ### The millisecond expiry (R67) -/

/-- A program whose gain still ramps: neither FREE nor ENDED (R70). -/
def Program.ramps (g : Program) : Bool := g.state != .free && g.state != .ended

/-- Every running ramp moves once (R67, R70). -/
def State.tickRamps (s : State) : State :=
  { s with msFrames := s.msFrames - Config.framesPerMs
           progs := remap s.progs fun _ g => if g.ramps then { g with gain := g.gain.tick } else g
           zones := remap s.zones fun _ r => { r with master := r.master.tick, duck := r.duck.tick } }

/-- A LIVE program's tail has completed: its gain has reached 0 (R70, R109). -/
def Program.tailDone (g : Program) : Bool := g.state == .tail && !g.gain.running && g.gain.current == 0

/-- The tails that complete at an expiry end, in ascending program id (R109; assumption log 11). -/
def State.endTails (s : State) : State :=
  (List.finRange 32).foldl (fun s p => if s.progs[p].tailDone then s.endAndRelease p .closed Cause.event else s) s

/-- RAMP_TICK: the millisecond timer expires once every 48 audio frames (R8, R67). -/
def execRampTick (s : State) : Out :=
  partEvent (if Config.framesPerMs ≤ s.msFrames then s.tickRamps.endTails else s)

/-! ### Resets (R14, R211) -/

/-- POWER_ON_RESET (R14, R211). -/
def execPowerOnReset (s : State) : Out := partEvent s.powerOn

/-- RESTART_BEGIN: the reset begins when the safety port shifts out at least one byte of the RESTART response (R211). -/
def execRestartBegin (clocked : Nat) (s : State) : Out :=
  partEvent (if s.restartArmed ∧ 0 < clocked ∧ s.resetLeft = none then (s.clockThrough .saf clocked).restartNow else s)

/-- RESET_INTERVAL_END: after three frames latching and frame taking resume, and the start-up scan begins (R14, R144). -/
def execResetIntervalEnd (s : State) : Out :=
  partEvent (if s.resetLeft = some 0 then { s with resetLeft := none, clips := s.clips.scanBegun } else s)

end Sys2Proof.Machine
end

