-- ==== Sys2Proof/Machine/TimerEvents.lean ====
section
/-! DEFINITION. Meanings of the events of the part's players, channels and timers. An event that is not due, because its count
has not run out or what it belongs to is gone, changes nothing: it "does not happen" (assumption log 4). -/

namespace Sys2Proof.Machine

/-! ### Pattern players (sections 4.4 and 4.5) -/

/-- The player of a name. -/
def State.player (s : State) (pl : PlayerId) : Player :=
  match pl with
  | .tg k => s.tone[k]
  | .cv v => s.voices[v].player
  | .rc => s.ring

/-- The player of a name changed. -/
def State.onPlayer (s : State) (pl : PlayerId) (f : Player → Player) : State :=
  match pl with
  | .tg k => s.onTone k f
  | .cv v => s.onVoice v fun c => { c with player := f c.player }
  | .rc => { s with ring := f s.ring }

/-- A chime voice takes an end action of LOOP as END (R101). -/
def playerLoops (pl : PlayerId) : Bool :=
  match pl with
  | .cv _ => false
  | .tg _ | .rc => true

/-- TWO_TONE_SWITCH (R98). -/
def execTwoToneSwitch (pl : PlayerId) (s : State) : Out :=
  partEvent (s.onPlayer pl fun p => if p.switchDue (s.patternOf p) then p.switchTone else p)

/-- A tone generator's END has the effect of ALARM_SILENCE in the slot's state, without a response (R100). -/
def State.toneEnded (s : State) (k : Fin 2) : State :=
  match s.slots[k].state with
  | .idle | .silenced => s.stopTone k
  | .sounding | .voice | .voiceMixed => s.silence k false

/-- A bound chime voice has reached END: it is released and its program, in PREAMBLE, becomes ACTIVE (R102, R107). -/
def State.chimeEnded (s : State) (v : Fin 4) : State :=
  match s.voices[v].bound with
  | none => s
  | some p =>
    if s.progs[p].state = .preamble then
      ((s.onVoice v fun _ => ChimeVoice.released).firstActive p false).raiseProgram s.progs[p].owner p
    else s

/-- A player that has reached END reports it to its user: the slot of a tone generator, the program of a chime voice (R97,
R100, R107). -/
def State.reportEnd (s : State) (pl : PlayerId) : State :=
  match pl with
  | .tg k => s.toneEnded k
  | .cv v => s.chimeEnded v
  | .rc => s

/-- The player's phase has run out, and with it its pattern: it reaches END (R97, item 4). -/
def State.reachesEnd (s : State) (pl : PlayerId) : Bool :=
  let p := s.player pl
  p.phaseDue && (p.phaseEnd (s.patternOf p) (playerLoops pl)).cond == .stopped

/-- The player moves on at the end of a phase; at END its user takes the effect in the same step (R97, R100, R107). -/
def State.phaseEnded (s : State) (pl : PlayerId) : State :=
  let s1 := s.onPlayer pl fun p => p.phaseEnd (s.patternOf p) (playerLoops pl)
  if s.reachesEnd pl then s1.reportEnd pl else s1

/-- The end of a player's pattern, under the name of its user's event: the phase end that reaches END, or an END that no user
has taken yet (DESIGN CHOICE; assumption log 32). -/
def State.patternEnded (s : State) (pl : PlayerId) : State :=
  if s.reachesEnd pl then s.phaseEnded pl else if (s.player pl).endReport then s.reportEnd pl else s

/-- PLAYER_PHASE_END (R97). -/
def execPlayerPhaseEnd (pl : PlayerId) (s : State) : Out := partEvent (s.phaseEnded pl)

/-- TONE_GENERATOR_END (R100). -/
def execToneGeneratorEnd (slot : Fin 2) (s : State) : Out := partEvent (s.patternEnded (.tg slot))

/-- CHIME_END (R107). -/
def execChimeEnd (voice : Fin 4) (s : State) : Out := partEvent (s.patternEnded (.cv voice))

/-! ### Clip channels (R137 to R139) -/

/-- The last repeat is used up: the channel becomes FREE and its user is told COMPLETE (R91, R113, R138, R185). -/
def State.channelComplete (s : State) (ch : ChanId) : State :=
  let s1 := s.stopChan ch
  match s.chans[ch].user with
  | some (.prog p) => s1.endAndRelease p .complete Cause.event
  | some (.window k) => s1.returnFromVoice k false
  | some .cue => (s.stopShow ch).raiseCue false
  | none => s1

/-- HOLD: the block just played begins again in the next frame; a STEPPED channel pauses before it if it is a step mark
(R139, R141). In that pause the cursor stands at the held block's sample 0, and READ_CHANNEL sends it as the current block,
where the rules do not say what is sent between two plays of a held block (DESIGN CHOICE; assumption log 44). -/
def State.holdBlock (s : State) (ch : ChanId) (b : RingBlock) : State :=
  s.onChan ch fun c =>
    if s.marked ch b.offset then { c with hold := true, state := .paused, pause := some .mark, cursor := .playing b 0 }
    else { c with hold := true, cursor := .playing b 0 }

/-- A new pass begins at the loop-start offset, or 0 without one (R138). -/
def State.newPass (s : State) (ch : ChanId) (left : Option Nat) : State :=
  let e := s.chanEntry s.chans[ch]
  (s.onChan ch fun c => { c with repeats := left, remaining := e.lastOffset - e.passStart }).nextBlock ch e.passStart

/-- Terminal count: block `b` was the last of its pass (R138, R139). -/
def State.terminalCount (s : State) (ch : ChanId) (b : RingBlock) : State :=
  let e := s.chanEntry s.chans[ch]
  match s.chans[ch].repeats with
  | none => if e.passStart = e.lastOffset then s.holdBlock ch b else s.newPass ch none
  | some n =>
    if 1 < n then s.newPass ch (some (n - 1))
    else (s.onChan ch fun c => { c with repeats := some 0 }).channelComplete ch

/-- The block playing is done: the following block is next while the remaining-block counter is above 0 (R137). -/
def State.blockEnd (s : State) (ch : ChanId) : State :=
  match s.chans[ch].cursor with
  | .playing b _ =>
    if 0 < s.chans[ch].remaining then
      (s.onChan ch fun c => { c with remaining := c.remaining - 1 }).nextBlock ch (b.offset + 1)
    else s.terminalCount ch b
  | .none | .toBegin _ => s

/-- BLOCK_DONE; at a counter of 0 it is the terminal count (R137; assumption log 33). -/
def execBlockDone (ch : ChanId) (s : State) : Out := partEvent (if s.chans[ch].blockDue then s.blockEnd ch else s)

/-- TERMINAL_COUNT (R138). -/
def execTerminalCount (ch : ChanId) (s : State) : Out :=
  partEvent (if s.chans[ch].blockDue ∧ s.chans[ch].remaining = 0 then s.blockEnd ch else s)

/-! ### Timers of programs, windows, calls and the cue engine -/

/-- WAIT_LIMIT_EXPIRY (R37, R117). -/
def execWaitLimitExpiry (prog : ProgId) (s : State) : Out :=
  partEvent (if s.progs[prog].waitTimer = some 0 then s.endAndRelease prog .waitExpired Cause.event else s)

/-- The zones still waited for leave the request (R38, R118). -/
def State.joinDone (s : State) (p : ProgId) : State :=
  State.finish s (s.onProg p fun g => { g.without g.waiting with joinTimer := none }) Cause.event

/-- JOIN_DEADLINE_EXPIRY (R38). -/
def execJoinDeadlineExpiry (prog : ProgId) (s : State) : Out :=
  partEvent (if s.progs[prog].joinTimer = some 0 then s.joinDone prog else s)

/-- The slot goes from VOICE to VOICE_MIXED and the tone goes on beneath the voice (R89). -/
def State.windowExpired (s : State) (k : Fin 2) : State :=
  ((s.onTone k Player.continue).onSlot k fun a =>
    { a with state := .voiceMixed, window := a.window.map fun w => { w with timer := none } }).raiseAlarm false

/-- VOICE_WINDOW_EXPIRY (R89). -/
def execVoiceWindowExpiry (slot : Fin 2) (s : State) : Out :=
  partEvent (if s.slots[slot].state = .voice ∧ s.slots[slot].window.bind (·.timer) = some 0 then s.windowExpired slot else s)

/-- The party rings and its timer has run out (R155). -/
def Call.ringDue (c : Call) (a : StationId) : Bool :=
  c.live && (c.party a).any fun p => p.state == .ringing && p.timer == some 0

/-- RING_TIMER_EXPIRY (R155). -/
def execRingTimerExpiry (call : CallId) (station : StationId) (s : State) : Out :=
  partEvent (if s.calls[call].ringDue station then (State.cadence s (s.leaveCall call station)).raise .call .icm else s)

/-- PRIMING_BOUND_EXPIRY (R178). -/
def execPrimingBoundExpiry (s : State) : Out :=
  partEvent (if s.cue.state = .priming ∧ s.cue.bound = some 0 then s.giveGo true else s)

/-- FOLLOW_COUNTDOWN_EXPIRY (R180). -/
def execFollowCountdownExpiry (s : State) : Out :=
  partEvent (if s.cue.state = .following ∧ s.cue.countdown = some ⟨0, false⟩ then s.followDone false else s)

/-! ### Line survey (R193, R194, R202) -/

/-- COARSE_DWELL_EXPIRY; the reading is the magnitude latched one frame before the frame at whose end it falls (R5, R192,
R193). -/
def execCoarseDwellExpiry (s : State) : Out :=
  partEvent (match s.survey.zone with
    | none => s
    | some z =>
      if s.survey.state = .coarse ∧ s.survey.dwell = some 0 then s.coarseReading z s.lanes.senseBefore[z] else s)

/-- FINE_DWELL_EXPIRY (R194). -/
def execFineDwellExpiry (s : State) : Out :=
  partEvent (match s.survey.zone with
    | none => s
    | some z =>
      if s.survey.state = .fine ∧ s.survey.dwell = some 0 then s.fineReading z s.lanes.senseBefore[z] else s)

/-- The auto survey appends the zone at the cycle pointer, which advances, and its timer starts again (R202). -/
def Survey.autoStep (v : Survey) : Survey :=
  { v.ask v.cycle id with cycle := v.cycle + 1, autoTimer := v.auto.map AutoSetting.frames }

/-- AUTO_SURVEY_INTERVAL_EXPIRY (R202). -/
def execAutoSurveyIntervalExpiry (s : State) : Out :=
  partEvent (if s.survey.autoTimer = some 0 then (s.onSurvey Survey.autoStep).takeHead else s)

end Sys2Proof.Machine
end

