-- ==== Sys2Proof/Machine/StoreEvents.lean ====
section
/-! DEFINITION. Meanings of the store's reports and of the store timeout (R120). A report names the operation it ends by its
number, and one for any other operation than that on the link is disregarded (assumption log 6). -/

namespace Sys2Proof.Machine

/-- A channel whose priming has ended: it plays, or, a show channel without a go, it is START-paused and reports to the cue
engine (R136, R142). -/
def State.primingEnd (s : State) (ch : ChanId) : State :=
  let c := s.chans[ch]
  if c.state = .priming ∧ c.primed = true then
    if h : 4 ≤ ch.val then
      if c.goMark then s.beginPlaying ch
      else (s.onChan ch fun c => { c with state := .paused, pause := some .start }).reportPrimed ⟨ch.val - 4, by omega⟩
    else s.beginPlaying ch
  else s

/-- A block arrives in the channel's ring, and the next fetch goes on in playing order (R136). -/
def State.fetched (s : State) (ch : ChanId) (offset pass : Nat) (data : List Byte) : State :=
  (s.onChan ch fun c =>
    { c with ahead := c.ahead ++ [⟨offset, data⟩],
             nextFetch := c.fetchAfter (s.chanEntry c) offset pass }).primingEnd ch

/-- A fetch has completed; a failure leaves the next fetch where it was, and a discarded block is dropped (R132, R136). -/
def State.fetchDone (s : State) (ch : ChanId) (offset pass : Nat) (discard : Bool) (data : Option (List Byte)) : State :=
  match discard, data with
  | false, some d => s.fetched ch offset pass d
  | _, _ => s

/-- SCAN_READ_COMPLETION (R144). -/
def execScanReadCompletion (op : Nat) (data : Option (List Byte)) (s : State) : Out :=
  partEvent (match s.linkOp op with
    | some (.scanRead _) => s.freeLink.scanReadDone data
    | _ => s)

/-- FETCH_COMPLETION (R136). -/
def execFetchCompletion (op : Nat) (data : Option (List Byte)) (s : State) : Out :=
  partEvent (match s.linkOp op with
    | some (.fetch ch o p _ discard) => s.freeLink.fetchDone ch o p discard data
    | _ => s)

/-- DIRECTORY_STEP_COMPLETION (R123). -/
def execDirectoryStepCompletion (op : Nat) (ok : Bool) (s : State) : Out :=
  partEvent (match s.linkOp op with
    | some (.directory img _) => s.freeLink.directoryDone img ok
    | _ => s)

/-- PROGRAMMING_STEP_COMPLETION (R126). -/
def execProgrammingStepCompletion (op : Nat) (ok : Bool) (s : State) : Out :=
  partEvent (match s.linkOp op with
    | some (.programBlock buf _ _ discard) => s.freeLink.programmingDone buf discard ok
    | _ => s)

/-- ERASE_STEP_COMPLETION (R130). -/
def execEraseStepCompletion (op : Nat) (ok : Bool) (s : State) : Out :=
  partEvent (match s.linkOp op with
    | some (.erase clip _) => s.freeLink.eraseDone clip ok
    | _ => s)

/-- An operation counted as completed with failure (R120). -/
def State.opFailed (s : State) (op : StoreOp) : State :=
  match op with
  | .scanRead _ => s.scanReadDone none
  | .fetch ch o p _ discard => s.fetchDone ch o p discard none
  | .directory img _ => s.directoryDone img false
  | .programBlock buf _ _ discard => s.programmingDone buf discard false
  | .erase clip _ => s.eraseDone clip false

/-- STORE_OPERATION_TIMEOUT (R120). -/
def execStoreOperationTimeout (s : State) : Out :=
  partEvent (match s.clips.link with
    | none => s
    | some l => if l.left = 0 then s.freeLink.opFailed l.op else s)

end Sys2Proof.Machine
end

