-- ==== Sys2Proof/Machine/RawFrames.lean ====
section
/-! DEFINITION. Transactions given by the bytes clocked in (R204 to R206): the checks of a taken frame, and the meanings of the
two rows of the table for transactions that carry no good frame. -/

namespace Sys2Proof.Machine

/-- A port command run by its own meaning. The other rows are not carried by frames and do nothing here. -/
def runCommand (i : Instr) (s : State) : Out :=
  match i with
  | .poll t => execPoll t s
  | .identify t => execIdentify t s
  | .readNotices t => execReadNotices t s
  | .clearNotices t kinds => execClearNotices t kinds s
  | .setNoticeMask t mask enable => execSetNoticeMask t mask enable s
  | .readResetCause t => execReadResetCause t s
  | .restart t => execRestart t s
  | .openProgram t a => execOpenProgram t a s
  | .addZones t prog zones => execAddZones t prog zones s
  | .dropZones t prog zones => execDropZones t prog zones s
  | .closeProgram t prog => execCloseProgram t prog s
  | .forceClose t prog => execForceClose t prog s
  | .readProgram t prog => execReadProgram t prog s
  | .readZone t zone => execReadZone t zone s
  | .setShield t zones level => execSetShield t zones level s
  | .setShowZones t zones => execSetShowZones t zones s
  | .excludeZones t zones => execExcludeZones t zones s
  | .readmitZones t zones => execReadmitZones t zones s
  | .setProgramGain t prog target duration mode => execSetProgramGain t prog target duration mode s
  | .setZoneLevel t zones target duration mode => execSetZoneLevel t zones target duration mode s
  | .setEmergencyLevel t zones level => execSetEmergencyLevel t zones level s
  | .setDuckProfile t zones level attack release => execSetDuckProfile t zones level attack release s
  | .setAlarmUnder t level => execSetAlarmUnder t level s
  | .readOverload t zone => execReadOverload t zone s
  | .alarmStart t slot pattern zones => execAlarmStart t slot pattern zones s
  | .alarmSilence t slot => execAlarmSilence t slot s
  | .alarmResound t slot => execAlarmResound t slot s
  | .alarmClear t slot => execAlarmClear t slot s
  | .alarmVoiceOpen t slot source clip repeats => execAlarmVoiceOpen t slot source clip repeats s
  | .alarmVoiceClose t slot => execAlarmVoiceClose t slot s
  | .setVoiceWindow t duration => execSetVoiceWindow t duration s
  | .readAlarm t slot => execReadAlarm t slot s
  | .loadPattern t pattern endAction loopTarget steps => execLoadPattern t pattern endAction loopTarget steps s
  | .readPattern t pattern => execReadPattern t pattern s
  | .loadBegin t clip length loop check marks => execLoadBegin t clip length loop check marks s
  | .loadData t offset data => execLoadData t offset data s
  | .loadEnd t => execLoadEnd t s
  | .loadAbandon t => execLoadAbandon t s
  | .eraseClip t clip => execEraseClip t clip s
  | .readClip t clip => execReadClip t clip s
  | .readChannel t channel => execReadChannel t channel s
  | .setStation t station home receive feed service => execSetStation t station home receive feed service s
  | .callPlace t originator priority ringTime callees => execCallPlace t originator priority ringTime callees s
  | .callAnswer t station => execCallAnswer t station s
  | .callAdd t call station => execCallAdd t call station s
  | .callHold t station => execCallHold t station s
  | .callRetrieve t station => execCallRetrieve t station s
  | .callLeave t station => execCallLeave t station s
  | .callEnd t call => execCallEnd t call s
  | .readStation t station => execReadStation t station s
  | .readCall t call => execReadCall t call s
  | .loadCue t number follow actions => execLoadCue t number follow actions s
  | .deleteCue t number => execDeleteCue t number s
  | .cueStandby t number => execCueStandby t number s
  | .cueGo t => execCueGo t s
  | .cueResume t => execCueResume t s
  | .cueStopAll t => execCueStopAll t s
  | .readCueEngine t => execReadCueEngine t s
  | .surveyZone t zones => execSurveyZone t zones s
  | .surveyCancel t zones => execSurveyCancel t zones s
  | .setSurveyParams t a => execSetSurveyParams t a s
  | .setThresholds t openT shortT freqTol pct => execSetThresholds t openT shortT freqTol pct s
  | .setReference t zones form freq mag => execSetReference t zones form freq mag s
  | .setAutoSurvey t base factor => execSetAutoSurvey t base factor s
  | .readSurvey t zone => execReadSurvey t zone s
  | .unknownCommandFrame _ _ | .transactionCutShort _ _ | .powerOnReset | .restartBegin _ | .resetIntervalEnd
  | .audioFrame _ _ | .playerPhaseEnd _ | .twoToneSwitch _ | .toneGeneratorEnd _ | .chimeEnd _ | .blockDone _
  | .terminalCount _ | .rampTick | .waitLimitExpiry _ | .joinDeadlineExpiry _ | .voiceWindowExpiry _
  | .ringTimerExpiry _ _ | .primingBoundExpiry | .followCountdownExpiry | .coarseDwellExpiry | .fineDwellExpiry
  | .autoSurveyIntervalExpiry | .storeOperationTimeout | .scanReadCompletion _ _ | .fetchCompletion _ _
  | .directoryStepCompletion _ _ | .programmingStepCompletion _ _ | .eraseStepCompletion _ _ => .next s

/-- Status of a failed frame check (R206). -/
def frameStatus : FrameError → Status
  | .length => .length
  | .check => .check
  | .unknown => .unknown

/-- The response to a taken frame that fails a check: the echo is the second byte received, or 0, and there are no results,
but for LOAD_DATA, which carries the next expected offset with every status (R125, R206; assumption log 19). -/
def State.respondBad (s : State) (p : Port) (bytes : List Byte) (e : FrameError) : State :=
  let code := bytes.getD 1 0#8
  s.respond p code (frameStatus e) (if code = 0x41#8 then s.nextOffset else [])

/-- A transaction in which `bytes` are clocked in on a port (R204 to R206, R211). -/
def State.rawTransaction (s : State) (p : Port) (bytes : List Byte) : Out :=
  let s1 := s.clockThrough p bytes.length
  if bytes.isEmpty || s.resetLeft.isSome then .next s1
  else if s.restartArmed && p == .saf then .next s1.restartNow
  else if !frameTaken bytes then .next s1
  else
    match decodeFrame p bytes with
    | .error e => partEvent (s1.respondBad p bytes e)
    | .ok i => runCommand i s

/-- UNKNOWN_COMMAND_FRAME: a taken frame that fails a check is answered and has no effect (R206). -/
def execUnknownCommandFrame (p : Port) (bytes : List Byte) (s : State) : Out := s.rawTransaction p bytes

/-- TRANSACTION_CUT_SHORT: the frame is discarded, and a pending response of which a byte was shifted out is lost (R204,
R205). -/
def execTransactionCutShort (p : Port) (bytes : List Byte) (s : State) : Out := s.rawTransaction p bytes

end Sys2Proof.Machine
end

