-- ==== Sys2Proof/Machine/Dispatch.lean ====
section
/-! DEFINITION. The meaning of every command and event, one arm per row of the table. -/

namespace Sys2Proof.Machine

def exec (i : Instr) (s : State) : Host.Outcome State Fault Refusal :=
  match i with
  | .poll t => Sys2Proof.Machine.execPoll t s
  | .identify t => Sys2Proof.Machine.execIdentify t s
  | .readNotices t => Sys2Proof.Machine.execReadNotices t s
  | .clearNotices t kinds => Sys2Proof.Machine.execClearNotices t kinds s
  | .setNoticeMask t mask enable => Sys2Proof.Machine.execSetNoticeMask t mask enable s
  | .readResetCause t => Sys2Proof.Machine.execReadResetCause t s
  | .restart t => Sys2Proof.Machine.execRestart t s
  | .openProgram t a => Sys2Proof.Machine.execOpenProgram t a s
  | .addZones t prog zones => Sys2Proof.Machine.execAddZones t prog zones s
  | .dropZones t prog zones => Sys2Proof.Machine.execDropZones t prog zones s
  | .closeProgram t prog => Sys2Proof.Machine.execCloseProgram t prog s
  | .forceClose t prog => Sys2Proof.Machine.execForceClose t prog s
  | .readProgram t prog => Sys2Proof.Machine.execReadProgram t prog s
  | .readZone t zone => Sys2Proof.Machine.execReadZone t zone s
  | .setShield t zones level => Sys2Proof.Machine.execSetShield t zones level s
  | .setShowZones t zones => Sys2Proof.Machine.execSetShowZones t zones s
  | .excludeZones t zones => Sys2Proof.Machine.execExcludeZones t zones s
  | .readmitZones t zones => Sys2Proof.Machine.execReadmitZones t zones s
  | .setProgramGain t prog target duration mode => Sys2Proof.Machine.execSetProgramGain t prog target duration mode s
  | .setZoneLevel t zones target duration mode => Sys2Proof.Machine.execSetZoneLevel t zones target duration mode s
  | .setEmergencyLevel t zones level => Sys2Proof.Machine.execSetEmergencyLevel t zones level s
  | .setDuckProfile t zones level attack release => Sys2Proof.Machine.execSetDuckProfile t zones level attack release s
  | .setAlarmUnder t level => Sys2Proof.Machine.execSetAlarmUnder t level s
  | .readOverload t zone => Sys2Proof.Machine.execReadOverload t zone s
  | .alarmStart t slot pattern zones => Sys2Proof.Machine.execAlarmStart t slot pattern zones s
  | .alarmSilence t slot => Sys2Proof.Machine.execAlarmSilence t slot s
  | .alarmResound t slot => Sys2Proof.Machine.execAlarmResound t slot s
  | .alarmClear t slot => Sys2Proof.Machine.execAlarmClear t slot s
  | .alarmVoiceOpen t slot source clip repeats => Sys2Proof.Machine.execAlarmVoiceOpen t slot source clip repeats s
  | .alarmVoiceClose t slot => Sys2Proof.Machine.execAlarmVoiceClose t slot s
  | .setVoiceWindow t duration => Sys2Proof.Machine.execSetVoiceWindow t duration s
  | .readAlarm t slot => Sys2Proof.Machine.execReadAlarm t slot s
  | .loadPattern t pattern endAction loopTarget steps => Sys2Proof.Machine.execLoadPattern t pattern endAction loopTarget steps s
  | .readPattern t pattern => Sys2Proof.Machine.execReadPattern t pattern s
  | .loadBegin t clip length loop check marks => Sys2Proof.Machine.execLoadBegin t clip length loop check marks s
  | .loadData t offset data => Sys2Proof.Machine.execLoadData t offset data s
  | .loadEnd t => Sys2Proof.Machine.execLoadEnd t s
  | .loadAbandon t => Sys2Proof.Machine.execLoadAbandon t s
  | .eraseClip t clip => Sys2Proof.Machine.execEraseClip t clip s
  | .readClip t clip => Sys2Proof.Machine.execReadClip t clip s
  | .readChannel t channel => Sys2Proof.Machine.execReadChannel t channel s
  | .setStation t station home receive feed service => Sys2Proof.Machine.execSetStation t station home receive feed service s
  | .callPlace t originator priority ringTime callees => Sys2Proof.Machine.execCallPlace t originator priority ringTime callees s
  | .callAnswer t station => Sys2Proof.Machine.execCallAnswer t station s
  | .callAdd t call station => Sys2Proof.Machine.execCallAdd t call station s
  | .callHold t station => Sys2Proof.Machine.execCallHold t station s
  | .callRetrieve t station => Sys2Proof.Machine.execCallRetrieve t station s
  | .callLeave t station => Sys2Proof.Machine.execCallLeave t station s
  | .callEnd t call => Sys2Proof.Machine.execCallEnd t call s
  | .readStation t station => Sys2Proof.Machine.execReadStation t station s
  | .readCall t call => Sys2Proof.Machine.execReadCall t call s
  | .loadCue t number follow actions => Sys2Proof.Machine.execLoadCue t number follow actions s
  | .deleteCue t number => Sys2Proof.Machine.execDeleteCue t number s
  | .cueStandby t number => Sys2Proof.Machine.execCueStandby t number s
  | .cueGo t => Sys2Proof.Machine.execCueGo t s
  | .cueResume t => Sys2Proof.Machine.execCueResume t s
  | .cueStopAll t => Sys2Proof.Machine.execCueStopAll t s
  | .readCueEngine t => Sys2Proof.Machine.execReadCueEngine t s
  | .surveyZone t zones => Sys2Proof.Machine.execSurveyZone t zones s
  | .surveyCancel t zones => Sys2Proof.Machine.execSurveyCancel t zones s
  | .setSurveyParams t a => Sys2Proof.Machine.execSetSurveyParams t a s
  | .setThresholds t openT shortT freqTol pct => Sys2Proof.Machine.execSetThresholds t openT shortT freqTol pct s
  | .setReference t zones form freq mag => Sys2Proof.Machine.execSetReference t zones form freq mag s
  | .setAutoSurvey t base factor => Sys2Proof.Machine.execSetAutoSurvey t base factor s
  | .readSurvey t zone => Sys2Proof.Machine.execReadSurvey t zone s
  | .unknownCommandFrame p bytes => Sys2Proof.Machine.execUnknownCommandFrame p bytes s
  | .transactionCutShort p bytes => Sys2Proof.Machine.execTransactionCutShort p bytes s
  | .powerOnReset => Sys2Proof.Machine.execPowerOnReset s
  | .restartBegin clocked => Sys2Proof.Machine.execRestartBegin clocked s
  | .resetIntervalEnd => Sys2Proof.Machine.execResetIntervalEnd s
  | .audioFrame inputs sense => Sys2Proof.Machine.execAudioFrame inputs sense s
  | .playerPhaseEnd pl => Sys2Proof.Machine.execPlayerPhaseEnd pl s
  | .twoToneSwitch pl => Sys2Proof.Machine.execTwoToneSwitch pl s
  | .toneGeneratorEnd slot => Sys2Proof.Machine.execToneGeneratorEnd slot s
  | .chimeEnd voice => Sys2Proof.Machine.execChimeEnd voice s
  | .blockDone ch => Sys2Proof.Machine.execBlockDone ch s
  | .terminalCount ch => Sys2Proof.Machine.execTerminalCount ch s
  | .rampTick => Sys2Proof.Machine.execRampTick s
  | .waitLimitExpiry prog => Sys2Proof.Machine.execWaitLimitExpiry prog s
  | .joinDeadlineExpiry prog => Sys2Proof.Machine.execJoinDeadlineExpiry prog s
  | .voiceWindowExpiry slot => Sys2Proof.Machine.execVoiceWindowExpiry slot s
  | .ringTimerExpiry call station => Sys2Proof.Machine.execRingTimerExpiry call station s
  | .primingBoundExpiry => Sys2Proof.Machine.execPrimingBoundExpiry s
  | .followCountdownExpiry => Sys2Proof.Machine.execFollowCountdownExpiry s
  | .coarseDwellExpiry => Sys2Proof.Machine.execCoarseDwellExpiry s
  | .fineDwellExpiry => Sys2Proof.Machine.execFineDwellExpiry s
  | .autoSurveyIntervalExpiry => Sys2Proof.Machine.execAutoSurveyIntervalExpiry s
  | .storeOperationTimeout => Sys2Proof.Machine.execStoreOperationTimeout s
  | .scanReadCompletion op data => Sys2Proof.Machine.execScanReadCompletion op data s
  | .fetchCompletion op data => Sys2Proof.Machine.execFetchCompletion op data s
  | .directoryStepCompletion op ok => Sys2Proof.Machine.execDirectoryStepCompletion op ok s
  | .programmingStepCompletion op ok => Sys2Proof.Machine.execProgrammingStepCompletion op ok s
  | .eraseStepCompletion op ok => Sys2Proof.Machine.execEraseStepCompletion op ok s

end Sys2Proof.Machine
end

