-- ==== Sys2Proof/Machine/Step.lean ====
section
/-! DEFINITION. The step of the part: it takes the command at the front of its queue. -/

namespace Sys2Proof.Machine

/-- One step: the command at the front of the queue acts on the part with the rest of the queue; with nothing waiting the part
idles (assumption log 2). -/
def step (s : State) : Host.Outcome State Fault Refusal :=
  match s.pending with
  | [] => .next s
  | i :: rest => exec i { s with pending := rest }

/-- The command that a word of the opcode table spells, put at the front of the queue. No row of the table gives bits, so the
state is unchanged. -/
def State.withFetchWord (s : State) (nbits w : Nat) : State :=
  match decodeTableWord nbits w with
  | none => s
  | some i => { s with pending := i :: s.pending }

end Sys2Proof.Machine
end

