-- ==== Sys2Proof/Safety.lean ====
section
/-! DEFINITION. The laws the manual says the part keeps at every event, as Bool functions of the state; when a port command is
taken; what a LOAD_CUE frame holds and what a CUE_GO does with a cue, in the terms of the statements; and which of the part's
own events are due. -/

namespace Sys2Proof.Machine

/-! ### Taking a command -/

/-- A frame of the transaction is taken: no reset interval runs, and it does not shift out the RESTART response (R211). -/
def State.listens (s : State) (t : Txn) : Bool := s.resetLeft.isNone && !(s.restartArmed && t.port == .saf)

/-- The store link is busy or nothing waits for it, as the arbiter leaves it at the end of every step (R132). -/
def State.served (s : State) : Bool := s.resetLeft.isSome || s.clips.link.isSome || s.firstWaiting.isNone

/-- The pending response of a port is the one with this echo, status and results. -/
def State.answered (s : State) (t : Txn) (code : Byte) (st : Status) (results : List Byte) : Prop :=
  (s.port t.port).response = some (responseBytes code st results)

/-- What a transaction of `n` bytes that is answered does to the state by itself: at its port the receive frame is gone, what
was pending has been shifted out, and the response is pending (R204, R205). Nothing else changes. -/
def State.answering (s : State) (p : Port) (n : Nat) (code : Byte) (st : Status) (results : List Byte) : State :=
  s.onPort p fun c =>
    { c with rx := [], response := some (responseBytes code st results), dataOut := shiftedOut c.response n }

/-- The same for the transaction of a command frame with `n` bytes of parameters. -/
def State.replying (s : State) (t : Txn) (n : Nat) (code : Byte) (st : Status) (results : List Byte) : State :=
  s.answering t.port (n + 3 + t.extra) code st results

/-- A port controller that no frame of its own has touched: only its notice set and its changed-program set may have grown
(R204, R207). -/
def PortCtl.grows (a b : PortCtl) : Bool :=
  b.rx == a.rx && b.response == a.response && b.mask == a.mask && b.attention == a.attention && b.dataOut == a.dataOut &&
  a.notices &&& b.notices == a.notices && a.changed &&& b.changed == a.changed

/-- The program's state and wait timer are those its sets call for, so that no settling is left to do (R19, R37). -/
def Program.settled (g : Program) : Bool :=
  match g.state with
  | .free | .ended => true
  | .tail => g.granted != 0#64
  | .pending => g.granted == 0#64 && g.held == 0#64 && g.waiting != 0#64 && g.waitTimer.isSome == g.waitLimit.isSome
  | .held => g.granted == 0#64 && g.held != 0#64 && g.waitTimer.isSome == g.waitLimit.isSome
  | .preamble | .active => g.granted != 0#64 && g.waitTimer.isNone

/-- Every program has taken its state (R19). -/
def State.statesFollow (s : State) : Bool := (List.finRange 32).all fun p => s.progs[p].settled

/-- No program of class 0 to 2 owns the zone under survey (R191, R198). -/
def State.surveyClear (s : State) : Bool := s.survey.zone.all fun z => (s.ownerClass z).all fun c => decide (2 < c)

/-- The part has finished all the work of the steps so far: every program has its state, no survey is to be aborted, and the
link is busy or nothing waits for it (R19, R52, R132). -/
def State.atRest (s : State) : Bool := s.statesFollow && s.surveyClear && s.served

/-! ### The claim table (R16, R24, R27) -/

/-- The program is open: neither FREE nor ENDED. -/
def Program.isOpen (g : Program) : Bool := g.state != .free && g.state != .ended

/-- R16 for one program: the three sets are disjoint, together they are the request, and they agree with the zone table; a
FREE or ENDED program owns, holds and waits for nothing. -/
def State.programAgrees (s : State) (p : ProgId) : Bool :=
  let g := s.progs[p]
  (if g.isOpen then
    g.granted &&& g.held == 0#64 && g.granted &&& g.waiting == 0#64 && g.held &&& g.waiting == 0#64 &&
    g.granted ||| g.held ||| g.waiting == g.requested
  else g.granted == 0#64 && g.held == 0#64 && g.waiting == 0#64 && g.requested == 0#64) &&
  (List.finRange 64).all fun z =>
    g.granted.getLsbD z.val == (if g.kind = .bed then s.zones[z].bed == some p else s.zones[z].owner == some p) &&
    g.held.getLsbD z.val == s.zones[z].stack.contains p

/-- The claim table and the program table agree (R16). -/
def State.claimsAgree (s : State) : Bool := (List.finRange 32).all fun p => s.programAgrees p

/-- Numbers that never fall along the list. -/
def neverFalling : List Nat → Bool
  | [] | [_] => true
  | a :: b :: rest => decide (a ≤ b) && neverFalling (b :: rest)

/-- R24 for one zone: owner and stack entries are distinct programs, the stack holds at most three, and their classes never
fall from the owner down. -/
def State.stackLawful (s : State) (z : Zone) : Bool :=
  let r := s.zones[z]
  let line := r.owner.toList ++ r.stack
  decide line.Nodup && decide (r.stack.length ≤ Config.stackDepth) &&
  neverFalling (line.map fun p => s.progs[p].cls)

/-- A program that is not open has no timer running, and one that takes its zones together has none of them yet (R21, R32). -/
def Program.claimsLawful (g : Program) : Bool :=
  (g.isOpen || (g.waitTimer.isNone && g.joinTimer.isNone)) &&
  (!g.isOpen || !g.together || (g.granted == 0#64 && g.held == 0#64))

/-- A zone without owner has an empty hold stack, and an excluded zone has no owner and no bed and is in no program's request
(R34, R48). -/
def State.zoneLawful (s : State) (z : Zone) : Bool :=
  let r := s.zones[z]
  (r.owner.isSome || r.stack.isEmpty) &&
  (!r.excluded || (r.owner.isNone && r.bed.isNone && (List.finRange 32).all fun p => !s.progs[p].requested.getLsbD z.val))

/-- No program waits to take its zones together while it owns some, no zone without owner holds programs back, and no excluded
zone is claimed (R21, R32, R34, R48). -/
def State.zonesLawful (s : State) : Bool :=
  ((List.finRange 32).all fun p => s.progs[p].claimsLawful) && (List.finRange 64).all fun z => s.zoneLawful z

/-- What lies where has the kind for it: owners are of a foreground kind, stack entries of a resumable kind, and bed slots are
held by BED programs (R18, R28, R30). -/
def State.kindsLawful (s : State) : Bool :=
  (List.finRange 64).all fun z =>
    (s.zones[z].owner.all fun o => s.progs[o].kind != .bed) && (s.zones[z].stack.all fun q => s.progs[q].kind.resumable) &&
    (s.zones[z].bed.all fun b => s.progs[b].kind == .bed)

/-- A program in TAIL is a LIVE program that neither holds nor waits for a zone (R19, R44, R109). -/
def State.tailsLawful (s : State) : Bool :=
  (List.finRange 32).all fun p => s.progs[p].state != .tail ||
    (s.progs[p].kind == .live && s.progs[p].held == 0#64 && s.progs[p].waiting == 0#64)

/-- An open program of class 0 is one of the two alarm programs, and they are of class 0 (R18, R27). -/
def State.classesLawful (s : State) : Bool :=
  (List.finRange 32).all fun p => !s.progs[p].isOpen || ((s.progs[p].cls == 0) == decide (p.val < 2))

/-- The law of the hold stacks (R24). -/
def State.stacksLawful (s : State) : Bool := (List.finRange 64).all fun z => s.stackLawful z

/-- The open program of a slot is an ALARM program that takes its zones one by one, and a slot that is not IDLE has its pattern
(R77, R79). -/
def State.slotLawful (s : State) (k : Fin 2) : Bool :=
  let g := s.progs[progOfSlot k]
  (!g.isOpen || (g.kind == .alarm && g.policy == .takeAvailable)) && (s.slots[k].state == .idle || s.slots[k].pattern.isSome)

/-- While a slot is not IDLE each zone of its program's request is owned by that program or by program 0; while it is IDLE
the program is FREE or ENDED (R27, R77). -/
def State.alarmHolds (s : State) (k : Fin 2) : Bool :=
  let g := s.progs[progOfSlot k]
  if s.slots[k].state = .idle then !g.isOpen
  else g.isOpen && (zonesOf g.requested).all fun z =>
    s.zones[z].owner == some (progOfSlot k) || s.zones[z].owner == some 0

/-- A tone generator runs in SOUNDING and VOICE_MIXED, is paused in VOICE and stopped in SILENCED and IDLE (R99). -/
def State.toneFollows (s : State) (k : Fin 2) : Bool :=
  s.tone[k].cond == (match s.slots[k].state with
    | .sounding | .voiceMixed => .running
    | .voice => .paused
    | .silenced | .idle => .stopped)

/-- A window is present in VOICE and VOICE_MIXED alone (R77, R87). -/
def AlarmSlot.windowLawful (a : AlarmSlot) : Bool := a.window.isSome == (a.state == .voice || a.state == .voiceMixed)

/-- The three lists that keep an order hold each record once, and just those they are for: opened programs, ended programs and
ended calls (R17, R22, R151). -/
def State.ordersLawful (s : State) : Bool :=
  decide s.openOrder.Nodup && decide s.endOrder.Nodup && decide s.callEnds.Nodup &&
  ((List.finRange 32).all fun p =>
    (s.openOrder.contains p == (s.progs[p].state != .free)) && (s.endOrder.contains p == (s.progs[p].state == .ended))) &&
  (List.finRange 16).all fun x => s.callEnds.contains x == (s.calls[x].state == .ended)

/-! ### Gains and samples (Conventions, R61, R65, R162) -/

/-- Every value of a ramp is a Q15 value (R65). -/
def Ramp.inRange (r : Ramp) : Bool :=
  decide (r.current ≤ unity) && decide (r.start ≤ unity) && decide (r.target ≤ unity) && r.staged.all fun t => decide (t.1 ≤ unity)

def ZoneRec.gainsInRange (r : ZoneRec) : Bool :=
  r.master.inRange && r.duck.inRange && decide (r.emergency ≤ unity) && decide (r.duckLevel ≤ unity)

/-- Every level of a pattern's steps is a Q15 value (R94). -/
def Pattern.levelsInRange (p : Pattern) : Bool := p.steps.all fun st => decide (st.level ≤ unity)

/-- Every gain, level and factor that scales a sample is at most 32,768 (Conventions): those of programs, zones and stations,
the alarm-under level, the pilot level and the levels of the pattern steps (R61, R65, R94, R98, R199). -/
def State.gainsInRange (s : State) : Bool :=
  ((List.finRange 32).all fun p => s.progs[p].gain.inRange) && ((List.finRange 64).all fun z => s.zones[z].gainsInRange) &&
  ((List.finRange 32).all fun a => decide (s.stations[a].receive ≤ unity) && decide (s.stations[a].feed ≤ unity)) &&
  decide (s.alarmUnder ≤ unity) && decide (s.survey.pilotLevel ≤ unity) &&
  (List.finRange 16).all fun k => s.patterns[k].levelsInRange

/-- A value of the sample range. -/
def isSample (x : Int) : Bool := decide (sampleMin ≤ x) && decide (x ≤ sampleMax)

/-- Every output slot carries a sample (R61, R162). -/
def Lanes.outputsInRange (l : Lanes) : Bool :=
  ((List.finRange 64).all fun z => isSample l.zoneOut[z]) && (List.finRange 32).all fun a => isSample l.stationOut[a]

/-! ### Stations and calls (R146, R147, R149, R150) -/

/-- State of a station by its party's state in its current call (R146). -/
def PartyState.stationState (p : PartyState) : StationState :=
  match p with
  | .calling => .calling
  | .ringing => .ringing
  | .active => .inCall
  | .onHold => .onHold
  | .suspended => .idle

/-- A station's record agrees with the calls; it has a suspended call only while its current call is of EMERGENCY priority, and
the suspended call is not (R146, R147, R153). -/
def State.stationAgrees (s : State) (a : StationId) : Bool :=
  let r := s.stations[a]
  (match r.current with
    | none => r.state == .idle || r.state == .talkout || r.state == .disabled
    | some x => s.calls[x].live && (s.calls[x].party a).any fun p => p.state != .suspended && p.state.stationState == r.state) &&
  (match r.suspended with
    | none => true
    | some y => s.calls[y].live && ((s.calls[y].party a).any fun p => p.state == .suspended) &&
      s.calls[y].priority != .emergency && r.current.any fun x => s.calls[x].priority == .emergency)

/-- A station is in TALKOUT exactly while it is the source of an open CALL_OUT program, and of one only; such a program always
has a station as its source (R115, R116, R147). -/
def State.calloutsLawful (s : State) : Bool :=
  ((List.finRange 32).all fun a =>
    (List.finRange 32).countP (fun p => s.progs[p].isOpen && s.progs[p].station == some a) ==
      if s.stations[a].state = .talkout then 1 else 0) &&
  (List.finRange 32).all fun p => !s.progs[p].isOpen || s.progs[p].kind != .callOut || s.progs[p].station.isSome

/-- A live call keeps the numbers of standing and ringing parties of R149 and R150, and names no station twice. -/
def Call.lawful (c : Call) : Bool :=
  decide c.stations.Nodup &&
  match c.state with
  | .ringing => c.standing == 1 && decide (1 ≤ c.ringing) && decide (c.parties.length ≤ 4)
  | .connected => decide (2 ≤ c.standing) && decide (c.parties.length ≤ 4)
  | .free | .ended => true

/-- A party of a live call is a party by its station's record too (R147). -/
def State.partiesAgree (s : State) (x : CallId) : Bool :=
  !s.calls[x].live || s.calls[x].parties.all fun p =>
    if p.state = .suspended then s.stations[p.station].suspended == some x else s.stations[p.station].current == some x

/-- Patterns 0 to 3 are the built-in ones, and RC plays pattern 3 when it plays (R93, R103). -/
def State.cadenceLawful (s : State) : Bool :=
  ((List.finRange 16).all fun k => decide (4 ≤ k.val) || s.patterns[k] == builtInPattern k) &&
  (s.ring.cond == .stopped || s.ring.pattern == 3)

/-- The intercom's laws (R146, R147, R150), and RC running exactly while a station is RINGING or CALLING (R103). -/
def State.intercomLawful (s : State) : Bool :=
  ((List.finRange 32).all fun a => s.stationAgrees a) &&
  ((List.finRange 16).all fun x => s.calls[x].lawful && s.partiesAgree x) &&
  (s.ring.cond == if s.ringingStations = 0 then .stopped else .running)

/-- A call that station `a` has left, settled: it goes on, returns to RINGING with its waiting party CALLING, or ends DEPLETED
with its other parties IDLE (R150, R160). The call is not of EMERGENCY priority. -/
def State.leftAndSettled (s u : State) (x : CallId) (a : StationId) : Prop :=
  let c := s.calls[x]
  let rest := c.parties.filter fun p => p.station ≠ a
  let standing := rest.countP fun p => p.state ≠ .ringing
  let ringing := rest.countP fun p => p.state = .ringing
  u.stations[a] = { s.stations[a] with state := .idle, current := none } ∧
  (∀ y : CallId, y ≠ x → u.calls[y] = s.calls[y]) ∧
  (∀ b : StationId, s.stations[b].current ≠ some x → s.stations[b].suspended ≠ some x → u.stations[b] = s.stations[b]) ∧
  ((standing = 0 ∨ (ringing = 0 ∧ standing < 2)) →
    u.calls[x] = { c with state := .ended, endCause := some .depleted, parties := rest } ∧
    (∀ b : StationId, s.stations[b].current = some x → u.stations[b] = { s.stations[b] with state := .idle, current := none }) ∧
    (∀ b : StationId, s.stations[b].suspended = some x → u.stations[b].suspended = none)) ∧
  ((2 ≤ standing ∨ (c.state = .ringing ∧ standing = 1 ∧ 1 ≤ ringing)) →
    u.calls[x] = { c with parties := rest } ∧ ∀ b : StationId, b ≠ a → u.stations[b] = s.stations[b]) ∧
  (c.state = .connected → standing = 1 → 1 ≤ ringing →
    u.calls[x] = { c with
      state := .ringing
      parties := rest.map fun p => if p.state = .active ∨ p.state = .onHold then { p with state := .calling } else p } ∧
    ∀ b : StationId, b ≠ a → s.stations[b].current = some x → s.stations[b].state ≠ .ringing →
      u.stations[b] = { s.stations[b] with state := .calling })

/-! ### Clips, cues and the survey -/

/-- The engine has executed the cue `q` of PLAY actions: it is PRIMING with every channel of the cue awaited and 250 ms on the
bound, each channel primes its clip, and no other channel, no program and no zone has changed (R136, R178). -/
def State.primesCue (s u : State) (q : Cue) : Prop :=
  u.cue = { s.cue with
    state := .priming, executing := some q.number, countdown := none, faults := [], bound := some 12000
    startSet := (q.actions.flatMap CueAction.plays).map fun k => (k, false) } ∧
  (∀ k id tr n, CueAction.play k id tr n ∈ q.actions → u.chans[showChan k] = { s.chans[showChan k] with
    state := .priming, clip := some id, trigger := tr, repeats := n, passes := n, cursor := .none, pause := none, ahead := []
    remaining := s.clips.dir[id].last.getD 0, hold := false, nextFetch := some (0, 1), underrun := 0, goMark := false }) ∧
  (∀ ch : ChanId, (∀ k ∈ q.actions.flatMap CueAction.plays, ch ≠ showChan k) → u.chans[ch] = s.chans[ch]) ∧
  u.progs = s.progs ∧ u.zones = s.zones

/-- The number in `n` of an action's ten field bytes from byte `i` on, most significant byte first (R212, R214). -/
def fieldNum (x : RawAction) (i n : Nat) : Nat := (x.fields.extractLsb' (80 - 8 * (i + n)) (8 * n)).toNat

/-- The zone set in eight field bytes from byte `i` on: byte j of them carries zones 8j to 8j + 7, the first in bit 0
(R212). -/
def fieldNames (x : RawAction) (i : Nat) (zs : ZoneSet) : Prop :=
  ∀ z : Zone, zs.getLsbD z.val = x.fields.getLsbD (72 - 8 * (i + z.val / 8) + z.val % 8)

/-- What an action of a LOAD_CUE frame says: its kind, its fields in the order of R214, the values R170 allows, and its clamps.
A repeat count is 1 to 255, or 256 for continuous (R212; any other is PARAM, assumption log 14). -/
def RawAction.says (x : RawAction) (a : CueAction) : Prop :=
  match a with
  | .route slot src zs =>
    x.kind = 0#8 ∧ fieldNum x 0 1 = slot.val ∧ fieldNum x 1 1 = src ∧ ((8 ≤ src ∧ src ≤ 15) ∨ (52 ≤ src ∧ src ≤ 55)) ∧
    fieldNames x 2 zs ∧ zs ≠ 0#64
  | .unroute slot => x.kind = 1#8 ∧ fieldNum x 0 1 = slot.val
  | .bed slot zs => x.kind = 2#8 ∧ fieldNum x 0 1 = slot.val ∧ fieldNames x 1 zs ∧ zs ≠ 0#64
  | .fade slot part target duration staged =>
    x.kind = 3#8 ∧ fieldNum x 0 1 = slot.val ∧ fieldNum x 1 1 = (match part with | .showPart => 0 | .bedPart => 1) ∧
    target = min (fieldNum x 2 2) 32768 ∧ duration = min (fieldNum x 4 3) 10000 ∧ fieldNum x 7 1 = if staged then 0 else 1
  | .play k id tr n =>
    x.kind = 4#8 ∧ fieldNum x 0 1 = k.val ∧ fieldNum x 1 1 = id.val ∧
    fieldNum x 2 1 = (match tr with | .free => 0 | .gated => 1 | .stepped => 2) ∧ fieldNum x 3 2 = n.getD 256 ∧
    n.all fun c => decide (1 ≤ c) && decide (c ≤ 255)
  | .stop k => x.kind = 5#8 ∧ fieldNum x 0 1 = k.val
  | .step k => x.kind = 6#8 ∧ fieldNum x 0 1 = k.val

/-- The cue that a LOAD_CUE frame gives: its number, its follow delay, which is absent as all ones, and its actions one by one
as the frame says them, no two of them PLAYs on one channel (R170). -/
def Cue.isOf (q : Cue) (number : BitVec 16) (follow : BitVec 24) (actions : List RawAction) : Prop :=
  q.number = number.toNat ∧ 1 ≤ q.number ∧ q.number ≤ 9999 ∧
  ((follow = 0xFFFFFF#24 ∧ q.follow = none) ∨ (follow.toNat ≤ 600000 ∧ q.follow = some follow.toNat)) ∧
  1 ≤ actions.length ∧ actions.length ≤ 8 ∧ List.Forall₂ RawAction.says actions q.actions ∧
  (q.actions.flatMap CueAction.plays).Nodup

/-- The survey of zone `z` has begun in `u` with the requesters given, from the parameters `v` holds (R191, R192). -/
def Survey.began (v u : Survey) (z : Zone) (who : Requesters) : Prop :=
  u.state = .coarse ∧ u.zone = some z ∧ u.requesters = who ∧ u.sweep = v.params ∧ u.pilotFreq = v.params.fStart ∧
  u.readings = 0 ∧ u.maximum = none ∧ u.coarsePeak = none ∧ u.below = 0 ∧ u.dwell = some (48 * v.params.coarseDwell) ∧
  u.pgRunning = true ∧ u.pgAcc = 0#24

/-- The image block that holds the entry's record has become dirty in `u`, or, where the link was free, its directory step has
begun there and writes the entry as it now is (R123, R132). -/
def State.soiledBy (s u : State) (id : ClipId) : Prop :=
  let img : Fin 2 := if id.val < 128 then 0 else 1
  u.clips.dirty[img] = true ∨
    (s.clips.link = none ∧ ∃ l, u.clips.link = some l ∧ l.op = .directory img (u.clips.image img))

/-- No channel is bound to a clip that is not READY (R134). -/
def State.channelsReady (s : State) : Bool :=
  (List.finRange 8).all fun ch => s.chans[ch].clip.all fun id => s.clips.dir[id].state == .ready

/-- A pool channel serves the open program of kind CLIP that names it, the voice window that names it or nobody, and a show channel
serves the cue engine (R87, R133, R134). -/
def State.usersLawful (s : State) : Bool :=
  ((List.finRange 32).all fun p => !s.progs[p].isOpen || ((s.progs[p].clipPart.bind (·.channel)).all fun ch =>
    decide (ch.val < 4) && s.chans[ch].user == some (.prog p))) &&
  ((List.finRange 2).all fun k => (s.slots[k].window.bind fun w => w.source.channel).all fun ch =>
    s.chans[ch].user == some (.window k)) &&
  (List.finRange 8).all fun ch =>
    match s.chans[ch].user with
    | none => decide (ch.val < 4)
    | some (.prog p) => decide (ch.val < 4) && s.progs[p].isOpen && s.progs[p].kind == .clip &&
      s.progs[p].clipPart.bind (·.channel) == some ch
    | some (.window k) => decide (ch.val < 4) && (s.slots[k].window.bind fun w => w.source.channel) == some ch
    | some .cue => decide (4 ≤ ch.val)

/-- No two allocated block ranges meet, and none leaves the data blocks (R122). -/
def ClipEngine.rangesApart (c : ClipEngine) : Bool :=
  decide ((c.ranges none).Pairwise fun a b => a.2 < b.1 ∨ b.2 < a.1) &&
  (c.ranges none).all fun r => decide (2 ≤ r.1) && decide (r.2 ≤ Config.lastBlock)

/-- The entry of the load in progress is LOADING; the erase list holds ERASING entries, each once, and an erase step under way is
for one of them; and during the start-up scan the entries it has yet to read are EMPTY (R124, R129, R130, R144). -/
def ClipEngine.entriesLawful (c : ClipEngine) : Bool :=
  (c.load.all fun l => c.dir[l.clip].state == .loading) && decide c.eraseList.Nodup &&
  (c.eraseList.all fun id => c.dir[id].state == .erasing) &&
  (c.link.all fun l => match l.op with
    | .erase id _ => c.eraseList.contains id
    | .scanRead _ | .fetch _ _ _ _ _ | .directory _ _ | .programBlock _ _ _ _ => true) &&
  c.scan.all fun sc => (List.finRange 256).all fun id => decide (id.val / 128 < sc.img.val) || c.dir[id].state == .empty

/-- Through a reset interval the scan has not begun and the directory is empty (R14, R144). -/
def State.resetLawful (s : State) : Bool :=
  s.resetLeft.isNone || (s.clips.scan.isNone && (List.finRange 256).all fun id => s.clips.dir[id].state == .empty)

/-- The cue list is in rising number order and holds at most 64 cues (R169). -/
def CueEngine.listLawful (c : CueEngine) : Bool :=
  decide ((c.cues.map (·.number)).Pairwise (· < ·)) && decide (c.cues.length ≤ Config.maxCues)

/-- What a state the engine rests in, or returns to from HELD, asks of its list and standby cue (R173). -/
def CueEngine.fits (c : CueEngine) (e : EngineState) : Bool :=
  match e with
  | .empty => c.cues.isEmpty && c.standby.isNone
  | .standby | .following => c.standby.isSome
  | .finished => c.standby.isNone && !c.cues.isEmpty
  | .priming | .held => false

/-- The engine's state and its list, standby cue, executing cue and countdown go together (R173, R181). -/
def CueEngine.stateLawful (c : CueEngine) : Bool :=
  (c.executing.isSome == (c.state == .priming)) &&
  (match c.state with
    | .priming => c.bound.isSome && !c.startSet.isEmpty
    | .held => c.ret.any c.fits
    | .empty | .standby | .following | .finished => c.fits c.state) &&
  (c.countdown.isSome == (c.state == .following || (c.state == .held && c.ret == some .following))) &&
  (c.standby.all fun n => (c.find n).isSome) && c.executing.all fun n => (c.find n).isSome

/-- A route slot refers to open programs that were opened through it, a SHOW program and a BED program (R172). -/
def State.routesLawful (s : State) : Bool :=
  (List.finRange 8).all fun k =>
    (s.cue.slots[k].showProg.all fun p =>
      s.progs[p].isOpen && s.progs[p].routeSlot == some k && s.progs[p].kind == .showSound) &&
    s.cue.slots[k].bedProg.all fun p => s.progs[p].isOpen && s.progs[p].routeSlot == some k && s.progs[p].kind == .bed

/-- The survey's laws: the zone under survey is the one flagged, none is flagged in IDLE, its owner is not of class 0 to 2, no
zone is queued twice or while under survey, and the engine is not IDLE with a queue (R189, R191). -/
def State.surveyLawful (s : State) : Bool :=
  ((List.finRange 64).all fun z => s.zones[z].underSurvey == (s.survey.zone == some z)) &&
  (s.survey.zone.isSome == (s.survey.state != .idle)) && (s.survey.pgRunning == (s.survey.state != .idle)) &&
  (s.survey.zone.all fun z => (s.ownerClass z).all fun c => decide (2 < c)) &&
  decide (s.survey.queue.map (·.zone)).Nodup && (s.survey.zone.all fun z => !(s.survey.queue.any fun e => e.zone == z)) &&
  (s.survey.state != .idle || s.survey.queue.isEmpty)

/-- A safe state keeps every law above. -/
def State.safe (s : State) : Bool :=
  s.atRest && s.claimsAgree && s.zonesLawful && s.kindsLawful && s.tailsLawful && s.classesLawful && s.stacksLawful && s.ordersLawful &&
  ((List.finRange 2).all fun k => s.slotLawful k && s.alarmHolds k && s.toneFollows k && s.slots[k].windowLawful) &&
  s.gainsInRange && s.lanes.outputsInRange && s.cadenceLawful && s.intercomLawful && s.calloutsLawful && s.resetLawful &&
  s.channelsReady && s.usersLawful && s.clips.rangesApart && s.clips.entriesLawful && s.cue.listLawful && s.cue.stateLawful && s.routesLawful &&
  s.surveyLawful

/-! ### What a CUE_GO does with a cue -/

/-- The execution of a cue without start set and follow delay has ended in the step of its CUE_GO, with at most one fault, of
action 1: the next cue stands by, and the last result and the answer carry cue and fault (R175, R177, R179). -/
def State.goEnds (s : State) (t : Txn) (q : Cue) (u : State) (fault : Option CueFault) : Prop :=
  let next := nextCue s.cue.cues q.number
  u.cue.standby = next ∧ u.cue.executing = none ∧ u.cue.state = (if next.isSome then .standby else .finished) ∧
  u.cue.last = some ⟨q.number, false, fault.toList.length, fault.map fun x => (1, x)⟩ ∧
  u.answered t 0x63#8 .ok (out16 q.number ++ out8 (engineCode u.cue.state) ++ out8 fault.toList.length ++
    outOpt8 (fault.map fun _ => 1) ++ outOpt8 (fault.map faultCode))

/-- A GO of one ROUTE on a slot with a SHOW program `p`, where no other program waits for a zone. With the same source the
zones of the set are claimed, each its own already or free, and the others of its request dropped, their stacks' tops owning
them; with nothing left the program ends NO_ZONES, a fault. With another source it is closed CLOSED and a new program opened
from the lowest FREE record or the one that ended earliest, its own the last of these (R172, R176, R177). The start value,
duration and step of the new gain at rest are the model's (assumption log 8). -/
def State.goReroutes (s : State) (t : Txn) (q : Cue) : Prop :=
  ∀ (slot : Fin 8) (src : Nat) (zs : ZoneSet) (p : ProgId), q.actions = [CueAction.route slot src zs] →
    s.cue.slots[slot].showProg = some p → s.safe = true → s.progs[p].policy = .takeAvailable → s.progs[p].state ≠ .tail →
    (∀ r : ProgId, r ≠ p → s.progs[r].waiting = 0#64) →
    let g := s.progs[p]
    let slots := fun (u : State) (prog : Option ProgId) =>
      u.cue.slots[slot] = { s.cue.slots[slot] with source := some src, showProg := prog } ∧
      ∀ k : Fin 8, k ≠ slot → u.cue.slots[k] = s.cue.slots[k]
    let others := fun u : State => ∀ z : Zone, zs.getLsbD z.val = false → u.zones[z].owner =
      if s.zones[z].owner = some p then s.zones[z].stack.head? else s.zones[z].owner
    (g.source = some src → zs ≠ 0#64 →
      (∀ z : Zone, zs.getLsbD z.val = true →
        s.zones[z].owner = some p ∨ (s.zones[z].owner = none ∧ s.zones[z].excluded = false)) →
      ∃ u, exec (.cueGo t) s = .next u ∧ s.goEnds t q u none ∧ slots u (some p) ∧ others u ∧
        u.progs[p].requested = zs ∧ u.progs[p].granted = zs ∧ u.progs[p].source = some src ∧
        u.progs[p].arrival = g.arrival ∧ u.progs[p].gain = g.gain ∧
        (∀ z : Zone, zs.getLsbD z.val = true → u.zones[z].owner = some p) ∧
        (g.requested ≠ zs → (u.port g.owner).has .program = true ∧ (u.port g.owner).changed.getLsbD p.val = true)) ∧
    (g.source = some src → (∀ z : Zone, zs.getLsbD z.val = true → s.zones[z].excluded = true) →
      ∃ u, exec (.cueGo t) s = .next u ∧ s.goEnds t q u (some .noZones) ∧ slots u none ∧ others u ∧
        u.progs[p].state = .ended ∧ u.progs[p].endReason = some .noZones ∧
        (u.port g.owner).has .program = true ∧ (u.port g.owner).changed.getLsbD p.val = true) ∧
    (∀ r : ProgId, r = (s.allocate 4).getD p → g.source ≠ some src → 4 ≤ p.val → zs ≠ 0#64 →
      (∀ z : Zone, zs.getLsbD z.val = true → s.zones[z].excluded = false ∧
        (s.zones[z].owner = none ∨ (s.zones[z].owner = some p ∧ s.zones[z].stack = []))) →
      ∃ u, exec (.cueGo t) s = .next u ∧ s.goEnds t q u none ∧ slots u (some r) ∧ others u ∧
        (u.progs[r].state = .active ∧ u.progs[r].owner = .shw ∧ u.progs[r].kind = .showSound ∧ u.progs[r].cls = 5 ∧
          u.progs[r].source = some src ∧ u.progs[r].requested = zs ∧ u.progs[r].granted = zs ∧
          u.progs[r].gain = Ramp.still 32768 ∧ u.progs[r].routeSlot = some slot ∧ u.progs[r].arrival = s.arrivals) ∧
        (r ≠ p → u.progs[p].state = .ended ∧ u.progs[p].endReason = some .closed) ∧
        (∀ z : Zone, zs.getLsbD z.val = true → u.zones[z].owner = some r) ∧
        (u.port .shw).has .program = true ∧ (u.port .shw).changed.getLsbD r.val = true)

/-- The same of one BED on a slot with a source and a BED program, by the bed slots of the zones (R36, R176, R177; assumption log 8). -/
def State.goRebeds (s : State) (t : Txn) (q : Cue) : Prop :=
  ∀ (slot : Fin 8) (src : Nat) (zs : ZoneSet) (p : ProgId), q.actions = [CueAction.bed slot zs] →
    s.cue.slots[slot].source = some src → s.cue.slots[slot].bedProg = some p → s.safe = true → s.progs[p].policy = .takeAvailable →
    s.progs[p].state ≠ .tail → (∀ r : ProgId, r ≠ p → s.progs[r].waiting = 0#64) →
    let g := s.progs[p]
    let slots := fun (u : State) (prog : Option ProgId) =>
      u.cue.slots[slot] = { s.cue.slots[slot] with bedProg := prog } ∧
      ∀ k : Fin 8, k ≠ slot → u.cue.slots[k] = s.cue.slots[k]
    let others := fun u : State => ∀ z : Zone, u.zones[z].owner = s.zones[z].owner ∧
      u.zones[z].stack = s.zones[z].stack ∧ (zs.getLsbD z.val = false →
        u.zones[z].bed = if s.zones[z].bed = some p then none else s.zones[z].bed)
    (g.source = some src → zs ≠ 0#64 →
      (∀ z : Zone, zs.getLsbD z.val = true →
        s.zones[z].bed = some p ∨ (s.zones[z].bed = none ∧ s.zones[z].excluded = false)) →
      ∃ u, exec (.cueGo t) s = .next u ∧ s.goEnds t q u none ∧ slots u (some p) ∧ others u ∧
        u.progs[p].requested = zs ∧ u.progs[p].granted = zs ∧ u.progs[p].arrival = g.arrival ∧
        (∀ z : Zone, zs.getLsbD z.val = true → u.zones[z].bed = some p)) ∧
    (g.source = some src → (∀ z : Zone, zs.getLsbD z.val = true → s.zones[z].excluded = true) →
      ∃ u, exec (.cueGo t) s = .next u ∧ s.goEnds t q u (some .noZones) ∧ slots u none ∧ others u ∧
        u.progs[p].state = .ended ∧ u.progs[p].endReason = some .noZones) ∧
    (∀ r : ProgId, r = (s.allocate 4).getD p → g.source ≠ some src → 4 ≤ p.val → zs ≠ 0#64 →
      (∀ z : Zone, zs.getLsbD z.val = true → s.zones[z].excluded = false ∧
        (s.zones[z].bed = none ∨ s.zones[z].bed = some p)) →
      ∃ u, exec (.cueGo t) s = .next u ∧ s.goEnds t q u none ∧ slots u (some r) ∧ others u ∧
        (u.progs[r].state = .active ∧ u.progs[r].owner = .shw ∧ u.progs[r].kind = .bed ∧ u.progs[r].cls = 6 ∧
          u.progs[r].source = some src ∧ u.progs[r].requested = zs ∧ u.progs[r].granted = zs ∧
          u.progs[r].gain = Ramp.still 32768 ∧ u.progs[r].routeSlot = some slot) ∧
        (r ≠ p → u.progs[p].state = .ended ∧ u.progs[p].endReason = some .closed) ∧
        (∀ z : Zone, zs.getLsbD z.val = true → u.zones[z].bed = some r))

/-- Each action sees what those before it have left, and every fault counts, the first with its place (R176, R177).
What the gain of the new program holds beyond R41 and R66 is the model's (assumption logs 8 and 39). -/
def State.goSequences (s : State) (t : Txn) (q : Cue) : Prop :=
  let kept := fun u : State => u.progs = s.progs ∧ u.zones = s.zones ∧ u.cue.slots = s.cue.slots
  (∀ (slot : Fin 8) (src : Nat) (zs : ZoneSet) (target duration : Nat) (st : Bool) (p : ProgId),
    q.actions = [CueAction.route slot src zs, CueAction.fade slot .showPart target duration st] →
    s.cue.slots[slot].showProg = none → s.safe = true → s.allocate 4 = some p → zs ≠ 0#64 →
    (∀ z : Zone, zs.getLsbD z.val = true → s.zones[z].owner = none ∧ s.zones[z].excluded = false) →
    ∃ u, exec (.cueGo t) s = .next u ∧ s.goEnds t q u none ∧ u.cue.slots[slot].showProg = some p ∧
      u.progs[p].granted = zs ∧ u.progs[p].gain = (Ramp.still 32768).retarget st target duration) ∧
  (∀ k : Fin 4, q.actions = [CueAction.stop k, CueAction.step k] →
    ∃ u, exec (.cueGo t) s = .next u ∧ kept u ∧ u.chans[showChan k].state = .free ∧ u.chans[showChan k].clip = none ∧
      u.cue.last = some ⟨q.number, false, 1, some (2, .notAtMark)⟩ ∧
      u.answered t 0x63#8 .ok (out16 q.number ++ out8 (engineCode u.cue.state) ++ [1#8, 2#8, 4#8])) ∧
  (∀ (slot : Fin 8) (part : CuePart) (target duration : Nat) (st : Bool) (k : Fin 4),
    q.actions = [CueAction.fade slot part target duration st, CueAction.stop k, CueAction.step k] →
    (if part = .bedPart then s.cue.slots[slot].bedProg else s.cue.slots[slot].showProg) = none →
    ∃ u, exec (.cueGo t) s = .next u ∧ kept u ∧ u.chans[showChan k].state = .free ∧
      u.cue.last = some ⟨q.number, false, 2, some (1, .noProgram)⟩ ∧
      u.answered t 0x63#8 .ok (out16 q.number ++ out8 (engineCode u.cue.state) ++ [2#8, 1#8, 3#8]))

/-- A PLAY is handed to the clip engine after every other action of the cue, wherever it stands among them (R178). -/
def State.goPlaysLast (s : State) (t : Txn) (q : Cue) : Prop :=
  ∀ (k : Fin 4) (id : ClipId) (tr : Trigger) (n : Option Nat),
    q.actions = [CueAction.play k id tr n, CueAction.stop k] → s.clipReady id = true →
    ∃ u, exec (.cueGo t) s = .next u ∧ u.answered t 0x63#8 .ok (out16 q.number ++ [3#8, 0#8, 0xFF#8, 0xFF#8]) ∧
      u.cue.state = .priming ∧ u.cue.startSet = [(k, false)] ∧ u.chans[showChan k].state = .priming ∧
      u.chans[showChan k].clip = some id ∧ u.progs = s.progs ∧ u.zones = s.zones

/-- A follow delay of 0 executes the next cue in the same step; the answer gives the cue of the GO and its faults, with the
engine state at the end of the step (R179; DEDUCED, assumption log 21). -/
def State.goChains (s : State) (t : Txn) (q : Cue) : Prop :=
  ∀ (q2 : Cue) (k : Fin 4), q.follow = some 0 → s.cue.holdPending = false → q.actions = [CueAction.stop k] →
    nextCue s.cue.cues q.number = some q2.number → s.cue.find q2.number = some q2 →
    (∀ j : Fin 4, q2.actions = [CueAction.stop j] → q2.follow = none →
      let next := nextCue s.cue.cues q2.number
      ∃ u, exec (.cueGo t) s = .next u ∧ u.chans[showChan k].state = .free ∧ u.chans[showChan j].state = .free ∧
        u.cue.standby = next ∧ u.cue.executing = none ∧ u.cue.countdown = none ∧
        u.cue.state = (if next.isSome then .standby else .finished) ∧
        u.cue.last = some ⟨q2.number, false, 0, none⟩ ∧ u.progs = s.progs ∧ u.zones = s.zones ∧
        u.answered t 0x63#8 .ok (out16 q.number ++ out8 (engineCode u.cue.state) ++ [0#8, 0xFF#8, 0xFF#8])) ∧
    (∀ (j : Fin 4) (id : ClipId) (tr : Trigger) (n : Option Nat),
      q2.actions = [CueAction.play j id tr n] → s.clipReady id = true →
      ∃ u, exec (.cueGo t) s = .next u ∧ u.chans[showChan j].state = .priming ∧ u.chans[showChan j].clip = some id ∧
        (j ≠ k → u.chans[showChan k].state = .free) ∧ u.cue.state = .priming ∧ u.cue.executing = some q2.number ∧
        u.cue.standby = some q2.number ∧ u.cue.startSet = [(j, false)] ∧ u.cue.bound = some 12000 ∧
        u.cue.last = some ⟨q.number, false, 0, none⟩ ∧ u.progs = s.progs ∧ u.zones = s.zones ∧
        u.answered t 0x63#8 .ok (out16 q.number ++ [3#8, 0#8, 0xFF#8, 0xFF#8]))

/-! ### Events that are due -/

/-- The events of the part that are due in a state, in the order of the table (R7, R8, R97, R98, R137 and the rules of the
timers). Operations of the store complete when the store says so and are not listed. -/
def State.due (s : State) : List Instr :=
  let players : List PlayerId := [.tg 0, .tg 1, .cv 0, .cv 1, .cv 2, .cv 3, .rc]
  List.flatten [
    (if s.resetLeft = some 0 then [.resetIntervalEnd] else []),
    (players.filter fun pl => (s.player pl).phaseDue).map .playerPhaseEnd,
    (players.filter fun pl => (s.player pl).switchDue (s.patternOf (s.player pl))).map .twoToneSwitch,
    ((List.finRange 2).filter fun k => s.tone[k].endReport).map .toneGeneratorEnd,
    ((List.finRange 4).filter fun v => s.voices[v].player.endReport && s.voices[v].bound.isSome).map .chimeEnd,
    ((List.finRange 8).filter fun ch => s.chans[ch].blockDue).map .blockDone,
    (if Config.framesPerMs ≤ s.msFrames then [.rampTick] else []),
    ((List.finRange 32).filter fun p => s.progs[p].waitTimer == some 0).map .waitLimitExpiry,
    ((List.finRange 32).filter fun p => s.progs[p].joinTimer == some 0).map .joinDeadlineExpiry,
    ((List.finRange 2).filter fun k => s.slots[k].state == .voice && s.slots[k].window.bind (·.timer) == some 0).map
      .voiceWindowExpiry,
    ((List.finRange 16).flatMap fun x => (s.calls[x].stations.filter fun a => s.calls[x].ringDue a).map (.ringTimerExpiry x)),
    (if s.cue.state = .priming ∧ s.cue.bound = some 0 then [.primingBoundExpiry] else []),
    (if s.cue.state = .following ∧ s.cue.countdown = some ⟨0, false⟩ then [.followCountdownExpiry] else []),
    (if s.survey.state = .coarse ∧ s.survey.dwell = some 0 then [.coarseDwellExpiry] else []),
    (if s.survey.state = .fine ∧ s.survey.dwell = some 0 then [.fineDwellExpiry] else []),
    (if s.survey.autoTimer = some 0 then [.autoSurveyIntervalExpiry] else []),
    (if s.clips.link.any fun l => l.left == 0 then [.storeOperationTimeout] else [])]

end Sys2Proof.Machine
end

