-- ==== Sys2Proof/Certificates/Slice0/Obligations.lean ====
section
/-! DEFINITION. The statements about the part, for the provers. -/

open Sys2Proof Sys2Proof.Machine

/-! ### The step and the control ports (chapter 10) -/

/-- One step runs the command at the front of the queue on the part with the queue's rest (the events chapter 1 and R204 name
reach the part one at a time). -/
def Obligations.StepRunsTheFrontCommand : Prop :=
  ∀ (c : Instr) (rest : List Instr) (s : State), step { s with pending := c :: rest } = exec c { s with pending := rest }

/-- The frame of every well-formed command, with any further bytes clocked after it, passes the checks of R206 and is read as
that command with every parameter as it was (R204, R206, R212, R214). -/
def Obligations.EveryCommandFrameIsReadBack : Prop :=
  ∀ (i : Instr) (t : Txn) (code : Byte) (params after : List Byte), i.wellFormed = true →
    i.frameBody = some (t, code, params) → after.length = t.extra →
    decodeFrame t.port (sealFrame (code :: params) ++ after) = .ok i

/-- A taken frame with a bad LEN answers LENGTH, else one with a bad check answers CHECK, else one with an unknown code
answers UNKNOWN, else one of another length than its layout's answers LENGTH (R206): the order of the checks.
UNKNOWN_COMMAND_FRAME: a taken frame that fails a check is answered with that check's status, the second byte received (or 0)
as echo and no results, LOAD_DATA's next expected offset apart, and it has no other effect (R206, R125; that a frame refused
with CHECK or LENGTH carries it too is the model's reading, assumption log 19). TRANSACTION_CUT_SHORT: with one byte or more
the frame is discarded, nothing is answered and the pending response, of which a byte was shifted out, is gone; with no whole
byte nothing at all happens (R204, R205). -/
def Obligations.BadFramesAreAnsweredOrDropped : Prop :=
  (∀ (p : Port) (len : Byte) (rest : List Byte),
    let bytes := len :: rest
    let frame := bytes.take (len.toNat + 1)
    let code := rest.getD 0 0#8
    ((len.toNat < 2 ∨ 250 < len.toNat) → decodeFrame p bytes = .error .length) ∧
    (2 ≤ len.toNat → len.toNat ≤ 250 → len.toNat ≤ rest.length →
      (crc8 frame.dropLast ≠ frame.getLastD 0#8 → decodeFrame p bytes = .error .check) ∧
      (crc8 frame.dropLast = frame.getLastD 0#8 →
        (code ∉ knownCodes → decodeFrame p bytes = .error .unknown) ∧
        (code ∈ knownCodes → parseParams ⟨p, rest.length - len.toNat⟩ code (frame.drop 2).dropLast = none →
          decodeFrame p bytes = .error .length)))) ∧
  (∀ (p : Port) (bytes : List Byte) (s : State) (e : FrameError), s.listens ⟨p, 0⟩ = true → s.served = true →
    frameTaken bytes = true → decodeFrame p bytes = .error e →
    exec (.unknownCommandFrame p bytes) s =
      .next (s.answering p bytes.length (bytes.getD 1 0#8)
        (match e with | .length => .length | .check => .check | .unknown => .unknown)
        (if bytes.getD 1 0#8 = 0x41#8 then outOpt32 (s.clips.load.map (·.next)) else []))) ∧
  (∀ (p : Port) (bytes : List Byte) (s : State), s.listens ⟨p, 0⟩ = true → frameTaken bytes = false →
    exec (.transactionCutShort p bytes) s =
      .next (if bytes = [] then s
        else s.onPort p fun c => { c with rx := [], response := none, dataOut := shiftedOut c.response bytes.length }))

/-- READ_NOTICES answers the notice set and the changed-program set of the sending port and clears neither; CLEAR_NOTICES
takes the named kinds out of the set, empties the changed-program set with PROGRAM, and answers the set left; a kind above bit
8 answers PARAM and changes nothing (R208). -/
def Obligations.NoticesAreReadAndCleared : Prop :=
  ∀ (t : Txn) (kinds : BitVec 16) (s : State), s.listens t = true → s.served = true →
    exec (.readNotices t) s = .next (s.replying t 0 0x02#8 .ok
      (put16 ((s.port t.port).notices.setWidth 16) ++ outProgSet (s.port t.port).changed)) ∧
    exec (.clearNotices t kinds) s =
      .next (if 512 ≤ kinds.toNat then s.replying t 2 0x03#8 .param []
        else
          let left := (s.port t.port).notices &&& ~~~(kinds.setWidth 9)
          (s.onPort t.port fun c =>
            { c with notices := c.notices &&& ~~~(kinds.setWidth 9), changed := if kinds.getLsbD 1 then 0#32 else c.changed }).replying t 2 0x03#8 .ok
              (put16 (left.setWidth 16)))

/-- SET_NOTICE_MASK takes mask and enable in one step at the sending port alone, and ATN follows; a bit above 8 or an enable
other than OFF and ON answers PARAM (R209). -/
def Obligations.TheNoticeMaskIsSetInOneStep : Prop :=
  ∀ (t : Txn) (mask : BitVec 16) (enable : Byte) (s : State), s.listens t = true → s.served = true →
    exec (.setNoticeMask t mask enable) s =
      .next (if 512 ≤ mask.toNat ∨ 1 < enable.toNat then s.replying t 3 0x04#8 .param []
        else (s.onPort t.port fun c =>
          { c with mask := mask.setWidth 9, attention := enable == 1#8 }).replying t 3 0x04#8 .ok []) ∧
    (512 > mask.toNat → enable.toNat ≤ 1 → ∀ u, exec (.setNoticeMask t mask enable) s = .next u →
      ((u.port t.port).atn = true ↔
        enable = 1#8 ∧ ∃ k : Fin 9, mask.getLsbD k.val = true ∧ (s.port t.port).notices.getLsbD k.val = true))

/-- RESTART on the safety port answers OK and the part goes on as before, with the reset armed; another port is answered
PRIVILEGE (R211). RESTART_BEGIN: a safety port transaction that shifts out a byte of the RESTART response puts every block
and port controller in its reset state, with the reset interval before it and RESTART as cause; what data out carried stays
readable at the port that clocked it. The output slots keep the samples computed for the frame under way, and nothing else of
the part's former state is left but the numbering of store operations (R14, R211). That this numbering goes on is the model's
choice (assumption log 6), and so are the reset values for which the manual gives none (assumption log 8) and that data out
keeps what it carried (assumption log 7). -/
def Obligations.ARestartResetsThePart : Prop :=
  (∀ (t : Txn) (s : State), s.listens t = true → s.served = true →
    exec (.restart t) s =
      .next (if t.port = .saf then State.replying { s with restartArmed := true } t 0 0x06#8 .ok []
        else s.replying t 0 0x06#8 .privilege [])) ∧
  (∀ (clocked : Nat) (s : State), s.restartArmed = true → s.resetLeft = none → 0 < clocked →
    ∃ u, exec (.restartBegin clocked) s = .next u ∧
      u = { State.blocksReset .restart s.clips.opNo with pending := s.pending, ports := u.ports, lanes := u.lanes } ∧
      u.lanes = { Lanes.reset with zoneOut := s.lanes.zoneOut, stationOut := s.lanes.stationOut } ∧
      ∀ p : Port, u.port p =
        { PortCtl.reset with
          dataOut := if p = .saf then shiftedOut (s.port .saf).response clocked else (s.port p).dataOut })

/-- POWER_ON_RESET puts every block and port controller in its reset state whatever the state before, with POWER_ON as cause:
the notice sets are RESTARTED alone, masks hold every kind, no response is pending, every program is FREE and every zone and
alarm slot as R23, R64 and R77 give; players are stopped and chime voices unbound, patterns 4 to 15 are empty, the clip
directory is EMPTY without load, erase list and dirty flag, every channel is FREE, every call FREE, the cue engine EMPTY with
empty route slots and no last result, the survey engine IDLE with default parameters, thresholds and auto survey OFF, and
latches and output slots hold zero (R14, R93, R96, R101, R121, R133, R149, R169, R173, R188, R199, R200, R202, R211). Nothing
else of the former state is left but the numbering of store operations. RESET_INTERVAL_END: when the three frames are over the
interval ends and the start-up scan begins its read of image block 0; nothing else changes (R14, R144). A frame of the reset
interval: every slot carries zero, the latches hold zero, nothing received is latched, and the interval is one frame shorter
(R14). The model's choices: the fields of a FREE record, of a ramp at rest, of a station, of a stopped player, of a FREE
channel and call and of an idle survey for which the manual gives no reset value (assumption log 8), that no bound or dwell
counts as expired (assumption log 23), the empty data out after power-on (assumption log 7), and the numbering of the store
operations (assumption log 6). -/
def Obligations.ResetsAndTheirInterval : Prop :=
  (∀ s : State, ∃ u, exec .powerOnReset s = .next u ∧ u.resetCause = .powerOn ∧ u.resetLeft = some 3 ∧
    (∀ p : Port, u.port p = ⟨[], none, 1#9, 0#32, 0x1FF#9, true, []⟩ ∧ (u.port p).atn = true ∧ (u.port p).rdy = false) ∧
    (∀ p : ProgId, u.progs[p] = Program.free) ∧ u.arrivals = 0 ∧
    (∀ z : Zone, u.zones[z].owner = none ∧ u.zones[z].stack = [] ∧ u.zones[z].bed = none ∧ u.zones[z].shield = 7 ∧
      u.zones[z].showZone = false ∧ u.zones[z].excluded = false ∧ u.zones[z].master = Ramp.still 32768 ∧
      u.zones[z].emergency = 32768 ∧ u.zones[z].duckLevel = 4096 ∧ u.zones[z].duckAttack = 50 ∧
      u.zones[z].duckRelease = 500 ∧ u.zones[z].duck = Ramp.still 32768 ∧ u.zones[z].overload = 0 ∧
      u.zones[z].lineStatus = .unsurveyed) ∧
    u.alarmUnder = 8192 ∧ (∀ k : Fin 2, u.slots[k].state = .idle ∧ u.tone[k].cond = .stopped) ∧ u.windowMs = 60000 ∧
    (∀ c : ChanId, u.chans[c].state = .free ∧ u.chans[c].clip = none) ∧ (∀ a : StationId, u.stations[a] = Station.reset) ∧
    (∀ x : CallId, u.calls[x].state = .free) ∧ u.cue.cues = [] ∧ u.cue.state = .empty ∧ u.survey.state = .idle ∧
    u.survey.queue = [] ∧ u.pending = s.pending ∧
    u = { State.blocksReset .powerOn s.clips.opNo with pending := s.pending } ∧
    u.restartArmed = false ∧ u.openOrder = [] ∧ u.endOrder = [] ∧ u.callEnds = [] ∧ u.msFrames = 0 ∧
    (∀ z : Zone, u.zones[z].reference = none ∧ u.zones[z].lastResult = none ∧ u.zones[z].underSurvey = false) ∧
    (∀ k : Fin 2, u.slots[k] = ⟨.idle, none, none⟩ ∧ u.tone[k] = Player.stopped) ∧
    (∀ v : Fin 4, u.voices[v] = ⟨Player.stopped, none⟩) ∧ u.ring = Player.stopped ∧ u.ring.cond = .stopped ∧
    (∀ k : PatId, u.patterns[k] = if k.val < 4 then builtInPattern k else ⟨[], none⟩) ∧
    (∀ id : ClipId, u.clips.dir[id] = ⟨.empty, none, none, none, [], none, none⟩) ∧
    (∀ img : Fin 2, u.clips.dirty[img] = false) ∧ u.clips.load = none ∧ u.clips.eraseList = [] ∧
    u.clips.eraseFailed = false ∧ u.clips.link = none ∧ u.clips.opNo = s.clips.opNo ∧ u.clips.scan = none ∧
    u.clips.scanOutcome = none ∧
    (∀ c : ChanId, u.chans[c].user = (if c.val < 4 then none else some .cue) ∧ u.chans[c].cursor = .none ∧
      u.chans[c].remaining = 0 ∧ u.chans[c].hold = false ∧ u.chans[c].trigger = .free ∧ u.chans[c].pause = none ∧
      u.chans[c].repeats = some 0 ∧ u.chans[c].passes = some 0 ∧ u.chans[c].ahead = [] ∧ u.chans[c].nextFetch = none ∧
      u.chans[c].underrun = 0 ∧ u.chans[c].goMark = false) ∧
    (∀ x : CallId, u.calls[x] = ⟨.free, .ordinary, 0, [], [], none⟩) ∧
    (∀ k : Fin 8, u.cue.slots[k] = ⟨none, none, none⟩) ∧ u.cue.standby = none ∧ u.cue.executing = none ∧
    u.cue.startSet = [] ∧ u.cue.bound = none ∧ u.cue.boundExpired = false ∧ u.cue.countdown = none ∧
    u.cue.holdPending = false ∧ u.cue.ret = none ∧ u.cue.last = none ∧ u.cue.faults = [] ∧
    u.survey.zone = none ∧ u.survey.requesters = ⟨false, false⟩ ∧ u.survey.params = ⟨18000, 22000, 2, 2, 6, 5, 9, 1⟩ ∧
    u.survey.sweep = ⟨18000, 22000, 2, 2, 6, 5, 9, 1⟩ ∧ u.survey.pilotLevel = 512 ∧
    u.survey.thresholds = ⟨50000, 7500000, 500, 25⟩ ∧ u.survey.auto = none ∧ u.survey.autoTimer = none ∧
    u.survey.cycle = 0 ∧ u.survey.dwell = none ∧ u.survey.dwellExpired = false ∧ u.survey.readings = 0 ∧
    u.survey.maximum = none ∧ u.survey.coarsePeak = none ∧ u.survey.below = 0 ∧ u.survey.pilotFreq = 18000 ∧
    u.survey.pgRunning = false ∧ u.survey.pgAcc = 0#24 ∧
    (∀ k : Fin 48, u.lanes.inputs[k] = 0) ∧
    (∀ z : Zone, u.lanes.sense[z] = 0 ∧ u.lanes.senseBefore[z] = 0 ∧ u.lanes.zoneOut[z] = 0) ∧
    (∀ a : StationId, u.lanes.stationOut[a] = 0)) ∧
  (∀ s : State, s.resetLeft = some 0 →
    exec .resetIntervalEnd s =
      .next { s with
        resetLeft := none
        clips := { s.clips with scan := some ⟨0, 0, false⟩, opNo := s.clips.opNo + 1,
                                link := some ⟨s.clips.opNo, 24000, .scanRead 0⟩ } }) ∧
  (∀ (inputs sense : List (BitVec 32)) (s : State) (n : Nat), s.resetLeft = some n →
    ∃ u, exec (.audioFrame inputs sense) s = .next u ∧ u.resetLeft = some (n - 1) ∧
      (∀ z : Zone, u.lanes.zoneOut[z] = 0 ∧ u.lanes.sense[z] = 0 ∧ u.lanes.senseBefore[z] = 0) ∧
      (∀ a : StationId, u.lanes.stationOut[a] = 0) ∧
      (∀ k : Fin 48, u.lanes.inputs[k] = 0) ∧ u.progs = s.progs ∧ u.zones = s.zones)

/-- Every taken command frame is answered: in the same step a response with the command's echo becomes the pending response of
its port, RDY rises, and data out has carried what was pending before (R205, R206). While the reset interval lasts no frame is
taken on any port; and a command frame clocked in while the RESTART response is shifted out is discarded and the reset begins
(R205, R211). -/
def Obligations.FramesAreAnsweredButNotInAReset : Prop :=
  (∀ (i : Instr) (t : Txn) (code : Byte) (params : List Byte) (s : State), i.frameBody = some (t, code, params) →
    s.listens t = true →
    ∃ u st results, exec i s = .next u ∧ u.answered t code st results ∧ (u.port t.port).rdy = true ∧
      (u.port t.port).dataOut = shiftedOut (s.port t.port).response (params.length + 3 + t.extra)) ∧
  (∀ (i : Instr) (t : Txn) (code : Byte) (params : List Byte) (s : State), i.frameBody = some (t, code, params) →
    (s.resetLeft.isSome = true → exec i s = .next (s.onPort t.port fun c =>
      { c with rx := [], response := none, dataOut := shiftedOut c.response (params.length + 3 + t.extra) })) ∧
    (s.resetLeft = none → s.restartArmed = true → t.port = .saf →
      exec i s = exec (.restartBegin (params.length + 3 + t.extra)) s))

/-- The four port controllers share no state: whatever command is taken on a port, at every other port only the notice set and
the changed-program set can have grown (chapter 10; R207). -/
def Obligations.PortControllersShareNoState : Prop :=
  ∀ (i : Instr) (t : Txn) (code : Byte) (params : List Byte) (s u : State) (q : Port),
    i.frameBody = some (t, code, params) → s.listens t = true → exec i s = .next u → q ≠ t.port →
    (s.port q).grows (u.port q) = true

/-- POLL, IDENTIFY and READ_RESET_CAUSE are taken from every port, answer what R210 gives, and change no other state (R210).
READ_PROGRAM answers the record, takes the id out of the reading port's changed-program set, and frees an ENDED record that
its owning port reads; READ_ZONE answers the zone and changes nothing (R50, R51). READ_PATTERN and READ_ALARM are taken from
every port, answer the pattern and the slot, and change nothing (R86, R95). READ_CLIP and READ_CHANNEL are taken from every
port, answer the entry and the channel, and change nothing; during the start-up scan READ_CLIP answers NOT_READY (R131, R143,
R145). READ_STATION, READ_CALL, READ_CUE_ENGINE and READ_SURVEY are taken from every port and change nothing, but that
READ_CALL from the intercom port frees an ENDED record (R166, R167, R186, R203). READ_CUE_ENGINE sends every field of the
layout of R212 in its order. A priming bound and a dwell that have expired are sent as 0xFFFFFFFE (R212); that one which has
stopped or never ran is absent, and so all ones, is the model's reading (assumption log 23), and so are the code of a return
state, that of the state it names (assumption log 15), and the numbers 0 to 3 of a start set's show channels and the order in
which its members are sent, that in which the cue's PLAYs entered it, for R173 and R212 give a set without order (assumption
log 18). The last clause gives the results of every other read of R212 and R214 field by field too. There the codes of the
station states (assumption log 16), the absent end action of an empty pattern (assumption log 25), the two bytes of the
underrun count (assumption log 41), the fields that are absent where there is no such value, as those of a channel that plays
no block or a zone without last result (assumption log 23), the current block of a channel that is to begin it in the next
frame or is paused before its replay in HOLD (assumption log 44), the absent tail time of a program that is not LIVE
(assumption log 42), the mark count 0 of an EMPTY entry (assumption log 24), the erase list place counted from 0 and the two
bytes of the free block counts (assumption log 18), the code 2, in progress, that READ_CHANNEL sends also for a fetch that is
to be discarded (assumption log 26), and the frames that the parties of an ended call keep (assumption log 35) are the model's
readings; what is sent for more readings than a byte holds is left open (assumption log 17). The exact next states rest on
three more: a READ_PROGRAM that frees an ENDED record raises no PROGRAM notice (assumption log 12), a READ_CALL that frees one
raises no CALL notice (assumption log 20), and the freed record holds the model's values where the manual gives a FREE record
none (assumption log 8). -/
def Obligations.ReadsAnswerAndChangeNothingElse : Prop :=
  (∀ (t : Txn) (s : State), s.listens t = true → s.served = true →
    exec (.poll t) s = .next (s.replying t 0 0x00#8 .ok []) ∧
    exec (.identify t) s = .next (s.replying t 0 0x01#8 .ok
      [0x64#8, 0x32#8, 1#8, match t.port with | .saf => 0#8 | .ann => 1#8 | .icm => 2#8 | .shw => 3#8]) ∧
    exec (.readResetCause t) s = .next (s.replying t 0 0x05#8 .ok
      [match s.resetCause with | .powerOn => 0#8 | .restart => 1#8])) ∧
  (∀ (t : Txn) (n : Byte) (s : State), s.listens t = true → s.served = true →
    (31 < n.toNat → exec (.readProgram t n) s = .next (s.replying t 1 0x15#8 .param [])) ∧
    (∀ p : ProgId, n.toNat = p.val →
      let g := s.progs[p]
      let s1 := s.onPort t.port fun c => { c with changed := c.changed &&& ~~~progBit p }
      exec (.readProgram t n) s = .next
        (if g.state = .free then s.replying t 1 0x15#8 .notFound []
         else if g.state = .ended ∧ g.owner = t.port then
           State.replying { s1 with
             progs := adjust s.progs p fun _ => Program.free
             openOrder := s.openOrder.erase p
             endOrder := s.endOrder.erase p } t 1 0x15#8 .ok (programResults p g)
         else s1.replying t 1 0x15#8 .ok (programResults p g))) ∧
    (63 < n.toNat → exec (.readZone t n) s = .next (s.replying t 1 0x16#8 .param [])) ∧
    (∀ z : Zone, n.toNat = z.val → exec (.readZone t n) s = .next (s.replying t 1 0x16#8 .ok (zoneResults s z)))) ∧
  (∀ (t : Txn) (n : Byte) (s : State), s.listens t = true → s.served = true →
    (15 < n.toNat → exec (.readPattern t n) s = .next (s.replying t 1 0x39#8 .param [])) ∧
    (∀ pat : PatId, n.toNat = pat.val → exec (.readPattern t n) s = .next (s.replying t 1 0x39#8 .ok
      ([if s.patternInUse pat then 1#8 else 0#8] ++ endFields s.patterns[pat] ++ out8 s.patterns[pat].steps.length ++
        s.patterns[pat].steps.flatMap stepResult))) ∧
    (1 < n.toNat → exec (.readAlarm t n) s = .next (s.replying t 1 0x37#8 .param [])) ∧
    (∀ k : Fin 2, n.toNat = k.val → exec (.readAlarm t n) s = .next (s.replying t 1 0x37#8 .ok
      (out8 (slotStateCode s.slots[k].state) ++ outOpt8 (s.slots[k].pattern.map (·.val)) ++ positionFields s.tone[k] ++
        windowFields s.slots[k].window ++ out24 s.windowMs ++ [if s.alarmActive then 1#8 else 0#8])))) ∧
  (∀ (t : Txn) (n : Byte) (s : State), s.listens t = true → s.served = true →
    (s.clips.scan ≠ none → exec (.readClip t n) s = .next (s.replying t 1 0x45#8 .notReady [])) ∧
    (∀ id : ClipId, s.clips.scan = none → n.toNat = id.val →
      exec (.readClip t n) s = .next (s.replying t 1 0x45#8 .ok (clipResults s id))) ∧
    (7 < n.toNat → exec (.readChannel t n) s = .next (s.replying t 1 0x46#8 .param [])) ∧
    (∀ c : ChanId, n.toNat = c.val → exec (.readChannel t n) s = .next (s.replying t 1 0x46#8 .ok (channelResults s c)))) ∧
  (∀ (t : Txn) (n : Byte) (s : State), s.listens t = true → s.served = true →
    (31 < n.toNat → exec (.readStation t n) s = .next (s.replying t 1 0x58#8 .param [])) ∧
    (∀ a : StationId, n.toNat = a.val → exec (.readStation t n) s = .next (s.replying t 1 0x58#8 .ok
      (stationResults s a ++ outOpt8 (s.partyIn a s.stations[a].current) ++ outOpt8 (s.partyIn a s.stations[a].suspended)))) ∧
    (15 < n.toNat → exec (.readCall t n) s = .next (s.replying t 1 0x59#8 .param [])) ∧
    (∀ x : CallId, n.toNat = x.val → exec (.readCall t n) s = .next
      (if s.calls[x].state = .free then s.replying t 1 0x59#8 .notFound []
       else if s.calls[x].state = .ended ∧ t.port = .icm then
         State.replying { s with
           calls := adjust s.calls x fun _ => Call.free
           callEnds := s.callEnds.erase x } t 1 0x59#8 .ok (callResults x s.calls[x])
       else s.replying t 1 0x59#8 .ok (callResults x s.calls[x]))) ∧
    (∃ rest, exec (.readCueEngine t) s = .next (s.replying t 0 0x66#8 .ok
      (out8 (engineCode s.cue.state) ++ outOpt8 (s.cue.ret.map engineCode) ++ outOpt16 s.cue.standby ++
        outOpt16 s.cue.executing ++ rest))) ∧
    (let c := s.cue
     let resumable : Prop := ∀ (k : Fin 8) (p : ProgId), c.slots[k].showProg = some p → s.progs[p].held = 0#64
     let absent : List Byte := [0xFF#8]
     let timer : Option Nat → Bool → List Byte := fun left expired => match left with
       | some m => out32 m
       | none => [0xFF#8, 0xFF#8, 0xFF#8, if expired then 0xFE#8 else 0xFF#8]
     ∃ clear : Byte, (resumable → clear = 1#8) ∧ (¬resumable → clear = 0#8) ∧
       exec (.readCueEngine t) s = .next (s.replying t 0 0x66#8 .ok
         (out8 (engineCode c.state) ++ outOpt8 (c.ret.map engineCode) ++ outOpt16 c.standby ++ outOpt16 c.executing ++
           out8 c.startSet.length ++ c.startSet.flatMap (fun m => [BitVec.ofNat 8 m.1.val, if m.2 then 1#8 else 0#8]) ++
           timer c.bound c.boundExpired ++ timer (c.countdown.map (·.left)) false ++
           (match c.countdown with | none => absent | some d => [if d.frozen then 1#8 else 0#8]) ++
           [if c.holdPending then 1#8 else 0#8] ++ [clear] ++
           (match c.last with
            | none => List.replicate 6 0xFF#8
            | some r => out16 r.number ++ [if r.late then 1#8 else 0#8] ++ out8 r.faults ++
                match r.first with | none => absent ++ absent | some x => out8 x.1 ++ out8 (faultCode x.2)) ++
           out8 c.cues.length ++ outOpt16 (c.cues.head?.map Cue.number) ++ outOpt16 (c.cues.getLast?.map Cue.number) ++
           (List.finRange 8).flatMap fun k =>
             outOpt8 c.slots[k].source ++ outOpt8 (c.slots[k].showProg.map Fin.val) ++
               outOpt8 (c.slots[k].bedProg.map Fin.val)))) ∧
    (∀ z : Option Zone, ∃ before after, surveyResults s z = before ++ (match s.survey.dwell with
        | some m => out32 m
        | none => [0xFF#8, 0xFF#8, 0xFF#8, if s.survey.dwellExpired then 0xFE#8 else 0xFF#8]) ++ after ∧ before.length = 17) ∧
    (n = 0xFF#8 → exec (.readSurvey t n) s = .next (s.replying t 1 0x76#8 .ok (surveyResults s none))) ∧
    (63 < n.toNat → n ≠ 0xFF#8 → exec (.readSurvey t n) s = .next (s.replying t 1 0x76#8 .param [])) ∧
    (∀ z : Zone, n.toNat = z.val → exec (.readSurvey t n) s = .next (s.replying t 1 0x76#8 .ok (surveyResults s (some z))))) ∧
  (∀ (t : Txn) (n : Byte) (s : State), s.listens t = true → s.served = true →
    let byte : Nat → Byte := BitVec.ofNat 8
    let two : Nat → List Byte := fun v => put16 (BitVec.ofNat 16 v)
    let given : Option Nat → Byte := fun v => v.elim 0xFF#8 byte
    let absent : List Byte := [0xFF#8, 0xFF#8, 0xFF#8, 0xFF#8]
    let flag : Bool → Byte := fun b => if b then 1#8 else 0#8
    let twoOf : Option Nat → List Byte := fun v => v.elim [0xFF#8, 0xFF#8] two
    let three : Nat → List Byte := fun v => put24 (BitVec.ofNat 24 v)
    let threeOf : Option Nat → List Byte := fun v => v.elim [0xFF#8, 0xFF#8, 0xFF#8] three
    let fourOf : Option Nat → List Byte := fun v => v.elim absent fun m => put32 (BitVec.ofNat 32 m)
    let expired : List Byte := [0xFF#8, 0xFF#8, 0xFF#8, 0xFE#8]
    let zoneSet : ZoneSet → List Byte := fun zs => (List.range 8).map fun j => zs.extractLsb' (8 * j) 8
    let line : LineOutcome → Byte := fun x => match x with
      | .unsurveyed => 0#8 | .opened => 1#8 | .shorted => 2#8 | .unreferenced => 3#8 | .normal => 4#8 | .degraded => 5#8
      | .noPeak => 6#8 | .skipped => 7#8 | .aborted => 8#8
    let result : Option SurveyResult → List Byte := fun r => match r with
      | none => List.replicate 7 0xFF#8
      | some x => [line x.outcome] ++ twoOf (x.peak.map Prod.fst) ++ threeOf (x.peak.map Prod.snd) ++ [flag x.edge]
    (∀ p : ProgId, n.toNat = p.val → s.progs[p].state ≠ .free →
      let g := s.progs[p]
      ∃ u, exec (.readProgram t n) s = .next u ∧ u.answered t 0x15#8 .ok
        ([byte p.val,
          match g.kind with
          | .alarm => 0#8 | .live => 1#8 | .clip => 2#8 | .callOut => 3#8 | .showSound => 4#8 | .bed => 5#8,
          byte g.cls, match g.owner with | .saf => 0#8 | .ann => 1#8 | .icm => 2#8 | .shw => 3#8, given g.source,
          match g.policy with | .allOrWait => 0#8 | .takeAvailable => 1#8,
          match g.state with
          | .free => 0#8 | .pending => 1#8 | .preamble => 2#8 | .active => 3#8 | .held => 4#8 | .tail => 5#8 | .ended => 6#8,
          match g.ret with | none => 0xFF#8 | some .preamble => 2#8 | some .active => 3#8,
          match g.endReason with
          | none => 0xFF#8
          | some .closed => 0#8 | some .complete => 1#8 | some .noZones => 2#8 | some .waitExpired => 3#8
          | some .channelTaken => 4#8 | some .forced => 5#8,
          flag g.chimeSkipped] ++
         zoneSet g.requested ++ zoneSet g.granted ++ zoneSet g.held ++ zoneSet g.waiting ++ two g.arrival ++
         [given (g.routeSlot.map Fin.val)] ++ threeOf g.waitLimit ++ threeOf g.joinDeadline ++
         [given (g.chime.map Fin.val)] ++
         (match g.clipPart with
          | none => List.replicate 5 0xFF#8
          | some c => [byte c.clip.val] ++ two (c.repeats.getD 256) ++
            [match c.trigger with | .free => 0#8 | .gated => 1#8 | .stepped => 2#8, given (c.channel.map Fin.val)]) ++
         threeOf g.tail ++ two g.gain.current ++ two g.gain.target)) ∧
    (∀ z : Zone, n.toNat = z.val →
      let r := s.zones[z]
      exec (.readZone t n) s = .next (s.replying t 1 0x16#8 .ok
        ([byte z.val, given (r.owner.map Fin.val), given (r.owner.map fun o => s.progs[o].cls), byte r.stack.length,
          given (r.stack[0]?.map Fin.val), given (r.stack[1]?.map Fin.val), given (r.stack[2]?.map Fin.val),
          given (r.bed.map Fin.val), byte r.shield, flag r.showZone, flag r.excluded] ++
         two r.master.current ++ two r.emergency ++ two r.duckLevel ++ three r.duckAttack ++ three r.duckRelease ++
         two r.duck.current ++ two r.overload ++ [line r.lineStatus] ++ result r.lastResult ++ [flag r.underSurvey]))) ∧
    (∀ k : Fin 2, n.toNat = k.val →
      let a := s.slots[k]
      let pl := s.tone[k]
      exec (.readAlarm t n) s = .next (s.replying t 1 0x37#8 .ok
        ([match a.state with | .idle => 0#8 | .sounding => 1#8 | .voice => 2#8 | .voiceMixed => 3#8 | .silenced => 4#8,
          given (a.pattern.map Fin.val)] ++
         (if pl.cond = .stopped then [0xFF#8, 0xFF#8, 0xFF#8] ++ expired
          else [byte pl.step, byte pl.rep, if pl.on then 0#8 else 1#8] ++ put32 (BitVec.ofNat 32 pl.left)) ++
         (match a.window with
          | none => List.replicate 8 0xFF#8
          | some w =>
            (match w.source with
             | .input ch => [byte ch.val, 0xFF#8, 0xFF#8]
             | .clip id _ ch => [0xFF#8, byte id.val, byte ch.val]) ++
            [if w.toSilence then 4#8 else 1#8] ++ w.timer.elim expired fun m => put32 (BitVec.ofNat 32 m)) ++
         three s.windowMs ++ [flag (decide (∃ j : Fin 2, s.slots[j].state ≠ .idle))]))) ∧
    (∀ id : ClipId, n.toNat = id.val → s.clips.scan = none →
      let e := s.clips.dir[id]
      let isFree : Nat → Bool := fun b => decide (2 ≤ b) && decide (b ≤ 16383) && (List.finRange 256).all fun j =>
        match s.clips.dir[j].state, s.clips.dir[j].first, s.clips.dir[j].last with
        | .empty, _, _ => true
        | _, some f, some l => decide (b < f) || decide (f + l < b)
        | _, _, _ => true
      ∃ (bound : Byte) (longest : Nat), (∀ ch : ChanId, bound.getLsbD ch.val = decide (s.chans[ch].clip = some id)) ∧
        (∃ b, ∀ i < longest, isFree (b + i) = true) ∧ (∀ b m, (∀ i < m, isFree (b + i) = true) → m ≤ longest) ∧
        exec (.readClip t n) s = .next (s.replying t 1 0x45#8 .ok
          ([byte id.val,
            match e.state with | .empty => 0#8 | .loading => 1#8 | .ready => 2#8 | .erasing => 3#8 | .damaged => 4#8] ++
           twoOf e.first ++ twoOf e.last ++ twoOf e.loop ++ [byte e.marks.length] ++ e.marks.flatMap two ++ twoOf e.check ++
           [bound] ++
           (match s.clips.load with
            | none => List.replicate 6 0xFF#8
            | some l => if l.clip = id then put32 (BitVec.ofNat 32 l.next) ++ [flag l.ending, flag l.failed]
              else List.replicate 6 0xFF#8) ++
           twoOf e.erasePos ++ [if id ∈ s.clips.eraseList then byte (s.clips.eraseList.idxOf id) else 0xFF#8] ++
           two ((List.range 16384).countP isFree) ++ two longest ++
           [match s.clips.scanOutcome with | none => 0xFF#8 | some .done => 0#8 | some .doneWithLoss => 1#8]))) ∧
    (∀ x : CallId, n.toNat = x.val → s.calls[x].state ≠ .free →
      let c := s.calls[x]
      ∃ u, exec (.readCall t n) s = .next u ∧ u.answered t 0x59#8 .ok
        ([byte x.val, match c.state with | .free => 0#8 | .ringing => 1#8 | .connected => 2#8 | .ended => 3#8,
          match c.priority with | .ordinary => 0#8 | .urgent => 1#8 | .emergency => 2#8] ++ three c.ringTime ++
         [match c.endCause with | none => 0xFF#8 | some .cleared => 0#8 | some .depleted => 1#8, byte c.parties.length] ++
         c.parties.flatMap (fun p =>
           [byte p.station.val,
            match p.state with
            | .calling => 0#8 | .ringing => 1#8 | .active => 2#8 | .onHold => 3#8 | .suspended => 4#8] ++ fourOf p.timer) ++
         [byte c.leftOut.length] ++
         c.leftOut.flatMap fun l => [byte l.1.val, match l.2 with | .busy => 0#8 | .disabled => 1#8])) ∧
    (∀ z : Option Zone, s.survey.readings < 256 → n = z.elim 0xFF#8 (fun y => byte y.val) →
      let v := s.survey
      let ports : Requesters → Byte := fun r => (if r.saf then 1#8 else 0#8) + (if r.ann then 2#8 else 0#8)
      exec (.readSurvey t n) s = .next (s.replying t 1 0x76#8 .ok
        ([match v.state with | .idle => 0#8 | .coarse => 1#8 | .fine => 2#8, given (v.zone.map Fin.val), ports v.requesters] ++
         two v.pilotFreq ++ twoOf (v.maximum.map Prod.snd) ++ threeOf (v.maximum.map Prod.fst) ++
         twoOf (v.coarsePeak.map Prod.snd) ++ threeOf (v.coarsePeak.map Prod.fst) ++ [byte v.readings, byte v.below] ++
         (if v.dwell = none ∧ v.dwellExpired = true then expired else fourOf v.dwell) ++
         two v.params.fStart ++ two v.params.fEnd ++ [byte v.params.coarse, byte v.params.blank] ++
         three v.params.coarseDwell ++ [byte v.params.backstep] ++ three v.params.fineDwell ++ [byte v.params.confirm] ++
         two v.pilotLevel ++ three v.thresholds.openT ++ three v.thresholds.shortT ++ two v.thresholds.freqTol ++
         [byte v.thresholds.pct] ++
         (match v.auto with
          | none => [0#8, 0xFF#8]
          | some a => [if a.base = 1 then 1#8 else 2#8, byte a.factor]) ++
         [byte v.cycle.val] ++ fourOf v.autoTimer ++
         (match z with
          | none => List.replicate 13 0xFF#8
          | some y => twoOf (s.zones[y].reference.map Prod.fst) ++ threeOf (s.zones[y].reference.map Prod.snd) ++
            [line s.zones[y].lineStatus] ++ result s.zones[y].lastResult) ++
         [byte v.queue.length] ++ v.queue.flatMap fun e => [byte e.zone.val, ports e.ports]))) ∧
    (∀ a : StationId, n.toNat = a.val →
      let r := s.stations[a]
      let party : Option CallId → Byte := fun x =>
        match x.bind fun x => s.calls[x].party a with
        | none => 0xFF#8
        | some p => match p.state with
          | .calling => 0#8 | .ringing => 1#8 | .active => 2#8 | .onHold => 3#8 | .suspended => 4#8
      exec (.readStation t n) s = .next (s.replying t 1 0x58#8 .ok
        ([byte a.val,
          match r.state with
          | .idle => 0#8 | .ringing => 1#8 | .calling => 2#8 | .inCall => 3#8 | .onHold => 4#8 | .talkout => 5#8
          | .disabled => 6#8,
          given (r.home.map Fin.val)] ++ two r.receive ++ two r.feed ++
         [given (r.current.map Fin.val), given (r.suspended.map Fin.val), party r.current, party r.suspended]))) ∧
    (∀ c : ChanId, n.toNat = c.val →
      let r := s.chans[c]
      (∀ o p, r.nextFetch = some (o, p) → p < 65536) →
      exec (.readChannel t n) s = .next (s.replying t 1 0x46#8 .ok
        ([byte c.val, match r.state with | .free => 0#8 | .priming => 1#8 | .playing => 2#8 | .paused => 3#8] ++
         (match r.user with
          | none => [0xFF#8, 0xFF#8]
          | some (.prog p) => [0#8, byte p.val]
          | some (.window k) => [1#8, byte k.val]
          | some .cue => [2#8, 0xFF#8]) ++
         [given (r.clip.map Fin.val)] ++
         (match r.cursor with
          | .playing b k => if k < 2048 then two b.offset ++ two k else absent
          | .none | .toBegin _ => absent) ++
         two r.remaining ++
         [if r.hold then 1#8 else 0#8, match r.trigger with | .free => 0#8 | .gated => 1#8 | .stepped => 2#8,
          match r.pause with | none => 0xFF#8 | some .gate => 0#8 | some .mark => 1#8 | some .start => 2#8] ++
         two (r.repeats.getD 256) ++ [byte r.ahead.length] ++
         (match r.nextFetch with | none => absent | some f => two f.1 ++ two f.2) ++ two r.underrun ++
         [if s.fetching c then 2#8 else if (s.fetchWanted c).isSome then 1#8 else 0#8]))) ∧
    (∀ pat : PatId, n.toNat = pat.val →
      let r := s.patterns[pat]
      exec (.readPattern t n) s = .next (s.replying t 1 0x39#8 .ok
        ([if s.patternInUse pat then 1#8 else 0#8] ++
         (match r.steps, r.loop with
          | [], _ => [0xFF#8, 0xFF#8]
          | _ :: _, some k => [0#8, byte k]
          | _ :: _, none => [1#8, 0xFF#8]) ++
         [byte r.steps.length] ++
         r.steps.flatMap fun x =>
           [match x.waveform with | .square => 0#8 | .triangle => 1#8 | .twoTone => 2#8] ++ two x.freqA ++ two x.freqB ++
             two x.level ++ put24 (BitVec.ofNat 24 x.onTime) ++ put24 (BitVec.ofNat 24 x.offTime) ++ [byte x.repeats]))))

/-! ### The audio frame, the zone sample and the laws (chapters 1 and 3) -/

/-- AUDIO_FRAME of a part that is not in reset (R1 to R6, R54, R162): every zone slot and station slot carries the sample
computed from the latches and sources as the frame found them (blocks that begin in the frame begun), in its first 24 bits,
at the place R3 gives it; every input channel then holds its slot's first 24 bits as a two's complement number, every sense
latch its slot's first 24 bits, at most 8,388,607, while the magnitudes latched a frame earlier become those that a dwell
ending with the frame reads (R5, R192; assumption log 5); and no claim, gain, level or setting changes. Of the clip engine
only the operation on the link comes a frame nearer its limit; on a free link, which the arbiter had left for want of work, at
most the fetch begins of a channel whose beginning block has left a place in its ring (R132, R136). Every timer counts the
frame, the ring timers of calls that go on among them, and a frozen countdown does not (R8); a count at 0 stays there until
its event comes (assumption log 4). Every source advances by one frame: a running player counts its frames and, in its ON
phase, its wave (R97, R98); the pilot generator its wave; a playing channel its sample, and a block to begin begins when it
is ahead (R7, R137); that it leaves the blocks ahead in that frame is the model's reading (assumption log 26). -/
def Obligations.AudioFrameSendsComputesAndLatches : Prop :=
  ∀ (inputs sense : List (BitVec 32)) (s : State), s.resetLeft = none →
    inputs.length = 48 → sense.length = 64 →
    ∃ u, exec (.audioFrame inputs sense) s = .next u ∧
      (∀ z : Zone, u.lanes.zoneOut[z] = s.beginBlocks.zoneSample z) ∧
      (∀ a : StationId, u.lanes.stationOut[a] = s.beginBlocks.stationSample a) ∧
      (∀ k : Fin 48, u.lanes.inputs[k] = ((inputs.getD k.val 0#32).extractLsb' 8 24).toInt) ∧
      (∀ z : Zone, u.lanes.sense[z] = min 8388607 ((sense.getD z.val 0#32).toNat / 256) ∧
        u.lanes.senseBefore[z] = s.lanes.sense[z]) ∧
      u.clips = { s.clips with link := u.clips.link, opNo := u.clips.opNo, dirty := u.clips.dirty } ∧
      (s.clips.link = none → s.served = true → u.clips = s.clips ∨
        ∃ (ch : ChanId) (o p block : Nat), (∃ q, s.chans[ch].cursor = .toBegin q) ∧ s.chans[ch].ahead ≠ [] ∧
          u.clips = { s.clips with
            opNo := s.clips.opNo + 1, link := some ⟨s.clips.opNo, 24000, .fetch ch o p block false⟩ }) ∧
      u.msFrames = s.msFrames + 1 ∧ u.patterns = s.patterns ∧ u.stations = s.stations ∧ u.cue.cues = s.cue.cues ∧
      (∀ p : ProgId, ∃ w j : Option Nat, u.progs[p] = { s.progs[p] with waitTimer := w, joinTimer := j }) ∧
      (∀ z : Zone, ∃ n : Nat, u.zones[z] = { s.zones[z] with overload := n }) ∧
      (∀ (j : Fin 4) (k : Fin 16) (z : Zone), z.val = 16 * j.val + k.val →
        ((u.lanes.zoneLane j)[k].extractLsb' 8 24).toInt = s.beginBlocks.zoneSample z ∧
          (u.lanes.zoneLane j)[k].extractLsb' 0 8 = 0#8) ∧
      (∀ (j : Fin 2) (k : Fin 16) (a : StationId), a.val = 16 * j.val + k.val →
        ((u.lanes.stationLane j)[k].extractLsb' 8 24).toInt = s.beginBlocks.stationSample a ∧
          (u.lanes.stationLane j)[k].extractLsb' 0 8 = 0#8) ∧
      u.alarmUnder = s.alarmUnder ∧ u.windowMs = s.windowMs ∧ u.openOrder = s.openOrder ∧ u.endOrder = s.endOrder ∧
      (let less : Option Nat → Option Nat := fun t => t.map fun n => n - 1
       (∀ p : ProgId, u.progs[p] = { s.progs[p] with
         waitTimer := less s.progs[p].waitTimer, joinTimer := less s.progs[p].joinTimer }) ∧
       (∀ k : Fin 2, u.slots[k] = { s.slots[k] with
         window := s.slots[k].window.map fun w => { w with timer := less w.timer } }) ∧
       (∀ x : CallId, u.calls[x] =
         if s.calls[x].state = .ringing ∨ s.calls[x].state = .connected then
           { s.calls[x] with parties := s.calls[x].parties.map fun p => { p with timer := less p.timer } }
         else s.calls[x]) ∧
       u.cue = { s.cue with
         bound := less s.cue.bound
         countdown := s.cue.countdown.map fun d => if d.frozen then d else { d with left := d.left - 1 } } ∧
       u.survey = { s.survey with
         dwell := less s.survey.dwell, autoTimer := less s.survey.autoTimer
         pgAcc := if s.survey.pgRunning then s.survey.pgAcc + increment s.survey.pilotFreq else s.survey.pgAcc } ∧
       (∀ l, s.clips.link = some l → u.clips = { s.clips with link := some { l with left := l.left - 1 } })) ∧
      (∀ id : PlayerId,
        let pl := s.player id
        let st := (s.patternOf pl).stepAt pl.step
        u.player id =
          if pl.cond = .running ∧ pl.on = true ∧ 0 < pl.left then
            { pl with left := pl.left - 1, acc := pl.acc + increment (if pl.toneB then st.freqB else st.freqA)
                      switchLeft := pl.switchLeft - 1 }
          else if pl.cond = .running then { pl with left := pl.left - 1 }
          else pl) ∧
      (∀ v : Fin 4, u.voices[v].bound = s.voices[v].bound) ∧
      (∀ c : ChanId,
        let r := s.chans[c]
        (r.state ≠ .playing → u.chans[c] = r) ∧ (r.cursor = .none → u.chans[c] = r) ∧
        (∀ o, r.cursor = .toBegin o → r.ahead = [] → u.chans[c] = r) ∧
        (∀ o b rest, r.state = .playing → r.cursor = .toBegin o → r.ahead = b :: rest →
          u.chans[c] = { r with cursor := .playing b 1, ahead := rest }) ∧
        (∀ b k, r.state = .playing → r.cursor = .playing b k → u.chans[c] = { r with cursor := .playing b (min 2048 (k + 1)) }))

/-- The zone sample: foreground, bed and alarm-under terms are added exactly, scaled by the emergency level under an owner of
class 0 or 1 and by the master gain otherwise, muted on a SHORT line, the pilot is added, and the sum is saturated (R56 to
R58, R60, R61). The terms of a zone without owner or bed are 0. The foreground source of a program is its bound chime voice
in PREAMBLE and its own source in ACTIVE and TAIL; that of an alarm program follows its slot: the tone generator in SOUNDING,
the voice source in VOICE and VOICE_MIXED, none otherwise; and in VOICE_MIXED the tone is added at the alarm-under level
(R55, R58). The identifiers name the sources as R9 says, and a player presents its scaled wave in the ON phase and 0
otherwise (R97, R98); BlocksAndPassesEnd gives a clip channel's sample and DwellsReadTheLine the pilot's. The station sample
is the saturated sum of the terms that the station's state gives it (R162): the call term, over the other ACTIVE parties of
its current call, each microphone scaled by the station's receive gain (R163); the ring term, the ring cadence scaled by it
(R164); and the alarm feed term, the foreground term of the home zone (0 on a SHORT line) scaled by the feed level, while
that zone's owner has class 0 or 1 (R165). -/
def Obligations.TheZoneSampleIsTheScaledSum : Prop :=
  ∀ (s : State) (z : Zone),
    let r := s.zones[z]
    let pilot := if r.underSurvey then q15 s.survey.pilot s.survey.pilotLevel else 0
    (r.lineStatus = .shorted → s.zoneSample z = max (-8388608) (min 8388607 pilot)) ∧
    (r.lineStatus ≠ .shorted → r.owner = none →
      s.zoneSample z = max (-8388608) (min 8388607 (q15 (s.bedTerm z) r.master.current + pilot))) ∧
    (r.lineStatus ≠ .shorted → r.owner = none → r.bed = none → r.underSurvey = false → s.zoneSample z = 0) ∧
    (∀ p : ProgId, r.lineStatus ≠ .shorted → r.owner = some p → 2 ≤ p.val →
      s.zoneSample z = max (-8388608) (min 8388607
        (q15 (q15 (s.sampleOf (s.foreground p)) s.progs[p].gain.current + s.bedTerm z)
          (if s.progs[p].cls ≤ 1 then r.emergency else r.master.current) + pilot))) ∧
    (∀ b : ProgId, r.bed = some b →
      s.bedTerm z = q15 (s.sampleOf s.progs[b].source) (q15 s.progs[b].gain.current r.duck.current).toNat) ∧
    (∀ p : ProgId, 2 ≤ p.val →
      ((s.progs[p].state = .active ∨ s.progs[p].state = .tail) → s.foreground p = s.progs[p].source) ∧
      (∀ v : Fin 4, s.progs[p].state = .preamble → s.voices[v].bound = some p → (∀ w, w < v → s.voices[w].bound ≠ some p) →
        s.foreground p = some (58 + v.val))) ∧
    (∀ k : Fin 2, r.lineStatus ≠ .shorted → r.owner = some (progOfSlot k) →
      let g := s.progs[progOfSlot k]
      let tone := s.sampleOf (some (56 + k.val))
      let fore := match s.slots[k].state with
        | .sounding => tone
        | .voice | .voiceMixed => s.sampleOf (s.slots[k].window.map fun w => match w.source with
            | .input n => n.val
            | .clip _ _ ch => 48 + ch.val)
        | .idle | .silenced => 0
      let under := if s.slots[k].state = .voiceMixed then q15 tone s.alarmUnder else 0
      s.zoneSample z = max (-8388608) (min 8388607
        (q15 (q15 fore g.gain.current + s.bedTerm z + under) (if g.cls ≤ 1 then r.emergency else r.master.current) + pilot))) ∧
    (s.sampleOf none = 0 ∧ (∀ c : Fin 48, s.sampleOf (some c.val) = s.lanes.inputs[c]) ∧
      (∀ c : ChanId, s.sampleOf (some (48 + c.val)) = s.chans[c].sample) ∧
      (∀ k : Fin 2, s.sampleOf (some (56 + k.val)) = s.playerSample s.tone[k]) ∧
      (∀ v : Fin 4, s.sampleOf (some (58 + v.val)) = s.playerSample s.voices[v].player) ∧
      s.sampleOf (some 62) = s.playerSample s.ring ∧ s.sampleOf (some 63) = s.survey.pilot) ∧
    (∀ pl : Player, s.playerSample pl =
      let st := s.patterns[pl.pattern].stepAt pl.step
      if pl.cond = .running ∧ pl.on = true ∧ 0 < pl.left then q15 (waveValue st.waveform pl.acc.toNat) st.level else 0) ∧
    (∀ a : StationId,
      let r := s.stations[a]
      let call : Int := match r.current with
        | none => 0
        | some x => ((s.calls[x].parties.filter fun p => p.station ≠ a ∧ p.state = .active).map fun p =>
            q15 (s.sampleOf (some (16 + p.station.val))) r.receive).sum
      let ring := q15 (s.sampleOf (some 62)) r.receive
      let feed : Int := match r.home with
        | none => 0
        | some y => match s.zones[y].owner with
          | none => 0
          | some o =>
            if s.progs[o].cls ≤ 1 ∧ s.zones[y].lineStatus ≠ .shorted then
              q15 (q15 (s.sampleOf (s.foreground o)) s.progs[o].gain.current) r.feed
            else 0
      s.stationSample a = max (-8388608) (min 8388607 (match r.state with
        | .inCall => call + feed
        | .calling | .ringing => ring + feed
        | .onHold | .idle | .talkout => feed
        | .disabled => 0)))

/-- Each zone's overload counter rises by 1 in a frame whose sum lies outside the sample range, and stays at 65,535; otherwise
it is unchanged. A counter that steps from 0 to 1 raises OVERLOAD at the announcement port (R62). READ_OVERLOAD answers the
counter and zeroes it in the same step; the OVERLOAD notice stays (R63). -/
def Obligations.OverloadsAreCountedAndRead : Prop :=
  (∀ (inputs sense : List (BitVec 32)) (s u : State) (z : Zone), s.resetLeft = none →
    exec (.audioFrame inputs sense) s = .next u →
    let out := s.beginBlocks.zoneSum z
    ((-8388608 ≤ out ∧ out ≤ 8388607) → u.zones[z].overload = s.zones[z].overload) ∧
    ((out < -8388608 ∨ 8388607 < out) → u.zones[z].overload = min 65535 (s.zones[z].overload + 1) ∧
      (s.zones[z].overload = 0 → (u.port .ann).has .overload = true))) ∧
  (∀ (t : Txn) (zone : Byte) (s : State), s.listens t = true → s.served = true →
    (t.port ≠ .ann → exec (.readOverload t zone) s = .next (s.replying t 1 0x25#8 .privilege [])) ∧
    (t.port = .ann → 63 < zone.toNat → exec (.readOverload t zone) s = .next (s.replying t 1 0x25#8 .param [])) ∧
    ∀ z : Zone, t.port = .ann → zone.toNat = z.val →
      exec (.readOverload t zone) s = .next
        ((s.onZone z fun r => { r with overload := 0 }).replying t 1 0x25#8 .ok (out16 s.zones[z].overload)))

/-- Every output slot carries a value of the sample range (R3, R61, R162): an invariant of every step. -/
def Obligations.OutputsStayInTheSampleRange : Prop :=
  ∀ s u : State, s.lanes.outputsInRange = true → step s = .next u → u.lanes.outputsInRange = true

/-- Every gain, level and factor that scales a sample stays within 0 to 32,768: the gains of programs, the master gains,
levels and factors of zones, the gains and feeds of stations, the alarm-under level, the pilot level and the levels of the
pattern steps (Conventions; R61, R65, R67, R94, R98, R199): an invariant of every step. -/
def Obligations.GainsStayInRange : Prop :=
  ∀ s u : State, s.gainsInRange = true → step s = .next u → u.gainsInRange = true

/-- The reset state keeps the laws of the part: gains and outputs in range, every program settled, claims and stacks in
agreement, and the link served (R16, R19, R24, R64). That this state is the one at the end of the reset interval, with an
empty queue, is the model's choice (assumption log 3). -/
def Obligations.TheResetStateIsSafe : Prop :=
 State.reset.safe = true ∧ (State.reset.pending = [] ∧ State.reset.resetLeft = none)

/-- An invariant of every step: from every state that keeps the laws of the part and whose waiting commands and events are
well-formed, a step that answers a next state leaves one that keeps them: claim table and stacks agree with the programs,
states follow the sets, alarms hold their zones, calls, call-outs, channels, cues and survey keep their laws, gains and
outputs stay in range, and the link is served (R16, R19, R24, R27, R99, R122, R132, R134, R147, R150, R173, R189, R191). So
every state that a run from reset reaches keeps them, whatever well-formed commands and events wait in the queue. -/
def Obligations.EveryRunFromResetKeepsTheLaws : Prop :=
  (∀ s u : State, s.safe = true → (∀ i ∈ s.pending, i.wellFormed = true) → step s = .next u → u.safe = true) ∧
  (∀ (commands : List Instr) (n : Nat) (u : State), (∀ i ∈ commands, i.wellFormed = true) →
    Sys2Proof.core.run n { State.reset with pending := commands } = Host.Outcome.next u → u.safe = true)

/-! ### Ramps, gains and levels (chapter 3) -/

/-- A ramp set up from G0 to T over D milliseconds is complete after ceil(|T - G0| / k) expiries with k = ceil(|T - G0| / D),
which is at most D; before that it is running, and its value lies between G0 and T all along (R66, R67). A STAGED retarget of
a running ramp only stores the target and duration in place of any stored before; the ramp's completion takes them out of
store and sets the new ramp up in the same step. With no ramp running, and always when marked CUT, the ramp is set up at once
and nothing is stored: a CUT ramp of duration 0 or no distance stands at its target and does not run, and any other runs from
the current value over the clamped duration with the step of R66, whatever ran before (R68, R69). -/
def Obligations.RampsMoveAndTargetsWait : Prop :=
  (∀ (r : Ramp) (target duration n : Nat), r.current ≤ 32768 → r.staged = none →
    let t := min target 32768
    let d := min duration 10000
    let dist := (t - r.current) + (r.current - t)
    let k := (dist + d - 1) / d
    let r0 := r.setUp target duration
    let rn := Ramp.tick^[n] r0
    (d = 0 ∨ dist = 0 → r0.current = t ∧ r0.running = false) ∧
    (d ≠ 0 → dist ≠ 0 →
      r0.current = r.current ∧ r0.running = true ∧ (dist + k - 1) / k ≤ d ∧
      ((dist + k - 1) / k ≤ n → rn.current = t ∧ rn.running = false) ∧
      (n < (dist + k - 1) / k → rn.running = true ∧
        rn.current = if r.current ≤ t then r.current + n * k else r.current - n * k))) ∧
  (∀ (r : Ramp) (target duration : Nat),
    (r.running = true → r.retarget true target duration =
      { r with staged := some (min target 32768, min duration 10000) }) ∧
    (r.running = false → r.retarget true target duration = r.setUp target duration) ∧
    (let t := min target 32768
     let d := min duration 10000
     let q := r.retarget false target duration
     q.staged = none ∧ q.target = t ∧ q.current = (r.setUp target duration).current ∧
     (d = 0 ∨ t = r.current → q.current = t ∧ q.running = false) ∧
     (d ≠ 0 → t ≠ r.current →
       q.current = r.current ∧ q.start = r.current ∧ q.duration = d ∧
       q.step = ((t - r.current) + (r.current - t) + d - 1) / d ∧ q.running = true)) ∧
    (∀ t d, r.running = true → r.staged = some (t, d) → r.moved = r.target →
      r.tick.staged = none ∧ r.tick = Ramp.setUp { r with current := r.target, running := false, staged := none } t d))

/-- RAMP_TICK, due after 48 frames: the gain of every open program, and every zone's master gain and duck factor, takes one
step; the gain of a FREE or ENDED program stands; and a LIVE program whose tail has reached 0 is closed. Where no tail ends,
nothing but the ramps and the millisecond count changes (R8, R67, R70). A LIVE program whose tail gain reaches 0 at the expiry
ends CLOSED in it (R70, R109). Of several whose tails end at one expiry each has ended and owns nothing; the lowest id, which
the model ends first, is CLOSED, and a later one is CLOSED too unless those before it left it without a zone. The model's
choices: a tick is due at any count of frames from 48 up and takes 48 away (assumption log 28), several tails end in
ascending id (assumption log 11), and a staged ramp that completes at once keeps the start value, duration and step of the one
before it (assumption log 39). -/
def Obligations.TheMillisecondExpiryStepsRampsAndEndsTails : Prop :=
  (∀ s : State, 48 ≤ s.msFrames → s.served = true →
    (∀ p : ProgId, s.progs[p].state = .tail → s.progs[p].gain.tick.running = true ∨ s.progs[p].gain.tick.current ≠ 0) →
    ∃ u, exec .rampTick s = .next u ∧ u.msFrames = s.msFrames - 48 ∧
      (∀ p : ProgId, u.progs[p] =
        if s.progs[p].state = .free ∨ s.progs[p].state = .ended then s.progs[p]
        else { s.progs[p] with gain := s.progs[p].gain.tick }) ∧
      (∀ z : Zone, u.zones[z] = { s.zones[z] with master := s.zones[z].master.tick, duck := s.zones[z].duck.tick }) ∧
      u = { s with msFrames := u.msFrames, progs := u.progs, zones := u.zones }) ∧
  (∀ (s : State) (p : ProgId), 48 ≤ s.msFrames → s.progs[p].state = .tail →
    (∀ q : ProgId, q ≠ p → s.progs[q].state ≠ .tail) →
    s.progs[p].gain.tick.running = false → s.progs[p].gain.tick.current = 0 →
    ∃ u, exec .rampTick s = .next u ∧ u.progs[p].state = .ended ∧ u.progs[p].endReason = some .closed ∧
      u.progs[p].granted = 0#64 ∧ (∀ z : Zone, u.zones[z].owner ≠ some p)) ∧
  (∀ s : State, 48 ≤ s.msFrames →
    let done := fun p : ProgId =>
      s.progs[p].state = .tail ∧ s.progs[p].gain.tick.running = false ∧ s.progs[p].gain.tick.current = 0
    ∃ u, exec .rampTick s = .next u ∧ u.msFrames = s.msFrames - 48 ∧
      ∀ p : ProgId, done p → u.progs[p].state = .ended ∧ u.progs[p].granted = 0#64 ∧ (∀ z : Zone, u.zones[z].owner ≠ some p) ∧
        (u.progs[p].endReason = some .closed ∨ u.progs[p].endReason = some .noZones) ∧
        ((∀ q : ProgId, q < p → ¬done q) → u.progs[p].endReason = some .closed))

/-- SET_PROGRAM_GAIN: PARAM, NOT_FOUND, PRIVILEGE and STATE in their order without effect, else the gain alone is retargeted
and its current value and target are answered (R74). What a ramp that completes at once keeps
of its former start value, duration and step is the model's choice (assumption log 39). -/
def Obligations.SetProgramGainRetargetsTheGain : Prop :=
  ∀ (t : Txn) (prog : Byte) (target : BitVec 16) (duration : BitVec 24) (mode : Byte) (s : State),
    s.listens t = true → s.served = true →
    (31 < prog.toNat ∨ 1 < mode.toNat →
      exec (.setProgramGain t prog target duration mode) s = .next (s.replying t 7 0x20#8 .param [])) ∧
    ∀ p : ProgId, prog.toNat = p.val → mode.toNat ≤ 1 →
      let g := s.progs[p]
      let gain := g.gain.retarget (mode == 0#8) target.toNat duration.toNat
      exec (.setProgramGain t prog target duration mode) s = .next
        (if g.state = .free then s.replying t 7 0x20#8 .notFound []
         else if g.owner ≠ t.port ∨ p.val < 2 ∨ g.routeSlot ≠ none then s.replying t 7 0x20#8 .privilege []
         else if g.state = .tail ∨ g.state = .ended then s.replying t 7 0x20#8 .state []
         else (s.onProg p fun g => { g with gain := gain }).replying t 7 0x20#8 .ok (out16 gain.current ++ out16 gain.target))

/-- SET_ZONE_LEVEL retargets the master gain of each zone of the set from its own value and nothing else (R75). What a ramp
that completes at once keeps of its former start value, duration and step is the model's choice (assumption log 39). -/
def Obligations.SetZoneLevelRetargetsTheMasterGains : Prop :=
  ∀ (t : Txn) (zones : ZoneSet) (target : BitVec 16) (duration : BitVec 24) (mode : Byte) (s : State),
    s.listens t = true → s.served = true →
    exec (.setZoneLevel t zones target duration mode) s = .next
      (if t.port ≠ .ann then s.replying t 14 0x21#8 .privilege []
       else if zones = 0#64 ∨ 1 < mode.toNat then s.replying t 14 0x21#8 .param []
       else State.replying { s with
        zones := remap s.zones fun z r =>
          if zones.getLsbD z.val then
            { r with master := r.master.retarget (mode == 0#8) (min target.toNat 32768) (min duration.toNat 10000) }
          else r } t 14 0x21#8 .ok [])

/-- SET_EMERGENCY_LEVEL gives each zone of the set the level, at most 32,768, at once and changes nothing else (R76).
SET_ALARM_UNDER takes the level, at most 32,768, at once, answers it, and changes nothing else (R59). SET_VOICE_WINDOW holds a
duration of 10,000 to 300,000 ms for windows opened later; a running timer and everything else stay (R92). -/
def Obligations.LevelsAndTheWindowActAtOnce : Prop :=
  (∀ (t : Txn) (zones : ZoneSet) (level : BitVec 16) (s : State), s.listens t = true → s.served = true →
    exec (.setEmergencyLevel t zones level) s = .next
      (if t.port ≠ .saf then s.replying t 10 0x22#8 .privilege []
       else if zones = 0#64 then s.replying t 10 0x22#8 .param []
       else State.replying { s with
        zones := remap s.zones fun z r =>
          if zones.getLsbD z.val then { r with emergency := min level.toNat 32768 } else r } t 10 0x22#8 .ok [])) ∧
  (∀ (t : Txn) (level : BitVec 16) (s : State), s.listens t = true → s.served = true →
    exec (.setAlarmUnder t level) s = .next
      (if t.port ≠ .saf then s.replying t 2 0x24#8 .privilege []
       else State.replying { s with alarmUnder := min level.toNat 32768 } t 2 0x24#8 .ok (out16 (min level.toNat 32768)))) ∧
  (∀ (t : Txn) (duration : BitVec 24) (s : State), s.listens t = true → s.served = true →
    exec (.setVoiceWindow t duration) s = .next
      (if t.port ≠ .saf then s.replying t 3 0x36#8 .privilege []
       else if duration.toNat < 10000 ∨ 300000 < duration.toNat then s.replying t 3 0x36#8 .param []
       else State.replying { s with windowMs := duration.toNat } t 3 0x36#8 .ok []))

/-- SET_DUCK_PROFILE gives each zone of the set the clamped level, attack and release; under an owner of class 1 to 5 the duck
factor is retargeted, marked CUT, toward the level, over attack moving down and release moving up, and stands otherwise (R72,
R73). What a ramp that completes at once keeps
of its former start value, duration and step is the model's choice (assumption log 39). -/
def Obligations.SetDuckProfileRetargetsOwnedZones : Prop :=
  ∀ (t : Txn) (zones : ZoneSet) (level : BitVec 16) (attack release : BitVec 24) (s : State),
    s.listens t = true → s.served = true →
    exec (.setDuckProfile t zones level attack release) s = .next
      (if t.port ≠ .ann then s.replying t 16 0x23#8 .privilege []
       else if zones = 0#64 then s.replying t 16 0x23#8 .param []
       else State.replying { s with
        zones := remap s.zones fun z r =>
          if zones.getLsbD z.val then
            let lv := min level.toNat 32768
            let a := min attack.toNat 10000
            let e := min release.toNat 10000
            { r with
              duckLevel := lv, duckAttack := a, duckRelease := e
              duck := match r.owner with
                | none => r.duck
                | some o =>
                  if 1 ≤ s.progs[o].cls ∧ s.progs[o].cls ≤ 5 then
                    r.duck.retarget false lv (if lv < r.duck.current then a else e)
                  else r.duck }
          else r } t 16 0x23#8 .ok [])

/-- A zone handed to the ramp engine after its owner changed has its duck factor turned, marked CUT, from where it stands: to
0 over 20 ms under class 0, to the duck level under class 1 to 5 and to 32,768 with no owner, over attack moving down and
release moving up; a zone whose owner did not change is left alone (R71, R72). What a ramp that completes at once keeps
of its former start value, duration and step is the model's choice (assumption log 39). -/
def Obligations.DuckFactorsFollowTheOwner : Prop :=
  ∀ (s0 s : State) (z : Zone),
    let r := s.zones[z]
    let u := (State.duckHandOff s0 s).zones[z]
    (s0.zones[z].owner = r.owner → u = r) ∧
    (s0.zones[z].owner ≠ r.owner → r.owner = none → r.duck.current ≤ 32768 →
      u = { r with duck := r.duck.retarget false 32768 r.duckRelease }) ∧
    (∀ o : ProgId, s0.zones[z].owner ≠ r.owner → r.owner = some o → s.progs[o].cls = 0 →
      u = { r with duck := r.duck.retarget false 0 20 }) ∧
    (∀ o : ProgId, s0.zones[z].owner ≠ r.owner → r.owner = some o → s.progs[o].cls ≠ 0 →
      u = { r with
        duck := r.duck.retarget false r.duckLevel (if r.duckLevel < r.duck.current then r.duckAttack else r.duckRelease) })

/-! ### Programs and the zone claim table (chapters 2 and 5) -/

/-- The test of a claim on a zone that is not excluded: without owner it passes; against an owner it passes when its class is
lower and either at most 2 or below the shield level; between the alarm programs only program 0 passes against program 1 (R26,
R27). A BED program passes exactly when the bed slot is free (R30). The wait list holds every open-ordered program with a
waiting zone once, by class, and within a class in the order in which the programs were opened (R17, R25). -/
def Obligations.ClaimsAreTestedAndWaitedFor : Prop :=
  (∀ (s : State) (p : ProgId) (z : Zone),
    (s.progs[p].kind ≠ .bed →
      (s.passes p z = true ↔ ∀ o : ProgId, s.zones[z].owner = some o →
        let c := s.progs[p].cls
        let d := s.progs[o].cls
        (c = 0 ∧ d = 0 ∧ p = 0 ∧ o = 1) ∨ (c < d ∧ (c ≤ 2 ∨ c < s.zones[z].shield)))) ∧
    (s.progs[p].kind = .bed → (s.passes p z = true ↔ s.zones[z].bed = none))) ∧
  (∀ s : State, s.openOrder.Nodup → (∀ p : ProgId, s.progs[p].cls ≤ 6) →
    s.waitList.Nodup ∧ (∀ p : ProgId, p ∈ s.waitList ↔ p ∈ s.openOrder ∧ s.progs[p].waiting ≠ 0#64) ∧
    s.waitList.Pairwise fun a b => s.progs[a].cls < s.progs[b].cls ∨
      (s.progs[a].cls = s.progs[b].cls ∧ s.openOrder.idxOf a < s.openOrder.idxOf b))

/-- A program that takes an owned zone becomes its owner. A resumable owner is pushed onto the top of the hold stack, after
the bottom entry of a full stack has been evicted, and the zone moves from its granted to its held set; another owner loses
the zone from its request. The evicted program loses the zone. No other zone and no other program changes (R28, R29). The end
of a program: it leaves every zone as owner, stack entry and bed, the order of the other stack entries kept, its four sets are
emptied, its timers and its ramp stop, and it is ENDED with its reason, last in the order of ends; no other record of the
program table changes (R21, R22, R70). The successor of a released zone is the stack top, unless a grantable waiting program
has a lower class; the candidate that does not win is left as it was, and without a candidate the zone has no owner (R34). The
grantable waiting program is the first of the wait list, BED programs apart, that waits for the zone and either takes its
zones one by one or can have its whole request now (R34, R35); that a zone of the step for which the LOCAL alarm waits does
not pass for it is the model's reading of R27 (assumption log 37). So too in a zone that gives up its bed slot alone: a BED
program that closes, or drops its whole request, in a zone without owner leaves an ALL_OR_WAIT program that waits for the zone
and now passes in every zone of its request the owner of them all; where each of its zones has an owner, no owner and no stack
changes (R33 to R35), which for R34 is the model's reading (assumption log 43). A winner that takes its zones together owns
them all, above the stacks of the unowned ones and by preemption of the owned ones (R35). A released bed slot goes to the
first BED program of the wait list that is grantable, all its bed slots with it where it takes them together (R36). -/
def Obligations.ZonesChangeHands : Prop :=
  (∀ (s : State) (quiet : Bool) (p o : ProgId) (z : Zone),
    let r := s.zones[z]
    r.owner = some o → (p :: o :: r.stack).Nodup → r.stack.length ≤ 3 →
    let u := s.takeForeground quiet p z
    (u.zones[z].owner = some p) ∧ (∀ y : Zone, y ≠ z → u.zones[y] = s.zones[y]) ∧
    (s.progs[o].kind.resumable = true →
      u.zones[z].stack = o :: r.stack.take 2 ∧ (r.stack.length < 3 → u.zones[z].stack = o :: r.stack) ∧
      u.progs[o] = s.progs[o].suspend z ∧
      (∀ b : ProgId, r.stack.length = 3 → r.stack.getLast? = some b → u.progs[b] = s.progs[b].without (zoneBit z))) ∧
    (s.progs[o].kind.resumable = false →
      u.zones[z].stack = r.stack ∧ u.progs[o] = s.progs[o].without (zoneBit z)) ∧
    u.progs[p] = s.progs[p].addGranted z ∧
    (∀ q : ProgId, q ≠ p → q ≠ o → q ∉ r.stack.drop 2 → u.progs[q] = s.progs[q])) ∧
  (∀ (s : State) (p : ProgId) (why : EndReason),
    let u := s.endProgram p why
    (∀ z : Zone, u.zones[z] = { s.zones[z] with
      owner := if s.zones[z].owner = some p then none else s.zones[z].owner
      stack := s.zones[z].stack.filter (· ≠ p)
      bed := if s.zones[z].bed = some p then none else s.zones[z].bed }) ∧
    u.progs[p] = { s.progs[p] with
      requested := 0#64, granted := 0#64, held := 0#64, waiting := 0#64, waitTimer := none, joinTimer := none,
      state := .ended, endReason := some why, gain := { s.progs[p].gain with running := false, staged := none } } ∧
    (∀ q : ProgId, q ≠ p → u.progs[q] = s.progs[q]) ∧ u.endOrder = s.endOrder ++ [p] ∧ u.openOrder = s.openOrder) ∧
  (∀ (s : State) (quiet : Bool) (rs : ZoneSet) (z : Zone), s.zones[z].owner = none →
    let u := s.succeed quiet rs z
    (s.zones[z].stack = [] → s.waiterFor rs z = none → u = s) ∧
    (∀ t rest, s.zones[z].stack = t :: rest → (∀ w, s.waiterFor rs z = some w → s.progs[t].cls ≤ s.progs[w].cls) →
      u.zones[z].owner = some t ∧ u.zones[z].stack = rest ∧ u.progs[t] = s.progs[t].addGranted z ∧
      (∀ q : ProgId, q ≠ t → u.progs[q] = s.progs[q])) ∧
    (∀ w, s.waiterFor rs z = some w → s.progs[w].together = false →
      (∀ t, s.zones[z].stack.head? = some t → s.progs[w].cls < s.progs[t].cls) →
      u.zones[z].owner = some w ∧ u.zones[z].stack = s.zones[z].stack ∧ u.progs[w] = s.progs[w].addGranted z ∧
      (∀ q : ProgId, q ≠ w → u.progs[q] = s.progs[q])) ∧
    (∀ y : Zone, y ≠ z → (∀ w, s.waiterFor rs z = some w → s.progs[w].together = false) → u.zones[y] = s.zones[y])) ∧
  (∀ (s : State) (rs : ZoneSet) (z : Zone),
    let able := fun w : ProgId => ∀ y : Zone, s.progs[w].requested.getLsbD y.val = true → y ≠ z →
      (s.zones[y].owner ≠ none → s.passes w y = true) ∧
      (s.zones[y].owner = none → rs.getLsbD y.val = true → s.progs[(1 : ProgId)].waiting.getLsbD y.val = false ∧
        ∀ t, s.zones[y].stack.head? = some t → s.progs[w].cls < s.progs[t].cls)
    let fit := fun w : ProgId => s.progs[w].kind ≠ .bed ∧ s.progs[w].waiting.getLsbD z.val = true ∧
      (s.progs[w].policy = .allOrWait ∧ s.progs[w].gotAll = false → able w)
    let bedFit := fun w : ProgId => s.progs[w].kind = .bed ∧ s.progs[w].waiting.getLsbD z.val = true ∧
      (s.progs[w].policy = .allOrWait ∧ s.progs[w].gotAll = false →
        ∀ y : Zone, s.progs[w].requested.getLsbD y.val = true → y ≠ z → s.zones[y].bed = none)
    (∀ w, s.waiterFor rs z = some w ↔ ∃ before after, s.waitList = before ++ w :: after ∧ fit w ∧ ∀ q ∈ before, ¬fit q) ∧
    (s.waiterFor rs z = none ↔ ∀ w ∈ s.waitList, ¬fit w) ∧
    (∀ w, s.bedWaiter z = some w ↔ ∃ before after, s.waitList = before ++ w :: after ∧ bedFit w ∧ ∀ q ∈ before, ¬bedFit q) ∧
    (s.bedWaiter z = none ↔ ∀ w ∈ s.waitList, ¬bedFit w)) ∧
  (∀ (s : State) (quiet : Bool) (rs : ZoneSet) (z : Zone) (w : ProgId), s.claimsAgree = true → s.zones[z].owner = none →
    s.waiterFor rs z = some w → s.progs[w].together = true → s.progs[w].granted = 0#64 → s.progs[w].held = 0#64 →
    (∀ t, s.zones[z].stack.head? = some t → s.progs[w].cls < s.progs[t].cls) →
    let g := s.progs[w]
    let u := s.succeed quiet rs z
    u.progs[w] = { g with granted := g.requested, waiting := 0#64, gotAll := true } ∧
    (∀ y : Zone, g.requested.getLsbD y.val = true → u.zones[y].owner = some w ∧
      (s.zones[y].owner = none → u.zones[y].stack = s.zones[y].stack) ∧
      (∀ o, s.zones[y].owner = some o → s.zones[y].stack.length ≤ 3 →
        u.zones[y].stack = if s.progs[o].kind.resumable then o :: s.zones[y].stack.take 2 else s.zones[y].stack)) ∧
    (∀ y : Zone, g.requested.getLsbD y.val = false → u.zones[y] = s.zones[y])) ∧
  (∀ (s : State) (quiet : Bool) (z : Zone), s.claimsAgree = true → s.zones[z].bed = none →
    let u := s.fillBed quiet z
    (s.bedWaiter z = none → u = s) ∧
    (∀ w, s.bedWaiter z = some w →
      let g := s.progs[w]
      (g.together = false →
        u.zones[z] = { s.zones[z] with bed := some w } ∧ u.progs[w] = g.addGranted z ∧
        (∀ y : Zone, y ≠ z → u.zones[y] = s.zones[y])) ∧
      (g.together = true → g.granted = 0#64 → g.held = 0#64 →
        u.progs[w] = { g with granted := g.requested, waiting := 0#64, gotAll := true } ∧
        (∀ y : Zone, u.zones[y] = if g.requested.getLsbD y.val then { s.zones[y] with bed := some w } else s.zones[y])) ∧
      (∀ q : ProgId, q ≠ w → u.progs[q] = s.progs[q]))) ∧
  (∀ (t : Txn) (prog : Byte) (s : State) (p : ProgId) (i : Instr), s.listens t = true → s.safe = true →
    prog.toNat = p.val → 2 ≤ p.val → s.progs[p].owner = t.port → s.progs[p].routeSlot = none → s.progs[p].isOpen = true →
    s.progs[p].kind = .bed → (i = .closeProgram t prog ∨ i = .dropZones t prog s.progs[p].requested) →
    ((∀ z : Zone, s.zones[z].bed = some p → s.zones[z].owner ≠ none) →
      ∃ u, exec i s = .next u ∧ u.progs[p].state = .ended ∧
        ∀ z : Zone, u.zones[z].bed ≠ some p ∧ u.zones[z].owner = s.zones[z].owner ∧ u.zones[z].stack = s.zones[z].stack) ∧
    (∀ (w : ProgId) (z : Zone), s.progs[p].granted = zoneBit z → s.zones[z].owner = none → s.progs[w].kind ≠ .bed →
      s.progs[w].cls ≤ 6 → s.progs[w].policy = .allOrWait → s.progs[w].gotAll = false →
      s.progs[w].waiting.getLsbD z.val = true → (∀ q : ProgId, q ≠ w → q ≠ p → s.progs[q].waiting = 0#64) →
      (∀ y : Zone, s.progs[w].requested.getLsbD y.val = true → s.passes w y = true) →
      ∃ u, exec i s = .next u ∧ u.progs[p].state = .ended ∧ u.zones[z].bed = none ∧
        u.progs[w].granted = s.progs[w].requested ∧ u.progs[w].waiting = 0#64 ∧
        (u.progs[w].state = .active ∨ u.progs[w].state = .preamble) ∧
        (∀ y : Zone, u.zones[y].owner = if s.progs[w].requested.getLsbD y.val then some w else s.zones[y].owner) ∧
        (u.port s.progs[w].owner).has .program = true ∧ (u.port s.progs[w].owner).changed.getLsbD w.val = true))

/-- OPEN_PROGRAM answers the first refusal that applies and has no effect: PARAM for a class above 6 or an unknown kind,
PRIVILEGE outside the pairings and ports of the class table, ALARM_ACTIVE for class 3 to 6 while an alarm is active, PARAM
for an empty zone set or any other parameter outside what R39 and R10 allow, FULL without a record, NOT_READY and FULL as the
clip pool answers for a CLIP, and BUSY for a CALL_OUT of a station that is not IDLE (R10, R18, R39, R134). That a CLIP whose
clip field is 0xFF has no clip, and is so refused PARAM, is the model's reading of R212, for 255 is a clip id too (assumption
log 13); that a CLIP's repeat count outside 1 to 256, so 0 and 257 to 65,535, is refused PARAM is the model's choice too, for
R212 gives such a field no meaning (assumption log 14). An open takes the lowest-numbered FREE record of its range, 2 to 31
for the safety port and 4 to 31 for any other, else the record of the range that ended earliest, else none (R40). -/
def Obligations.OpensAreRefusedOrGivenTheLowestRecord : Prop :=
  (∀ (t : Txn) (a : OpenArgs) (s : State), s.listens t = true → s.served = true →
    let out := fun st => exec (.openProgram t a) s = .next (s.replying t 28 0x10#8 st [])
    ((6 < a.cls.toNat ∨ 5 < a.kind.toNat) → out .param) ∧
    (a.cls.toNat ≤ 6 → a.kind.toNat ≤ 5 →
      let k := a.kind.toNat
      let paired : Prop :=
        (a.cls.toNat = 1 ∧ (k = 1 ∨ k = 2) ∧ t.port = .saf) ∨
        (a.cls.toNat = 2 ∧ (k = 1 ∨ k = 2 ∨ k = 3) ∧ (t.port = .ann ∨ t.port = .icm)) ∨
        (a.cls.toNat = 3 ∧ (k = 1 ∨ k = 2) ∧ t.port = .ann) ∨ (a.cls.toNat = 4 ∧ k = 3 ∧ t.port = .icm) ∨
        (a.cls.toNat = 5 ∧ k = 4 ∧ t.port = .shw) ∨ (a.cls.toNat = 6 ∧ k = 5 ∧ (t.port = .ann ∨ t.port = .shw))
      (¬paired → out .privilege) ∧
      (paired → s.alarmActive = true → 3 ≤ a.cls.toNat → out .alarmActive) ∧
      (paired → (s.alarmActive = false ∨ a.cls.toNat ≤ 2) → a.zones = 0#64 → out .param) ∧
      (paired → (s.alarmActive = false ∨ a.cls.toNat ≤ 2) →
        let limit := fun x : BitVec 24 => x = 0xFFFFFF#24 ∨ (1000 ≤ x.toNat ∧ x.toNat ≤ 120000)
        let formed : Prop :=
          (k = 1 → a.source.toNat ≤ 7) ∧ (k = 2 → a.source = 0xFF#8) ∧ (k = 3 → 16 ≤ a.source.toNat ∧ a.source.toNat ≤ 47) ∧
          (4 ≤ k → a.source.toNat ≤ 15) ∧ a.zones ≠ 0#64 ∧ a.policy.toNat ≤ 1 ∧ limit a.waitLimit ∧ limit a.joinDeadline ∧
          (a.chime = 0xFF#8 ∨ ((a.chime.toNat = 2 ∨ (12 ≤ a.chime.toNat ∧ a.chime.toNat ≤ 15)) ∧ k ≤ 2)) ∧
          (a.clip ≠ 0xFF#8 ↔ k = 2) ∧
          (k = 2 → 1 ≤ a.repeats.toNat ∧ a.repeats.toNat ≤ 256 ∧ a.trigger.toNat ≤ 1) ∧
          (a.tail = 0xFFFFFF#24 ∨ (a.tail.toNat ≤ 2000 ∧ k = 1))
        (¬formed → out .param) ∧
        (formed → s.allocate (recordLow t.port) = none → out .full) ∧
        (formed → s.allocate (recordLow t.port) ≠ none →
          (∀ id : ClipId, k = 2 → a.clip.toNat = id.val →
            let ready : Prop := s.clips.scan = none ∧ s.clips.dir[id].state = .ready
            (¬ready → out .notReady) ∧
            (ready → (∀ ch : ChanId, ch.val < 4 → s.chans[ch].user ≠ none) →
              (a.cls.toNat ≠ 1 ∨ ∀ (ch : ChanId) (p : ProgId), ch.val < 4 → s.chans[ch].user ≠ some (.prog p)) → out .full)) ∧
          (∀ st : StationId, k = 3 → a.source.toNat = 16 + st.val → s.stations[st].state ≠ .idle → out .busy))))) ∧
  (∀ (s : State) (port : Port),
    let low := if port = .saf then 2 else 4
    (∀ p : ProgId, s.allocate (recordLow port) = some p → low ≤ p.val ∧
      (s.progs[p].state = .free → ∀ q : ProgId, low ≤ q.val → q < p → s.progs[q].state ≠ .free) ∧
      (s.progs[p].state ≠ .free → (∀ q : ProgId, low ≤ q.val → s.progs[q].state ≠ .free) ∧
        ∃ before after, s.endOrder = before ++ p :: after ∧ ∀ q ∈ before, q.val < low)) ∧
    (s.allocate (recordLow port) = none ↔
      ∀ q : ProgId, low ≤ q.val → s.progs[q].state ≠ .free ∧ q ∉ s.endOrder))

/-- OPEN_PROGRAM accepted: the record the allocation gives is taken with the fields of the request, the next arrival number,
the gain at rest and no route slot. The answer is OK with the id, the state reached and the two sets (R39 to R41). Excluded
zones take no part; with none left the program has ended NO_ZONES. Of the others each is owned or waited for: under
ALL_OR_WAIT all or none, and where no channel was taken from another program just those that pass the test as the zones stood,
or all where all pass (R26, R30 to R32). Its state follows: PENDING with its wait limit running when it was granted nothing;
otherwise ACTIVE, or PREAMBLE with a chime voice bound, a chime that got no voice being skipped (R19, R37, R104). In a part
that keeps its laws: a CALL_OUT's station goes from IDLE to TALKOUT, and is IDLE again where the program ended NO_ZONES (R115,
R116, R147). A CLIP program is given the lowest pool channel without user; where all four have users, class 1 takes that of
the program of highest class number, among equals the latest arrival, which ends CHANNEL_TAKEN with a PROGRAM notice (R134).
Its channel primes from the start when the open makes it ACTIVE, and otherwise stays bound and unstarted (R111, R136). Where
every program had its state and no channel was taken, the voice bound is the lowest-numbered one without a program, started on
the chime pattern at step 1, and a chime is skipped only where every voice has a program or the pattern is empty; a voice that
had a program before the open can be the one only where that program has ended in it, which settling programs by ascending id
decides (assumption log 11). That a program that is not LIVE holds no tail time is the model's reading of R15 beside R41
(assumption log 42). At any grant of a first zone a LIVE or CLIP program with a chime does the same by the voices as they then
stand (R101, R104). -/
def Obligations.AnAcceptedOpenTakesItsRecord : Prop :=
  (∀ (s : State) (p : ProgId) (pat : PatId), s.progs[p].ret = none → s.progs[p].chime = some pat →
    s.progs[p].kind = .live ∨ s.progs[p].kind = .clip →
    let u := s.enterGranted p
    (∀ v : Fin 4, s.patterns[pat].steps ≠ [] → s.voices[v].bound = none → (∀ w : Fin 4, w < v → s.voices[w].bound ≠ none) →
      u.progs[p] = { s.progs[p] with state := .preamble } ∧
      u.voices[v] = ⟨Player.start pat s.patterns[pat], some p⟩ ∧
      (∀ w : Fin 4, w ≠ v → u.voices[w] = s.voices[w]) ∧ (∀ q : ProgId, q ≠ p → u.progs[q] = s.progs[q]) ∧
      u.chans = s.chans) ∧
    (s.patterns[pat].steps = [] ∨ (∀ v : Fin 4, s.voices[v].bound ≠ none) →
      u.progs[p].state = .active ∧ u.progs[p].chimeSkipped = true ∧ u.voices = s.voices ∧
      (∀ q : ProgId, q ≠ p → u.progs[q] = s.progs[q]))) ∧
  ∀ (t : Txn) (a : OpenArgs) (s : State) (k : ProgKind) (p : ProgId) (chan : Option (ChanId × Option ProgId)),
    s.listens t = true → s.claimsAgree = true → (∀ q ∈ s.endOrder, s.progs[q].state = .ended) → s.endOrder.Nodup →
    openCheck s t.port a = .ok k → s.allocate (recordLow t.port) = some p →
    s.openBlocks (openRecord a t.port k) = .ok chan →
    ∃ u, exec (.openProgram t a) s = .next u ∧
      u.answered t 0x10#8 .ok
        (out8 p.val ++ out8 (progStateCode u.progs[p].state) ++ putZones u.progs[p].granted ++ putZones u.progs[p].waiting) ∧
      (let g := u.progs[p]
       g.owner = t.port ∧ g.kind = k ∧ g.cls = a.cls.toNat ∧ g.gain.current = min a.gain.toNat 32768 ∧
       g.gain.target = g.gain.current ∧ g.gain.running = false ∧ g.gain.staged = none ∧ g.arrival = s.arrivals ∧
       g.routeSlot = none ∧ (k ≠ .clip → g.source = some a.source.toNat) ∧
       (∀ ch from?, chan = some (ch, from?) → g.source = some (48 + ch.val)) ∧
       (k = .live → g.tail = some (if a.tail = 0xFFFFFF#24 then 100 else a.tail.toNat))) ∧
      u.arrivals = (s.arrivals + 1) % 65536 ∧
      (let g := u.progs[p]
       g.policy = (if a.policy = 0#8 then .allOrWait else .takeAvailable) ∧
       g.waitLimit = (if a.waitLimit = 0xFFFFFF#24 then none else some a.waitLimit.toNat) ∧
       g.joinDeadline = (if a.joinDeadline = 0xFFFFFF#24 then none else some a.joinDeadline.toNat) ∧
       g.chime.map (·.val) = (if a.chime = 0xFF#8 then none else some a.chime.toNat) ∧ (k ≠ .live → g.tail = none) ∧
       (k ≠ .clip → g.clipPart = none) ∧
       (∀ ch from?, chan = some (ch, from?) → ∃ id : ClipId, a.clip.toNat = id.val ∧
         g.clipPart = some ⟨id, if a.repeats.toNat = 256 then none else some a.repeats.toNat,
           if a.trigger = 0#8 then .free else .gated, some ch⟩)) ∧
      (s.kindsLawful = true →
        let g := u.progs[p]
        let left := a.zones &&& ~~~s.excludedSet
        g.ret = none ∧
        (left = 0#64 → g.state = .ended ∧ g.endReason = some .noZones ∧ g.requested = 0#64 ∧ g.granted = 0#64 ∧
          g.held = 0#64 ∧ g.waiting = 0#64 ∧ g.chimeSkipped = false ∧ g.waitTimer = none ∧ g.joinTimer = none) ∧
        (left ≠ 0#64 →
          g.requested = left ∧ g.granted ||| g.waiting = left ∧ g.granted &&& g.waiting = 0#64 ∧ g.held = 0#64 ∧
          (∀ z : Zone, g.granted.getLsbD z.val = true ↔ if k = .bed then u.zones[z].bed = some p else u.zones[z].owner = some p) ∧
          (a.policy = 0#8 → g.granted = left ∨ g.granted = 0#64) ∧
          ((∀ ch q, chan ≠ some (ch, some q)) →
            let passes := fun z : Zone => if k = .bed then s.zones[z].bed = none else ∀ o, s.zones[z].owner = some o →
              a.cls.toNat < s.progs[o].cls ∧ (a.cls.toNat ≤ 2 ∨ a.cls.toNat < s.zones[z].shield)
            (a.policy ≠ 0#8 → ∀ z : Zone, left.getLsbD z.val = true → (g.granted.getLsbD z.val = true ↔ passes z)) ∧
            (a.policy = 0#8 → (g.granted = left ↔ ∀ z : Zone, left.getLsbD z.val = true → passes z))) ∧
          g.endReason = none ∧ g.joinTimer = g.joinDeadline.map (48 * ·) ∧
          g.waitTimer = (if g.granted = 0#64 then g.waitLimit.map (48 * ·) else none) ∧
          (g.granted = 0#64 → g.state = .pending ∧ g.chimeSkipped = false) ∧
          (g.granted ≠ 0#64 →
            (g.state = .active ∧ g.chimeSkipped = g.chime.isSome) ∨
            (g.state = .preamble ∧ g.chime ≠ none ∧ g.chimeSkipped = false ∧ ∃ v : Fin 4, u.voices[v].bound = some p)) ∧
          (∀ pat, s.statesFollow = true → (∀ ch q, chan ≠ some (ch, some q)) → g.granted ≠ 0#64 → g.chime = some pat →
            (g.state = .preamble →
              s.patterns[pat].steps ≠ [] ∧
              ∃ v : Fin 4, u.voices[v] = ⟨Player.start pat s.patterns[pat], some p⟩ ∧
                (∀ w : Fin 4, w < v → s.voices[w].bound ≠ none) ∧
                (s.voices[v].bound = none ∨ ∃ q, s.voices[v].bound = some q ∧ u.progs[q].state = .ended)) ∧
            (g.chimeSkipped = true → s.patterns[pat].steps = [] ∨ ∀ v : Fin 4, s.voices[v].bound ≠ none)))) ∧
      (s.safe = true →
        (∀ st : StationId, k = .callOut → a.source.toNat = 16 + st.val →
          u.stations[st] = { s.stations[st] with
            state := if a.zones &&& ~~~s.excludedSet = 0#64 then .idle else .talkout }) ∧
        (∀ ch from?, chan = some (ch, from?) →
          let g := u.progs[p]
          ch.val < 4 ∧
          (from? = none → s.chans[ch].user = none ∧ ∀ c : ChanId, c < ch → s.chans[c].user ≠ none) ∧
          (∀ q, from? = some q →
            a.cls = 1#8 ∧ (∀ c : ChanId, c.val < 4 → s.chans[c].user ≠ none) ∧ s.chans[ch].user = some (.prog q) ∧
            (∀ (c : ChanId) (r : ProgId), c.val < 4 → s.chans[c].user = some (.prog r) → r ≠ q →
              s.progs[r].cls < s.progs[q].cls ∨
                (s.progs[r].cls = s.progs[q].cls ∧ s.openOrder.idxOf r < s.openOrder.idxOf q)) ∧
            u.progs[q].state = .ended ∧ u.progs[q].endReason = some .channelTaken ∧ u.progs[q].requested = 0#64 ∧
            (∀ z : Zone, u.zones[z].owner ≠ some q ∧ q ∉ u.zones[z].stack) ∧
            (u.port s.progs[q].owner).has .program = true ∧ (u.port s.progs[q].owner).changed.getLsbD q.val = true) ∧
          (g.state = .ended → u.chans[ch].state = .free ∧ u.chans[ch].user = none ∧ u.chans[ch].clip = none) ∧
          (g.state ≠ .ended → u.chans[ch].user = some (.prog p) ∧ u.chans[ch].clip.map (·.val) = some a.clip.toNat ∧
            (g.state = .active → u.chans[ch].state = .priming ∧ u.chans[ch].nextFetch = some (0, 1) ∧
              u.chans[ch].ahead = [] ∧
              u.chans[ch].repeats = (if a.repeats.toNat = 256 then none else some a.repeats.toNat) ∧
              u.chans[ch].trigger = (if a.trigger = 0#8 then .free else .gated)) ∧
            (g.state ≠ .active → u.chans[ch].state = .free))))

/-- OPEN_PROGRAM of a LIVE program without chime for one zone that no program owns and that is not excluded, in a part at
rest: the program owns the zone and is ACTIVE, the zone's bed is ducked for its class, and no other program or zone changes
(R20, R26, R31, R41, R71). What a ramp that completes at once keeps
of its former start value, duration and step is the model's choice (assumption log 39). -/
def Obligations.ALiveOpenTakesAFreeZone : Prop :=
  ∀ (t : Txn) (a : OpenArgs) (s : State) (p : ProgId) (z : Zone), s.listens t = true → s.atRest = true →
    s.claimsAgree = true → s.kindsLawful = true → (∀ q ∈ s.endOrder, s.progs[q].state = .ended) → s.endOrder.Nodup →
    openCheck s t.port a = .ok .live → a.chime = 0xFF#8 → s.allocate (recordLow t.port) = some p → a.zones = zoneBit z →
    s.zones[z].owner = none → s.zones[z].excluded = false → (s.survey.zone = some z → 2 < a.cls.toNat) →
    ∃ u, exec (.openProgram t a) s = .next u ∧ u.progs[p].state = .active ∧ u.progs[p].granted = zoneBit z ∧
      u.progs[p].waiting = 0#64 ∧ u.zones[z] = { s.zones[z] with
        owner := some p
        duck := s.zones[z].duck.retarget false s.zones[z].duckLevel
          (if s.zones[z].duckLevel < s.zones[z].duck.current then s.zones[z].duckAttack else s.zones[z].duckRelease) } ∧
      (∀ y : Zone, y ≠ z → u.zones[y] = s.zones[y]) ∧ (∀ q : ProgId, q ≠ p → u.progs[q] = s.progs[q])

/-- ADD_ZONES of a program that takes its zones one by one: each zone of the set that is not excluded and neither granted nor
held is taken when the program passes the test there and waited for otherwise; the answer is OK with the state and the two
sets (R31, R42). A BED program takes each free bed slot of the set and waits for the others, and no owner changes, nor, where
the states of all programs agree with their sets, a stack (R30). A program that waits under ALL_OR_WAIT takes its whole
request, grown by the set, when every zone of it passes, and otherwise waits for all of it (R32). DROP_ZONES: afterwards the
program neither owns, holds nor waits for any zone of the set, nor has its bed slot, and a program that has dropped its whole
request has ended NO_ZONES; the answer is OK with the state (R43). Both refuse without effect, in order: PARAM for a record
above 31 or an empty set, NOT_FOUND for a FREE record, PRIVILEGE for another port's, an alarm's or a route slot's program,
ALARM_ACTIVE for ADD_ZONES of class 3 to 6 under an alarm, STATE in TAIL and ENDED (R42, R43). -/
def Obligations.ZonesAreAddedAndDropped : Prop :=
  (∀ (t : Txn) (prog : Byte) (zones : ZoneSet) (s : State) (p : ProgId), s.listens t = true → s.claimsAgree = true → s.kindsLawful = true →
    prog.toNat = p.val → 2 ≤ p.val → zones ≠ 0#64 → s.progs[p].owner = t.port → s.progs[p].routeSlot = none →
    s.progs[p].isOpen = true → s.progs[p].state ≠ .tail → (s.alarmActive = true → s.progs[p].cls ≤ 2) →
    s.progs[p].kind ≠ .bed → s.progs[p].together = false →
    ∃ u, exec (.addZones t prog zones) s = .next u ∧
      u.answered t 0x11#8 .ok
        (out8 (progStateCode u.progs[p].state) ++ putZones u.progs[p].granted ++ putZones u.progs[p].waiting) ∧
      (∀ z : Zone, zones.getLsbD z.val = true → s.zones[z].excluded = false → s.zones[z].owner ≠ some p →
        p ∉ s.zones[z].stack →
        (s.passes p z = true → u.zones[z].owner = some p ∧ u.progs[p].granted.getLsbD z.val = true) ∧
        (s.passes p z = false → u.zones[z].owner = s.zones[z].owner ∧ u.progs[p].waiting.getLsbD z.val = true)) ∧
      (∀ z : Zone, zones.getLsbD z.val = true → s.zones[z].owner = some p → u.zones[z].owner = some p)) ∧
  (∀ (t : Txn) (prog : Byte) (zones : ZoneSet) (s : State) (p : ProgId), s.listens t = true → s.claimsAgree = true →
    prog.toNat = p.val → 2 ≤ p.val → zones ≠ 0#64 → s.progs[p].owner = t.port → s.progs[p].routeSlot = none →
    s.progs[p].isOpen = true → s.progs[p].state ≠ .tail →
    ∃ u, exec (.dropZones t prog zones) s = .next u ∧
      u.answered t 0x12#8 .ok (out8 (progStateCode u.progs[p].state)) ∧
      (∀ z : Zone, zones.getLsbD z.val = true →
        u.zones[z].owner ≠ some p ∧ p ∉ u.zones[z].stack ∧ u.zones[z].bed ≠ some p) ∧
      u.progs[p].requested &&& zones = 0#64 ∧
      (s.progs[p].requested &&& ~~~zones = 0#64 → u.progs[p].state = .ended ∧ u.progs[p].endReason = some .noZones)) ∧
  (∀ (t : Txn) (prog : Byte) (zones : ZoneSet) (s : State) (p : ProgId), s.listens t = true → s.claimsAgree = true →
    s.kindsLawful = true → prog.toNat = p.val → 2 ≤ p.val → zones ≠ 0#64 → s.progs[p].owner = t.port →
    s.progs[p].routeSlot = none → s.progs[p].isOpen = true → s.progs[p].state ≠ .tail →
    (s.alarmActive = true → s.progs[p].cls ≤ 2) →
    let reported := fun u : State => u.answered t 0x11#8 .ok
      (out8 (progStateCode u.progs[p].state) ++ putZones u.progs[p].granted ++ putZones u.progs[p].waiting)
    (s.progs[p].kind = .bed → s.progs[p].together = false →
      ∃ u, exec (.addZones t prog zones) s = .next u ∧ reported u ∧
        (∀ z : Zone, zones.getLsbD z.val = true → s.zones[z].excluded = false → s.zones[z].bed ≠ some p →
          (s.zones[z].bed = none → u.zones[z].bed = some p ∧ u.progs[p].granted.getLsbD z.val = true) ∧
          (∀ b, s.zones[z].bed = some b → u.zones[z].bed = some b ∧ u.progs[p].waiting.getLsbD z.val = true)) ∧
        (∀ z : Zone, zones.getLsbD z.val = true → s.zones[z].bed = some p → u.zones[z].bed = some p) ∧
        (∀ z : Zone, u.zones[z].owner = s.zones[z].owner ∧
          (s.statesFollow = true → u.zones[z].stack = s.zones[z].stack))) ∧
    (s.progs[p].together = true → s.progs[p].granted = 0#64 → s.progs[p].held = 0#64 →
      let all := s.progs[p].requested ||| (zones &&& ~~~s.excludedSet)
      ∃ u, exec (.addZones t prog zones) s = .next u ∧ reported u ∧ u.progs[p].requested = all ∧
        ((∀ z : Zone, all.getLsbD z.val = true → s.passes p z = true) →
          u.progs[p].granted = all ∧ u.progs[p].waiting = 0#64 ∧
          (∀ z : Zone, all.getLsbD z.val = true →
            if s.progs[p].kind = .bed then u.zones[z].bed = some p else u.zones[z].owner = some p)) ∧
        ((∃ z : Zone, all.getLsbD z.val = true ∧ s.passes p z = false) →
          u.progs[p].granted = 0#64 ∧ u.progs[p].waiting = all ∧
          (∀ z : Zone, u.zones[z].owner = s.zones[z].owner ∧ u.zones[z].bed = s.zones[z].bed)))) ∧
  (∀ (t : Txn) (prog : Byte) (zones : ZoneSet) (s : State), s.listens t = true → s.served = true →
    let add := fun st => exec (.addZones t prog zones) s = .next (s.replying t 9 0x11#8 st [])
    let drop := fun st => exec (.dropZones t prog zones) s = .next (s.replying t 9 0x12#8 st [])
    ((31 < prog.toNat ∨ zones = 0#64) → add .param ∧ drop .param) ∧
    (∀ p : ProgId, prog.toNat = p.val → zones ≠ 0#64 →
      let g := s.progs[p]
      let mine : Prop := g.owner = t.port ∧ 2 ≤ p.val ∧ g.routeSlot = none
      (g.state = .free → add .notFound ∧ drop .notFound) ∧
      (g.state ≠ .free → ¬mine → add .privilege ∧ drop .privilege) ∧
      (g.state ≠ .free → mine → s.alarmActive = true → 3 ≤ g.cls → add .alarmActive) ∧
      (mine → g.state = .tail ∨ g.state = .ended →
        drop .state ∧ (s.alarmActive = false ∨ g.cls ≤ 2 → add .state))))

/-- CLOSE_PROGRAM of a LIVE program that owns a zone, has a gain above 0 and a tail time above 0, in a part at rest: it
enters TAIL, its waiting set leaves its request, its timers stop and its gain fades to 0 over the tail time; its chime voice
is released; it keeps its zones and no other program or zone changes (R44, R70, R109). CLOSE_PROGRAM of a program that is not
LIVE, owns nothing, or is in TAIL already, or whose tail is over at once because its tail time or its gain is 0, and
FORCE_CLOSE of any program, end it at once, CLOSED or FORCED, and no zone has it as owner, stack entry or bed any more (R21,
R44, R45). At every end of a CALL_OUT its station goes from TALKOUT to IDLE in the same step (R116, R147). CLOSE_PROGRAM and
FORCE_CLOSE refuse without effect, in order: PRIVILEGE for a FORCE_CLOSE from another port than the safety port or of an
alarm's program; PARAM for a record above 31; NOT_FOUND for a FREE one; PRIVILEGE for a CLOSE_PROGRAM of another port's, an
alarm's or a route slot's program; STATE for an ENDED one (R44, R45). -/
def Obligations.ProgramsAreClosed : Prop :=
  (∀ (t : Txn) (prog : Byte) (s : State) (p : ProgId) (tail : Nat), s.listens t = true → s.atRest = true →
    prog.toNat = p.val → 2 ≤ p.val → s.progs[p].owner = t.port → s.progs[p].routeSlot = none →
    s.progs[p].kind = .live → (s.progs[p].state = .preamble ∨ s.progs[p].state = .active) →
    s.progs[p].tail = some tail → 0 < tail → 0 < s.progs[p].gain.current →
    ∃ u, exec (.closeProgram t prog) s = .next u ∧ u.answered t 0x13#8 .ok [5#8] ∧
      (let g := s.progs[p]
       u.progs[p] = { g with
         requested := g.requested &&& ~~~g.waiting, waiting := 0#64, waitTimer := none, joinTimer := none, state := .tail
         gain := g.gain.retarget false 0 tail }) ∧
      u.progs[p].gain.running = true ∧
      (∀ v : Fin 4, u.voices[v].bound ≠ some p ∨ ∃ w : Fin 4, w < v ∧ s.voices[w].bound = some p) ∧
      (∀ z : Zone, u.zones[z] = s.zones[z]) ∧ (∀ q : ProgId, q ≠ p → u.progs[q] = s.progs[q])) ∧
  (∀ (t : Txn) (prog : Byte) (s : State) (p : ProgId), s.listens t = true → prog.toNat = p.val → 2 ≤ p.val →
    s.progs[p].isOpen = true →
    let gone := fun (u : State) (why : EndReason) =>
      u.progs[p].state = .ended ∧ u.progs[p].endReason = some why ∧ u.progs[p].requested = 0#64 ∧
      (∀ z : Zone, u.zones[z].owner ≠ some p ∧ p ∉ u.zones[z].stack ∧ u.zones[z].bed ≠ some p)
    (s.progs[p].owner = t.port → s.progs[p].routeSlot = none →
      (s.progs[p].kind ≠ .live ∨ s.progs[p].granted = 0#64 ∨ s.progs[p].state = .tail) →
      ∃ u, exec (.closeProgram t prog) s = .next u ∧ u.answered t 0x13#8 .ok [6#8] ∧ gone u .closed) ∧
    (s.progs[p].owner = t.port → s.progs[p].routeSlot = none → s.progs[p].kind = .live → s.progs[p].granted ≠ 0#64 →
      (s.progs[p].tail = some 0 ∨ s.progs[p].gain.current = 0) →
      ∃ u, exec (.closeProgram t prog) s = .next u ∧ u.answered t 0x13#8 .ok [6#8] ∧ gone u .closed) ∧
    (t.port = .saf → ∃ u, exec (.forceClose t prog) s = .next u ∧ u.answered t 0x14#8 .ok [] ∧ gone u .forced ∧
      (s.progs[p].owner ≠ .saf → (u.port s.progs[p].owner).has .program = true ∧
        (u.port s.progs[p].owner).changed.getLsbD p.val = true))) ∧
  (∀ (s : State) (p : ProgId) (st : StationId), s.progs[p].kind = .callOut → s.progs[p].source = some (16 + st.val) →
    s.stations[st].state = .talkout →
    (∀ why, (s.endProgram p why).stations[st] = { s.stations[st] with state := .idle }) ∧
    (∀ (t : Txn) (prog : Byte), s.listens t = true → prog.toNat = p.val → 2 ≤ p.val → s.progs[p].isOpen = true →
      (s.progs[p].owner = t.port → s.progs[p].routeSlot = none → ∃ u, exec (.closeProgram t prog) s = .next u ∧
        u.stations[st] = { s.stations[st] with state := .idle }) ∧
      (t.port = .saf → ∃ u, exec (.forceClose t prog) s = .next u ∧
        u.stations[st] = { s.stations[st] with state := .idle }))) ∧
  (∀ (t : Txn) (prog : Byte) (s : State), s.listens t = true → s.served = true →
    let close := fun st => exec (.closeProgram t prog) s = .next (s.replying t 1 0x13#8 st [])
    let force := fun st => exec (.forceClose t prog) s = .next (s.replying t 1 0x14#8 st [])
    (t.port ≠ .saf ∨ prog.toNat < 2 → force .privilege) ∧
    (31 < prog.toNat → close .param ∧ (t.port = .saf → force .param)) ∧
    (∀ p : ProgId, prog.toNat = p.val →
      let g := s.progs[p]
      let mine : Prop := g.owner = t.port ∧ 2 ≤ p.val ∧ g.routeSlot = none
      (g.state = .free → close .notFound ∧ (t.port = .saf → 2 ≤ p.val → force .notFound)) ∧
      (g.state ≠ .free → ¬mine → close .privilege) ∧
      (g.state = .ended → (mine → close .state) ∧ (t.port = .saf → 2 ≤ p.val → force .state))))

/-- SET_SHIELD sets the shield level of every zone of the set, or of none; no owner, stack, bed or wait list entry changes
(R24, R47). EXCLUDE_ZONES: each zone of the set is excluded and left without owner, stack and bed, and no open program has it
in any of its sets; zones outside the set keep owner, stack and bed, and no successor is chosen anywhere, in every state in
which programs in TAIL are LIVE, as R44 has it, so that their end leaves no stack; from another port than SAF it answers
PRIVILEGE and for an empty set PARAM, without effect (R48). Where it takes every zone of an alarm slot's
program, that program ends NO_ZONES with PROGRAM raised at its owning port, and the slot is IDLE without pattern or window,
its generator stopped and a clip voice's channel released, with ALARM at all four ports (R84). READMIT_ZONES clears the
excluded flag of each zone of the set and restores nothing (R49). -/
def Obligations.ShieldsExclusionsAndReadmissions : Prop :=
  (∀ (t : Txn) (zones : ZoneSet) (level : Byte) (s : State), s.listens t = true → s.served = true →
    exec (.setShield t zones level) s = .next
      (if t.port ≠ .shw then s.replying t 9 0x17#8 .privilege []
       else if s.alarmActive = true then s.replying t 9 0x17#8 .alarmActive []
       else if zones = 0#64 ∨ level.toNat < 3 ∨ 7 < level.toNat ∨
          ∃ z : Zone, zones.getLsbD z.val = true ∧ s.zones[z].showZone = false then s.replying t 9 0x17#8 .param []
       else State.replying { s with
        zones := remap s.zones fun z r => if zones.getLsbD z.val then { r with shield := level.toNat } else r }
          t 9 0x17#8 .ok [])) ∧
  (∀ (t : Txn) (zones : ZoneSet) (s : State), s.listens t = true → s.claimsAgree = true →
    s.kindsLawful = true → s.tailsLawful = true → t.port = .saf → zones ≠ 0#64 →
    (∀ z : Zone, s.zones[z].excluded = true → s.zones[z].owner = none ∧ s.zones[z].stack = [] ∧ s.zones[z].bed = none) →
    ∃ u, exec (.excludeZones t zones) s = .next u ∧ u.answered t 0x19#8 .ok [] ∧
      (∀ z : Zone, zones.getLsbD z.val = true → u.zones[z].excluded = true ∧ u.zones[z].owner = none ∧
        u.zones[z].stack = [] ∧ u.zones[z].bed = none) ∧
      (∀ (z : Zone) (p : ProgId), zones.getLsbD z.val = true → s.zones[z].excluded = false →
        u.progs[p].requested.getLsbD z.val = false ∧ u.progs[p].waiting.getLsbD z.val = false) ∧
      (∀ z : Zone, zones.getLsbD z.val = false → u.zones[z].excluded = s.zones[z].excluded ∧
        u.zones[z].owner = s.zones[z].owner ∧ u.zones[z].stack = s.zones[z].stack ∧ u.zones[z].bed = s.zones[z].bed)) ∧
  (∀ (t : Txn) (zones : ZoneSet) (s : State), s.listens t = true → s.served = true →
    (t.port ≠ .saf → exec (.excludeZones t zones) s = .next (s.replying t 8 0x19#8 .privilege [])) ∧
    (t.port = .saf → zones = 0#64 → exec (.excludeZones t zones) s = .next (s.replying t 8 0x19#8 .param []))) ∧
  (∀ (t : Txn) (zones : ZoneSet) (s : State) (k : Fin 2), s.listens t = true → s.safe = true → t.port = .saf →
    zones ≠ 0#64 → s.slots[k].state ≠ .idle → s.progs[progOfSlot k].requested &&& ~~~zones = 0#64 →
    ∃ u, exec (.excludeZones t zones) s = .next u ∧ u.slots[k] = ⟨.idle, none, none⟩ ∧ u.tone[k].cond = .stopped ∧
      u.progs[progOfSlot k].state = .ended ∧ u.progs[progOfSlot k].endReason = some .noZones ∧
      (∀ w id n ch, s.slots[k].window = some w → w.source = .clip id n ch →
        u.chans[ch].state = .free ∧ u.chans[ch].user = none ∧ u.chans[ch].clip = none) ∧
      (∀ q : Port, (u.port q).has .alarm = true) ∧
      (u.port s.progs[progOfSlot k].owner).has .program = true ∧
      (u.port s.progs[progOfSlot k].owner).changed.getLsbD k.val = true ∧
      (∀ j : Fin 2, j ≠ k → s.progs[progOfSlot j].requested &&& ~~~zones ≠ 0#64 →
        u.slots[j] = s.slots[j] ∧ u.tone[j] = s.tone[j])) ∧
  (∀ (t : Txn) (zones : ZoneSet) (s : State), s.listens t = true → s.served = true →
    exec (.readmitZones t zones) s = .next
      (if t.port ≠ .saf then s.replying t 8 0x1A#8 .privilege []
       else if zones = 0#64 then s.replying t 8 0x1A#8 .param []
       else State.replying { s with
        zones := remap s.zones fun z r => if zones.getLsbD z.val then { r with excluded := false } else r }
          t 8 0x1A#8 .ok []))

/-- SET_SHOW_ZONES makes the set the complete set of show zones, a zone outside it loses its shield, and nothing else changes,
whether or not an alarm is active (R46). -/
def Obligations.SetShowZonesNamesThemAll : Prop :=
  ∀ (t : Txn) (zones : ZoneSet) (s : State), s.listens t = true → s.served = true →
    exec (.setShowZones t zones) s = .next
      (if t.port ≠ .ann then s.replying t 8 0x18#8 .privilege []
       else State.replying { s with
        zones := remap s.zones fun z r =>
          if zones.getLsbD z.val then { r with showZone := true } else { r with showZone := false, shield := 7 } }
          t 8 0x18#8 .ok [])

/-- WAIT_LIMIT_EXPIRY of a program that owns nothing ends it WAIT_EXPIRED; it leaves every stack and the wait list, no zone
changes its owner, and PROGRAM is raised at its owning port (R37, R117). JOIN_DEADLINE_EXPIRY takes the zones still waited for
out of the request; a program left with nothing ends NO_ZONES, another goes on with what it owns and holds, and no other
program or zone changes (R38, R118). -/
def Obligations.WaitsAndJoinsExpire : Prop :=
  (∀ (s : State) (p : ProgId), s.atRest = true → s.claimsAgree = true → s.kindsLawful = true →
    s.progs[p].waitTimer = some 0 →
    (s.progs[p].state = .pending ∨ s.progs[p].state = .held) →
    ∃ u, exec (.waitLimitExpiry p) s = .next u ∧ u.progs[p].state = .ended ∧ u.progs[p].endReason = some .waitExpired ∧
      u.progs[p].waiting = 0#64 ∧ (∀ z : Zone, u.zones[z].owner = s.zones[z].owner ∧
        u.zones[z].stack = s.zones[z].stack.filter (· ≠ p)) ∧
      (∀ q : ProgId, q ≠ p → u.progs[q] = s.progs[q]) ∧
      (u.port s.progs[p].owner).has .program = true ∧ (u.port s.progs[p].owner).changed.getLsbD p.val = true) ∧
  (∀ (s : State) (p : ProgId), s.atRest = true → s.claimsAgree = true → s.kindsLawful = true →
    s.progs[p].joinTimer = some 0 → s.progs[p].isOpen = true → s.progs[p].state ≠ .tail →
    ∃ u, exec (.joinDeadlineExpiry p) s = .next u ∧
      (let g := s.progs[p]
       (g.granted = 0#64 → g.held = 0#64 → u.progs[p].state = .ended ∧ u.progs[p].endReason = some .noZones) ∧
       (g.granted ≠ 0#64 ∨ g.held ≠ 0#64 →
         u.progs[p] = { g with requested := g.requested &&& ~~~g.waiting, waiting := 0#64, joinTimer := none })) ∧
      (∀ q : ProgId, q ≠ p → u.progs[q] = s.progs[q]) ∧
      (∀ z : Zone, u.zones[z].owner = s.zones[z].owner ∧ u.zones[z].stack = s.zones[z].stack))

/-! ### Alarms, voice windows and pattern players (chapter 4) -/

/-- ALARM_START refuses without effect, in order: PRIVILEGE, PARAM for slot, pattern id or an empty set, NOT_FOUND for an
empty pattern (R79). ALARM_START on an IDLE slot from the safety port, with a pattern that is not empty and a zone that is
not excluded: the slot is SOUNDING with the pattern, its generator runs from step 1, its program is the slot's class 0 alarm
at gain 32,768 with policy TAKE_AVAILABLE and none of the optional parts, its request is the zones of the set that are not
excluded, and every one of them is owned by it or, for slot 1, by program 0; ALARM is raised at the other ports, and the
answer carries SOUNDING, the program's state and its granted and waiting sets (R27, R78, R79). With every zone of the set
excluded the program ends NO_ZONES at once and the slot stays IDLE (R79). On a slot that is not IDLE, in a part that keeps
its laws: the slot is SOUNDING with the new pattern from step 1 and without window, the channel of a clip voice is released,
the zones of the set that are not excluded join the request and are taken, those owned already stay, the other slot stays,
and ALARM is raised unless the slot was SOUNDING (R78, R80). That an alarm program holds no tail time is the model's reading
(assumption log 42), and the start value, duration and step that its gain at rest holds, which R65 to R70 leave open, are the
model's choice (assumption log 8). -/
def Obligations.AlarmsStart : Prop :=
  (∀ (t : Txn) (slot pattern : Byte) (zones : ZoneSet) (s : State), s.listens t = true → s.served = true →
    (t.port ≠ .saf → exec (.alarmStart t slot pattern zones) s = .next (s.replying t 10 0x30#8 .privilege [])) ∧
    (t.port = .saf → (1 < slot.toNat ∨ 15 < pattern.toNat ∨ zones = 0#64) →
      exec (.alarmStart t slot pattern zones) s = .next (s.replying t 10 0x30#8 .param [])) ∧
    (∀ pat : PatId, t.port = .saf → slot.toNat ≤ 1 → pattern.toNat = pat.val → zones ≠ 0#64 → s.patterns[pat].steps = [] →
      exec (.alarmStart t slot pattern zones) s = .next (s.replying t 10 0x30#8 .notFound []))) ∧
  (∀ (t : Txn) (slot pattern : Byte) (zones : ZoneSet) (s : State) (k : Fin 2) (pat : PatId), s.listens t = true →
    t.port = .saf → slot.toNat = k.val → pattern.toNat = pat.val → s.patterns[pat].steps ≠ [] →
    (∃ z : Zone, zones.getLsbD z.val = true ∧ s.zones[z].excluded = false) → s.slots[k].state = .idle →
    s.claimsAgree = true → s.kindsLawful = true → s.classesLawful = true → s.alarmHolds k = true →
    ∃ u, exec (.alarmStart t slot pattern zones) s = .next u ∧ u.slots[k].state = .sounding ∧
      u.slots[k].pattern = some pat ∧ u.tone[k] = Player.start pat s.patterns[pat] ∧ u.alarmActive = true ∧
      (let g := u.progs[progOfSlot k]
       g.owner = .saf ∧ g.kind = .alarm ∧ g.cls = 0 ∧ g.source = some (56 + k.val) ∧ g.gain = Ramp.still 32768 ∧
       g.arrival = s.arrivals ∧ (g.state = .active ∨ g.state = .pending) ∧ g.policy = .takeAvailable ∧
       g.waitLimit = none ∧ g.waitTimer = none ∧ g.joinDeadline = none ∧ g.joinTimer = none ∧ g.chime = none ∧
       g.clipPart = none ∧ g.tail = none ∧ g.routeSlot = none ∧ g.endReason = none ∧
       g.requested = zones &&& ~~~s.excludedSet ∧ g.granted ||| g.waiting = g.requested ∧
       g.granted &&& g.waiting = 0#64 ∧ g.held = 0#64 ∧
       u.answered t 0x30#8 .ok ([1#8] ++ out8 (progStateCode g.state) ++ putZones g.granted ++ putZones g.waiting)) ∧
      (∀ z : Zone, zones.getLsbD z.val = true → s.zones[z].excluded = false →
        u.zones[z].owner = some (progOfSlot k) ∨ (k = 1 ∧ u.zones[z].owner = some 0)) ∧
      (u.port .ann).has .alarm = true ∧ (u.port .icm).has .alarm = true ∧ (u.port .shw).has .alarm = true) ∧
  (∀ (t : Txn) (slot pattern : Byte) (zones : ZoneSet) (s : State) (k : Fin 2) (pat : PatId), s.listens t = true →
    t.port = .saf → slot.toNat = k.val → pattern.toNat = pat.val → s.patterns[pat].steps ≠ [] → zones ≠ 0#64 →
    (∀ z : Zone, zones.getLsbD z.val = true → s.zones[z].excluded = true) → s.slots[k].state = .idle → s.atRest = true →
    s.claimsAgree = true → s.kindsLawful = true → s.alarmHolds k = true →
    ∃ u, exec (.alarmStart t slot pattern zones) s = .next u ∧
      u.answered t 0x30#8 .ok ([0#8, 6#8] ++ putZones 0#64 ++ putZones 0#64) ∧
      u.progs[progOfSlot k].state = .ended ∧ u.progs[progOfSlot k].endReason = some .noZones ∧
      u.progs[progOfSlot k].requested = 0#64 ∧ (∀ q : ProgId, q ≠ progOfSlot k → u.progs[q] = s.progs[q]) ∧
      u.slots = s.slots ∧ u.tone = s.tone ∧ u.zones = s.zones) ∧
  (∀ (t : Txn) (slot pattern : Byte) (zones : ZoneSet) (s : State) (k : Fin 2) (pat : PatId), s.listens t = true →
    t.port = .saf → slot.toNat = k.val → pattern.toNat = pat.val → s.patterns[pat].steps ≠ [] → zones ≠ 0#64 →
    s.slots[k].state ≠ .idle → s.safe = true →
    let p := progOfSlot k
    ∃ u, exec (.alarmStart t slot pattern zones) s = .next u ∧
      u.answered t 0x30#8 .ok ([1#8] ++ out8 (progStateCode u.progs[p].state) ++ putZones u.progs[p].granted ++
        putZones u.progs[p].waiting) ∧
      u.slots[k] = ⟨.sounding, some pat, none⟩ ∧ (∀ j : Fin 2, j ≠ k → u.slots[j] = s.slots[j]) ∧
      u.tone[k] = Player.start pat s.patterns[pat] ∧
      (∀ w id n ch, s.slots[k].window = some w → w.source = .clip id n ch →
        u.chans[ch].state = .free ∧ u.chans[ch].user = none ∧ u.chans[ch].clip = none) ∧
      u.progs[p].requested = s.progs[p].requested ||| (zones &&& ~~~s.excludedSet) ∧
      (∀ z : Zone, zones.getLsbD z.val = true → s.zones[z].excluded = false →
        u.zones[z].owner = some p ∨ (k = 1 ∧ u.zones[z].owner = some 0)) ∧
      (∀ z : Zone, s.progs[p].requested.getLsbD z.val = true → u.zones[z].owner = s.zones[z].owner) ∧
      (s.slots[k].state ≠ .sounding →
        (u.port .ann).has .alarm = true ∧ (u.port .icm).has .alarm = true ∧ (u.port .shw).has .alarm = true) ∧
      (s.slots[k].state = .sounding → ∀ q : Port, (u.port q).has .alarm = (s.port q).has .alarm))

/-- ALARM_SILENCE of a slot with its pattern: STATE in IDLE, no change in SILENCED; SOUNDING becomes SILENCED with its
generator stopped; VOICE keeps its window with return state SILENCED and the generator paused at the start of step 1;
VOICE_MIXED does the same and returns to VOICE. The program keeps every zone, a change of state raises ALARM at the other
three ports, and nothing else changes (R78, R81). ALARM_RESOUND makes a SILENCED slot SOUNDING with its pattern from step 1
and answers STATE in every other state; the zones stay (R82). ALARM_CLEAR of a slot that is not IDLE: the slot is IDLE
without pattern or window, its generator is stopped, and its program has ended CLOSED and owns, holds and waits for nothing
(R83). Where the GENERAL alarm is cleared and the LOCAL alarm's open program lies on top of a zone's stack, it owns that zone
again (R27, R85). ALARM_CLEAR of an IDLE slot answers STATE and changes nothing (R83). Before all this each of the three
answers PRIVILEGE from another port than the safety port, and PARAM for a slot above 1, without effect (R81 to R83). -/
def Obligations.AlarmsAreSilencedResoundedAndCleared : Prop :=
  (∀ (t : Txn) (slot : Byte) (s : State), s.listens t = true → s.served = true →
    let refused := fun st : Status =>
      exec (.alarmSilence t slot) s = .next (s.replying t 1 0x31#8 st []) ∧
      exec (.alarmResound t slot) s = .next (s.replying t 1 0x32#8 st []) ∧
      exec (.alarmClear t slot) s = .next (s.replying t 1 0x33#8 st [])
    (t.port ≠ .saf → refused .privilege) ∧ (t.port = .saf → 1 < slot.toNat → refused .param)) ∧
  (∀ (t : Txn) (slot : Byte) (s : State) (k : Fin 2) (pat : PatId), s.listens t = true → s.served = true →
    t.port = .saf → slot.toNat = k.val → (s.slots[k].state ≠ .idle → s.slots[k].pattern = some pat) →
    let w := s.slots[k].window.map fun w => { w with toSilence := true }
    let parked := Player.parked pat s.patterns[pat]
    exec (.alarmSilence t slot) s = .next
      (match s.slots[k].state with
        | .idle => s.replying t 1 0x31#8 .state []
        | .silenced => s.replying t 1 0x31#8 .ok [4#8]
        | .sounding => State.replying (State.raiseAlarm { s with
            tone := adjust s.tone k fun _ => Player.stopped
            slots := adjust s.slots k fun a => { a with state := .silenced } } true) t 1 0x31#8 .ok [4#8]
        | .voice => State.replying { s with
            tone := adjust s.tone k fun _ => parked
            slots := adjust s.slots k fun a => { a with window := w } } t 1 0x31#8 .ok [2#8]
        | .voiceMixed => State.replying (State.raiseAlarm { s with
            tone := adjust s.tone k fun _ => parked
            slots := adjust s.slots k fun a => { a with state := .voice, window := w } } true) t 1 0x31#8 .ok [2#8])) ∧
  (∀ (t : Txn) (slot : Byte) (s : State) (k : Fin 2) (pat : PatId), s.listens t = true → s.served = true →
    t.port = .saf → slot.toNat = k.val → (s.slots[k].state ≠ .idle → s.slots[k].pattern = some pat) →
    exec (.alarmResound t slot) s = .next
      (if s.slots[k].state = .silenced then
        State.replying (State.raiseAlarm { s with
          tone := adjust s.tone k fun _ => Player.start pat s.patterns[pat]
          slots := adjust s.slots k fun a => { a with state := .sounding } } true) t 1 0x32#8 .ok [1#8]
       else s.replying t 1 0x32#8 .state [])) ∧
  (∀ (t : Txn) (slot : Byte) (s : State) (k : Fin 2), s.listens t = true → t.port = .saf → slot.toNat = k.val →
    s.slots[k].state ≠ .idle → s.claimsAgree = true → s.kindsLawful = true → s.classesLawful = true →
    ∃ u, exec (.alarmClear t slot) s = .next u ∧ u.answered t 0x33#8 .ok [] ∧
      u.slots[k].state = .idle ∧ u.slots[k].pattern = none ∧ u.slots[k].window = none ∧ u.tone[k] = Player.stopped ∧
      u.progs[progOfSlot k].state = .ended ∧ u.progs[progOfSlot k].endReason = some .closed ∧
      u.progs[progOfSlot k].requested = 0#64 ∧
      (∀ z : Zone, u.zones[z].owner ≠ some (progOfSlot k) ∧ progOfSlot k ∉ u.zones[z].stack) ∧
      (∀ z : Zone, k = 0 → s.progs[(1 : ProgId)].isOpen = true → s.zones[z].owner = some 0 →
        s.zones[z].stack.head? = some 1 → u.zones[z].owner = some 1)) ∧
  (∀ (t : Txn) (slot : Byte) (s : State) (k : Fin 2), s.listens t = true → s.served = true → t.port = .saf →
    slot.toNat = k.val → s.slots[k].state = .idle →
    exec (.alarmClear t slot) s = .next (s.replying t 1 0x33#8 .state []))

/-- ALARM_VOICE_OPEN with an input channel on a SOUNDING or SILENCED slot: the slot becomes VOICE with a window that returns
to the state left and whose timer runs for the voice window duration; the generator is paused where it is, or parked at step
1 from SILENCED, and ALARM is raised at the other three ports; so at every window that opens. In another state the answer is
STATE (R78, R87, R88). ALARM_VOICE_OPEN with a READY clip and a pool channel
without user: the lowest such channel is bound to the window and started in FREE mode with the repeat count given, priming
from offset 0, and the answer names it (R88, R134, R136). Where all four pool channels have users, the window takes that of
the program of highest class number, among equals the latest arrival; that program ends CHANNEL_TAKEN, gives up its zones,
and PROGRAM is raised at its owning port (R21, R134). The refusals come in order and without effect: PRIVILEGE from another
port than SAF; PARAM for a slot above 1, for an input channel outside IN0 to IN7, for a repeat count of 0, and for a frame
that names both an input and a clip or neither; STATE outside SOUNDING and SILENCED; NOT_READY for a clip that is not READY
and during the start-up scan (R88, R214). That a clip field of 0xFF names no clip is the model's reading (assumption log 13),
and so is PARAM for a repeat count above 255 (assumption log 14). -/
def Obligations.VoiceWindowsOpen : Prop :=
  (∀ (t : Txn) (slot source clip : Byte) (repeats : BitVec 16) (s : State), s.listens t = true → s.served = true →
    let refused := fun st => exec (.alarmVoiceOpen t slot source clip repeats) s = .next (s.replying t 5 0x34#8 st [])
    let input : Prop := source.toNat ≤ 7 ∧ clip = 0xFF#8
    let voice : Prop := source = 0xFF#8 ∧ clip ≠ 0xFF#8 ∧ 1 ≤ repeats.toNat ∧ repeats.toNat ≤ 255
    (t.port ≠ .saf → refused .privilege) ∧
    (t.port = .saf → 1 < slot.toNat ∨ ¬(input ∨ voice) → refused .param) ∧
    (∀ k : Fin 2, t.port = .saf → slot.toNat = k.val → input ∨ voice →
      s.slots[k].state = .idle ∨ s.slots[k].state = .voice ∨ s.slots[k].state = .voiceMixed → refused .state) ∧
    (∀ (k : Fin 2) (id : ClipId), t.port = .saf → slot.toNat = k.val → voice → clip.toNat = id.val →
      s.slots[k].state = .sounding ∨ s.slots[k].state = .silenced →
      s.clips.scan ≠ none ∨ s.clips.dir[id].state ≠ .ready → refused .notReady)) ∧
  (∀ (t : Txn) (slot source : Byte) (repeats : BitVec 16) (s : State) (k : Fin 2) (ch : Fin 8) (pat : PatId),
    s.listens t = true → s.served = true → t.port = .saf → slot.toNat = k.val → source.toNat = ch.val →
    (s.slots[k].state ≠ .idle → s.slots[k].pattern = some pat) →
    exec (.alarmVoiceOpen t slot source 0xFF#8 repeats) s = .next
      (if s.slots[k].state = .sounding ∨ s.slots[k].state = .silenced then
        State.replying (State.raiseAlarm { s with
          tone := adjust s.tone k fun pl =>
            if s.slots[k].state = .silenced then Player.parked pat s.patterns[pat] else pl.pause
          slots := adjust s.slots k fun a =>
            { a with state := .voice,
                     window := some ⟨.input ch, decide (s.slots[k].state = .silenced), some (48 * s.windowMs)⟩ } } true)
          t 5 0x34#8 .ok [2#8, 0xFF#8]
       else s.replying t 5 0x34#8 .state [])) ∧
  (∀ (t : Txn) (slot clip : Byte) (repeats : BitVec 16) (s : State) (k : Fin 2) (id : ClipId) (ch : ChanId),
    s.listens t = true → t.port = .saf → slot.toNat = k.val → clip.toNat = id.val → id.val ≠ 255 →
    1 ≤ repeats.toNat → repeats.toNat ≤ 255 → (s.slots[k].state = .sounding ∨ s.slots[k].state = .silenced) →
    s.clips.scan = none → s.clips.dir[id].state = .ready → ch.val < 4 → s.chans[ch].user = none →
    (∀ c : ChanId, c < ch → s.chans[c].user ≠ none) →
    ∃ u, exec (.alarmVoiceOpen t slot 0xFF#8 clip repeats) s = .next u ∧
      u.answered t 0x34#8 .ok [2#8, BitVec.ofNat 8 ch.val] ∧ u.slots[k].state = .voice ∧
      (∃ w, u.slots[k].window = some w ∧ w.source = .clip id repeats.toNat ch ∧ w.timer = some (48 * s.windowMs) ∧
        w.toSilence = decide (s.slots[k].state = .silenced)) ∧
      u.chans[ch].state = .priming ∧ u.chans[ch].user = some (.window k) ∧ u.chans[ch].clip = some id ∧
      u.chans[ch].trigger = .free ∧ u.chans[ch].repeats = some repeats.toNat ∧ u.chans[ch].nextFetch = some (0, 1) ∧
      u.chans[ch].ahead = [] ∧ u.progs = s.progs ∧ u.zones = s.zones ∧
      (s.slots[k].state = .sounding → u.tone[k] = s.tone[k].pause) ∧
      (∀ pat : PatId, s.slots[k].state = .silenced → s.slots[k].pattern = some pat →
        u.tone[k] = Player.parked pat s.patterns[pat]) ∧
      (u.port .ann).has .alarm = true ∧ (u.port .icm).has .alarm = true ∧ (u.port .shw).has .alarm = true ∧
      (u.port .saf).has .alarm = (s.port .saf).has .alarm ∧
      (∀ j : Fin 2, j ≠ k → u.slots[j] = s.slots[j] ∧ u.tone[j] = s.tone[j])) ∧
  (∀ (t : Txn) (slot clip : Byte) (repeats : BitVec 16) (s : State) (k : Fin 2) (id : ClipId) (ch : ChanId) (q : ProgId),
    s.listens t = true → t.port = .saf → slot.toNat = k.val → clip.toNat = id.val → id.val ≠ 255 →
    1 ≤ repeats.toNat → repeats.toNat ≤ 255 → (s.slots[k].state = .sounding ∨ s.slots[k].state = .silenced) →
    s.safe = true → s.clips.scan = none → s.clips.dir[id].state = .ready →
    (∀ c : ChanId, c.val < 4 → s.chans[c].user ≠ none) → ch.val < 4 → s.chans[ch].user = some (.prog q) →
    (∀ (c : ChanId) (r : ProgId), c.val < 4 → s.chans[c].user = some (.prog r) → r ≠ q →
      s.progs[r].cls < s.progs[q].cls ∨
        (s.progs[r].cls = s.progs[q].cls ∧ s.openOrder.idxOf r < s.openOrder.idxOf q)) →
    ∃ u, exec (.alarmVoiceOpen t slot 0xFF#8 clip repeats) s = .next u ∧
      u.answered t 0x34#8 .ok [2#8, BitVec.ofNat 8 ch.val] ∧ u.slots[k].state = .voice ∧
      (∃ w, u.slots[k].window = some w ∧ w.source = .clip id repeats.toNat ch ∧ w.timer = some (48 * s.windowMs) ∧
        w.toSilence = decide (s.slots[k].state = .silenced)) ∧
      u.chans[ch].state = .priming ∧ u.chans[ch].user = some (.window k) ∧ u.chans[ch].clip = some id ∧
      u.chans[ch].trigger = .free ∧ u.chans[ch].repeats = some repeats.toNat ∧ u.chans[ch].nextFetch = some (0, 1) ∧
      u.chans[ch].ahead = [] ∧
      u.progs[q].state = .ended ∧ u.progs[q].endReason = some .channelTaken ∧ u.progs[q].requested = 0#64 ∧
      (∀ z : Zone, u.zones[z].owner ≠ some q ∧ q ∉ u.zones[z].stack) ∧
      (u.port s.progs[q].owner).has .program = true ∧ (u.port s.progs[q].owner).changed.getLsbD q.val = true ∧
      (s.slots[k].state = .sounding → u.tone[k] = s.tone[k].pause) ∧
      (∀ pat : PatId, s.slots[k].state = .silenced → s.slots[k].pattern = some pat →
        u.tone[k] = Player.parked pat s.patterns[pat]) ∧
      (u.port .ann).has .alarm = true ∧ (u.port .icm).has .alarm = true ∧ (u.port .shw).has .alarm = true)

/-- ALARM_VOICE_CLOSE removes the window, releases a bound clip channel, and gives the slot the window's return state:
SOUNDING with the generator running on from its position, or SILENCED with it stopped, with ALARM at the other three ports
(R78); outside VOICE and VOICE_MIXED the
answer is STATE, for a slot above 1 PARAM, and from another port than the safety port, before both, PRIVILEGE, each without
effect (R90). VOICE_WINDOW_EXPIRY makes a VOICE slot VOICE_MIXED, its generator running on from its paused position
beneath the voice, the timer expired; ALARM is raised at all four ports and nothing else changes (R78, R89). -/
def Obligations.VoiceWindowsCloseAndExpire : Prop :=
  (∀ (t : Txn) (slot : Byte) (s : State), s.listens t = true → s.served = true →
    (t.port ≠ .saf → exec (.alarmVoiceClose t slot) s = .next (s.replying t 1 0x35#8 .privilege [])) ∧
    (t.port = .saf → 1 < slot.toNat → exec (.alarmVoiceClose t slot) s = .next (s.replying t 1 0x35#8 .param []))) ∧
  (∀ (t : Txn) (slot : Byte) (s : State) (k : Fin 2), s.listens t = true → s.served = true → t.port = .saf →
    slot.toNat = k.val → s.slots[k].windowLawful = true →
    ((s.slots[k].state = .idle ∨ s.slots[k].state = .sounding ∨ s.slots[k].state = .silenced) →
      exec (.alarmVoiceClose t slot) s = .next (s.replying t 1 0x35#8 .state [])) ∧
    (∀ w, s.slots[k].window = some w →
      ∃ u, exec (.alarmVoiceClose t slot) s = .next u ∧
        u.answered t 0x35#8 .ok [if w.toSilence then 4#8 else 1#8] ∧
        u.slots[k] = { s.slots[k] with state := if w.toSilence then .silenced else .sounding, window := none } ∧
        u.tone[k] = (if w.toSilence then Player.stopped else s.tone[k].continue) ∧
        (∀ id n ch, w.source = .clip id n ch →
          u.chans[ch].state = .free ∧ u.chans[ch].user = none ∧ u.chans[ch].clip = none ∧ u.chans[ch].ahead = []) ∧
        u.progs = s.progs ∧ u.zones = s.zones ∧
        (u.port .ann).has .alarm = true ∧ (u.port .icm).has .alarm = true ∧ (u.port .shw).has .alarm = true ∧
        (u.port .saf).has .alarm = (s.port .saf).has .alarm)) ∧
  (∀ (s : State) (k : Fin 2) (w : VoiceWindow), s.served = true → s.slots[k].state = .voice →
    s.slots[k].window = some w → w.timer = some 0 →
    exec (.voiceWindowExpiry k) s = .next (State.raiseAlarm { s with
      tone := adjust s.tone k Player.continue
      slots := adjust s.slots k fun a => { a with state := .voiceMixed, window := some { w with timer := none } } } false))

/-- LOAD_PATTERN of a pattern that is not in use, from the port whose range holds it, replaces the whole pattern by the
clamped steps and the end action. The refusals come in order and without effect: PARAM for a pattern id above 15, from every
port; PRIVILEGE for a pattern outside the port's range; PARAM for malformed steps or end action; BUSY for one in use. In use
is a pattern of a slot that is not IDLE, or one that a chime voice bound to a program plays or holds paused (R94). -/
def Obligations.LoadPatternReplacesThePattern : Prop :=
  ∀ (t : Txn) (pattern endAction loopTarget : Byte) (steps : List RawStep) (s : State), s.listens t = true →
    s.served = true →
    let n := 4 + 14 * steps.length
    (15 < pattern.toNat →
      exec (.loadPattern t pattern endAction loopTarget steps) s = .next (s.replying t n 0x38#8 .param [])) ∧
    ∀ pat : PatId, pattern.toNat = pat.val →
    let mine : Prop := (t.port = .saf ∧ 4 ≤ pat.val ∧ pat.val ≤ 11) ∨ (t.port = .ann ∧ 12 ≤ pat.val)
    let formed : Prop := 1 ≤ steps.length ∧ steps.length ≤ 8 ∧
      (endAction = 1#8 ∨ (endAction = 0#8 ∧ 1 ≤ loopTarget.toNat ∧ loopTarget.toNat ≤ steps.length)) ∧
      ∀ x ∈ steps, x.waveform.toNat ≤ 2 ∧ 10 ≤ x.onTime.toNat ∧ x.onTime.toNat ≤ 10000 ∧ x.offTime.toNat ≤ 10000 ∧
        1 ≤ x.repeats.toNat ∧ x.repeats.toNat ≤ 16
    (s.patternInUse pat = true ↔
      (∃ k : Fin 2, s.slots[k].state ≠ .idle ∧ s.slots[k].pattern = some pat) ∨
      ∃ v : Fin 4, s.voices[v].bound ≠ none ∧ s.voices[v].player.pattern = pat) ∧
    (¬mine → exec (.loadPattern t pattern endAction loopTarget steps) s = .next (s.replying t n 0x38#8 .privilege [])) ∧
    (mine → ¬formed →
      exec (.loadPattern t pattern endAction loopTarget steps) s = .next (s.replying t n 0x38#8 .param [])) ∧
    (mine → formed → s.patternInUse pat = true →
      exec (.loadPattern t pattern endAction loopTarget steps) s = .next (s.replying t n 0x38#8 .busy [])) ∧
    (mine → formed → s.patternInUse pat = false →
      ∃ x : Pattern, exec (.loadPattern t pattern endAction loopTarget steps) s =
          .next (State.replying { s with patterns := adjust s.patterns pat fun _ => x } t n 0x38#8 .ok []) ∧
        x.loop = (if endAction = 1#8 then none else some loopTarget.toNat) ∧
        x.steps = steps.map fun r =>
          { waveform := if r.waveform = 0#8 then .square else if r.waveform = 1#8 then .triangle else .twoTone
            freqA := max 100 (min 6000 r.freqA.toNat)
            freqB := if r.waveform = 2#8 then max 100 (min 6000 r.freqB.toNat) else 0
            level := min 32768 r.level.toNat, onTime := r.onTime.toNat, offTime := r.offTime.toNat
            repeats := r.repeats.toNat })

/-- Patterns 0 to 3 keep their built-in contents: an invariant of every step (R93). -/
def Obligations.BuiltInPatternsNeverChange : Prop :=
  ∀ s u : State, (∀ k : PatId, k.val < 4 → s.patterns[k] = builtInPattern k) → step s = .next u →
    ∀ k : PatId, k.val < 4 → u.patterns[k] = builtInPattern k

/-- PLAYER_PHASE_END of a running player whose frames have run out moves it on: from an ON phase with an off time to its OFF
phase, else to the next repetition, else to the next step, each from the start of its wave, else to the loop step; no other
player, slot, program or zone changes. END, and LOOP in a chime voice, stop the player, and its user takes the effect in the
same step: it is one with TONE_GENERATOR_END of a tone generator and CHIME_END of a chime voice (R97, R100, R101, R107; the
two names of one event are assumption log 32's). TWO_TONE_SWITCH changes the tone of a TWO_TONE step after 12,000 frames,
starts the count again and leaves the accumulator as it is; nothing else changes (R98). The wave values of R98, and the
increments the manual lists for the built-in patterns' frequencies. -/
def Obligations.PlayersMoveOn : Prop :=
  (∀ (s : State) (id : PlayerId), s.served = true →
    let pl := s.player id
    let pat := s.patternOf pl
    let st := pat.stepAt pl.step
    pl.cond = .running → pl.left = 0 →
    let begun := fun k rep =>
      { pl with step := k, rep := rep, on := true, left := 48 * (pat.stepAt k).onTime, acc := 0#24, toneB := false,
                switchLeft := if (pat.stepAt k).waveform = .twoTone then 12000 else 0 }
    ∃ u, exec (.playerPhaseEnd id) s = .next u ∧
      (if pl.on = true ∧ 0 < st.offTime then u.player id = { pl with on := false, left := 48 * st.offTime }
       else if pl.rep < st.repeats then u.player id = begun pl.step (pl.rep + 1)
       else if pl.step < pat.steps.length then u.player id = begun (pl.step + 1) 1
       else match pat.loop, id with
        | some k, .tg _ => u.player id = begun k 1
        | some k, .rc => u.player id = begun k 1
        | _, .tg k => exec (.toneGeneratorEnd k) s = .next u ∧ (u.player id).cond ≠ .running
        | _, .cv v => exec (.chimeEnd v) s = .next u ∧ (u.player id).cond = .stopped
        | _, .rc => (u.player id).cond = .stopped) ∧
      (∀ q : PlayerId, q ≠ id → u.player q = s.player q) ∧ u.zones = s.zones ∧
      ((pl.on = true ∧ 0 < st.offTime) ∨ pl.rep < st.repeats ∨ pl.step < pat.steps.length ∨
          (pat.loop ≠ none ∧ ∀ v, id ≠ .cv v) ∨ id = .rc →
        u.slots = s.slots ∧ u.progs = s.progs)) ∧
  (∀ (s : State) (id : PlayerId), s.served = true →
    let pl := s.player id
    pl.cond = .running → pl.on = true → pl.switchLeft = 0 →
    ((s.patternOf pl).stepAt pl.step).waveform = .twoTone →
    ∃ u, exec (.twoToneSwitch id) s = .next u ∧
      u.player id = { pl with toneB := !pl.toneB, switchLeft := 12000 } ∧
      (∀ q : PlayerId, q ≠ id → u.player q = s.player q) ∧ u.slots = s.slots ∧ u.progs = s.progs ∧ u.zones = s.zones) ∧
  ((∀ p : Fin 16777216,
    (waveValue .square p.val = if p.val < 8388608 then 8388607 else -8388607) ∧
    (waveValue .twoTone p.val = waveValue .square p.val) ∧
    (p.val < 4194304 → waveValue .triangle p.val = min 8388607 (2 * (p.val : Int))) ∧
    (4194304 ≤ p.val → p.val ≤ 12582911 →
      waveValue .triangle p.val = max (-8388607) (min 8388607 (16777216 - 2 * (p.val : Int)))) ∧
    (12582912 ≤ p.val → waveValue .triangle p.val = max (-8388607) (2 * (p.val : Int) - 33554432))) ∧
  increment 480 = 167772#24 ∧ increment 600 = 209715#24 ∧ increment 650 = 227191#24 ∧ increment 800 = 279620#24 ∧
  increment 900 = 314573#24 ∧ increment 1000 = 349525#24)

/-- TONE_GENERATOR_END has the effect of ALARM_SILENCE in the slot's state: SOUNDING becomes SILENCED with its generator
stopped, VOICE_MIXED returns to VOICE with its generator parked and return state SILENCED; ALARM is raised at all four ports
and the program keeps its zones (R100). CHIME_END releases the voice and its PREAMBLE program enters ACTIVE, with PROGRAM
raised at its owning port; the channel of a CLIP program that has not been started begins to prime in that step (R102, R107,
R111). Both are taken in the step of the phase end that reaches END, under either name (assumption log 32). -/
def Obligations.PlayersReportTheirEnds : Prop :=
  ∀ s : State,
    let reaches := fun id : PlayerId =>
      let pl := s.player id
      let pat := s.patternOf pl
      let st := pat.stepAt pl.step
      pl.cond = .running ∧ pl.left = 0 ∧ ¬(pl.on = true ∧ 0 < st.offTime) ∧ st.repeats ≤ pl.rep ∧
        pat.steps.length ≤ pl.step ∧ (pat.loop = none ∨ ∃ v, id = .cv v)
    (∀ (k : Fin 2) (pat : PatId), s.tone[k].endReport = true ∨ reaches (.tg k) → s.slots[k].pattern = some pat →
      (s.slots[k].state = .sounding ∨ s.slots[k].state = .voiceMixed) →
      ∃ u, exec (.toneGeneratorEnd k) s = .next u ∧ (reaches (.tg k) → exec (.playerPhaseEnd (.tg k)) s = .next u) ∧
        (∀ p : Port, (u.port p).has .alarm = true) ∧ u.progs = s.progs ∧ u.zones = s.zones ∧
        (s.slots[k].state = .sounding → u.slots[k] = { s.slots[k] with state := .silenced } ∧ u.tone[k] = Player.stopped) ∧
        (s.slots[k].state = .voiceMixed → u.slots[k].state = .voice ∧
          u.slots[k].window = s.slots[k].window.map (fun w => { w with toSilence := true }) ∧
          u.tone[k] = Player.parked pat s.patterns[pat])) ∧
    (∀ (v : Fin 4) (p : ProgId), s.voices[v].player.endReport = true ∨ reaches (.cv v) → s.voices[v].bound = some p →
      s.progs[p].state = .preamble →
      ∃ u, exec (.chimeEnd v) s = .next u ∧ (reaches (.cv v) → exec (.playerPhaseEnd (.cv v)) s = .next u) ∧
        u.voices[v] = ⟨Player.stopped, none⟩ ∧
        (s.progs[p].clipPart = none → u.progs[p] = { s.progs[p] with state := .active } ∧ u.chans = s.chans) ∧
        (∀ part ch, s.progs[p].clipPart = some part → part.channel = some ch → s.progs[p].clipStarted = false →
          u.progs[p] = { s.progs[p] with state := .active, clipStarted := true } ∧
          u.chans[ch].state = .priming ∧ u.chans[ch].user = s.chans[ch].user ∧ u.chans[ch].clip = s.chans[ch].clip ∧
          u.chans[ch].repeats = part.repeats ∧ u.chans[ch].trigger = part.trigger ∧
          u.chans[ch].nextFetch = some (0, 1) ∧ u.chans[ch].ahead = [] ∧
          (∀ c : ChanId, c ≠ ch → u.chans[c] = s.chans[c])) ∧
        (∀ q : ProgId, q ≠ p → u.progs[q] = s.progs[q]) ∧
        u.zones = s.zones ∧ (u.port s.progs[p].owner).has .program = true ∧
        (u.port s.progs[p].owner).changed.getLsbD p.val = true)

/-! ### The clip store and the clip channels (chapter 6) -/

/-- New blocks are given out by first fit: the block chosen is the lowest-numbered data block from which `n` blocks within the
store lie outside every allocated range, and none is chosen exactly when there is no such block (R122). LOAD_BEGIN for an
EMPTY or DAMAGED entry, with no load in progress, no alarm, no scan, and room: the entry is LOADING in the blocks first fit
gives, its own old blocks counting as free, and the load context starts with both buffers empty, buffer A filling for the
first block. Every other entry and channel stays, the image block of the entry's record becomes dirty, or its directory step
begins at once on a free link (R123, R132), and the answer carries the first block (R124). The destination the empty
buffer B has is the model's choice, for the rule gives none (assumption log 40). The refusals come in order and without
effect: PRIVILEGE from another port than ANN, ALARM_ACTIVE, NOT_READY in the start-up scan, PARAM for a length, a loop start
or marks outside what R124 allows, BUSY while a load is in progress and for an entry that is LOADING, READY or ERASING, and
FULL when first fit finds no room (R124). -/
def Obligations.LoadsBeginByFirstFit : Prop :=
  (∀ (t : Txn) (clip : Byte) (length loop check : BitVec 16) (marks : List (BitVec 16)) (s : State), s.listens t = true →
    s.served = true →
    let refused := fun st =>
      exec (.loadBegin t clip length loop check marks) s = .next (s.replying t (8 + 2 * marks.length) 0x40#8 st [])
    let n := length.toNat
    let formed : Prop := 1 ≤ n ∧ n ≤ 16384 ∧ (loop = 0xFFFF#16 ∨ loop.toNat < n) ∧ marks.length ≤ 8 ∧
      (marks.map (·.toNat)).Pairwise (· < ·) ∧ ∀ m ∈ marks, m.toNat < n
    (t.port ≠ .ann → refused .privilege) ∧
    (t.port = .ann → s.alarmActive = true → refused .alarmActive) ∧
    (t.port = .ann → s.alarmActive = false → s.clips.scan ≠ none → refused .notReady) ∧
    (t.port = .ann → s.alarmActive = false → s.clips.scan = none →
      (¬formed → refused .param) ∧
      (∀ id : ClipId, formed → clip.toNat = id.val →
        let e := s.clips.dir[id]
        (s.clips.load ≠ none ∨ e.state = .loading ∨ e.state = .ready ∨ e.state = .erasing → refused .busy) ∧
        (s.clips.load = none → e.state = .empty ∨ e.state = .damaged → firstFit (s.clips.ranges (some id)) n = none →
          refused .full)))) ∧
  (∀ (ranges : List (Nat × Nat)) (n : Nat),
    let free := fun b : Nat => 2 ≤ b ∧ b + n ≤ 16384 ∧ ∀ r ∈ ranges, r.2 < b ∨ b + n ≤ r.1
    (∀ b, firstFit ranges n = some b ↔ (free b ∧ ∀ c, c < b → ¬free c)) ∧
    (firstFit ranges n = none ↔ ∀ b, ¬free b)) ∧
  (∀ (t : Txn) (clip : Byte) (length loop check : BitVec 16) (marks : List (BitVec 16)) (s : State) (id : ClipId)
    (first : Nat), s.listens t = true → t.port = .ann → s.alarmActive = false → s.clips.scan = none → clip.toNat = id.val →
    1 ≤ length.toNat → length.toNat ≤ 16384 → (loop = 0xFFFF#16 ∨ loop.toNat < length.toNat) → marks.length ≤ 8 →
    (marks.map (·.toNat)).Pairwise (· < ·) → (∀ m ∈ marks, m.toNat < length.toNat) → s.clips.load = none →
    (s.clips.dir[id].state = .empty ∨ s.clips.dir[id].state = .damaged) →
    firstFit (s.clips.ranges (some id)) length.toNat = some first →
    ∃ u, exec (.loadBegin t clip length loop check marks) s = .next u ∧ u.answered t 0x40#8 .ok (out16 first) ∧
      u.clips.dir[id] = { state := .loading, first := some first, last := some (length.toNat - 1)
                          loop := if loop = 0xFFFF#16 then none else some loop.toNat
                          marks := marks.map (·.toNat), check := some check.toNat, erasePos := none } ∧
      (∀ j : ClipId, j ≠ id → u.clips.dir[j] = s.clips.dir[j]) ∧
      u.clips.load = some { clip := id, total := length.toNat * 4096, next := 0, crc := 0xFFFF#16, failed := false
                            ending := false, filling := .a, bufA := ⟨[], first⟩, bufB := ⟨[], first⟩ } ∧
      u.chans = s.chans ∧ u.progs = s.progs ∧ u.zones = s.zones ∧ s.soiledBy u id)

/-- LOAD_DATA takes its bytes only at the next expected offset, into the filling buffer and, past its end, into an empty other
buffer, which is then the filling one for the next block; the running check and the offset advance. Refused in the order of
R125 it takes no byte. Every answer carries the next expected offset (R125); with no load in progress there is none, and that
the field then carries all ones is the model's reading (assumption log 19). -/
def Obligations.LoadDataTakesBytesInOrder : Prop :=
  ∀ (t : Txn) (offset : BitVec 32) (data : List Byte) (s : State), s.listens t = true → s.served = true →
    let refused := fun st next =>
      exec (.loadData t offset data) s = .next (s.replying t (5 + data.length) 0x41#8 st (outOpt32 next))
    (t.port ≠ .ann → refused .privilege (s.clips.load.map (·.next))) ∧
    (t.port = .ann → s.clips.load = none → refused .state none) ∧
    (∀ l : Load, t.port = .ann → s.clips.load = some l →
      (l.ending = true → refused .state (some l.next)) ∧
      (l.ending = false →
        ((data.length = 0 ∨ 240 < data.length ∨ offset.toNat ≠ l.next ∨ l.total < l.next + data.length) →
          refused .param (some l.next)) ∧
        (1 ≤ data.length → data.length ≤ 240 → offset.toNat = l.next → l.next + data.length ≤ l.total →
          let here := (l.buf l.filling).data
          let there := (l.buf l.filling.other).data
          (4096 < here.length + data.length → there ≠ [] →
            refused .busy (some l.next)) ∧
          (here.length + data.length ≤ 4096 →
            ∃ u l', exec (.loadData t offset data) s = .next u ∧ u.clips.load = some l' ∧
              u.answered t 0x41#8 .ok (out32 (l.next + data.length)) ∧ l'.next = l.next + data.length ∧
              l'.crc = crc16From l.crc data ∧ l'.filling = l.filling ∧ (l'.buf l.filling).data = here ++ data ∧
              (l'.buf l.filling.other).data = there ∧ u.clips.dir = s.clips.dir ∧ u.chans = s.chans) ∧
          (4096 < here.length + data.length → here.length ≤ 4096 → there = [] →
            ∃ u l', exec (.loadData t offset data) s = .next u ∧ u.clips.load = some l' ∧
              u.answered t 0x41#8 .ok (out32 (l.next + data.length)) ∧ l'.next = l.next + data.length ∧
              l'.crc = crc16From l.crc data ∧ l'.filling = l.filling.other ∧
              (l'.buf l.filling).data = here ++ data.take (4096 - here.length) ∧
              l'.buf l.filling.other = ⟨data.drop (4096 - here.length), (l.buf l.filling).dest + 1⟩ ∧
              u.clips.dir = s.clips.dir ∧ u.chans = s.chans))))

/-- LOAD_END is ACCEPTED when every byte has come: with both buffers empty the load completes in the same step, READY when the
running check is the entry's and no step failed and DAMAGED otherwise, with a CLIP notice; otherwise the ending mark is set
and the entry stays LOADING. LOAD_ABANDON leaves the entry DAMAGED with its blocks and no load. Without a load both answer
STATE (R127, R128). ERASE_CLIP of a READY or DAMAGED entry to which no channel is bound is ACCEPTED: the entry is ERASING from
offset 0 and last on the erase list; an EMPTY entry answers STATE, and one LOADING, ERASING or bound BUSY (R129). Each of the
three, where it changes its entry, makes the image block of its record dirty, or the directory step of that block begins at
once on a free link (R123, R127 to R129, R132). The other
refusals, without effect: all three answer PRIVILEGE from another port than ANN; LOAD_END answers STATE once its ending mark
is set, and PARAM while bytes are missing; ERASE_CLIP answers ALARM_ACTIVE, and NOT_READY in the start-up scan (R127 to
R129). -/
def Obligations.LoadsEndAndClipsAreErased : Prop :=
  (∀ (t : Txn) (clip : Byte) (s : State), s.listens t = true → s.served = true →
    (t.port ≠ .ann →
      exec (.loadEnd t) s = .next (s.replying t 0 0x42#8 .privilege []) ∧
      exec (.loadAbandon t) s = .next (s.replying t 0 0x43#8 .privilege []) ∧
      exec (.eraseClip t clip) s = .next (s.replying t 1 0x44#8 .privilege [])) ∧
    (∀ l : Load, t.port = .ann → s.clips.load = some l →
      (l.ending = true → exec (.loadEnd t) s = .next (s.replying t 0 0x42#8 .state [])) ∧
      (l.ending = false → l.next ≠ l.total → exec (.loadEnd t) s = .next (s.replying t 0 0x42#8 .param []))) ∧
    (t.port = .ann → s.alarmActive = true → exec (.eraseClip t clip) s = .next (s.replying t 1 0x44#8 .alarmActive [])) ∧
    (t.port = .ann → s.alarmActive = false → s.clips.scan ≠ none →
      exec (.eraseClip t clip) s = .next (s.replying t 1 0x44#8 .notReady []))) ∧
  (∀ (t : Txn) (s : State), s.listens t = true → t.port = .ann →
    (s.clips.load = none → s.served = true →
      exec (.loadEnd t) s = .next (s.replying t 0 0x42#8 .state []) ∧
      exec (.loadAbandon t) s = .next (s.replying t 0 0x43#8 .state [])) ∧
    ∀ l : Load, s.clips.load = some l →
      (l.ending = false → l.next = l.total →
        ∃ u, exec (.loadEnd t) s = .next u ∧ u.answered t 0x42#8 .accepted [] ∧
          (∀ j : ClipId, j ≠ l.clip → u.clips.dir[j] = s.clips.dir[j]) ∧ u.chans = s.chans ∧
          (l.bufA.data = [] ∧ l.bufB.data = [] →
            u.clips.load = none ∧ (u.port .ann).has .clip = true ∧
            u.clips.dir[l.clip] = { s.clips.dir[l.clip] with
              state := if s.clips.dir[l.clip].check = some l.crc.toNat ∧ l.failed = false then .ready else .damaged } ∧
            s.soiledBy u l.clip) ∧
          (l.bufA.data ≠ [] ∨ l.bufB.data ≠ [] →
            u.clips.load = some { l with ending := true } ∧ u.clips.dir[l.clip] = s.clips.dir[l.clip])) ∧
      (∃ u, exec (.loadAbandon t) s = .next u ∧ u.answered t 0x43#8 .ok [] ∧ u.clips.load = none ∧
        u.clips.dir[l.clip] = { s.clips.dir[l.clip] with state := .damaged } ∧
        (∀ j : ClipId, j ≠ l.clip → u.clips.dir[j] = s.clips.dir[j]) ∧ u.chans = s.chans ∧ s.soiledBy u l.clip)) ∧
  (∀ (t : Txn) (clip : Byte) (s : State) (id : ClipId), s.listens t = true → t.port = .ann → s.alarmActive = false →
    s.clips.scan = none → clip.toNat = id.val →
    let e := s.clips.dir[id]
    let bound := ∃ c : ChanId, s.chans[c].clip = some id
    (e.state = .empty → s.served = true → exec (.eraseClip t clip) s = .next (s.replying t 1 0x44#8 .state [])) ∧
    ((e.state = .loading ∨ e.state = .erasing ∨ (e.state ≠ .empty ∧ bound)) → s.served = true →
      exec (.eraseClip t clip) s = .next (s.replying t 1 0x44#8 .busy [])) ∧
    ((e.state = .ready ∨ e.state = .damaged) → ¬bound →
      ∃ u, exec (.eraseClip t clip) s = .next u ∧ u.answered t 0x44#8 .accepted [] ∧
        u.clips.dir[id] = { e with state := .erasing, erasePos := some 0 } ∧
        u.clips.eraseList = s.clips.eraseList ++ [id] ∧
        (∀ j : ClipId, j ≠ id → u.clips.dir[j] = s.clips.dir[j]) ∧ u.chans = s.chans ∧ u.clips.load = s.clips.load ∧
        s.soiledBy u id))

/-- BLOCK_DONE of a channel that is not STEPPED, with blocks of the pass to come: the counter falls by 1, and the block ahead
begins in the next frame; with none ahead the next block is late, the underrun count rises by 1 up to 65,535, and from 0 to 1
CLIP is raised at the announcement port. No other channel changes (R137). TERMINAL_COUNT uses up one repeat: with repeats left
a new pass begins at the loop start; when the last is used up the channel is FREE and a CLIP program bound to it has ended
COMPLETE with its channel released, FREE without user and clip; a continuous clip whose pass start is its last block is
replayed in HOLD mode (R113, R135, R138, R139). A STEPPED channel pauses with cause MARK before a block at a step mark: the
next of the pass, the first of a new pass, and a held one (R141); that the cursor stands at the held block meanwhile, which
READ_CHANNEL sends, is the model's choice (assumption log 44). A clip that ends in a voice window closes it, the slot taking
its return state, with ALARM at all four ports (R91); one that ends on a show channel leaves it FREE without clip, with CUE at
the show port (R185). A PLAYING channel presents sample k of the block it plays: its bytes 2k and 2k + 1, less significant
byte first, as a two's complement number times 256; it presents 0 while it waits for a block, and in every other state (R120,
R137). That the next block leaves the blocks ahead at the BLOCK_DONE or TERMINAL_COUNT before it is the model's reading
(assumption log 26). -/
def Obligations.BlocksAndPassesEnd : Prop :=
  (∀ (s : State) (ch : ChanId) (b : RingBlock) (k : Nat), s.chans[ch].state = .playing →
    s.chans[ch].cursor = .playing b k → 2048 ≤ k → 0 < s.chans[ch].remaining → s.chans[ch].trigger ≠ .stepped →
    ∃ u, exec (.blockDone ch) s = .next u ∧
      (∀ next rest, s.chans[ch].ahead = next :: rest → u.chans[ch] = { s.chans[ch] with
        remaining := s.chans[ch].remaining - 1, cursor := .playing next 0, ahead := rest, pause := none }) ∧
      (s.chans[ch].ahead = [] → u.chans[ch] = { s.chans[ch] with
        remaining := s.chans[ch].remaining - 1, cursor := .toBegin (b.offset + 1), pause := none
        underrun := min 65535 (s.chans[ch].underrun + 1) } ∧
        (s.chans[ch].underrun = 0 → (u.port .ann).has .clip = true)) ∧
      (∀ c : ChanId, c ≠ ch → u.chans[c] = s.chans[c]) ∧ u.progs = s.progs ∧ u.zones = s.zones) ∧
  (∀ (s : State) (ch : ChanId) (b : RingBlock) (k : Nat) (id : ClipId), s.chans[ch].state = .playing →
    s.chans[ch].cursor = .playing b k → 2048 ≤ k → s.chans[ch].remaining = 0 → s.chans[ch].trigger ≠ .stepped →
    s.chans[ch].clip = some id →
    let last := s.clips.dir[id].last.getD 0
    let start := s.clips.dir[id].loop.getD 0
    ∃ u, exec (.terminalCount ch) s = .next u ∧
      (∀ n next rest, s.chans[ch].repeats = some n → 1 < n → s.chans[ch].ahead = next :: rest →
        u.chans[ch] = { s.chans[ch] with
          repeats := some (n - 1), remaining := last - start, cursor := .playing next 0, ahead := rest, pause := none }) ∧
      (s.chans[ch].repeats = none → start = last →
        u.chans[ch] = { s.chans[ch] with hold := true, cursor := .playing b 0 }) ∧
      (∀ p part, s.chans[ch].repeats = some 1 → s.chans[ch].user = some (.prog p) → 2 ≤ p.val → s.progs[p].isOpen = true →
        s.progs[p].clipPart = some part → part.channel = some ch →
        u.progs[p].state = .ended ∧ u.progs[p].endReason = some .complete ∧ (∀ z : Zone, u.zones[z].owner ≠ some p) ∧
        (u.port s.progs[p].owner).has .program = true ∧
        (s.usersLawful = true → u.chans[ch].state = .free ∧ u.chans[ch].user = none ∧ u.chans[ch].clip = none ∧
          u.chans[ch].ahead = []))) ∧
  (∀ (s : State) (ch : ChanId) (b : RingBlock) (k : Nat) (id : ClipId), s.chans[ch].state = .playing →
    s.chans[ch].cursor = .playing b k → 2048 ≤ k → s.chans[ch].clip = some id →
    let c := s.chans[ch]
    let last := s.clips.dir[id].last.getD 0
    let start := s.clips.dir[id].loop.getD 0
    let mark := fun o : Nat => c.trigger = .stepped ∧ o ∈ s.clips.dir[id].marks
    let others := fun u : State => (∀ d : ChanId, d ≠ ch → u.chans[d] = s.chans[d]) ∧ u.progs = s.progs ∧ u.zones = s.zones
    let goesOn := fun (u : State) (o : Nat) (c1 : Channel) => others u ∧
      (mark o → u.chans[ch] = { c1 with state := .paused, pause := some .mark, cursor := .toBegin o }) ∧
      (¬mark o → ∀ next rest, c.ahead = next :: rest →
        u.chans[ch] = { c1 with cursor := .playing next 0, ahead := rest, pause := none }) ∧
      (¬mark o → c.ahead = [] →
        u.chans[ch] = { c1 with cursor := .toBegin o, pause := none, underrun := min 65535 (c.underrun + 1) } ∧
        (c.underrun = 0 → (u.port .ann).has .clip = true ∧ (4 ≤ ch.val → (u.port .shw).has .clip = true)))
    (0 < c.remaining →
      ∃ u, exec (.blockDone ch) s = .next u ∧ goesOn u (b.offset + 1) { c with remaining := c.remaining - 1 }) ∧
    (c.remaining = 0 →
      ∃ u, exec (.terminalCount ch) s = .next u ∧
        (∀ left : Option Nat,
          (c.repeats = none ∧ start ≠ last ∧ left = none ∨ ∃ n, c.repeats = some n ∧ 1 < n ∧ left = some (n - 1)) →
          goesOn u start { c with repeats := left, remaining := last - start }) ∧
        (c.repeats = none → start = last → others u ∧
          (mark b.offset → u.chans[ch] = { c with
            hold := true, state := .paused, pause := some .mark, cursor := .playing b 0 }) ∧
          (¬mark b.offset → u.chans[ch] = { c with hold := true, cursor := .playing b 0 })) ∧
        (∀ (j : Fin 2) (w : VoiceWindow) (clip : ClipId) (n : Nat), c.repeats = some 1 → c.user = some (.window j) →
          s.slots[j].window = some w → w.source = .clip clip n ch →
          others u ∧ u.chans[ch].state = .free ∧ u.chans[ch].user = none ∧ u.chans[ch].clip = none ∧
          u.slots[j] = { s.slots[j] with state := if w.toSilence then .silenced else .sounding, window := none } ∧
          u.tone[j] = (if w.toSilence then Player.stopped else s.tone[j].continue) ∧
          ∀ q : Port, (u.port q).has .alarm = true) ∧
        (c.repeats = some 1 → c.user = some .cue →
          others u ∧ u.chans[ch].state = .free ∧ u.chans[ch].user = some .cue ∧ u.chans[ch].clip = none ∧ u.cue = s.cue ∧
          (u.port .shw).has .cue = true))) ∧
  (∀ c : Channel,
    (c.state ≠ .playing → c.sample = 0) ∧ ((∀ b k, c.cursor ≠ .playing b k) → c.sample = 0) ∧
    (∀ b k, c.state = .playing → c.cursor = .playing b k →
      let v : Int := (b.data.getD (2 * k) 0#8).toNat + 256 * (b.data.getD (2 * k + 1) 0#8).toNat
      (2048 ≤ k → c.sample = 0) ∧ (k < 2048 → v < 32768 → c.sample = v * 256) ∧
      (k < 2048 → 32768 ≤ v → c.sample = (v - 65536) * 256)))

/-- FETCH_COMPLETION of the fetch on the link: its block joins the blocks ahead and the next fetch goes on in playing order;
a failure, and a block of a stopped channel, changes no channel (R132, R136). A PRIMING channel's priming ends when two
blocks are ahead or every block still to be played is: a pool channel, and a show channel that has had its go, begins its
first block in the next frame, or waits at it when it is a step mark (R136, R141); another show channel is START-paused and
reports to the cue engine (R142), and with the last report of the start set the go is given to every channel of it in that
step, not LATE, and the execution ends (R178, R179). STORE_OPERATION_TIMEOUT: an operation whose 500 ms have run out is
counted as completed with failure, whatever it is (R120). A report of the store for another operation than that on the link
is disregarded (R120); that the part knows it by a number is the model's choice (assumption log 6). -/
def Obligations.FetchesReportsAndTimeouts : Prop :=
  (∀ (s : State) (no left : Nat) (ch : ChanId) (offset pass block : Nat) (id : ClipId) (data : List Byte),
    s.resetLeft = none → s.chans[ch].clip = some id →
    let last := s.clips.dir[id].last.getD 0
    let start := s.clips.dir[id].loop.getD 0
    (s.clips.link = some ⟨no, left, .fetch ch offset pass block false⟩ →
      (∃ u, exec (.fetchCompletion no none) s = .next u ∧ u.chans = s.chans ∧ u.progs = s.progs) ∧
      (s.chans[ch].state = .playing →
        ∃ u, exec (.fetchCompletion no (some data)) s = .next u ∧
          u.chans[ch] = { s.chans[ch] with
            ahead := s.chans[ch].ahead ++ [⟨offset, data⟩]
            nextFetch :=
              if offset < last then some (offset + 1, pass)
              else match s.chans[ch].passes with
                | none => if start = last then none else some (start, pass + 1)
                | some n => if pass < n then some (start, pass + 1) else none } ∧
          (∀ c : ChanId, c ≠ ch → u.chans[c] = s.chans[c]) ∧ u.progs = s.progs ∧ u.zones = s.zones)) ∧
    (s.clips.link = some ⟨no, left, .fetch ch offset pass block true⟩ →
      ∃ u, exec (.fetchCompletion no (some data)) s = .next u ∧ u.chans = s.chans ∧ u.progs = s.progs)) ∧
  (∀ (s : State) (no left : Nat) (ch : ChanId) (offset pass block : Nat) (id : ClipId) (data : List Byte),
    s.resetLeft = none → s.chans[ch].clip = some id → s.chans[ch].state = .priming →
    s.clips.link = some ⟨no, left, .fetch ch offset pass block false⟩ →
    let last := s.clips.dir[id].last.getD 0
    let start := s.clips.dir[id].loop.getD 0
    let following := if offset < last then some (offset + 1, pass)
      else match s.chans[ch].passes with
        | none => if start = last then none else some (start, pass + 1)
        | some n => if pass < n then some (start, pass + 1) else none
    let c := { s.chans[ch] with ahead := s.chans[ch].ahead ++ [⟨offset, data⟩], nextFetch := following }
    let begun := fun r : Channel =>
      if r.trigger = .stepped ∧ ∃ i, r.clip = some i ∧ 0 ∈ s.clips.dir[i].marks then
        { r with state := .paused, pause := some .mark, cursor := .toBegin 0, goMark := false }
      else { r with state := .playing, pause := none, cursor := .toBegin 0, goMark := false }
    ∃ u, exec (.fetchCompletion no (some data)) s = .next u ∧
      (c.ahead.length < 2 ∧ following ≠ none → u.chans[ch] = c ∧ u.cue = s.cue) ∧
      (2 ≤ c.ahead.length ∨ following = none →
        (ch.val < 4 ∨ c.goMark = true → u.chans[ch] = begun c ∧ u.cue = s.cue) ∧
        (∀ k : Fin 4, ch = showChan k → c.goMark = false →
          (s.cue.state ≠ .priming ∨ (∃ m ∈ s.cue.startSet, m.1 ≠ k ∧ m.2 = false) →
            u.chans[ch] = { c with state := .paused, pause := some .start } ∧
            u.cue = { s.cue with startSet := s.cue.startSet.map fun m => if m.1 = k then (m.1, true) else m }) ∧
          (∀ q : Cue, s.cue.state = .priming → s.cue.startSet ≠ [] → (∀ m ∈ s.cue.startSet, m.1 = k ∨ m.2 = true) →
            s.cue.executing = some q.number → s.cue.find q.number = some q → q.follow ≠ some 0 → s.cue.holdPending = false →
            let next := nextCue s.cue.cues q.number
            (∀ m ∈ s.cue.startSet, m.1 = k → u.chans[ch] = begun c) ∧
            (∀ m ∈ s.cue.startSet, m.1 ≠ k → s.chans[showChan m.1].state = .paused →
              s.chans[showChan m.1].pause = some .start → u.chans[showChan m.1] = begun s.chans[showChan m.1]) ∧
            u.cue.startSet = [] ∧ u.cue.bound = none ∧ (s.cue.bound ≠ none → u.cue.boundExpired = false) ∧
            u.cue.executing = none ∧ u.cue.standby = next ∧
            u.cue.last = some ⟨q.number, false, s.cue.faults.length, s.cue.faults.head?⟩ ∧
            (q.follow = none ∨ next = none → u.cue.state = if next.isSome then .standby else .finished) ∧
            (∀ d, q.follow = some d → next ≠ none → u.cue.state = .following ∧ u.cue.countdown = some ⟨48 * d, false⟩) ∧
            (u.port .shw).has .cue = true))) ∧
      (s.cue.holdPending = false → (∀ q ∈ s.cue.cues, q.follow ≠ some 0) → u.progs = s.progs ∧ u.zones = s.zones ∧
        ∀ d : ChanId, d ≠ ch → (∀ m ∈ s.cue.startSet, d ≠ showChan m.1) → u.chans[d] = s.chans[d])) ∧
  (∀ (s : State) (no : Nat) (op : StoreOp), s.resetLeft = none → s.clips.link = some ⟨no, 0, op⟩ →
    ∃ u, exec .storeOperationTimeout s = .next u ∧
      (match op with
        | .scanRead _ => exec (.scanReadCompletion no none) s
        | .fetch _ _ _ _ _ => exec (.fetchCompletion no none) s
        | .directory _ _ => exec (.directoryStepCompletion no false) s
        | .programBlock _ _ _ _ => exec (.programmingStepCompletion no false) s
        | .erase _ _ => exec (.eraseStepCompletion no false) s) = .next u) ∧
  (∀ (s : State) (no : Nat) (data : Option (List Byte)) (ok : Bool), s.served = true →
    (∀ l, s.clips.link = some l → l.no ≠ no) →
    exec (.scanReadCompletion no data) s = .next s ∧ exec (.fetchCompletion no data) s = .next s ∧
    exec (.directoryStepCompletion no ok) s = .next s ∧ exec (.programmingStepCompletion no ok) s = .next s ∧
    exec (.eraseStepCompletion no ok) s = .next s)

/-- DIRECTORY_STEP_COMPLETION, PROGRAMMING_STEP_COMPLETION and ERASE_STEP_COMPLETION of the operation on the link: a failed
directory step waits or runs again; a programmed buffer is empty, and becomes the filling buffer if the other is full, a
failure marking the load (R126); that it is then destined for the block after the last one that has bytes is the model's
reading, for the rule says only the next block (assumption log 34); the last programming step of an ended load completes it:
the entry is READY when the running check agrees and no step failed, DAMAGED otherwise, the load context is gone, the image
block becomes dirty and CLIP is raised at the announcement port (R127); an erase step advances the erase position, and after
the last block the entry is EMPTY, off the erase list, with a CLIP notice (R123, R126, R130). SCAN_READ_COMPLETION: a failed
attempt is retried; after the fourth on one image block its 128 entries are EMPTY and its dirty flag is set, the scan goes on
to block 1, and after block 1 it is over with a CLIP notice and its outcome; a read whose check agrees gives every entry of
the block its record's state, and after block 1 the scan is over with a CLIP notice too; a read whose check does not agree is
a failed attempt (R144). Record by record, in a directory whose unread entries are EMPTY: one found EMPTY, and
one rejected for its state, its blocks, its marks, its loop start or its overlap with a lower id, leaves its entry EMPTY;
another gives the entry its fields, LOADING taken as DAMAGED and ERASING from position 0 and last on the erase list; a
rejected record and a LOADING one make the image block dirty (R123, R144). The numbers by which operations and their reports
agree are the model's (assumption log 6). -/
def Obligations.StoreAndScanStepsComplete : Prop :=
  (∀ (s : State) (no left : Nat) (ok : Bool), s.resetLeft = none →
    (∀ img bytes, s.clips.link = some ⟨no, left, .directory img bytes⟩ →
      ∃ u, exec (.directoryStepCompletion no ok) s = .next u ∧ u.clips.dir = s.clips.dir ∧ u.chans = s.chans ∧
        (ok = false → u.clips.dirty[img] = true ∨ ∃ l b, u.clips.link = some l ∧ l.op = .directory img b)) ∧
    (∀ buf block bytes (l : Load), s.clips.link = some ⟨no, left, .programBlock buf block bytes false⟩ →
      s.clips.load = some l → (l.ending = false ∨ (l.buf buf.other).data ≠ []) →
      ∃ u l', exec (.programmingStepCompletion no ok) s = .next u ∧ u.clips.load = some l' ∧
        (l'.buf buf).data = [] ∧ l'.buf buf.other = l.buf buf.other ∧ l'.failed = (l.failed || !ok) ∧
        l'.filling = (if 4096 ≤ (l.buf buf.other).data.length then buf else l.filling) ∧ l'.next = l.next ∧
        u.clips.dir = s.clips.dir ∧ u.chans = s.chans ∧
        (l'.buf buf).dest = (if (l.buf buf.other).data = [] then (l.buf buf).dest else (l.buf buf.other).dest) + 1) ∧
    (∀ buf block bytes (l : Load), s.clips.link = some ⟨no, left, .programBlock buf block bytes false⟩ →
      s.clips.load = some l → l.ending = true → (l.buf buf.other).data = [] →
      let img : Fin 2 := if l.clip.val < 128 then 0 else 1
      ∃ u, exec (.programmingStepCompletion no ok) s = .next u ∧ u.clips.load = none ∧
        u.clips.dir[l.clip] = { s.clips.dir[l.clip] with
          state := if s.clips.dir[l.clip].check = some l.crc.toNat ∧ l.failed = false ∧ ok = true then .ready
            else .damaged } ∧
        (∀ j : ClipId, j ≠ l.clip → u.clips.dir[j] = s.clips.dir[j]) ∧
        (u.clips.dirty[img] = true ∨ ∃ x b, u.clips.link = some x ∧ x.op = .directory img b) ∧
        (u.port .ann).has .clip = true ∧ u.chans = s.chans) ∧
    (∀ id block, s.clips.link = some ⟨no, left, .erase id block⟩ →
      let e := s.clips.dir[id]
      ∃ u, exec (.eraseStepCompletion no ok) s = .next u ∧ u.chans = s.chans ∧ u.clips.load = s.clips.load ∧
        (∀ j : ClipId, j ≠ id → u.clips.dir[j] = s.clips.dir[j]) ∧
        (ok = true → e.erasePos.getD 0 < e.last.getD 0 →
          u.clips.dir[id] = { e with erasePos := some (e.erasePos.getD 0 + 1) } ∧ u.clips.eraseList = s.clips.eraseList) ∧
        (ok = true → e.last.getD 0 ≤ e.erasePos.getD 0 →
          u.clips.dir[id] = DirEntry.empty ∧ u.clips.eraseList = s.clips.eraseList.erase id ∧
          (u.port .ann).has .clip = true) ∧
        (ok = false → s.clips.eraseFailed = false → u.clips.dir[id] = e ∧ u.clips.eraseList = s.clips.eraseList) ∧
        (ok = false → s.clips.eraseFailed = true →
          u.clips.dir[id] = { e with state := .damaged, erasePos := none } ∧
          u.clips.eraseList = s.clips.eraseList.erase id ∧ (u.port .ann).has .clip = true))) ∧
  (∀ (s : State) (no left : Nat) (img : Fin 2) (sc : Scan), s.resetLeft = none → s.clips.scan = some sc → sc.img = img →
    s.clips.link = some ⟨no, left, .scanRead img⟩ →
    (sc.failures < 3 → ∃ u, exec (.scanReadCompletion no none) s = .next u ∧
      u.clips.scan = some { sc with failures := sc.failures + 1 } ∧ u.clips.dir = s.clips.dir ∧
      u.clips.link = some ⟨s.clips.opNo, 24000, .scanRead img⟩) ∧
    (3 ≤ sc.failures → ∃ u, exec (.scanReadCompletion no none) s = .next u ∧
      (∀ id : ClipId, u.clips.dir[id] = if id.val / 128 = img.val then DirEntry.empty else s.clips.dir[id]) ∧
      (img = 0 → u.clips.scan = some ⟨1, 0, true⟩ ∧ u.clips.dirty[(0 : Fin 2)] = true) ∧
      (img = 1 → u.clips.scan = none ∧ u.clips.scanOutcome = some .doneWithLoss ∧ (u.port .ann).has .clip = true)) ∧
    (∀ data, (crc16From 0xFFFF#16 (data.take 3328)).toNat ≠ imageWord data 3328 →
      exec (.scanReadCompletion no (some data)) s = exec (.scanReadCompletion no none) s) ∧
    (∀ data, (crc16From 0xFFFF#16 (data.take 3328)).toNat = imageWord data 3328 →
      ∃ u, exec (.scanReadCompletion no (some data)) s = .next u ∧
        (img = 0 → u.clips.scan = some ⟨1, 0, sc.lost⟩) ∧
        (img = 1 → u.clips.scan = none ∧ u.clips.scanOutcome = some (if sc.lost then .doneWithLoss else .done) ∧
          (u.port .ann).has .clip = true) ∧
        (∀ id : ClipId, id.val / 128 ≠ img.val → u.clips.dir[id] = s.clips.dir[id]) ∧
        (s.clips.entriesLawful = true →
          let soiled := u.clips.dirty[img] = true ∨ ∃ l b, u.clips.link = some l ∧ l.op = .directory img b
          (∀ id : ClipId, id.val / 128 = img.val →
            let i := 26 * (id.val % 128)
            let st := (byteAt data i).toNat
            let first := imageWord data (i + 1)
            let last := imageWord data (i + 3)
            let loop := imageWord data (i + 5)
            let count := (byteAt data (i + 7)).toNat
            let marks := (List.range count).map fun k => imageWord data (i + 8 + 2 * k)
            let taken := 1 ≤ st ∧ st ≤ 4 ∧ 2 ≤ first ∧ first + last ≤ 16383 ∧ (loop = 0xFFFF ∨ loop ≤ last) ∧ count ≤ 8 ∧
              marks.Pairwise (· < ·) ∧ (∀ m ∈ marks, m ≤ last) ∧
              ∀ (j : ClipId) (f l : Nat), j < id → u.clips.dir[j].state ≠ .empty → u.clips.dir[j].first = some f →
                u.clips.dir[j].last = some l → f + l < first ∨ first + last < f
            (st = 0 ∨ ¬taken → u.clips.dir[id] = DirEntry.empty) ∧ (st ≠ 0 → ¬taken → soiled) ∧
            (taken → u.clips.dir[id] =
              { state := if st = 2 then .ready else if st = 3 then .erasing else .damaged
                first := some first, last := some last, loop := if loop = 0xFFFF then none else some loop, marks := marks
                check := some (imageWord data (i + 24)), erasePos := if st = 3 then some 0 else none }) ∧
            (taken → st = 1 → soiled)) ∧
          u.clips.eraseList = s.clips.eraseList ++ (List.finRange 256).filter fun id =>
            id.val / 128 = img.val ∧ u.clips.dir[id].state = .erasing)))

/-- The arbiter never leaves the link free while an operation waits outside a reset interval, and of those that wait it
starts a scan read first, then the lowest-numbered channel's fetch, then a directory step, image block 0 first, then the
programming step, of two full buffers the one destined for the lower block, then the erase step of the clip at the head of
the erase list (R126, R130, R132): the first is an invariant of every step. The number an operation is given is the model's
(assumption log 6). -/
def Obligations.TheLinkIsNeverIdleWhileWorkWaits : Prop :=
  (∀ s u : State, s.served = true → step s = .next u → u.served = true) ∧
  (∀ s : State, s.resetLeft = none → s.clips.link = none → s.served = false →
    ∃ op, (s.arbitrate).clips.link = some ⟨s.clips.opNo, 24000, op⟩ ∧
      (∀ sc, s.clips.scan = some sc → op = .scanRead sc.img) ∧
      (s.clips.scan = none → ∀ ch : ChanId, (s.fetchWanted ch).isSome = true →
        (∀ c : ChanId, c < ch → s.fetchWanted c = none) → ∃ o p b, op = .fetch ch o p b false) ∧
      (s.clips.scan = none → (∀ c : ChanId, s.fetchWanted c = none) →
        (s.clips.dirty[(0 : Fin 2)] = true → ∃ b, op = .directory 0 b) ∧
        (s.clips.dirty[(0 : Fin 2)] = false → s.clips.dirty[(1 : Fin 2)] = true → ∃ b, op = .directory 1 b)) ∧
      (s.clips.scan = none → (∀ c : ChanId, s.fetchWanted c = none) → s.clips.dirty[(0 : Fin 2)] = false →
        s.clips.dirty[(1 : Fin 2)] = false →
        let full := fun (l : Load) (x : BufId) => 4096 ≤ (l.buf x).data.length
        (∀ (l : Load) (x : BufId), s.clips.load = some l → full l x →
          (¬full l x.other ∨ (l.buf x).dest < (l.buf x.other).dest) →
          op = .programBlock x (l.buf x).dest (l.buf x).data false) ∧
        ((∀ (l : Load) (x : BufId), s.clips.load = some l → ¬full l x) →
          ∃ id rest, s.clips.eraseList = id :: rest ∧
            op = .erase id (s.clips.dir[id].first.getD 0 + s.clips.dir[id].erasePos.getD 0))))

/-! ### The crew intercom (chapter 7) -/

/-- SET_STATION: PRIVILEGE from another port than the intercom's, PARAM for a station, home zone or service outside its
values, BUSY for disabling a station in use; otherwise the home zone, gains and service that are given take their values,
those that are absent stay, and nothing else changes (R148). -/
def Obligations.SetStationTakesWhatIsGiven : Prop :=
  ∀ (t : Txn) (station home : Byte) (receive feed : BitVec 16) (service : Byte) (s : State), s.listens t = true →
    s.served = true →
    let run := exec (.setStation t station home receive feed service) s
    (t.port ≠ .icm → run = .next (s.replying t 7 0x50#8 .privilege [])) ∧
    (t.port = .icm →
      (31 < station.toNat ∨ (63 < home.toNat ∧ home.toNat < 0xFE) ∨ (1 < service.toNat ∧ service ≠ 0xFF#8) →
        run = .next (s.replying t 7 0x50#8 .param [])) ∧
      ∀ (a : StationId) (h : Option Zone), station.toNat = a.val →
        ((home = 0xFF#8 ∧ h = s.stations[a].home) ∨ (home = 0xFE#8 ∧ h = none) ∨ ∃ z : Zone, home.toNat = z.val ∧ h = some z) →
        (service.toNat ≤ 1 ∨ service = 0xFF#8) →
        let r := s.stations[a]
        (service = 1#8 ∧ r.state ≠ .idle ∧ r.state ≠ .disabled → run = .next (s.replying t 7 0x50#8 .busy [])) ∧
        (¬(service = 1#8 ∧ r.state ≠ .idle ∧ r.state ≠ .disabled) →
          let u := s.onStation a fun r => { r with
            home := h
            receive := if receive = 0xFFFF#16 then r.receive else min receive.toNat 32768
            feed := if feed = 0xFFFF#16 then r.feed else min feed.toNat 32768
            state := if service = 1#8 then .disabled else if service = 0#8 ∧ r.state = .disabled then .idle else r.state }
          run = .next (u.replying t 7 0x50#8 .ok (stationResults u a))))

/-- CALL_PLACE refuses without effect, in order: PRIVILEGE from another port than ICM; PARAM for a station above 31, a list
of callees that is empty, longer than 3 or names a station twice or the originator, a priority outside the three, a ring time
outside 5,000 to 120,000; ALARM_ACTIVE for an ORDINARY call under an alarm; BUSY when the originator is not IDLE; FULL without
a FREE or ENDED record (R152). Accepted, it takes the lowest-numbered FREE record, or without one the ENDED record that ended
earliest. Callees that are IDLE ring in the order of the list, with their ring time in frames; the others, where none is to be
barged, are left out, DISABLED or else BUSY, and stay as they are. With a callee rung the call is RINGING, its originator
CALLING, and RC rings when it was silent; with none it ends DEPLETED in the command and the originator is IDLE again (R103,
R149 to R153). An EMERGENCY call to a station in a call of lower priority barges it: from CALLING, IN_CALL or ON_HOLD it is
SUSPENDED there, from RINGING it is removed there without a suspended call, and it rings here; the old call is settled, and
ends DEPLETED where it was RINGING and lost its last ringing party, and CALL is raised (R150, R153, R168). -/
def Obligations.APlacedCallRings : Prop :=
  (∀ (t : Txn) (originator priority : Byte) (ringTime : BitVec 24) (callees : List Byte) (s : State), s.listens t = true →
    s.served = true →
    let refused := fun st =>
      exec (.callPlace t originator priority ringTime callees) s = .next (s.replying t (6 + callees.length) 0x51#8 st [])
    let formed : Prop := originator.toNat ≤ 31 ∧ priority.toNat ≤ 2 ∧
      (ringTime = 0xFFFFFF#24 ∨ (5000 ≤ ringTime.toNat ∧ ringTime.toNat ≤ 120000)) ∧ 1 ≤ callees.length ∧ callees.length ≤ 3 ∧
      (originator :: callees).Nodup ∧ ∀ c ∈ callees, c.toNat ≤ 31
    (t.port ≠ .icm → refused .privilege) ∧
    (t.port = .icm →
      (¬formed → refused .param) ∧
      (formed → priority = 0#8 → s.alarmActive = true → refused .alarmActive) ∧
      (∀ a : StationId, formed → originator.toNat = a.val → priority ≠ 0#8 ∨ s.alarmActive = false →
        (s.stations[a].state ≠ .idle → refused .busy) ∧
        (s.stations[a].state = .idle → (∀ x : CallId, s.calls[x].state ≠ .free) → s.callEnds = [] → refused .full)))) ∧
  ∀ (t : Txn) (originator priority : Byte) (ringTime : BitVec 24) (callees : List Byte) (s : State) (q : CallRequest)
    (x : CallId), s.listens t = true → t.port = .icm → s.intercomLawful = true →
    originator.toNat = q.originator.val → priority.toNat = priorityCode q.priority →
    callees.map BitVec.toNat = q.callees.map Fin.val →
    (ringTime = 0xFFFFFF#24 ∧ q.ringTime = 30000 ∨ ringTime.toNat = q.ringTime ∧ 5000 ≤ q.ringTime ∧ q.ringTime ≤ 120000) →
    1 ≤ q.callees.length → q.callees.length ≤ 3 → (q.originator :: q.callees).Nodup →
    (s.alarmActive = true → q.priority ≠ .ordinary) → s.stations[q.originator].state = .idle →
    ((s.calls[x].state = .free ∧ ∀ y : CallId, y < x → s.calls[y].state ≠ .free) ∨
      ((∀ y : CallId, s.calls[y].state ≠ .free) ∧ s.callEnds.head? = some x ∧ s.calls[x].state = .ended)) →
    (let rung := q.callees.filter fun a => s.stations[a].state = .idle
     let out := (q.callees.filter fun a => s.stations[a].state ≠ .idle).map fun a =>
       (a, if s.stations[a].state = .disabled then LeftReason.disabled else .busy)
     (∀ a ∈ q.callees, s.stations[a].state = .idle ∨ s.stations[a].state = .disabled ∨ s.stations[a].state = .talkout ∨
       q.priority ≠ .emergency ∨ ∃ y, s.stations[a].current = some y ∧ s.calls[y].priority = .emergency) →
      ∃ u, exec (.callPlace t originator priority ringTime callees) s = .next u ∧
        u.answered t 0x51#8 .ok (out8 x.val ++ [if rung = [] then 3#8 else 1#8] ++ out8 q.callees.length ++
          q.callees.flatMap fun a => out8 a.val ++ [match s.stations[a].state with
            | .idle => 0#8 | .disabled => 2#8 | .talkout | .ringing | .calling | .inCall | .onHold => 1#8]) ∧
        u.calls[x] = ⟨if rung = [] then .ended else .ringing, q.priority, q.ringTime,
          ⟨q.originator, .calling, none⟩ :: rung.map (fun a => ⟨a, .ringing, some (48 * q.ringTime)⟩), out,
          if rung = [] then some .depleted else none⟩ ∧
        u.callEnds = s.callEnds.erase x ++ (if rung = [] then [x] else []) ∧
        (∀ y : CallId, y ≠ x → u.calls[y] = s.calls[y]) ∧
        (∀ a : StationId, u.stations[a] =
          if a = q.originator ∧ rung ≠ [] then { s.stations[a] with state := .calling, current := some x }
          else if a ∈ rung then { s.stations[a] with state := .ringing, current := some x } else s.stations[a]) ∧
        u.ring = (if s.ringingStations = 0 ∧ rung ≠ [] then Player.start 3 s.patterns[(3 : PatId)] else s.ring) ∧
        u.progs = s.progs ∧ u.zones = s.zones) ∧
    (∀ (a : StationId) (y : CallId), q.callees = [a] → q.priority = .emergency →
      s.stations[a].current = some y → s.calls[y].priority ≠ .emergency →
      ∃ u, exec (.callPlace t originator priority ringTime callees) s = .next u ∧
        u.calls[x].parties = [⟨q.originator, .calling, none⟩, ⟨a, .ringing, some (48 * q.ringTime)⟩] ∧
        (u.port .icm).has .call = true ∧
        (s.stations[a].state = .inCall ∨ s.stations[a].state = .onHold ∨ s.stations[a].state = .calling →
          u.calls[y] = { s.calls[y] with
            parties := s.calls[y].parties.map fun p =>
              if p.station = a then { p with state := .suspended, timer := none } else p } ∧
          u.stations[a] = { s.stations[a] with state := .ringing, current := some x, suspended := some y }) ∧
        (s.stations[a].state = .ringing →
          let c := s.calls[y]
          let rest := c.parties.filter fun p => p.station ≠ a
          let lost : Prop := c.state = .ringing ∧ ∀ p ∈ rest, p.state ≠ .ringing
          u.stations[a] = { s.stations[a] with state := .ringing, current := some x, suspended := none } ∧
          (¬lost → u.calls[y] = { c with parties := rest }) ∧
          (lost → u.calls[y] = { c with state := .ended, endCause := some .depleted, parties := rest } ∧
            (∀ b : StationId, b ≠ a → s.stations[b].current = some y →
              u.stations[b] = { s.stations[b] with state := .idle, current := none }) ∧
            (∀ b : StationId, b ≠ a → s.stations[b].suspended = some y → u.stations[b].suspended = none))))

/-- CALL_ANSWER connects a RINGING call, its caller with it, or joins the station to a CONNECTED one; CALL_HOLD and
CALL_RETRIEVE move a party between ACTIVE and ON_HOLD and change nothing else; CALL_ADD rings one more IDLE station in a
CONNECTED call; a station in no fit state is answered STATE (R103, R154, R156, R157). From another port than the intercom's
each of the four answers PRIVILEGE, and then PARAM for a station above 31 or a call id above 15, without effect. CALL_ADD goes
on with NOT_FOUND for a FREE record, STATE for a RINGING or ENDED call, FULL with 4 parties, and BUSY for a station that is a
party of the call, or that is DISABLED, in TALKOUT, in an EMERGENCY call, or in any call where this one is not of EMERGENCY
priority; to an EMERGENCY call it adds a station of another call by a barge: SUSPENDED in that call, or out of it where it
rang there, with a CALL notice (R150, R153, R156). The numbers 3 and 4 that the answers
give for IN_CALL and ON_HOLD are the model's, in the order of the record of R146, which lists the states twice (assumption
log 16). -/
def Obligations.CallsAreAnsweredHeldAndJoined : Prop :=
  (∀ (t : Txn) (call station : Byte) (s : State), s.listens t = true → s.served = true →
    let refused := fun st : Status =>
      exec (.callAnswer t station) s = .next (s.replying t 1 0x52#8 st []) ∧
      exec (.callHold t station) s = .next (s.replying t 1 0x54#8 st []) ∧
      exec (.callRetrieve t station) s = .next (s.replying t 1 0x55#8 st [])
    let notAdded := fun st : Status => exec (.callAdd t call station) s = .next (s.replying t 2 0x53#8 st [])
    (t.port ≠ .icm → refused .privilege ∧ notAdded .privilege) ∧
    (t.port = .icm → 31 < station.toNat → refused .param) ∧
    (t.port = .icm → 15 < call.toNat ∨ 31 < station.toNat → notAdded .param) ∧
    (∀ (x : CallId) (a : StationId), t.port = .icm → call.toNat = x.val → station.toNat = a.val →
      let c := s.calls[x]
      let r := s.stations[a]
      (c.state = .free → notAdded .notFound) ∧
      (c.state = .ringing ∨ c.state = .ended → notAdded .state) ∧
      (c.state = .connected → 4 ≤ c.parties.length → notAdded .full) ∧
      (c.state = .connected → c.parties.length < 4 → s.intercomLawful = true →
        (a ∈ c.stations ∨ r.state = .disabled ∨ r.state = .talkout ∨
          ∃ y, r.current = some y ∧ (s.calls[y].priority = .emergency ∨ c.priority ≠ .emergency)) → notAdded .busy))) ∧
  (∀ (t : Txn) (call station : Byte) (s : State) (x y : CallId) (a : StationId), s.listens t = true → t.port = .icm →
    s.intercomLawful = true → call.toNat = x.val → station.toNat = a.val → s.calls[x].state = .connected →
    s.calls[x].parties.length < 4 → s.calls[x].priority = .emergency → s.stations[a].current = some y →
    s.calls[y].priority ≠ .emergency →
    let joined : Call := { s.calls[x] with
      parties := s.calls[x].parties ++ [⟨a, .ringing, some (48 * s.calls[x].ringTime)⟩] }
    let c := s.calls[y]
    ∃ u, exec (.callAdd t call station) s = .next u ∧ u.answered t 0x53#8 .ok (partyResults joined) ∧ u.calls[x] = joined ∧
      (u.port .icm).has .call = true ∧
      (s.stations[a].state ≠ .ringing →
        u.calls[y] = { c with
          parties := c.parties.map fun p => if p.station = a then { p with state := .suspended, timer := none } else p } ∧
        u.stations[a] = { s.stations[a] with state := .ringing, current := some x, suspended := some y }) ∧
      (s.stations[a].state = .ringing →
        let rest := c.parties.filter fun p => p.station ≠ a
        let lost : Prop := c.state = .ringing ∧ ∀ p ∈ rest, p.state ≠ .ringing
        u.stations[a] = { s.stations[a] with state := .ringing, current := some x, suspended := none } ∧
        (¬lost → u.calls[y] = { c with parties := rest }) ∧
        (lost → u.calls[y] = { c with state := .ended, endCause := some .depleted, parties := rest }))) ∧
  ∀ (t : Txn) (station : Byte) (s : State) (a : StationId), s.listens t = true → t.port = .icm → s.intercomLawful = true →
    station.toNat = a.val →
    (∀ x : CallId, s.stations[a].state = .ringing → s.stations[a].current = some x →
      let c := s.calls[x]
      ∃ u, exec (.callAnswer t station) s = .next u ∧ u.answered t 0x52#8 .ok (out8 x.val ++ [2#8]) ∧
        u.calls[x] = { c with
          state := .connected
          parties := c.parties.map fun p =>
            if p.station = a then { p with state := .active, timer := none }
            else if c.state = .ringing ∧ p.state = .calling then { p with state := .active } else p } ∧
        (∀ y : CallId, y ≠ x → u.calls[y] = s.calls[y]) ∧
        (∀ b : StationId, u.stations[b] =
          if b = a ∨ (c.state = .ringing ∧ s.stations[b].state = .calling ∧ s.stations[b].current = some x) then
            { s.stations[b] with state := .inCall }
          else s.stations[b]) ∧
        u.ring = if u.ringingStations = 0 then Player.stopped else s.ring) ∧
    (s.served = true →
      (s.stations[a].state ≠ .ringing → exec (.callAnswer t station) s = .next (s.replying t 1 0x52#8 .state [])) ∧
      (s.stations[a].state ≠ .inCall → exec (.callHold t station) s = .next (s.replying t 1 0x54#8 .state [])) ∧
      (s.stations[a].state ≠ .onHold → exec (.callRetrieve t station) s = .next (s.replying t 1 0x55#8 .state [])) ∧
      (∀ x : CallId, s.stations[a].current = some x →
        let held := fun (p : PartyState) (st : StationState) =>
          (s.onCall x fun c => { c with
            parties := c.parties.map fun q => if q.station = a then { q with state := p, timer := none } else q }).onStation a
              fun r => { r with state := st }
        (s.stations[a].state = .inCall →
          exec (.callHold t station) s = .next ((held .onHold .onHold).replying t 1 0x54#8 .ok [4#8])) ∧
        (s.stations[a].state = .onHold →
          exec (.callRetrieve t station) s = .next ((held .active .inCall).replying t 1 0x55#8 .ok [3#8])))) ∧
    (∀ (call : Byte) (x : CallId), call.toNat = x.val → s.calls[x].state = .connected → s.calls[x].parties.length < 4 →
      s.stations[a].state = .idle → a ∉ s.calls[x].stations →
      let joined : Call := { s.calls[x] with
        parties := s.calls[x].parties ++ [⟨a, .ringing, some (48 * s.calls[x].ringTime)⟩] }
      ∃ u, exec (.callAdd t call station) s = .next u ∧ u.answered t 0x53#8 .ok (partyResults joined) ∧ u.calls[x] = joined ∧
        (∀ y : CallId, y ≠ x → u.calls[y] = s.calls[y]) ∧
        (∀ b : StationId, u.stations[b] =
          if b = a then { s.stations[b] with state := .ringing, current := some x } else s.stations[b]))

/-- CALL_LEAVE takes its station, and a due RING_TIMER_EXPIRY its ringing station, out of a call, which is settled; the expiry
raises CALL and, where it is not due, nothing happens; a station in no call is answered STATE (R150, R155, R158). CALL_END
ends a live call CLEARED: its parties' stations are IDLE and no station is suspended in it; after an EMERGENCY call a barged
station is recalled into its CONNECTED old call and talks there again (R159 to R161). A barged station that leaves its
EMERGENCY call by itself, or whose ring timer runs out there, is recalled as well: it talks again in a CONNECTED old call and
calls in a RINGING one, whose state stays (R155, R158, R161). The EMERGENCY call it leaves is settled: it goes on, returns to
RINGING, or ends DEPLETED, each party then IDLE or recalled to its own old call (R150, R160). From another port than the
intercom's both commands answer PRIVILEGE; then PARAM answers a station above 31 and a call id above 15; CALL_END of a FREE
record answers NOT_FOUND and of an ENDED call STATE; all without effect (R158, R159). The model's: an expiry that is not due
changes nothing (assumption log 4), and the parties of an ended call keep the frames their ring timers had left (assumption
log 35). -/
def Obligations.CallsAreLeftAndEnded : Prop :=
  (∀ (t : Txn) (station call : Byte) (s : State), s.listens t = true → s.served = true →
    let notLeft := fun st : Status => exec (.callLeave t station) s = .next (s.replying t 1 0x56#8 st [])
    let notEnded := fun st : Status => exec (.callEnd t call) s = .next (s.replying t 1 0x57#8 st [])
    (t.port ≠ .icm → notLeft .privilege ∧ notEnded .privilege) ∧
    (t.port = .icm → 31 < station.toNat → notLeft .param) ∧
    (t.port = .icm → 15 < call.toNat → notEnded .param) ∧
    (∀ x : CallId, t.port = .icm → call.toNat = x.val →
      (s.calls[x].state = .free → notEnded .notFound) ∧ (s.calls[x].state = .ended → notEnded .state))) ∧
  (∀ (s : State) (a : StationId), s.intercomLawful = true →
    (∀ (t : Txn) (station : Byte), s.listens t = true → t.port = .icm → station.toNat = a.val →
      (s.served = true → s.stations[a].current = none →
        exec (.callLeave t station) s = .next (s.replying t 1 0x56#8 .state [])) ∧
      (∀ x : CallId, s.stations[a].current = some x → s.calls[x].priority ≠ .emergency →
        ∃ u, exec (.callLeave t station) s = .next u ∧
          u.answered t 0x56#8 .ok (out8 (callStateCode u.calls[x].state) ++ [0#8]) ∧ s.leftAndSettled u x a)) ∧
    (∀ x : CallId, s.calls[x].state = .ringing ∨ s.calls[x].state = .connected → s.calls[x].priority ≠ .emergency →
      ⟨a, .ringing, some 0⟩ ∈ s.calls[x].parties →
      ∃ u, exec (.ringTimerExpiry x a) s = .next u ∧ (u.port .icm).has .call = true ∧ s.leftAndSettled u x a) ∧
    (∀ x : CallId, s.served = true → (∀ p ∈ s.calls[x].parties, p.station = a → p.timer ≠ some 0) →
      exec (.ringTimerExpiry x a) s = .next s)) ∧
  (∀ (t : Txn) (call : Byte) (s : State) (x : CallId), s.listens t = true → t.port = .icm → s.intercomLawful = true →
    call.toNat = x.val → s.calls[x].state = .ringing ∨ s.calls[x].state = .connected →
    ∃ u, exec (.callEnd t call) s = .next u ∧ u.answered t 0x57#8 .ok [] ∧
      u.calls[x] = { s.calls[x] with state := .ended, endCause := some .cleared } ∧
      u.callEnds.getLast? = some x ∧ (∀ b : StationId, u.stations[b].suspended ≠ some x) ∧
      (∀ b : StationId, s.stations[b].current = some x → s.calls[x].priority ≠ .emergency ∨ s.stations[b].suspended = none →
        u.stations[b] = { s.stations[b] with state := .idle, current := none }) ∧
      (s.calls[x].priority ≠ .emergency → ∀ y : CallId, y ≠ x → u.calls[y] = s.calls[y]) ∧
      (∀ (b : StationId) (y : CallId), s.calls[x].priority = .emergency → s.stations[b].current = some x →
        s.stations[b].suspended = some y → s.calls[y].state = .connected →
        u.stations[b] = { s.stations[b] with state := .inCall, current := some y, suspended := none } ∧
        (u.calls[y].party b).map (·.state) = some .active)) ∧
  (∀ (s : State) (a : StationId) (x y : CallId), s.intercomLawful = true → s.stations[a].current = some x →
    s.calls[x].priority = .emergency → s.stations[a].suspended = some y →
    let rejoins := fun u : State =>
      u.stations[a] = { s.stations[a] with
        state := if s.calls[y].state = .connected then .inCall else .calling, current := some y, suspended := none } ∧
      (u.calls[y].party a).map (·.state) = some (if s.calls[y].state = .connected then .active else .calling) ∧
      u.calls[y].state = s.calls[y].state ∧ u.calls[x].party a = none ∧ (u.port .icm).has .call = true
    (∀ (t : Txn) (station : Byte), s.listens t = true → t.port = .icm → station.toNat = a.val →
      ∃ u, exec (.callLeave t station) s = .next u ∧
        u.answered t 0x56#8 .ok (out8 (callStateCode u.calls[x].state) ++ out8 (stationCode u.stations[a].state)) ∧
        rejoins u) ∧
    (⟨a, .ringing, some 0⟩ ∈ s.calls[x].parties → ∃ u, exec (.ringTimerExpiry x a) s = .next u ∧ rejoins u)) ∧
  (∀ (s : State) (a : StationId) (x : CallId), s.intercomLawful = true → s.stations[a].current = some x →
    s.calls[x].priority = .emergency →
    let c := s.calls[x]
    let rest := c.parties.filter fun p => p.station ≠ a
    let standing := rest.countP fun p => p.state ≠ .ringing
    let ringing := rest.countP fun p => p.state = .ringing
    let out := fun (u : State) (b : StationId) =>
      (s.stations[b].suspended = none → u.stations[b] = { s.stations[b] with state := .idle, current := none }) ∧
      (∀ y, s.stations[b].suspended = some y → u.calls[y].state = s.calls[y].state ∧
        u.stations[b] = { s.stations[b] with
          state := if s.calls[y].state = .connected then .inCall else .calling, current := some y, suspended := none })
    let settled := fun u : State => out u a ∧
      ((standing = 0 ∨ (ringing = 0 ∧ standing < 2)) →
        u.calls[x] = { c with state := .ended, endCause := some .depleted, parties := rest } ∧
        ∀ b : StationId, s.stations[b].current = some x → out u b) ∧
      ((2 ≤ standing ∨ (c.state = .ringing ∧ standing = 1 ∧ 1 ≤ ringing)) →
        u.calls[x] = { c with parties := rest } ∧ ∀ b : StationId, b ≠ a → u.stations[b] = s.stations[b]) ∧
      (c.state = .connected → standing = 1 → 1 ≤ ringing →
        u.calls[x] = { c with
          state := .ringing
          parties := rest.map fun p => if p.state = .active ∨ p.state = .onHold then { p with state := .calling } else p } ∧
        ∀ b : StationId, b ≠ a → s.stations[b].current = some x → s.stations[b].state ≠ .ringing →
          u.stations[b] = { s.stations[b] with state := .calling })
    (∀ (t : Txn) (station : Byte), s.listens t = true → t.port = .icm → station.toNat = a.val →
      ∃ u, exec (.callLeave t station) s = .next u ∧ settled u ∧
        u.answered t 0x56#8 .ok (out8 (callStateCode u.calls[x].state) ++ out8 (stationCode u.stations[a].state))) ∧
    (⟨a, .ringing, some 0⟩ ∈ c.parties →
      ∃ u, exec (.ringTimerExpiry x a) s = .next u ∧ settled u ∧ (u.port .icm).has .call = true))

/-! ### The show cue engine (chapter 8) -/

/-- LOAD_CUE: PRIVILEGE, PARAM, BUSY and FULL in their order without effect; otherwise the cue stands at its number in place
of any of that number, the list keeps its order, an EMPTY engine stands by with it, one HELD over an empty list too, and
nothing else changes (R169, R170). The cue holds the frame's number, follow delay and actions, each as its kind and its fields
say, a FADE's target and duration clamped. PARAM answers a frame that gives no such cue: a number, delay, count or kind out of
range, a slot above 7, a channel above 3, a source outside IN8 to IN15 and show channels 0 to 3, an empty zone set, a part,
mode or trigger outside its values, a repeat count of 0, and two PLAYs on one channel (R170, R212, R214); that a repeat count
above 256 is PARAM too is the model's reading (assumption log 14). DELETE_CUE and CUE_STANDBY: their refusals in order,
PRIVILEGE from another port than the show port first; a deleted cue leaves the list and, where it stood by, the pointer moves
to the next cue or the engine is FINISHED, EMPTY with an empty list; CUE_STANDBY points at its cue and ends a countdown.
Nothing but the engine changes (R171, R174). -/
def Obligations.TheCueListIsEdited : Prop :=
  (∀ (t : Txn) (number : BitVec 16) (follow : BitVec 24) (actions : List RawAction) (s : State), s.listens t = true →
    s.served = true → s.cue.listLawful = true →
    let run := exec (.loadCue t number follow actions) s
    let n := 6 + 11 * actions.length
    (t.port ≠ .shw → run = .next (s.replying t n 0x60#8 .privilege [])) ∧
    (t.port = .shw → (number.toNat = 0 ∨ 9999 < number.toNat ∨ (600000 < follow.toNat ∧ follow ≠ 0xFFFFFF#24) ∨ actions = [] ∨
      8 < actions.length ∨ ∃ x ∈ actions, 6 < x.kind.toNat) → run = .next (s.replying t n 0x60#8 .param [])) ∧
    (t.port = .shw →
      (∃ x ∈ actions,
        (x.kind.toNat ≤ 3 ∧ 7 < fieldNum x 0 1) ∨ (4 ≤ x.kind.toNat ∧ 3 < fieldNum x 0 1) ∨
        (x.kind = 0#8 ∧ ((fieldNum x 1 1 < 8 ∨ (15 < fieldNum x 1 1 ∧ fieldNum x 1 1 < 52) ∨ 55 < fieldNum x 1 1) ∨ fieldNum x 2 8 = 0)) ∨
        (x.kind = 2#8 ∧ fieldNum x 1 8 = 0) ∨ (x.kind = 3#8 ∧ (1 < fieldNum x 1 1 ∨ 1 < fieldNum x 7 1)) ∨
        (x.kind = 4#8 ∧ (2 < fieldNum x 2 1 ∨ fieldNum x 3 2 = 0 ∨ 256 < fieldNum x 3 2))) ∨
      ¬((actions.filter fun x => x.kind == 4#8).map fun x => fieldNum x 0 1).Nodup →
      run = .next (s.replying t n 0x60#8 .param [])) ∧
    (t.port = .shw → (∀ q : Cue, ¬q.isOf number follow actions) → run = .next (s.replying t n 0x60#8 .param [])) ∧
    ∀ q : Cue, t.port = .shw → q.isOf number follow actions →
      (s.cue.state = .priming ∧ s.cue.executing = some q.number → run = .next (s.replying t n 0x60#8 .busy [])) ∧
      (¬(s.cue.state = .priming ∧ s.cue.executing = some q.number) → s.cue.find q.number = none → s.cue.cues.length = 64 →
        run = .next (s.replying t n 0x60#8 .full [])) ∧
      (¬(s.cue.state = .priming ∧ s.cue.executing = some q.number) → s.cue.find q.number ≠ none ∨ s.cue.cues.length < 64 →
        ∃ cues : List Cue, (∀ m : Nat, cues.find? (fun c => c.number == m) = if m = q.number then some q else s.cue.find m) ∧
          (cues.map (·.number)).Pairwise (· < ·) ∧
          cues.length = s.cue.cues.length + (if s.cue.find q.number = none then 1 else 0) ∧
          run = .next (State.replying { s with
            cue := { s.cue with
              cues := cues
              standby := if s.cue.state = .empty ∨ (s.cue.state = .held ∧ s.cue.ret = some .empty) then some q.number
                else s.cue.standby
              state := if s.cue.state = .empty then .standby else s.cue.state
              ret := if s.cue.state = .held ∧ s.cue.ret = some .empty then some .standby else s.cue.ret } }
            t n 0x60#8 .ok (out8 cues.length)))) ∧
  (∀ (t : Txn) (number : BitVec 16) (s : State), s.listens t = true → s.served = true → t.port ≠ .shw →
    exec (.deleteCue t number) s = .next (s.replying t 2 0x61#8 .privilege []) ∧
    exec (.cueStandby t number) s = .next (s.replying t 2 0x62#8 .privilege [])) ∧
  (∀ (t : Txn) (number : BitVec 16) (s : State), s.listens t = true → s.served = true → t.port = .shw →
    let n := number.toNat
    let c := s.cue
    let left := c.cues.filter fun q => q.number ≠ n
    let deleted := fun (e : CueEngine) =>
      exec (.deleteCue t number) s = .next (State.replying { s with cue := e } t 2 0x61#8 .ok
        (out8 (engineCode e.state) ++ outOpt16 e.standby))
    ((n = 0 ∨ 9999 < n) →
      exec (.deleteCue t number) s = .next (s.replying t 2 0x61#8 .param []) ∧
      exec (.cueStandby t number) s = .next (s.replying t 2 0x62#8 .param [])) ∧
    (1 ≤ n → n ≤ 9999 →
      (c.find n = none → exec (.deleteCue t number) s = .next (s.replying t 2 0x61#8 .notFound [])) ∧
      (∀ q, c.find n = some q → c.state = .priming → c.executing = some n →
        exec (.deleteCue t number) s = .next (s.replying t 2 0x61#8 .busy [])) ∧
      (c.state = .priming ∨ c.state = .held → exec (.cueStandby t number) s = .next (s.replying t 2 0x62#8 .state [])) ∧
      (c.state ≠ .priming → c.state ≠ .held → c.find n = none →
        exec (.cueStandby t number) s = .next (s.replying t 2 0x62#8 .notFound [])) ∧
      (∀ q, c.find n = some q → c.state ≠ .priming → c.state ≠ .held →
        exec (.cueStandby t number) s = .next (State.replying { s with
          cue := { c with standby := some n, countdown := none, state := .standby } } t 2 0x62#8 .ok ([1#8] ++ out16 n))) ∧
      (∀ q, c.find n = some q → ¬(c.state = .priming ∧ c.executing = some n) →
        (c.standby ≠ some n → left ≠ [] → deleted { c with cues := left }) ∧
        (c.standby = some n → ∀ m, nextCue left n = some m → deleted { c with cues := left, standby := some m }) ∧
        (c.standby = some n → left ≠ [] → nextCue left n = none →
          deleted { c with
            cues := left, standby := none, countdown := none
            state := if c.state = .standby ∨ c.state = .following then .finished else c.state
            ret := if c.ret = some .standby ∨ c.ret = some .following then some .finished else c.ret }) ∧
        (left = [] → ∃ e : CueEngine, deleted e ∧ e.cues = [] ∧ e.standby = none ∧ e.countdown = none ∧ e.slots = c.slots ∧
          (c.state = .held → e.state = .held ∧ e.ret = some .empty) ∧ (c.state ≠ .held → e.state = .empty)))))

/-- CUE_GO: PRIVILEGE, ALARM_ACTIVE, BUSY and STATE in their order without effect. In STANDBY and FOLLOWING the standby cue
is executed: its PLAYs start priming together; and a single ROUTE of free zones on a slot without program opens a SHOW
program of class 5 there with its notice, after which the next cue stands by (R172, R175, R176, R178, R179). A cue of any
other single action takes effect in the step of the GO, the next cue standing by and answer and last result carrying its
fault: FADE retargets the gain of its program or is a NO_PROGRAM fault; STOP frees its show channel; STEP moves a channel on
from its mark or is NOT_AT_MARK; a PLAY of a clip that is not READY is NOT_READY; BED without a source is NO_SOURCE, and with
one opens a class 6 program on free bed slots; a ROUTE, or a BED, on a slot that has such a program changes its zones where
the source is the same, the given ones claimed and the others dropped to the tops of their stacks, and NO_ZONES where nothing
is left, and where the source is another closes it CLOSED and opens a new one, whose record may be the closed one's; UNROUTE
ends the slot's programs and empties it; a ROUTE or BED without a record is FULL, and a ROUTE of excluded zones ends its
program at once, with its PROGRAM notice, as NO_ZONES (R135, R141, R142, R172, R176, R177). Of several actions each sees what
those before it have left, and the PLAYs come last: a FADE acts on the program its cue has just routed, a STEP after a STOP
of its channel is NOT_AT_MARK, a STOP after a PLAY of its channel does not stop it; and faults are counted, the first with
its place (R176 to R178). A follow delay of 0 executes the next cue in the same step; the answer gives the cue of the GO with
its faults and the engine state at the end of the step, which is the model's reading (R179; assumption log 21). That faults
are numbered from 1, and the order of the members of a start set, are the model's choices (assumption log 18), and so is that
a marked block that is ahead leaves the blocks ahead at the STEP (assumption log 26). The start value, duration and step in
the gain of a program that a ROUTE or BED opens (assumption log 8), and those that a FADE which completes at once leaves
(assumption log 39), are the model's choices too: R65 to R70 and R176 leave them open. -/
def Obligations.AGoExecutesTheStandbyCue : Prop :=
  ∀ (t : Txn) (s : State), s.listens t = true →
    (s.served = true →
      (t.port ≠ .shw → exec (.cueGo t) s = .next (s.replying t 0 0x63#8 .privilege [])) ∧
      (t.port = .shw → s.alarmActive = true → exec (.cueGo t) s = .next (s.replying t 0 0x63#8 .alarmActive [])) ∧
      (t.port = .shw → s.alarmActive = false → s.cue.state = .priming →
        exec (.cueGo t) s = .next (s.replying t 0 0x63#8 .busy [])) ∧
      (t.port = .shw → s.alarmActive = false → s.cue.state = .empty ∨ s.cue.state = .held ∨ s.cue.state = .finished →
        exec (.cueGo t) s = .next (s.replying t 0 0x63#8 .state []))) ∧
    ∀ (q : Cue), t.port = .shw → s.alarmActive = false → s.cue.state = .standby ∨ s.cue.state = .following →
      s.cue.standby = some q.number → s.cue.find q.number = some q →
      ((∀ a ∈ q.actions, ∃ k id tr n, a = CueAction.play k id tr n ∧ s.clipReady id = true) → q.actions ≠ [] →
        (q.actions.flatMap CueAction.plays).Nodup →
        ∃ u, exec (.cueGo t) s = .next u ∧ u.answered t 0x63#8 .ok (out16 q.number ++ [3#8, 0#8, 0xFF#8, 0xFF#8]) ∧
          s.primesCue u q) ∧
      (∀ (slot : Fin 8) (src : Nat) (zs : ZoneSet) (p : ProgId), q.actions = [CueAction.route slot src zs] → q.follow = none →
        s.cue.slots[slot].showProg = none → s.cue.holdPending = false → s.atRest = true → s.claimsAgree = true →
        s.ordersLawful = true → s.allocate 4 = some p → zs ≠ 0#64 →
        (∀ z : Zone, zs.getLsbD z.val = true → s.zones[z].owner = none ∧ s.zones[z].excluded = false) →
        ∃ u, exec (.cueGo t) s = .next u ∧
          u.cue.slots[slot] = ⟨some src, some p, s.cue.slots[slot].bedProg⟩ ∧
          (u.progs[p].state = .active ∧ u.progs[p].owner = .shw ∧ u.progs[p].kind = .showSound ∧ u.progs[p].cls = 5 ∧
            u.progs[p].source = some src ∧ u.progs[p].policy = .takeAvailable ∧ u.progs[p].requested = zs ∧
            u.progs[p].granted = zs ∧ u.progs[p].gain = Ramp.still 32768 ∧ u.progs[p].routeSlot = some slot) ∧
          (∀ z : Zone, if zs.getLsbD z.val then u.zones[z].owner = some p else u.zones[z] = s.zones[z]) ∧
          (∀ r : ProgId, r ≠ p → u.progs[r] = s.progs[r]) ∧
          (u.port .shw).has .program = true ∧ (u.port .shw).changed.getLsbD p.val = true ∧
          u.cue.standby = nextCue s.cue.cues q.number ∧ u.cue.executing = none ∧
          u.cue.state = (if (nextCue s.cue.cues q.number).isSome then .standby else .finished) ∧
          u.cue.last = some ⟨q.number, false, 0, none⟩) ∧
      (q.follow = none → s.cue.holdPending = false →
        let ends := s.goEnds t q
        let kept := fun u : State => u.progs = s.progs ∧ u.zones = s.zones ∧ u.cue.slots = s.cue.slots
        (∀ slot part target duration st, q.actions = [CueAction.fade slot part target duration st] →
          let prog := if part = .bedPart then s.cue.slots[slot].bedProg else s.cue.slots[slot].showProg
          ∃ u, exec (.cueGo t) s = .next u ∧ u.zones = s.zones ∧ u.cue.slots = s.cue.slots ∧ u.chans = s.chans ∧
            (prog = none → ends u (some .noProgram) ∧ u.progs = s.progs) ∧
            (∀ p, prog = some p → ends u none ∧
              u.progs[p] = { s.progs[p] with gain := s.progs[p].gain.retarget st target duration } ∧
              ∀ r : ProgId, r ≠ p → u.progs[r] = s.progs[r])) ∧
        (∀ k, q.actions = [CueAction.stop k] →
          ∃ u, exec (.cueGo t) s = .next u ∧ ends u none ∧ kept u ∧
            u.chans[showChan k] = { s.chans[showChan k] with
              state := .free, clip := none, cursor := .none, hold := false, pause := none, ahead := [], nextFetch := none
              goMark := false } ∧
            ∀ c : ChanId, c ≠ showChan k → u.chans[c] = s.chans[c]) ∧
        (∀ k, q.actions = [CueAction.step k] →
          let c := s.chans[showChan k]
          ∃ u, exec (.cueGo t) s = .next u ∧ kept u ∧ (∀ d : ChanId, d ≠ showChan k → u.chans[d] = s.chans[d]) ∧
            (c.state ≠ .paused ∨ c.pause ≠ some .mark → ends u (some .notAtMark) ∧ u.chans = s.chans) ∧
            (c.state = .paused → c.pause = some .mark → ends u none ∧
              (∀ o b rest, c.cursor = .toBegin o → c.ahead = b :: rest → u.chans[showChan k] = { c with
                state := .playing, pause := none, cursor := .playing b 0, ahead := rest }) ∧
              (∀ o, c.cursor = .toBegin o → c.ahead = [] → u.chans[showChan k] = { c with
                state := .playing, pause := none, underrun := min 65535 (c.underrun + 1) }) ∧
              (∀ b i, c.cursor = .playing b i → u.chans[showChan k] = { c with state := .playing, pause := none }))) ∧
        (∀ k id tr n, q.actions = [CueAction.play k id tr n] → s.clipReady id = false →
          ∃ u, exec (.cueGo t) s = .next u ∧ ends u (some .notReady) ∧ kept u ∧ u.chans = s.chans) ∧
        (∀ slot zs, q.actions = [CueAction.bed slot zs] →
          (s.cue.slots[slot].source = none →
            ∃ u, exec (.cueGo t) s = .next u ∧ ends u (some .noSource) ∧ kept u) ∧
          (∀ src, s.cue.slots[slot].source = some src → s.cue.slots[slot].bedProg = none →
            (s.allocate 4 = none → ∃ u, exec (.cueGo t) s = .next u ∧ ends u (some .full) ∧ kept u) ∧
            (∀ p, s.allocate 4 = some p → s.safe = true → zs ≠ 0#64 →
              (∀ z : Zone, zs.getLsbD z.val = true → s.zones[z].bed = none ∧ s.zones[z].excluded = false) →
              ∃ u, exec (.cueGo t) s = .next u ∧ ends u none ∧
                u.cue.slots[slot] = { s.cue.slots[slot] with bedProg := some p } ∧
                (u.progs[p].state = .active ∧ u.progs[p].owner = .shw ∧ u.progs[p].kind = .bed ∧ u.progs[p].cls = 6 ∧
                  u.progs[p].source = some src ∧ u.progs[p].requested = zs ∧ u.progs[p].granted = zs ∧
                  u.progs[p].gain = Ramp.still 32768 ∧ u.progs[p].routeSlot = some slot) ∧
                (∀ z : Zone, u.zones[z] = if zs.getLsbD z.val then { s.zones[z] with bed := some p } else s.zones[z]) ∧
                (∀ r : ProgId, r ≠ p → u.progs[r] = s.progs[r]) ∧ (u.port .shw).has .program = true))) ∧
        (∀ slot src zs, q.actions = [CueAction.route slot src zs] → s.cue.slots[slot].showProg = none →
          (s.allocate 4 = none →
            ∃ u, exec (.cueGo t) s = .next u ∧ ends u (some .full) ∧ u.progs = s.progs ∧ u.zones = s.zones ∧
              u.cue.slots[slot] = { s.cue.slots[slot] with source := some src }) ∧
          (∀ p, s.allocate 4 = some p → s.safe = true →
            (∀ z : Zone, zs.getLsbD z.val = true → s.zones[z].excluded = true) →
            ∃ u, exec (.cueGo t) s = .next u ∧ ends u (some .noZones) ∧ u.zones = s.zones ∧
              u.cue.slots[slot] = { s.cue.slots[slot] with source := some src } ∧
              u.progs[p].state = .ended ∧ u.progs[p].endReason = some .noZones ∧ u.progs[p].owner = .shw ∧
              (∀ r : ProgId, r ≠ p → u.progs[r] = s.progs[r]) ∧
              (u.port .shw).has .program = true ∧ (u.port .shw).changed.getLsbD p.val = true)) ∧
        (∀ slot, q.actions = [CueAction.unroute slot] → s.safe = true → (∀ p : ProgId, s.progs[p].waiting = 0#64) →
          let mine := fun p : ProgId => s.cue.slots[slot].showProg = some p ∨ s.cue.slots[slot].bedProg = some p
          ∃ u, exec (.cueGo t) s = .next u ∧ ends u none ∧ u.cue.slots[slot] = RouteSlot.empty ∧
            (∀ k : Fin 8, k ≠ slot → u.cue.slots[k] = s.cue.slots[k]) ∧
            (∀ p : ProgId, mine p → u.progs[p].state = .ended ∧ u.progs[p].endReason = some .closed) ∧
            (∀ (z : Zone) (p : ProgId), mine p →
              u.zones[z].owner ≠ some p ∧ p ∉ u.zones[z].stack ∧ u.zones[z].bed ≠ some p) ∧
            (∀ z : Zone, (∀ p, s.zones[z].owner = some p → ¬mine p) → u.zones[z].owner = s.zones[z].owner)) ∧
        s.goReroutes t q ∧ s.goRebeds t q ∧ s.goSequences t q) ∧
      s.goPlaysLast t q ∧ s.goChains t q

/-- PRIMING_BOUND_EXPIRY: the go is given to every channel of the start set, LATE: a primed one begins its first block in the
next frame, one still priming is marked; and the execution ends: the next cue stands by, the last result carries LATE and the
faults, a follow delay starts its countdown, and with the hold pending the engine enters HELD instead. CUE is raised (R142,
R178, R179, R187). FOLLOW_COUNTDOWN_EXPIRY: under an alarm the engine becomes STANDBY with the same cue; otherwise the standby
cue executes as at a GO; both with a CUE notice (R180, R187). A report that safety traffic took a zone from a route SHOW
program holds a running engine, with its countdown and its GATED show channels, and sets the hold pending in PRIMING (R181).
The claim manager makes that report when an ALARM_START, or an OPEN_PROGRAM of class 1 or 2, takes a zone that such a program
owns; an open of a class above 2 that takes it, through a lowered shield, leaves the engine as it was (R52, R181). The one
open set aside is one of kind CLIP and class 1 that takes its channel from another program while a program of a class above 2
waits for the zone: that program's zones are released before the new one claims (R41), and the waiting one may be granted the
zone first, which is no report. -/
def Obligations.StartsFollowsAndHolds : Prop :=
  (∀ (s : State) (q : Cue), s.cue.state = .priming → s.cue.bound = some 0 → s.cue.executing = some q.number →
    s.cue.find q.number = some q → (q.follow ≠ some 0 ∨ s.cue.holdPending = true) →
    let next := nextCue s.cue.cues q.number
    ∃ u, exec .primingBoundExpiry s = .next u ∧ (u.port .shw).has .cue = true ∧ u.cue.standby = next ∧
      u.cue.executing = none ∧ u.cue.startSet = [] ∧ u.cue.bound = none ∧ u.cue.boundExpired = true ∧
      u.cue.holdPending = false ∧
      u.cue.last = some ⟨q.number, true, s.cue.faults.length, s.cue.faults.head?⟩ ∧
      (s.cue.holdPending = false →
        (q.follow = none ∨ next = none → u.cue.state = if next.isSome then .standby else .finished) ∧
        (∀ d, q.follow = some d → next ≠ none → u.cue.state = .following ∧ u.cue.countdown = some ⟨48 * d, false⟩) ∧
        (∀ k : Fin 4, (k ∈ s.cue.startSet.map Prod.fst) →
          (s.chans[showChan k].state = .priming → u.chans[showChan k] = { s.chans[showChan k] with goMark := true }) ∧
          (s.chans[showChan k].state = .paused → s.chans[showChan k].pause = some .start →
            s.chans[showChan k].trigger ≠ .stepped →
            u.chans[showChan k] = { s.chans[showChan k] with
              state := .playing, pause := none, cursor := .toBegin 0, goMark := false }))) ∧
      (s.cue.holdPending = true →
        u.cue.state = .held ∧
        (q.follow = none ∨ next = none → u.cue.ret = some (if next.isSome then .standby else .finished)) ∧
        (∀ d, q.follow = some d → next ≠ none → u.cue.ret = some .following ∧ u.cue.countdown = some ⟨48 * d, true⟩)) ∧
      u.progs = s.progs ∧ u.zones = s.zones) ∧
  (∀ s : State,
    (s.cue.state = .following → s.cue.countdown = some ⟨0, false⟩ →
      (s.alarmActive = true → s.served = true → exec .followCountdownExpiry s =
        .next (State.raise { s with cue := { s.cue with countdown := none, state := .standby } } .cue .shw)) ∧
      (∀ q : Cue, s.alarmActive = false → s.cue.standby = some q.number → s.cue.find q.number = some q →
        (∀ a ∈ q.actions, ∃ k id tr n, a = CueAction.play k id tr n ∧ s.clipReady id = true) → q.actions ≠ [] →
        (q.actions.flatMap CueAction.plays).Nodup →
        ∃ u, exec .followCountdownExpiry s = .next u ∧ s.primesCue u q ∧ (u.port .shw).has .cue = true)) ∧
    (s.cue.state = .standby ∨ s.cue.state = .following ∨ s.cue.state = .finished →
      s.reportTakeover false = State.raise { s with
        cue := { s.cue with
          state := .held, ret := some s.cue.state
          countdown := s.cue.countdown.map fun d => { d with frozen := true } }
        chans := remap s.chans fun ch c =>
          if 4 ≤ ch.val ∧ c.trigger = .gated ∧ (c.state = .priming ∨ c.state = .playing) then
            { c with state := .paused, pause := some .gate } else c } .cue .shw) ∧
    (s.cue.state = .priming → s.reportTakeover false = { s with cue := { s.cue with holdPending := true } }) ∧
    (s.cue.state = .held ∨ s.cue.state = .empty → s.reportTakeover false = s)) ∧
  (∀ (s : State) (z : Zone) (o : ProgId), s.safe = true → s.zones[z].owner = some o → s.progs[o].kind = .showSound →
    s.progs[o].routeSlot ≠ none →
    let reported := fun u : State =>
      (s.cue.state = .standby ∨ s.cue.state = .following ∨ s.cue.state = .finished →
        u.cue.state = .held ∧ u.cue.ret = some s.cue.state ∧ u.cue.standby = s.cue.standby ∧
        u.cue.countdown = s.cue.countdown.map (fun d => { d with frozen := true }) ∧ (u.port .shw).has .cue = true ∧
        ∀ ch : ChanId, 4 ≤ ch.val → u.chans[ch] =
          if s.chans[ch].trigger = .gated ∧ (s.chans[ch].state = .priming ∨ s.chans[ch].state = .playing) then
            { s.chans[ch] with state := .paused, pause := some .gate } else s.chans[ch]) ∧
      (s.cue.state = .priming → u.cue.state = .priming ∧ u.cue.holdPending = true) ∧
      (s.cue.state = .held ∨ s.cue.state = .empty → u.cue.state = s.cue.state ∧ u.cue.ret = s.cue.ret)
    (∀ (t : Txn) (slot pattern : Byte) (zones : ZoneSet) (k : Fin 2) (pat : PatId), s.listens t = true → t.port = .saf →
      slot.toNat = k.val → pattern.toNat = pat.val → s.patterns[pat].steps ≠ [] → zones.getLsbD z.val = true →
      ∃ u, exec (.alarmStart t slot pattern zones) s = .next u ∧ u.zones[z].owner = some (progOfSlot k) ∧ reported u) ∧
    (∀ (t : Txn) (a : OpenArgs) (p : ProgId) (u : State), s.listens t = true →
      exec (.openProgram t a) s = .next u → u.zones[z].owner = some p → p ≠ o →
      let takesChannel : Prop := a.kind = 2#8 ∧ a.cls = 1#8 ∧ ∀ ch : ChanId, ch.val < 4 → s.chans[ch].user ≠ none
      (u.progs[p].cls ≤ 2 →
        (takesChannel → ∀ r : ProgId, s.progs[r].waiting.getLsbD z.val = true → s.progs[r].cls ≤ 2) → reported u) ∧
      (2 < u.progs[p].cls → ¬takesChannel →
        u.cue.state = s.cue.state ∧ u.cue.holdPending = s.cue.holdPending)))

/-- CUE_RESUME answers STATE outside HELD or while a route SHOW program holds a zone; otherwise the engine takes its return
state, its countdown runs on and every GATE-paused GATED show channel goes on: PLAYING from where it stood, or, where it was
paused while it primed, PLAYING from its first block if it is primed and PRIMING again if not (R140, R183). A countdown frozen
at 0 expires in the same step: under an alarm the engine becomes STANDBY with the same cue, and otherwise the standby cue
executes, its PLAYs priming together; no CUE notice is raised, for the response reports the change (R180, R183, R187). Both
commands answer PRIVILEGE from another port than the show port (R183, R184). CUE_STOP_ALL, in every state, frees every show
channel, ends and forgets every route program, and leaves the engine STANDBY, or EMPTY with an empty list (R184). -/
def Obligations.TheShowIsResumedOrStopped : Prop :=
  (∀ c : Channel,
    (c.state ≠ .paused ∨ c.pause ≠ some .gate → c.gateContinue = c) ∧
    (c.state = .paused → c.pause = some .gate →
      (c.cursor ≠ .none → c.gateContinue = { c with state := .playing, pause := none }) ∧
      (c.cursor = .none → 2 ≤ c.ahead.length ∨ c.nextFetch = none →
        c.gateContinue = { c with state := .playing, pause := none, cursor := .toBegin 0, goMark := false }) ∧
      (c.cursor = .none → c.ahead.length < 2 → c.nextFetch ≠ none →
        c.gateContinue = { c with state := .priming, pause := none }))) ∧
  (∀ (t : Txn) (s : State), s.listens t = true → s.served = true → t.port ≠ .shw →
    exec (.cueResume t) s = .next (s.replying t 0 0x64#8 .privilege []) ∧
    exec (.cueStopAll t) s = .next (s.replying t 0 0x65#8 .privilege [])) ∧
  ∀ (t : Txn) (s : State), s.listens t = true → t.port = .shw →
    (s.cue.state = .held → s.cue.ret = some .following → s.cue.countdown = some ⟨0, true⟩ →
      (∀ (k : Fin 8) (p : ProgId), s.cue.slots[k].showProg = some p → s.progs[p].held = 0#64) →
      let resumed : State := { s with
        cue := { s.cue with ret := none, countdown := none }
        chans := remap s.chans fun ch c => if 4 ≤ ch.val ∧ c.trigger = .gated then c.gateContinue else c }
      (s.alarmActive = true →
        ∃ u, exec (.cueResume t) s = .next u ∧ u.answered t 0x64#8 .ok [1#8] ∧
          u.cue = { s.cue with state := .standby, ret := none, countdown := none } ∧ u.chans = resumed.chans ∧
          u.progs = s.progs ∧ u.zones = s.zones ∧ (u.port .shw).notices = (s.port .shw).notices) ∧
      (∀ q : Cue, s.alarmActive = false → s.cue.standby = some q.number → s.cue.find q.number = some q →
        (∀ a ∈ q.actions, ∃ k id tr n, a = CueAction.play k id tr n ∧ s.clipReady id = true) → q.actions ≠ [] →
        (q.actions.flatMap CueAction.plays).Nodup →
        ∃ u, exec (.cueResume t) s = .next u ∧ u.answered t 0x64#8 .ok [3#8] ∧ resumed.primesCue u q ∧
          (u.port .shw).notices = (s.port .shw).notices)) ∧
    (s.served = true → s.cue.state ≠ .held ∨ (∃ (k : Fin 8) (p : ProgId), s.cue.slots[k].showProg = some p ∧ s.progs[p].held ≠ 0#64) →
      exec (.cueResume t) s = .next (s.replying t 0 0x64#8 .state [])) ∧
    (∀ e : EngineState, s.cue.state = .held → s.cue.ret = some e →
      (∀ (k : Fin 8) (p : ProgId), s.cue.slots[k].showProg = some p → s.progs[p].held = 0#64) →
      s.cue.countdown.map (·.left) ≠ some 0 →
      ∃ u, exec (.cueResume t) s = .next u ∧ u.answered t 0x64#8 .ok (out8 (engineCode e)) ∧
        u.cue = { s.cue with
          state := e, ret := none, countdown := s.cue.countdown.map fun d => { d with frozen := false } } ∧
        (∀ ch : ChanId, u.chans[ch] =
          if 4 ≤ ch.val ∧ s.chans[ch].trigger = .gated then s.chans[ch].gateContinue else s.chans[ch]) ∧
        u.progs = s.progs ∧ u.zones = s.zones) ∧
    (s.usersLawful = true → ∃ u, exec (.cueStopAll t) s = .next u ∧
      u.answered t 0x65#8 .ok (out8 (engineCode u.cue.state) ++ outOpt16 u.cue.standby) ∧
      (∀ k : Fin 8, u.cue.slots[k] = RouteSlot.empty) ∧
      (∀ (k : Fin 8) (p : ProgId), s.cue.slots[k].showProg = some p ∨ s.cue.slots[k].bedProg = some p →
        u.progs[p].state = .ended) ∧
      (∀ ch : ChanId, 4 ≤ ch.val → u.chans[ch].state = .free ∧ u.chans[ch].clip = none) ∧
      u.cue.cues = s.cue.cues ∧ u.cue.last = s.cue.last ∧ u.cue.bound = none ∧ u.cue.boundExpired = false ∧
      u.cue.countdown = none ∧ u.cue.holdPending = false ∧ u.cue.executing = none ∧ u.cue.ret = none ∧
      (s.cue.cues = [] → u.cue.state = .empty) ∧
      (∀ q rest, s.cue.cues = q :: rest →
        u.cue.state = .standby ∧ u.cue.standby = some (s.cue.standby.getD q.number)))

/-! ### The line survey (chapter 9) -/

/-- SURVEY_ZONE: PRIVILEGE and PARAM without effect; while a survey runs each zone of the set joins it, joins its queue
entry, or is appended, in ascending order; an IDLE engine begins the survey of a zone at once, or skips it where its owner
has class 0 to 2; of several zones it skips those before the first that it can survey, begins that one and queues the rest.
AUTO_SURVEY_INTERVAL_EXPIRY appends the zone of the cycle pointer and advances it, and an IDLE engine takes that zone in the
same step (R189, R191, R202). SURVEY_CANCEL removes the queued zones of its set whichever port asked for them; the zone under
survey is aborted: its last result is ABORTED, its line status stays, the pilot stops, and SURVEY is raised at the safety
port and the requesters, but not at the port that sent the cancel (R190, R198); the engine then takes the next head: queued
zones whose owner has class 0 to 2 are skipped, each with SURVEY at the safety port and its own requesters, and the survey of
the first other begins with its entry's requesters, or the engine is IDLE where none is left (R191, R198). SURVEY_CANCEL from
the intercom or show port answers PRIVILEGE, of an empty set PARAM (R190). An ALARM_START that takes the zone under
survey, and an OPEN_PROGRAM that makes a program of class 0 to 2 its owner, aborts the survey in the same step, with SURVEY at
the safety port and the requesters (R52, R198). -/
def Obligations.TheSurveyQueue : Prop :=
  (∀ (s : State) (z : Zone), s.safe = true → s.survey.zone = some z →
    let aborted := fun u : State =>
      u.zones[z].lastResult = some ⟨.aborted, none, false⟩ ∧ u.zones[z].lineStatus = s.zones[z].lineStatus ∧
      u.zones[z].underSurvey = false ∧ u.survey.zone ≠ some z ∧
      (s.survey.queue = [] → u.survey.state = .idle ∧ u.survey.zone = none ∧ u.survey.dwell = none ∧
        u.survey.dwellExpired = false ∧ u.survey.pgRunning = false) ∧
      (u.port .saf).has .survey = true ∧ (s.survey.requesters.ann = true → (u.port .ann).has .survey = true)
    (∀ (t : Txn) (slot pattern : Byte) (zones : ZoneSet) (k : Fin 2) (pat : PatId), s.listens t = true → t.port = .saf →
      slot.toNat = k.val → pattern.toNat = pat.val → s.patterns[pat].steps ≠ [] → zones.getLsbD z.val = true →
      s.zones[z].excluded = false →
      ∃ u, exec (.alarmStart t slot pattern zones) s = .next u ∧ u.zones[z].owner = some (progOfSlot k) ∧ aborted u) ∧
    (∀ (t : Txn) (a : OpenArgs) (p : ProgId) (u : State), s.listens t = true → exec (.openProgram t a) s = .next u →
      u.zones[z].owner = some p → u.progs[p].cls ≤ 2 → aborted u)) ∧
  (∀ s : State,
    (∀ (t : Txn) (zones : ZoneSet), s.listens t = true → s.served = true →
      let run := exec (.surveyZone t zones) s
      let who : Requesters := ⟨t.port == .saf, t.port == .ann⟩
      let join := fun r : Requesters => (⟨r.saf || t.port == .saf, r.ann || t.port == .ann⟩ : Requesters)
      (t.port = .icm ∨ t.port = .shw → run = .next (s.replying t 8 0x70#8 .privilege [])) ∧
      (t.port = .saf ∨ t.port = .ann →
        (zones = 0#64 → run = .next (s.replying t 8 0x70#8 .param [])) ∧
        (zones ≠ 0#64 → ∀ z0 : Zone, s.survey.state ≠ .idle → s.survey.zone = some z0 →
          let fresh := (zonesOf zones).filter fun z => z ≠ z0 ∧ z ∉ s.survey.queue.map QueueEntry.zone
          let queue := (s.survey.queue.map fun e => if zones.getLsbD e.zone.val ∧ e.zone ≠ z0 then { e with ports := join e.ports } else e) ++
            fresh.map fun z => ⟨z, who⟩
          run = .next (State.replying { s with
            survey := { s.survey with
              queue := queue
              requesters := if zones.getLsbD z0.val then join s.survey.requesters else s.survey.requesters } }
            t 8 0x70#8 .ok (out8 fresh.length ++ out8 queue.length))) ∧
        (∀ z : Zone, zones = zoneBit z → s.survey.state = .idle → s.survey.zone = none → s.survey.queue = [] →
          ∃ u, run = .next u ∧ u.answered t 0x70#8 .ok [1#8, 1#8] ∧ u.survey.queue = [] ∧
            ((∀ c, s.ownerClass z = some c → 2 < c) →
              s.survey.began u.survey z who ∧ u.zones[z] = { s.zones[z] with underSurvey := true }) ∧
            (∀ c, s.ownerClass z = some c → c ≤ 2 →
              u.survey = s.survey ∧ u.zones[z] = { s.zones[z] with lastResult := some ⟨.skipped, none, false⟩ } ∧
              (u.port .saf).has .survey = true ∧ (u.port t.port).has .survey = true) ∧
            (∀ y : Zone, y ≠ z → u.zones[y] = s.zones[y]) ∧ u.progs = s.progs) ∧
        (zones ≠ 0#64 → s.survey.state = .idle → s.survey.zone = none → s.survey.queue = [] →
          let order := zonesOf zones
          let low := fun y : Zone => ∃ c, s.ownerClass y = some c ∧ c ≤ 2
          let skipped := fun y : Zone => { s.zones[y] with lastResult := some ⟨.skipped, none, false⟩ }
          ∃ u, run = .next u ∧ u.answered t 0x70#8 .ok (out8 order.length ++ out8 order.length) ∧ u.progs = s.progs ∧
            (∀ before z after, order = before ++ z :: after → (∀ y ∈ before, low y) → ¬low z →
              s.survey.began u.survey z who ∧ u.survey.queue = after.map (fun y => ⟨y, who⟩) ∧
              u.zones[z] = { s.zones[z] with underSurvey := true } ∧ (∀ y ∈ before, u.zones[y] = skipped y) ∧
              (∀ y : Zone, y ∉ before → y ≠ z → u.zones[y] = s.zones[y]) ∧
              (before ≠ [] → (u.port .saf).has .survey = true ∧ (u.port t.port).has .survey = true)) ∧
            ((∀ y ∈ order, low y) →
              u.survey = s.survey ∧ (∀ y : Zone, u.zones[y] = if zones.getLsbD y.val then skipped y else s.zones[y]) ∧
              (u.port .saf).has .survey = true ∧ (u.port t.port).has .survey = true)))) ∧
    (∀ a : AutoSetting, s.survey.autoTimer = some 0 → s.survey.auto = some a → s.survey.state = .idle →
      s.survey.zone = none → s.survey.queue = [] → s.served = true →
      let z := s.survey.cycle
      ∃ u, exec .autoSurveyIntervalExpiry s = .next u ∧ u.survey.cycle = s.survey.cycle + 1 ∧
        u.survey.autoTimer = some (48000 * (a.base * a.factor)) ∧ u.survey.queue = [] ∧ u.progs = s.progs ∧
        (∀ y : Zone, y ≠ z → u.zones[y] = s.zones[y]) ∧
        ((∀ c, s.ownerClass z = some c → 2 < c) →
          s.survey.began u.survey z ⟨false, false⟩ ∧ u.zones[z] = { s.zones[z] with underSurvey := true }) ∧
        (∀ c, s.ownerClass z = some c → c ≤ 2 →
          u.survey.state = .idle ∧ u.survey.zone = none ∧
          u.zones[z] = { s.zones[z] with lastResult := some ⟨.skipped, none, false⟩ } ∧
          (u.port .saf).has .survey = true)) ∧
    (∀ (a : AutoSetting) (z0 : Zone), s.survey.autoTimer = some 0 → s.survey.auto = some a → s.survey.state ≠ .idle →
      s.survey.zone = some z0 → s.served = true →
      exec .autoSurveyIntervalExpiry s = .next { s with
        survey := { s.survey with
          cycle := s.survey.cycle + 1
          autoTimer := some (48000 * (a.base * a.factor))
          queue := if s.survey.cycle = z0 ∨ s.survey.cycle ∈ s.survey.queue.map QueueEntry.zone then s.survey.queue
            else s.survey.queue ++ [⟨s.survey.cycle, ⟨false, false⟩⟩] } })) ∧
  (∀ (t : Txn) (zones : ZoneSet) (s : State), s.listens t = true → s.served = true → t.port = .icm ∨ t.port = .shw →
    exec (.surveyCancel t zones) s = .next (s.replying t 8 0x71#8 .privilege [])) ∧
  (∀ (t : Txn) (zones : ZoneSet) (s : State), s.listens t = true → s.served = true → t.port = .saf ∨ t.port = .ann →
    let left := s.survey.queue.filter fun e => !zones.getLsbD e.zone.val
    let removed := out8 (s.survey.queue.length - left.length)
    (zones = 0#64 → exec (.surveyCancel t zones) s = .next (s.replying t 8 0x71#8 .param [])) ∧
    (zones ≠ 0#64 → (∀ z0, s.survey.zone = some z0 → zones.getLsbD z0.val = false) →
      exec (.surveyCancel t zones) s =
        .next (State.replying { s with survey := { s.survey with queue := left } } t 8 0x71#8 .ok (removed ++ [0#8]))) ∧
    (∀ z0 : Zone, s.survey.zone = some z0 → zones.getLsbD z0.val = true → left = [] →
      ∃ u, exec (.surveyCancel t zones) s = .next u ∧ u.answered t 0x71#8 .ok (removed ++ [1#8]) ∧
        u.survey.state = .idle ∧ u.survey.zone = none ∧ u.survey.dwell = none ∧ u.survey.dwellExpired = false ∧
        u.survey.pgRunning = false ∧ u.survey.queue = [] ∧
        u.zones[z0] = { s.zones[z0] with lastResult := some ⟨.aborted, none, false⟩, underSurvey := false } ∧
        (∀ y : Zone, y ≠ z0 → u.zones[y] = s.zones[y]) ∧ u.progs = s.progs ∧
        (t.port ≠ .saf → (u.port .saf).has .survey = true) ∧
        (t.port ≠ .ann → s.survey.requesters.ann = true → (u.port .ann).has .survey = true) ∧
        (u.port t.port).notices = (s.port t.port).notices) ∧
    (∀ z0 : Zone, s.surveyLawful = true → s.survey.zone = some z0 → zones.getLsbD z0.val = true →
      let low := fun y : Zone => ∃ c, s.ownerClass y = some c ∧ c ≤ 2
      let skips := fun (u : State) (es : List QueueEntry) =>
        (∀ e ∈ es, u.zones[e.zone] = { s.zones[e.zone] with lastResult := some ⟨.skipped, none, false⟩ } ∧
          (e.ports.ann = true → (u.port .ann).has .survey = true)) ∧ (es ≠ [] → (u.port .saf).has .survey = true)
      ∃ u, exec (.surveyCancel t zones) s = .next u ∧ u.answered t 0x71#8 .ok (removed ++ [1#8]) ∧ u.progs = s.progs ∧
        u.zones[z0] = { s.zones[z0] with lastResult := some ⟨.aborted, none, false⟩, underSurvey := false } ∧
        (t.port ≠ .saf → (u.port .saf).has .survey = true) ∧
        (t.port ≠ .ann → s.survey.requesters.ann = true → (u.port .ann).has .survey = true) ∧
        (∀ before e after, left = before ++ e :: after → (∀ d ∈ before, low d.zone) → ¬low e.zone →
          s.survey.began u.survey e.zone e.ports ∧ u.survey.queue = after ∧ skips u before ∧
          u.zones[e.zone] = { s.zones[e.zone] with underSurvey := true } ∧
          (∀ y : Zone, y ≠ z0 → y ≠ e.zone → y ∉ before.map QueueEntry.zone → u.zones[y] = s.zones[y]) ∧
          (before = [] → (u.port t.port).notices = (s.port t.port).notices)) ∧
        ((∀ d ∈ left, low d.zone) →
          u.survey.state = .idle ∧ u.survey.zone = none ∧ u.survey.dwell = none ∧ u.survey.dwellExpired = false ∧
          u.survey.pgRunning = false ∧ u.survey.queue = [] ∧ skips u left ∧
          ∀ y : Zone, y ≠ z0 → y ∉ left.map QueueEntry.zone → u.zones[y] = s.zones[y])))

/-- SET_SURVEY_PARAMS: PRIVILEGE from another port than the safety port; PARAM, with no parameter changed, when a value lies
outside its range or a frequency is no multiple of 25; otherwise all nine take their values in one step, and a survey in
progress keeps its sweep copy (R199). SET_THRESHOLDS, SET_REFERENCE in its three forms, and SET_AUTO_SURVEY: PRIVILEGE from
another port than the safety port, PARAM and STATE as their rules give, without effect; otherwise the values take effect at
once, no line status changes, and nothing else does (R200 to R202). -/
def Obligations.TheSurveyIsSet : Prop :=
  (∀ (t : Txn) (a : RawSurveyParams) (s : State), s.listens t = true → s.served = true →
    let within := fun (lo x hi : Nat) => lo ≤ x ∧ x ≤ hi
    exec (.setSurveyParams t a) s = .next
      (if t.port ≠ .saf then s.replying t 16 0x72#8 .privilege []
       else if within 15000 a.fStart.toNat 21000 ∧ within (a.fStart.toNat + 500) a.fEnd.toNat 23000 ∧
           a.fStart.toNat % 25 = 0 ∧ a.fEnd.toNat % 25 = 0 ∧ within 1 a.coarse.toNat 10 ∧ within 1 a.blank.toNat 4 ∧
           within 4 a.coarseDwell.toNat 20 ∧ within 1 a.backstep.toNat 10 ∧ within 8 a.fineDwell.toNat 35 ∧
           within 1 a.confirm.toNat 5 ∧ within 64 a.pilot.toNat 2048 then
         State.replying { s with
           survey := { s.survey with
             params := ⟨a.fStart.toNat, a.fEnd.toNat, a.coarse.toNat, a.blank.toNat, a.coarseDwell.toNat, a.backstep.toNat,
               a.fineDwell.toNat, a.confirm.toNat⟩
             pilotLevel := a.pilot.toNat } } t 16 0x72#8 .ok []
       else s.replying t 16 0x72#8 .param [])) ∧
  (∀ (t : Txn) (openT shortT mag : BitVec 24) (tol freq : BitVec 16) (pct form base factor : Byte) (zones : ZoneSet) (s : State),
    s.listens t = true → s.served = true →
    (exec (.setThresholds t openT shortT tol pct) s = .next
      (if t.port ≠ .saf then s.replying t 9 0x73#8 .privilege []
       else if shortT.toNat ≤ 8388607 ∧ openT.toNat < shortT.toNat ∧ 25 ≤ tol.toNat ∧ tol.toNat ≤ 2000 ∧
           1 ≤ pct.toNat ∧ pct.toNat ≤ 100 then
         State.replying { s with
           survey := { s.survey with thresholds := ⟨openT.toNat, shortT.toNat, tol.toNat, pct.toNat⟩ } } t 9 0x73#8 .ok []
       else s.replying t 9 0x73#8 .param [])) ∧
    (let run := exec (.setReference t zones form freq mag) s
     let change := fun (f : ZoneRec → Option (Nat × Nat)) => State.replying { s with
       zones := remap s.zones fun z r => if zones.getLsbD z.val then { r with reference := f r } else r } t 14 0x74#8 .ok []
     (t.port ≠ .saf → run = .next (s.replying t 14 0x74#8 .privilege [])) ∧
     (t.port = .saf → zones = 0#64 ∨ 2 < form.toNat ∨
         (form = 0#8 ∧ (freq.toNat < 15000 ∨ 23000 < freq.toNat ∨ mag.toNat = 0 ∨ 8388607 < mag.toNat)) →
       run = .next (s.replying t 14 0x74#8 .param [])) ∧
     (t.port = .saf → zones ≠ 0#64 →
       (form = 0#8 → 15000 ≤ freq.toNat → freq.toNat ≤ 23000 → 1 ≤ mag.toNat → mag.toNat ≤ 8388607 →
         run = .next (change fun _ => some (freq.toNat, mag.toNat))) ∧
       (form = 1#8 →
         ((∃ z : Zone, zones.getLsbD z.val = true ∧
             ∀ x f m, s.zones[z].lastResult = some x → x.peak = some (f, m) → m = 0) →
           run = .next (s.replying t 14 0x74#8 .state [])) ∧
         ((∀ z : Zone, zones.getLsbD z.val = true →
             ∃ x f m, s.zones[z].lastResult = some x ∧ x.peak = some (f, m) ∧ 1 ≤ m) →
           run = .next (change fun r => r.lastResult.bind (·.peak)))) ∧
       (form = 2#8 → run = .next (change fun _ => none)))) ∧
    (exec (.setAutoSurvey t base factor) s = .next
      (if t.port ≠ .saf then s.replying t 2 0x75#8 .privilege []
       else if base = 0#8 then
         State.replying { s with survey := { s.survey with auto := none, autoTimer := none } } t 2 0x75#8 .ok
           (out8 s.survey.cycle.val)
       else if base.toNat ≤ 2 ∧ 1 ≤ factor.toNat ∧ factor.toNat ≤ 64 then
         let secs := if base = 1#8 then 1 else 16
         State.replying { s with
           survey := { s.survey with
             auto := some ⟨secs, factor.toNat⟩, autoTimer := some (48000 * (secs * factor.toNat)) } } t 2 0x75#8 .ok
           (out8 s.survey.cycle.val)
       else s.replying t 2 0x75#8 .param [])))

/-- COARSE_DWELL_EXPIRY takes the sense magnitude latched in the frame before: a blank reading is dropped, a higher one
becomes the maximum, an equal one keeps it, and the sweep goes on by the coarse increment inside the band; a lower one ends
the coarse phase, whose maximum is the coarse peak from above which the fine phase begins (R192 to R194). FINE_DWELL_EXPIRY:
the reading enters the fine maximum or the below count; below the confirm count and inside the band the sweep goes 25 Hz
down; otherwise the survey completes with the maximum as its peak, EDGE set where the band ended it, the zone's last result
and line status take the first outcome of R196 that holds, and LINE is raised on a change of status, SURVEY always (R194 to
R197). A coarse pass whose band is exhausted completes with its maximum as the peak, or without one, and is NO_PEAK unless
that peak is OPEN or SHORT (R193, R195, R196). A completion takes the queue on in the same step: zones of a low class at its
head are skipped, and the survey of the first other begins (R191, R195). The dwell that ends a survey has expired, which
reads show (R212). The pilot is a square wave of 8,388,607 while its generator runs, positive in the lower half of the
accumulator, and 0 otherwise (R192). -/
def Obligations.DwellsReadTheLine : Prop :=
  (∀ v : Survey, v.pilot =
    if v.pgRunning = false then 0 else if v.pgAcc.toNat < 8388608 then 8388607 else -8388607) ∧
  (∀ (s : State) (z : Zone), s.survey.state = .coarse → s.survey.zone = some z → s.survey.dwell = some 0 → s.served = true →
    let v := s.survey
    let r := s.lanes.senseBefore[z]
    let run := exec .coarseDwellExpiry s
    let onward := fun (m : Option (Nat × Nat)) => Host.Outcome.next { s with
      survey := { v with
        readings := v.readings + 1, maximum := m, pilotFreq := v.pilotFreq + v.sweep.coarse * 25
        dwell := some (48 * v.sweep.coarseDwell) } }
    (v.pilotFreq + v.sweep.coarse * 25 ≤ v.sweep.fEnd →
      (v.readings + 1 ≤ v.sweep.blank → run = onward v.maximum) ∧
      (v.sweep.blank < v.readings + 1 →
        (v.maximum = none → run = onward (some (r, v.pilotFreq))) ∧
        (∀ m, v.maximum = some m → m.1 < r → run = onward (some (r, v.pilotFreq))) ∧
        (∀ m, v.maximum = some m → m.1 = r → run = onward (some m)))) ∧
    (∀ m, v.sweep.blank < v.readings + 1 → v.maximum = some m → r < m.1 →
      run = .next { s with
        survey := { v with
          readings := v.readings + 1, state := .fine, coarsePeak := some m, maximum := none, below := 0
          pilotFreq := min 23000 (m.2 + v.sweep.backstep * 25), dwell := some (48 * v.sweep.fineDwell) } }) ∧
    (v.sweep.fEnd < v.pilotFreq + v.sweep.coarse * 25 → v.queue = [] → v.readings + 1 ≤ v.sweep.blank → v.maximum = none →
      ∃ u, run = .next u ∧ u.survey.state = .idle ∧ u.survey.pgRunning = false ∧ u.survey.dwell = none ∧
        u.survey.dwellExpired = true ∧
        u.zones[z] = { s.zones[z] with lastResult := some ⟨.noPeak, none, false⟩, lineStatus := .noPeak, underSurvey := false } ∧
        (u.port .saf).has .survey = true) ∧
    (∀ m : Nat × Nat, v.sweep.fEnd < v.pilotFreq + v.sweep.coarse * 25 → v.queue = [] →
      (v.readings + 1 ≤ v.sweep.blank ∧ v.maximum = some m ∨
        v.sweep.blank < v.readings + 1 ∧ m = (r, v.pilotFreq) ∧ (v.maximum = none ∨ ∃ x, v.maximum = some x ∧ x.1 < r) ∨
        v.sweep.blank < v.readings + 1 ∧ v.maximum = some m ∧ m.1 = r) →
      let o : LineOutcome :=
        if m.1 < v.thresholds.openT then .opened else if v.thresholds.shortT < m.1 then .shorted else .noPeak
      ∃ u, run = .next u ∧ u.survey.state = .idle ∧ u.survey.zone = none ∧ u.survey.dwell = none ∧
        u.survey.dwellExpired = true ∧ u.survey.pgRunning = false ∧
        u.zones[z] = { s.zones[z] with
          lastResult := some ⟨o, some (m.2, m.1), false⟩, lineStatus := o, underSurvey := false } ∧
        (∀ y : Zone, y ≠ z → u.zones[y] = s.zones[y]) ∧ u.progs = s.progs ∧
        (s.zones[z].lineStatus ≠ o → (u.port .saf).has .line = true ∧ (u.port .ann).has .line = true) ∧
        (u.port .saf).has .survey = true ∧ (v.requesters.ann = true → (u.port .ann).has .survey = true))) ∧
  (∀ (s : State) (z : Zone) (before : List QueueEntry) (e : QueueEntry) (after : List QueueEntry),
    s.survey.zone = some z → s.survey.dwell = some 0 → s.served = true →
    let v := s.survey
    let r := s.lanes.senseBefore[z]
    let low := fun y : Zone => ∃ c, s.ownerClass y = some c ∧ c ≤ 2
    v.queue = before ++ e :: after → (∀ x ∈ before, low x.zone) → ¬low e.zone → z ∉ v.queue.map QueueEntry.zone →
    let goesOn := fun u : State =>
      v.began u.survey e.zone e.ports ∧ u.survey.queue = after ∧ u.progs = s.progs ∧
      u.zones[e.zone] = { s.zones[e.zone] with underSurvey := true } ∧
      (∀ x ∈ before, u.zones[x.zone] = { s.zones[x.zone] with lastResult := some ⟨.skipped, none, false⟩ }) ∧
      u.zones[z].underSurvey = false ∧ (u.zones[z].lastResult.map (·.outcome)) = some u.zones[z].lineStatus ∧
      (∀ y : Zone, y ≠ z → y ≠ e.zone → y ∉ before.map QueueEntry.zone → u.zones[y] = s.zones[y]) ∧
      (u.port .saf).has .survey = true
    (v.state = .coarse → v.sweep.fEnd < v.pilotFreq + v.sweep.coarse * 25 →
      (v.sweep.blank < v.readings + 1 → ∀ m, v.maximum = some m → m.1 ≤ r) →
      ∃ u, exec .coarseDwellExpiry s = .next u ∧ goesOn u) ∧
    (v.state = .fine →
      (v.pilotFreq < v.sweep.fStart + 25 ∨ ∃ m, v.maximum = some m ∧ r < m.1 ∧ v.sweep.confirm ≤ v.below + 1) →
      ∃ u, exec .fineDwellExpiry s = .next u ∧ goesOn u)) ∧
  (∀ (s : State) (z : Zone), s.survey.state = .fine → s.survey.zone = some z → s.survey.dwell = some 0 → s.served = true →
    let v := s.survey
    let r := s.lanes.senseBefore[z]
    let run := exec .fineDwellExpiry s
    let higher := v.maximum = none ∨ ∃ m, v.maximum = some m ∧ m.1 < r
    ∀ (peak : Nat × Nat) (below : Nat),
      (higher ∧ peak = (r, v.pilotFreq) ∧ below = 0 ∨
        v.maximum = some peak ∧ r = peak.1 ∧ below = 0 ∨
        v.maximum = some peak ∧ r < peak.1 ∧ below = v.below + 1) →
      (below < v.sweep.confirm → v.sweep.fStart + 25 ≤ v.pilotFreq →
        run = .next { s with
          survey := { v with
            maximum := some peak, below := below, pilotFreq := v.pilotFreq - 25, dwell := some (48 * v.sweep.fineDwell) } }) ∧
      (v.sweep.confirm ≤ below ∨ v.pilotFreq < v.sweep.fStart + 25 → v.queue = [] →
        ∃ u o, run = .next u ∧ u.survey.state = .idle ∧ u.survey.zone = none ∧ u.survey.dwell = none ∧
          u.survey.dwellExpired = true ∧ u.survey.pgRunning = false ∧
          u.zones[z] = { s.zones[z] with
            lineStatus := o, underSurvey := false
            lastResult := some ⟨o, some (peak.2, peak.1), decide (below < v.sweep.confirm)⟩ } ∧
          (∀ y : Zone, y ≠ z → u.zones[y] = s.zones[y]) ∧ u.progs = s.progs ∧
          (let th := v.thresholds
           (peak.1 < th.openT → o = .opened) ∧
           (th.openT ≤ peak.1 → th.shortT < peak.1 → o = .shorted) ∧
           (th.openT ≤ peak.1 → peak.1 ≤ th.shortT →
             (s.zones[z].reference = none → o = .unreferenced) ∧
             (∀ f m, s.zones[z].reference = some (f, m) →
               o = if |(peak.2 : Int) - f| ≤ th.freqTol ∧ |(peak.1 : Int) - m| * 100 ≤ m * th.pct then .normal
                 else .degraded))) ∧
          (s.zones[z].lineStatus ≠ o → (u.port .saf).has .line = true ∧ (u.port .ann).has .line = true) ∧
          (u.port .saf).has .survey = true ∧
          (v.requesters.ann = true → (u.port .ann).has .survey = true)))
end

