-- ==== Sys2Proof/Laws/State.lean ====
section
/-! SUPPORT. Each field of the state after each named change of one record: the changed field is the change, every other field
is as before. -/

namespace Sys2Proof.Machine

@[simp] theorem State.onPort_pending (s : State) (p : Port) (f : PortCtl → PortCtl) : (s.onPort p f).pending = s.pending := rfl
@[simp] theorem State.onPort_ports (s : State) (p : Port) (f : PortCtl → PortCtl) : (s.onPort p f).ports = adjust s.ports (portIdx p) f := rfl
@[simp] theorem State.onPort_restartArmed (s : State) (p : Port) (f : PortCtl → PortCtl) : (s.onPort p f).restartArmed = s.restartArmed := rfl
@[simp] theorem State.onPort_resetCause (s : State) (p : Port) (f : PortCtl → PortCtl) : (s.onPort p f).resetCause = s.resetCause := rfl
@[simp] theorem State.onPort_resetLeft (s : State) (p : Port) (f : PortCtl → PortCtl) : (s.onPort p f).resetLeft = s.resetLeft := rfl
@[simp] theorem State.onPort_progs (s : State) (p : Port) (f : PortCtl → PortCtl) : (s.onPort p f).progs = s.progs := rfl
@[simp] theorem State.onPort_openOrder (s : State) (p : Port) (f : PortCtl → PortCtl) : (s.onPort p f).openOrder = s.openOrder := rfl
@[simp] theorem State.onPort_endOrder (s : State) (p : Port) (f : PortCtl → PortCtl) : (s.onPort p f).endOrder = s.endOrder := rfl
@[simp] theorem State.onPort_arrivals (s : State) (p : Port) (f : PortCtl → PortCtl) : (s.onPort p f).arrivals = s.arrivals := rfl
@[simp] theorem State.onPort_zones (s : State) (p : Port) (f : PortCtl → PortCtl) : (s.onPort p f).zones = s.zones := rfl
@[simp] theorem State.onPort_alarmUnder (s : State) (p : Port) (f : PortCtl → PortCtl) : (s.onPort p f).alarmUnder = s.alarmUnder := rfl
@[simp] theorem State.onPort_msFrames (s : State) (p : Port) (f : PortCtl → PortCtl) : (s.onPort p f).msFrames = s.msFrames := rfl
@[simp] theorem State.onPort_slots (s : State) (p : Port) (f : PortCtl → PortCtl) : (s.onPort p f).slots = s.slots := rfl
@[simp] theorem State.onPort_patterns (s : State) (p : Port) (f : PortCtl → PortCtl) : (s.onPort p f).patterns = s.patterns := rfl
@[simp] theorem State.onPort_tone (s : State) (p : Port) (f : PortCtl → PortCtl) : (s.onPort p f).tone = s.tone := rfl
@[simp] theorem State.onPort_voices (s : State) (p : Port) (f : PortCtl → PortCtl) : (s.onPort p f).voices = s.voices := rfl
@[simp] theorem State.onPort_ring (s : State) (p : Port) (f : PortCtl → PortCtl) : (s.onPort p f).ring = s.ring := rfl
@[simp] theorem State.onPort_windowMs (s : State) (p : Port) (f : PortCtl → PortCtl) : (s.onPort p f).windowMs = s.windowMs := rfl
@[simp] theorem State.onPort_clips (s : State) (p : Port) (f : PortCtl → PortCtl) : (s.onPort p f).clips = s.clips := rfl
@[simp] theorem State.onPort_chans (s : State) (p : Port) (f : PortCtl → PortCtl) : (s.onPort p f).chans = s.chans := rfl
@[simp] theorem State.onPort_stations (s : State) (p : Port) (f : PortCtl → PortCtl) : (s.onPort p f).stations = s.stations := rfl
@[simp] theorem State.onPort_calls (s : State) (p : Port) (f : PortCtl → PortCtl) : (s.onPort p f).calls = s.calls := rfl
@[simp] theorem State.onPort_callEnds (s : State) (p : Port) (f : PortCtl → PortCtl) : (s.onPort p f).callEnds = s.callEnds := rfl
@[simp] theorem State.onPort_cue (s : State) (p : Port) (f : PortCtl → PortCtl) : (s.onPort p f).cue = s.cue := rfl
@[simp] theorem State.onPort_survey (s : State) (p : Port) (f : PortCtl → PortCtl) : (s.onPort p f).survey = s.survey := rfl
@[simp] theorem State.onPort_lanes (s : State) (p : Port) (f : PortCtl → PortCtl) : (s.onPort p f).lanes = s.lanes := rfl

@[simp] theorem State.onProg_pending (s : State) (p : ProgId) (f : Program → Program) : (s.onProg p f).pending = s.pending := rfl
@[simp] theorem State.onProg_ports (s : State) (p : ProgId) (f : Program → Program) : (s.onProg p f).ports = s.ports := rfl
@[simp] theorem State.onProg_restartArmed (s : State) (p : ProgId) (f : Program → Program) : (s.onProg p f).restartArmed = s.restartArmed := rfl
@[simp] theorem State.onProg_resetCause (s : State) (p : ProgId) (f : Program → Program) : (s.onProg p f).resetCause = s.resetCause := rfl
@[simp] theorem State.onProg_resetLeft (s : State) (p : ProgId) (f : Program → Program) : (s.onProg p f).resetLeft = s.resetLeft := rfl
@[simp] theorem State.onProg_progs (s : State) (p : ProgId) (f : Program → Program) : (s.onProg p f).progs = adjust s.progs p f := rfl
@[simp] theorem State.onProg_openOrder (s : State) (p : ProgId) (f : Program → Program) : (s.onProg p f).openOrder = s.openOrder := rfl
@[simp] theorem State.onProg_endOrder (s : State) (p : ProgId) (f : Program → Program) : (s.onProg p f).endOrder = s.endOrder := rfl
@[simp] theorem State.onProg_arrivals (s : State) (p : ProgId) (f : Program → Program) : (s.onProg p f).arrivals = s.arrivals := rfl
@[simp] theorem State.onProg_zones (s : State) (p : ProgId) (f : Program → Program) : (s.onProg p f).zones = s.zones := rfl
@[simp] theorem State.onProg_alarmUnder (s : State) (p : ProgId) (f : Program → Program) : (s.onProg p f).alarmUnder = s.alarmUnder := rfl
@[simp] theorem State.onProg_msFrames (s : State) (p : ProgId) (f : Program → Program) : (s.onProg p f).msFrames = s.msFrames := rfl
@[simp] theorem State.onProg_slots (s : State) (p : ProgId) (f : Program → Program) : (s.onProg p f).slots = s.slots := rfl
@[simp] theorem State.onProg_patterns (s : State) (p : ProgId) (f : Program → Program) : (s.onProg p f).patterns = s.patterns := rfl
@[simp] theorem State.onProg_tone (s : State) (p : ProgId) (f : Program → Program) : (s.onProg p f).tone = s.tone := rfl
@[simp] theorem State.onProg_voices (s : State) (p : ProgId) (f : Program → Program) : (s.onProg p f).voices = s.voices := rfl
@[simp] theorem State.onProg_ring (s : State) (p : ProgId) (f : Program → Program) : (s.onProg p f).ring = s.ring := rfl
@[simp] theorem State.onProg_windowMs (s : State) (p : ProgId) (f : Program → Program) : (s.onProg p f).windowMs = s.windowMs := rfl
@[simp] theorem State.onProg_clips (s : State) (p : ProgId) (f : Program → Program) : (s.onProg p f).clips = s.clips := rfl
@[simp] theorem State.onProg_chans (s : State) (p : ProgId) (f : Program → Program) : (s.onProg p f).chans = s.chans := rfl
@[simp] theorem State.onProg_stations (s : State) (p : ProgId) (f : Program → Program) : (s.onProg p f).stations = s.stations := rfl
@[simp] theorem State.onProg_calls (s : State) (p : ProgId) (f : Program → Program) : (s.onProg p f).calls = s.calls := rfl
@[simp] theorem State.onProg_callEnds (s : State) (p : ProgId) (f : Program → Program) : (s.onProg p f).callEnds = s.callEnds := rfl
@[simp] theorem State.onProg_cue (s : State) (p : ProgId) (f : Program → Program) : (s.onProg p f).cue = s.cue := rfl
@[simp] theorem State.onProg_survey (s : State) (p : ProgId) (f : Program → Program) : (s.onProg p f).survey = s.survey := rfl
@[simp] theorem State.onProg_lanes (s : State) (p : ProgId) (f : Program → Program) : (s.onProg p f).lanes = s.lanes := rfl

@[simp] theorem State.onZone_pending (s : State) (z : Zone) (f : ZoneRec → ZoneRec) : (s.onZone z f).pending = s.pending := rfl
@[simp] theorem State.onZone_ports (s : State) (z : Zone) (f : ZoneRec → ZoneRec) : (s.onZone z f).ports = s.ports := rfl
@[simp] theorem State.onZone_restartArmed (s : State) (z : Zone) (f : ZoneRec → ZoneRec) : (s.onZone z f).restartArmed = s.restartArmed := rfl
@[simp] theorem State.onZone_resetCause (s : State) (z : Zone) (f : ZoneRec → ZoneRec) : (s.onZone z f).resetCause = s.resetCause := rfl
@[simp] theorem State.onZone_resetLeft (s : State) (z : Zone) (f : ZoneRec → ZoneRec) : (s.onZone z f).resetLeft = s.resetLeft := rfl
@[simp] theorem State.onZone_progs (s : State) (z : Zone) (f : ZoneRec → ZoneRec) : (s.onZone z f).progs = s.progs := rfl
@[simp] theorem State.onZone_openOrder (s : State) (z : Zone) (f : ZoneRec → ZoneRec) : (s.onZone z f).openOrder = s.openOrder := rfl
@[simp] theorem State.onZone_endOrder (s : State) (z : Zone) (f : ZoneRec → ZoneRec) : (s.onZone z f).endOrder = s.endOrder := rfl
@[simp] theorem State.onZone_arrivals (s : State) (z : Zone) (f : ZoneRec → ZoneRec) : (s.onZone z f).arrivals = s.arrivals := rfl
@[simp] theorem State.onZone_zones (s : State) (z : Zone) (f : ZoneRec → ZoneRec) : (s.onZone z f).zones = adjust s.zones z f := rfl
@[simp] theorem State.onZone_alarmUnder (s : State) (z : Zone) (f : ZoneRec → ZoneRec) : (s.onZone z f).alarmUnder = s.alarmUnder := rfl
@[simp] theorem State.onZone_msFrames (s : State) (z : Zone) (f : ZoneRec → ZoneRec) : (s.onZone z f).msFrames = s.msFrames := rfl
@[simp] theorem State.onZone_slots (s : State) (z : Zone) (f : ZoneRec → ZoneRec) : (s.onZone z f).slots = s.slots := rfl
@[simp] theorem State.onZone_patterns (s : State) (z : Zone) (f : ZoneRec → ZoneRec) : (s.onZone z f).patterns = s.patterns := rfl
@[simp] theorem State.onZone_tone (s : State) (z : Zone) (f : ZoneRec → ZoneRec) : (s.onZone z f).tone = s.tone := rfl
@[simp] theorem State.onZone_voices (s : State) (z : Zone) (f : ZoneRec → ZoneRec) : (s.onZone z f).voices = s.voices := rfl
@[simp] theorem State.onZone_ring (s : State) (z : Zone) (f : ZoneRec → ZoneRec) : (s.onZone z f).ring = s.ring := rfl
@[simp] theorem State.onZone_windowMs (s : State) (z : Zone) (f : ZoneRec → ZoneRec) : (s.onZone z f).windowMs = s.windowMs := rfl
@[simp] theorem State.onZone_clips (s : State) (z : Zone) (f : ZoneRec → ZoneRec) : (s.onZone z f).clips = s.clips := rfl
@[simp] theorem State.onZone_chans (s : State) (z : Zone) (f : ZoneRec → ZoneRec) : (s.onZone z f).chans = s.chans := rfl
@[simp] theorem State.onZone_stations (s : State) (z : Zone) (f : ZoneRec → ZoneRec) : (s.onZone z f).stations = s.stations := rfl
@[simp] theorem State.onZone_calls (s : State) (z : Zone) (f : ZoneRec → ZoneRec) : (s.onZone z f).calls = s.calls := rfl
@[simp] theorem State.onZone_callEnds (s : State) (z : Zone) (f : ZoneRec → ZoneRec) : (s.onZone z f).callEnds = s.callEnds := rfl
@[simp] theorem State.onZone_cue (s : State) (z : Zone) (f : ZoneRec → ZoneRec) : (s.onZone z f).cue = s.cue := rfl
@[simp] theorem State.onZone_survey (s : State) (z : Zone) (f : ZoneRec → ZoneRec) : (s.onZone z f).survey = s.survey := rfl
@[simp] theorem State.onZone_lanes (s : State) (z : Zone) (f : ZoneRec → ZoneRec) : (s.onZone z f).lanes = s.lanes := rfl

@[simp] theorem State.onZones_pending (s : State) (zs : ZoneSet) (f : ZoneRec → ZoneRec) : (s.onZones zs f).pending = s.pending := rfl
@[simp] theorem State.onZones_ports (s : State) (zs : ZoneSet) (f : ZoneRec → ZoneRec) : (s.onZones zs f).ports = s.ports := rfl
@[simp] theorem State.onZones_restartArmed (s : State) (zs : ZoneSet) (f : ZoneRec → ZoneRec) : (s.onZones zs f).restartArmed = s.restartArmed := rfl
@[simp] theorem State.onZones_resetCause (s : State) (zs : ZoneSet) (f : ZoneRec → ZoneRec) : (s.onZones zs f).resetCause = s.resetCause := rfl
@[simp] theorem State.onZones_resetLeft (s : State) (zs : ZoneSet) (f : ZoneRec → ZoneRec) : (s.onZones zs f).resetLeft = s.resetLeft := rfl
@[simp] theorem State.onZones_progs (s : State) (zs : ZoneSet) (f : ZoneRec → ZoneRec) : (s.onZones zs f).progs = s.progs := rfl
@[simp] theorem State.onZones_openOrder (s : State) (zs : ZoneSet) (f : ZoneRec → ZoneRec) : (s.onZones zs f).openOrder = s.openOrder := rfl
@[simp] theorem State.onZones_endOrder (s : State) (zs : ZoneSet) (f : ZoneRec → ZoneRec) : (s.onZones zs f).endOrder = s.endOrder := rfl
@[simp] theorem State.onZones_arrivals (s : State) (zs : ZoneSet) (f : ZoneRec → ZoneRec) : (s.onZones zs f).arrivals = s.arrivals := rfl
@[simp] theorem State.onZones_zones (s : State) (zs : ZoneSet) (f : ZoneRec → ZoneRec) : (s.onZones zs f).zones = remap s.zones fun z r => if zs.getLsbD z.val then f r else r := rfl
@[simp] theorem State.onZones_alarmUnder (s : State) (zs : ZoneSet) (f : ZoneRec → ZoneRec) : (s.onZones zs f).alarmUnder = s.alarmUnder := rfl
@[simp] theorem State.onZones_msFrames (s : State) (zs : ZoneSet) (f : ZoneRec → ZoneRec) : (s.onZones zs f).msFrames = s.msFrames := rfl
@[simp] theorem State.onZones_slots (s : State) (zs : ZoneSet) (f : ZoneRec → ZoneRec) : (s.onZones zs f).slots = s.slots := rfl
@[simp] theorem State.onZones_patterns (s : State) (zs : ZoneSet) (f : ZoneRec → ZoneRec) : (s.onZones zs f).patterns = s.patterns := rfl
@[simp] theorem State.onZones_tone (s : State) (zs : ZoneSet) (f : ZoneRec → ZoneRec) : (s.onZones zs f).tone = s.tone := rfl
@[simp] theorem State.onZones_voices (s : State) (zs : ZoneSet) (f : ZoneRec → ZoneRec) : (s.onZones zs f).voices = s.voices := rfl
@[simp] theorem State.onZones_ring (s : State) (zs : ZoneSet) (f : ZoneRec → ZoneRec) : (s.onZones zs f).ring = s.ring := rfl
@[simp] theorem State.onZones_windowMs (s : State) (zs : ZoneSet) (f : ZoneRec → ZoneRec) : (s.onZones zs f).windowMs = s.windowMs := rfl
@[simp] theorem State.onZones_clips (s : State) (zs : ZoneSet) (f : ZoneRec → ZoneRec) : (s.onZones zs f).clips = s.clips := rfl
@[simp] theorem State.onZones_chans (s : State) (zs : ZoneSet) (f : ZoneRec → ZoneRec) : (s.onZones zs f).chans = s.chans := rfl
@[simp] theorem State.onZones_stations (s : State) (zs : ZoneSet) (f : ZoneRec → ZoneRec) : (s.onZones zs f).stations = s.stations := rfl
@[simp] theorem State.onZones_calls (s : State) (zs : ZoneSet) (f : ZoneRec → ZoneRec) : (s.onZones zs f).calls = s.calls := rfl
@[simp] theorem State.onZones_callEnds (s : State) (zs : ZoneSet) (f : ZoneRec → ZoneRec) : (s.onZones zs f).callEnds = s.callEnds := rfl
@[simp] theorem State.onZones_cue (s : State) (zs : ZoneSet) (f : ZoneRec → ZoneRec) : (s.onZones zs f).cue = s.cue := rfl
@[simp] theorem State.onZones_survey (s : State) (zs : ZoneSet) (f : ZoneRec → ZoneRec) : (s.onZones zs f).survey = s.survey := rfl
@[simp] theorem State.onZones_lanes (s : State) (zs : ZoneSet) (f : ZoneRec → ZoneRec) : (s.onZones zs f).lanes = s.lanes := rfl

@[simp] theorem State.onSlot_pending (s : State) (k : Fin 2) (f : AlarmSlot → AlarmSlot) : (s.onSlot k f).pending = s.pending := rfl
@[simp] theorem State.onSlot_ports (s : State) (k : Fin 2) (f : AlarmSlot → AlarmSlot) : (s.onSlot k f).ports = s.ports := rfl
@[simp] theorem State.onSlot_restartArmed (s : State) (k : Fin 2) (f : AlarmSlot → AlarmSlot) : (s.onSlot k f).restartArmed = s.restartArmed := rfl
@[simp] theorem State.onSlot_resetCause (s : State) (k : Fin 2) (f : AlarmSlot → AlarmSlot) : (s.onSlot k f).resetCause = s.resetCause := rfl
@[simp] theorem State.onSlot_resetLeft (s : State) (k : Fin 2) (f : AlarmSlot → AlarmSlot) : (s.onSlot k f).resetLeft = s.resetLeft := rfl
@[simp] theorem State.onSlot_progs (s : State) (k : Fin 2) (f : AlarmSlot → AlarmSlot) : (s.onSlot k f).progs = s.progs := rfl
@[simp] theorem State.onSlot_openOrder (s : State) (k : Fin 2) (f : AlarmSlot → AlarmSlot) : (s.onSlot k f).openOrder = s.openOrder := rfl
@[simp] theorem State.onSlot_endOrder (s : State) (k : Fin 2) (f : AlarmSlot → AlarmSlot) : (s.onSlot k f).endOrder = s.endOrder := rfl
@[simp] theorem State.onSlot_arrivals (s : State) (k : Fin 2) (f : AlarmSlot → AlarmSlot) : (s.onSlot k f).arrivals = s.arrivals := rfl
@[simp] theorem State.onSlot_zones (s : State) (k : Fin 2) (f : AlarmSlot → AlarmSlot) : (s.onSlot k f).zones = s.zones := rfl
@[simp] theorem State.onSlot_alarmUnder (s : State) (k : Fin 2) (f : AlarmSlot → AlarmSlot) : (s.onSlot k f).alarmUnder = s.alarmUnder := rfl
@[simp] theorem State.onSlot_msFrames (s : State) (k : Fin 2) (f : AlarmSlot → AlarmSlot) : (s.onSlot k f).msFrames = s.msFrames := rfl
@[simp] theorem State.onSlot_slots (s : State) (k : Fin 2) (f : AlarmSlot → AlarmSlot) : (s.onSlot k f).slots = adjust s.slots k f := rfl
@[simp] theorem State.onSlot_patterns (s : State) (k : Fin 2) (f : AlarmSlot → AlarmSlot) : (s.onSlot k f).patterns = s.patterns := rfl
@[simp] theorem State.onSlot_tone (s : State) (k : Fin 2) (f : AlarmSlot → AlarmSlot) : (s.onSlot k f).tone = s.tone := rfl
@[simp] theorem State.onSlot_voices (s : State) (k : Fin 2) (f : AlarmSlot → AlarmSlot) : (s.onSlot k f).voices = s.voices := rfl
@[simp] theorem State.onSlot_ring (s : State) (k : Fin 2) (f : AlarmSlot → AlarmSlot) : (s.onSlot k f).ring = s.ring := rfl
@[simp] theorem State.onSlot_windowMs (s : State) (k : Fin 2) (f : AlarmSlot → AlarmSlot) : (s.onSlot k f).windowMs = s.windowMs := rfl
@[simp] theorem State.onSlot_clips (s : State) (k : Fin 2) (f : AlarmSlot → AlarmSlot) : (s.onSlot k f).clips = s.clips := rfl
@[simp] theorem State.onSlot_chans (s : State) (k : Fin 2) (f : AlarmSlot → AlarmSlot) : (s.onSlot k f).chans = s.chans := rfl
@[simp] theorem State.onSlot_stations (s : State) (k : Fin 2) (f : AlarmSlot → AlarmSlot) : (s.onSlot k f).stations = s.stations := rfl
@[simp] theorem State.onSlot_calls (s : State) (k : Fin 2) (f : AlarmSlot → AlarmSlot) : (s.onSlot k f).calls = s.calls := rfl
@[simp] theorem State.onSlot_callEnds (s : State) (k : Fin 2) (f : AlarmSlot → AlarmSlot) : (s.onSlot k f).callEnds = s.callEnds := rfl
@[simp] theorem State.onSlot_cue (s : State) (k : Fin 2) (f : AlarmSlot → AlarmSlot) : (s.onSlot k f).cue = s.cue := rfl
@[simp] theorem State.onSlot_survey (s : State) (k : Fin 2) (f : AlarmSlot → AlarmSlot) : (s.onSlot k f).survey = s.survey := rfl
@[simp] theorem State.onSlot_lanes (s : State) (k : Fin 2) (f : AlarmSlot → AlarmSlot) : (s.onSlot k f).lanes = s.lanes := rfl

@[simp] theorem State.onTone_pending (s : State) (k : Fin 2) (f : Player → Player) : (s.onTone k f).pending = s.pending := rfl
@[simp] theorem State.onTone_ports (s : State) (k : Fin 2) (f : Player → Player) : (s.onTone k f).ports = s.ports := rfl
@[simp] theorem State.onTone_restartArmed (s : State) (k : Fin 2) (f : Player → Player) : (s.onTone k f).restartArmed = s.restartArmed := rfl
@[simp] theorem State.onTone_resetCause (s : State) (k : Fin 2) (f : Player → Player) : (s.onTone k f).resetCause = s.resetCause := rfl
@[simp] theorem State.onTone_resetLeft (s : State) (k : Fin 2) (f : Player → Player) : (s.onTone k f).resetLeft = s.resetLeft := rfl
@[simp] theorem State.onTone_progs (s : State) (k : Fin 2) (f : Player → Player) : (s.onTone k f).progs = s.progs := rfl
@[simp] theorem State.onTone_openOrder (s : State) (k : Fin 2) (f : Player → Player) : (s.onTone k f).openOrder = s.openOrder := rfl
@[simp] theorem State.onTone_endOrder (s : State) (k : Fin 2) (f : Player → Player) : (s.onTone k f).endOrder = s.endOrder := rfl
@[simp] theorem State.onTone_arrivals (s : State) (k : Fin 2) (f : Player → Player) : (s.onTone k f).arrivals = s.arrivals := rfl
@[simp] theorem State.onTone_zones (s : State) (k : Fin 2) (f : Player → Player) : (s.onTone k f).zones = s.zones := rfl
@[simp] theorem State.onTone_alarmUnder (s : State) (k : Fin 2) (f : Player → Player) : (s.onTone k f).alarmUnder = s.alarmUnder := rfl
@[simp] theorem State.onTone_msFrames (s : State) (k : Fin 2) (f : Player → Player) : (s.onTone k f).msFrames = s.msFrames := rfl
@[simp] theorem State.onTone_slots (s : State) (k : Fin 2) (f : Player → Player) : (s.onTone k f).slots = s.slots := rfl
@[simp] theorem State.onTone_patterns (s : State) (k : Fin 2) (f : Player → Player) : (s.onTone k f).patterns = s.patterns := rfl
@[simp] theorem State.onTone_tone (s : State) (k : Fin 2) (f : Player → Player) : (s.onTone k f).tone = adjust s.tone k f := rfl
@[simp] theorem State.onTone_voices (s : State) (k : Fin 2) (f : Player → Player) : (s.onTone k f).voices = s.voices := rfl
@[simp] theorem State.onTone_ring (s : State) (k : Fin 2) (f : Player → Player) : (s.onTone k f).ring = s.ring := rfl
@[simp] theorem State.onTone_windowMs (s : State) (k : Fin 2) (f : Player → Player) : (s.onTone k f).windowMs = s.windowMs := rfl
@[simp] theorem State.onTone_clips (s : State) (k : Fin 2) (f : Player → Player) : (s.onTone k f).clips = s.clips := rfl
@[simp] theorem State.onTone_chans (s : State) (k : Fin 2) (f : Player → Player) : (s.onTone k f).chans = s.chans := rfl
@[simp] theorem State.onTone_stations (s : State) (k : Fin 2) (f : Player → Player) : (s.onTone k f).stations = s.stations := rfl
@[simp] theorem State.onTone_calls (s : State) (k : Fin 2) (f : Player → Player) : (s.onTone k f).calls = s.calls := rfl
@[simp] theorem State.onTone_callEnds (s : State) (k : Fin 2) (f : Player → Player) : (s.onTone k f).callEnds = s.callEnds := rfl
@[simp] theorem State.onTone_cue (s : State) (k : Fin 2) (f : Player → Player) : (s.onTone k f).cue = s.cue := rfl
@[simp] theorem State.onTone_survey (s : State) (k : Fin 2) (f : Player → Player) : (s.onTone k f).survey = s.survey := rfl
@[simp] theorem State.onTone_lanes (s : State) (k : Fin 2) (f : Player → Player) : (s.onTone k f).lanes = s.lanes := rfl

@[simp] theorem State.onVoice_pending (s : State) (v : Fin 4) (f : ChimeVoice → ChimeVoice) : (s.onVoice v f).pending = s.pending := rfl
@[simp] theorem State.onVoice_ports (s : State) (v : Fin 4) (f : ChimeVoice → ChimeVoice) : (s.onVoice v f).ports = s.ports := rfl
@[simp] theorem State.onVoice_restartArmed (s : State) (v : Fin 4) (f : ChimeVoice → ChimeVoice) : (s.onVoice v f).restartArmed = s.restartArmed := rfl
@[simp] theorem State.onVoice_resetCause (s : State) (v : Fin 4) (f : ChimeVoice → ChimeVoice) : (s.onVoice v f).resetCause = s.resetCause := rfl
@[simp] theorem State.onVoice_resetLeft (s : State) (v : Fin 4) (f : ChimeVoice → ChimeVoice) : (s.onVoice v f).resetLeft = s.resetLeft := rfl
@[simp] theorem State.onVoice_progs (s : State) (v : Fin 4) (f : ChimeVoice → ChimeVoice) : (s.onVoice v f).progs = s.progs := rfl
@[simp] theorem State.onVoice_openOrder (s : State) (v : Fin 4) (f : ChimeVoice → ChimeVoice) : (s.onVoice v f).openOrder = s.openOrder := rfl
@[simp] theorem State.onVoice_endOrder (s : State) (v : Fin 4) (f : ChimeVoice → ChimeVoice) : (s.onVoice v f).endOrder = s.endOrder := rfl
@[simp] theorem State.onVoice_arrivals (s : State) (v : Fin 4) (f : ChimeVoice → ChimeVoice) : (s.onVoice v f).arrivals = s.arrivals := rfl
@[simp] theorem State.onVoice_zones (s : State) (v : Fin 4) (f : ChimeVoice → ChimeVoice) : (s.onVoice v f).zones = s.zones := rfl
@[simp] theorem State.onVoice_alarmUnder (s : State) (v : Fin 4) (f : ChimeVoice → ChimeVoice) : (s.onVoice v f).alarmUnder = s.alarmUnder := rfl
@[simp] theorem State.onVoice_msFrames (s : State) (v : Fin 4) (f : ChimeVoice → ChimeVoice) : (s.onVoice v f).msFrames = s.msFrames := rfl
@[simp] theorem State.onVoice_slots (s : State) (v : Fin 4) (f : ChimeVoice → ChimeVoice) : (s.onVoice v f).slots = s.slots := rfl
@[simp] theorem State.onVoice_patterns (s : State) (v : Fin 4) (f : ChimeVoice → ChimeVoice) : (s.onVoice v f).patterns = s.patterns := rfl
@[simp] theorem State.onVoice_tone (s : State) (v : Fin 4) (f : ChimeVoice → ChimeVoice) : (s.onVoice v f).tone = s.tone := rfl
@[simp] theorem State.onVoice_voices (s : State) (v : Fin 4) (f : ChimeVoice → ChimeVoice) : (s.onVoice v f).voices = adjust s.voices v f := rfl
@[simp] theorem State.onVoice_ring (s : State) (v : Fin 4) (f : ChimeVoice → ChimeVoice) : (s.onVoice v f).ring = s.ring := rfl
@[simp] theorem State.onVoice_windowMs (s : State) (v : Fin 4) (f : ChimeVoice → ChimeVoice) : (s.onVoice v f).windowMs = s.windowMs := rfl
@[simp] theorem State.onVoice_clips (s : State) (v : Fin 4) (f : ChimeVoice → ChimeVoice) : (s.onVoice v f).clips = s.clips := rfl
@[simp] theorem State.onVoice_chans (s : State) (v : Fin 4) (f : ChimeVoice → ChimeVoice) : (s.onVoice v f).chans = s.chans := rfl
@[simp] theorem State.onVoice_stations (s : State) (v : Fin 4) (f : ChimeVoice → ChimeVoice) : (s.onVoice v f).stations = s.stations := rfl
@[simp] theorem State.onVoice_calls (s : State) (v : Fin 4) (f : ChimeVoice → ChimeVoice) : (s.onVoice v f).calls = s.calls := rfl
@[simp] theorem State.onVoice_callEnds (s : State) (v : Fin 4) (f : ChimeVoice → ChimeVoice) : (s.onVoice v f).callEnds = s.callEnds := rfl
@[simp] theorem State.onVoice_cue (s : State) (v : Fin 4) (f : ChimeVoice → ChimeVoice) : (s.onVoice v f).cue = s.cue := rfl
@[simp] theorem State.onVoice_survey (s : State) (v : Fin 4) (f : ChimeVoice → ChimeVoice) : (s.onVoice v f).survey = s.survey := rfl
@[simp] theorem State.onVoice_lanes (s : State) (v : Fin 4) (f : ChimeVoice → ChimeVoice) : (s.onVoice v f).lanes = s.lanes := rfl

@[simp] theorem State.onChan_pending (s : State) (c : ChanId) (f : Channel → Channel) : (s.onChan c f).pending = s.pending := rfl
@[simp] theorem State.onChan_ports (s : State) (c : ChanId) (f : Channel → Channel) : (s.onChan c f).ports = s.ports := rfl
@[simp] theorem State.onChan_restartArmed (s : State) (c : ChanId) (f : Channel → Channel) : (s.onChan c f).restartArmed = s.restartArmed := rfl
@[simp] theorem State.onChan_resetCause (s : State) (c : ChanId) (f : Channel → Channel) : (s.onChan c f).resetCause = s.resetCause := rfl
@[simp] theorem State.onChan_resetLeft (s : State) (c : ChanId) (f : Channel → Channel) : (s.onChan c f).resetLeft = s.resetLeft := rfl
@[simp] theorem State.onChan_progs (s : State) (c : ChanId) (f : Channel → Channel) : (s.onChan c f).progs = s.progs := rfl
@[simp] theorem State.onChan_openOrder (s : State) (c : ChanId) (f : Channel → Channel) : (s.onChan c f).openOrder = s.openOrder := rfl
@[simp] theorem State.onChan_endOrder (s : State) (c : ChanId) (f : Channel → Channel) : (s.onChan c f).endOrder = s.endOrder := rfl
@[simp] theorem State.onChan_arrivals (s : State) (c : ChanId) (f : Channel → Channel) : (s.onChan c f).arrivals = s.arrivals := rfl
@[simp] theorem State.onChan_zones (s : State) (c : ChanId) (f : Channel → Channel) : (s.onChan c f).zones = s.zones := rfl
@[simp] theorem State.onChan_alarmUnder (s : State) (c : ChanId) (f : Channel → Channel) : (s.onChan c f).alarmUnder = s.alarmUnder := rfl
@[simp] theorem State.onChan_msFrames (s : State) (c : ChanId) (f : Channel → Channel) : (s.onChan c f).msFrames = s.msFrames := rfl
@[simp] theorem State.onChan_slots (s : State) (c : ChanId) (f : Channel → Channel) : (s.onChan c f).slots = s.slots := rfl
@[simp] theorem State.onChan_patterns (s : State) (c : ChanId) (f : Channel → Channel) : (s.onChan c f).patterns = s.patterns := rfl
@[simp] theorem State.onChan_tone (s : State) (c : ChanId) (f : Channel → Channel) : (s.onChan c f).tone = s.tone := rfl
@[simp] theorem State.onChan_voices (s : State) (c : ChanId) (f : Channel → Channel) : (s.onChan c f).voices = s.voices := rfl
@[simp] theorem State.onChan_ring (s : State) (c : ChanId) (f : Channel → Channel) : (s.onChan c f).ring = s.ring := rfl
@[simp] theorem State.onChan_windowMs (s : State) (c : ChanId) (f : Channel → Channel) : (s.onChan c f).windowMs = s.windowMs := rfl
@[simp] theorem State.onChan_clips (s : State) (c : ChanId) (f : Channel → Channel) : (s.onChan c f).clips = s.clips := rfl
@[simp] theorem State.onChan_chans (s : State) (c : ChanId) (f : Channel → Channel) : (s.onChan c f).chans = adjust s.chans c f := rfl
@[simp] theorem State.onChan_stations (s : State) (c : ChanId) (f : Channel → Channel) : (s.onChan c f).stations = s.stations := rfl
@[simp] theorem State.onChan_calls (s : State) (c : ChanId) (f : Channel → Channel) : (s.onChan c f).calls = s.calls := rfl
@[simp] theorem State.onChan_callEnds (s : State) (c : ChanId) (f : Channel → Channel) : (s.onChan c f).callEnds = s.callEnds := rfl
@[simp] theorem State.onChan_cue (s : State) (c : ChanId) (f : Channel → Channel) : (s.onChan c f).cue = s.cue := rfl
@[simp] theorem State.onChan_survey (s : State) (c : ChanId) (f : Channel → Channel) : (s.onChan c f).survey = s.survey := rfl
@[simp] theorem State.onChan_lanes (s : State) (c : ChanId) (f : Channel → Channel) : (s.onChan c f).lanes = s.lanes := rfl

@[simp] theorem State.onStation_pending (s : State) (a : StationId) (f : Station → Station) : (s.onStation a f).pending = s.pending := rfl
@[simp] theorem State.onStation_ports (s : State) (a : StationId) (f : Station → Station) : (s.onStation a f).ports = s.ports := rfl
@[simp] theorem State.onStation_restartArmed (s : State) (a : StationId) (f : Station → Station) : (s.onStation a f).restartArmed = s.restartArmed := rfl
@[simp] theorem State.onStation_resetCause (s : State) (a : StationId) (f : Station → Station) : (s.onStation a f).resetCause = s.resetCause := rfl
@[simp] theorem State.onStation_resetLeft (s : State) (a : StationId) (f : Station → Station) : (s.onStation a f).resetLeft = s.resetLeft := rfl
@[simp] theorem State.onStation_progs (s : State) (a : StationId) (f : Station → Station) : (s.onStation a f).progs = s.progs := rfl
@[simp] theorem State.onStation_openOrder (s : State) (a : StationId) (f : Station → Station) : (s.onStation a f).openOrder = s.openOrder := rfl
@[simp] theorem State.onStation_endOrder (s : State) (a : StationId) (f : Station → Station) : (s.onStation a f).endOrder = s.endOrder := rfl
@[simp] theorem State.onStation_arrivals (s : State) (a : StationId) (f : Station → Station) : (s.onStation a f).arrivals = s.arrivals := rfl
@[simp] theorem State.onStation_zones (s : State) (a : StationId) (f : Station → Station) : (s.onStation a f).zones = s.zones := rfl
@[simp] theorem State.onStation_alarmUnder (s : State) (a : StationId) (f : Station → Station) : (s.onStation a f).alarmUnder = s.alarmUnder := rfl
@[simp] theorem State.onStation_msFrames (s : State) (a : StationId) (f : Station → Station) : (s.onStation a f).msFrames = s.msFrames := rfl
@[simp] theorem State.onStation_slots (s : State) (a : StationId) (f : Station → Station) : (s.onStation a f).slots = s.slots := rfl
@[simp] theorem State.onStation_patterns (s : State) (a : StationId) (f : Station → Station) : (s.onStation a f).patterns = s.patterns := rfl
@[simp] theorem State.onStation_tone (s : State) (a : StationId) (f : Station → Station) : (s.onStation a f).tone = s.tone := rfl
@[simp] theorem State.onStation_voices (s : State) (a : StationId) (f : Station → Station) : (s.onStation a f).voices = s.voices := rfl
@[simp] theorem State.onStation_ring (s : State) (a : StationId) (f : Station → Station) : (s.onStation a f).ring = s.ring := rfl
@[simp] theorem State.onStation_windowMs (s : State) (a : StationId) (f : Station → Station) : (s.onStation a f).windowMs = s.windowMs := rfl
@[simp] theorem State.onStation_clips (s : State) (a : StationId) (f : Station → Station) : (s.onStation a f).clips = s.clips := rfl
@[simp] theorem State.onStation_chans (s : State) (a : StationId) (f : Station → Station) : (s.onStation a f).chans = s.chans := rfl
@[simp] theorem State.onStation_stations (s : State) (a : StationId) (f : Station → Station) : (s.onStation a f).stations = adjust s.stations a f := rfl
@[simp] theorem State.onStation_calls (s : State) (a : StationId) (f : Station → Station) : (s.onStation a f).calls = s.calls := rfl
@[simp] theorem State.onStation_callEnds (s : State) (a : StationId) (f : Station → Station) : (s.onStation a f).callEnds = s.callEnds := rfl
@[simp] theorem State.onStation_cue (s : State) (a : StationId) (f : Station → Station) : (s.onStation a f).cue = s.cue := rfl
@[simp] theorem State.onStation_survey (s : State) (a : StationId) (f : Station → Station) : (s.onStation a f).survey = s.survey := rfl
@[simp] theorem State.onStation_lanes (s : State) (a : StationId) (f : Station → Station) : (s.onStation a f).lanes = s.lanes := rfl

@[simp] theorem State.onCall_pending (s : State) (x : CallId) (f : Call → Call) : (s.onCall x f).pending = s.pending := rfl
@[simp] theorem State.onCall_ports (s : State) (x : CallId) (f : Call → Call) : (s.onCall x f).ports = s.ports := rfl
@[simp] theorem State.onCall_restartArmed (s : State) (x : CallId) (f : Call → Call) : (s.onCall x f).restartArmed = s.restartArmed := rfl
@[simp] theorem State.onCall_resetCause (s : State) (x : CallId) (f : Call → Call) : (s.onCall x f).resetCause = s.resetCause := rfl
@[simp] theorem State.onCall_resetLeft (s : State) (x : CallId) (f : Call → Call) : (s.onCall x f).resetLeft = s.resetLeft := rfl
@[simp] theorem State.onCall_progs (s : State) (x : CallId) (f : Call → Call) : (s.onCall x f).progs = s.progs := rfl
@[simp] theorem State.onCall_openOrder (s : State) (x : CallId) (f : Call → Call) : (s.onCall x f).openOrder = s.openOrder := rfl
@[simp] theorem State.onCall_endOrder (s : State) (x : CallId) (f : Call → Call) : (s.onCall x f).endOrder = s.endOrder := rfl
@[simp] theorem State.onCall_arrivals (s : State) (x : CallId) (f : Call → Call) : (s.onCall x f).arrivals = s.arrivals := rfl
@[simp] theorem State.onCall_zones (s : State) (x : CallId) (f : Call → Call) : (s.onCall x f).zones = s.zones := rfl
@[simp] theorem State.onCall_alarmUnder (s : State) (x : CallId) (f : Call → Call) : (s.onCall x f).alarmUnder = s.alarmUnder := rfl
@[simp] theorem State.onCall_msFrames (s : State) (x : CallId) (f : Call → Call) : (s.onCall x f).msFrames = s.msFrames := rfl
@[simp] theorem State.onCall_slots (s : State) (x : CallId) (f : Call → Call) : (s.onCall x f).slots = s.slots := rfl
@[simp] theorem State.onCall_patterns (s : State) (x : CallId) (f : Call → Call) : (s.onCall x f).patterns = s.patterns := rfl
@[simp] theorem State.onCall_tone (s : State) (x : CallId) (f : Call → Call) : (s.onCall x f).tone = s.tone := rfl
@[simp] theorem State.onCall_voices (s : State) (x : CallId) (f : Call → Call) : (s.onCall x f).voices = s.voices := rfl
@[simp] theorem State.onCall_ring (s : State) (x : CallId) (f : Call → Call) : (s.onCall x f).ring = s.ring := rfl
@[simp] theorem State.onCall_windowMs (s : State) (x : CallId) (f : Call → Call) : (s.onCall x f).windowMs = s.windowMs := rfl
@[simp] theorem State.onCall_clips (s : State) (x : CallId) (f : Call → Call) : (s.onCall x f).clips = s.clips := rfl
@[simp] theorem State.onCall_chans (s : State) (x : CallId) (f : Call → Call) : (s.onCall x f).chans = s.chans := rfl
@[simp] theorem State.onCall_stations (s : State) (x : CallId) (f : Call → Call) : (s.onCall x f).stations = s.stations := rfl
@[simp] theorem State.onCall_calls (s : State) (x : CallId) (f : Call → Call) : (s.onCall x f).calls = adjust s.calls x f := rfl
@[simp] theorem State.onCall_callEnds (s : State) (x : CallId) (f : Call → Call) : (s.onCall x f).callEnds = s.callEnds := rfl
@[simp] theorem State.onCall_cue (s : State) (x : CallId) (f : Call → Call) : (s.onCall x f).cue = s.cue := rfl
@[simp] theorem State.onCall_survey (s : State) (x : CallId) (f : Call → Call) : (s.onCall x f).survey = s.survey := rfl
@[simp] theorem State.onCall_lanes (s : State) (x : CallId) (f : Call → Call) : (s.onCall x f).lanes = s.lanes := rfl

@[simp] theorem State.onClips_pending (s : State) (f : ClipEngine → ClipEngine) : (s.onClips f).pending = s.pending := rfl
@[simp] theorem State.onClips_ports (s : State) (f : ClipEngine → ClipEngine) : (s.onClips f).ports = s.ports := rfl
@[simp] theorem State.onClips_restartArmed (s : State) (f : ClipEngine → ClipEngine) : (s.onClips f).restartArmed = s.restartArmed := rfl
@[simp] theorem State.onClips_resetCause (s : State) (f : ClipEngine → ClipEngine) : (s.onClips f).resetCause = s.resetCause := rfl
@[simp] theorem State.onClips_resetLeft (s : State) (f : ClipEngine → ClipEngine) : (s.onClips f).resetLeft = s.resetLeft := rfl
@[simp] theorem State.onClips_progs (s : State) (f : ClipEngine → ClipEngine) : (s.onClips f).progs = s.progs := rfl
@[simp] theorem State.onClips_openOrder (s : State) (f : ClipEngine → ClipEngine) : (s.onClips f).openOrder = s.openOrder := rfl
@[simp] theorem State.onClips_endOrder (s : State) (f : ClipEngine → ClipEngine) : (s.onClips f).endOrder = s.endOrder := rfl
@[simp] theorem State.onClips_arrivals (s : State) (f : ClipEngine → ClipEngine) : (s.onClips f).arrivals = s.arrivals := rfl
@[simp] theorem State.onClips_zones (s : State) (f : ClipEngine → ClipEngine) : (s.onClips f).zones = s.zones := rfl
@[simp] theorem State.onClips_alarmUnder (s : State) (f : ClipEngine → ClipEngine) : (s.onClips f).alarmUnder = s.alarmUnder := rfl
@[simp] theorem State.onClips_msFrames (s : State) (f : ClipEngine → ClipEngine) : (s.onClips f).msFrames = s.msFrames := rfl
@[simp] theorem State.onClips_slots (s : State) (f : ClipEngine → ClipEngine) : (s.onClips f).slots = s.slots := rfl
@[simp] theorem State.onClips_patterns (s : State) (f : ClipEngine → ClipEngine) : (s.onClips f).patterns = s.patterns := rfl
@[simp] theorem State.onClips_tone (s : State) (f : ClipEngine → ClipEngine) : (s.onClips f).tone = s.tone := rfl
@[simp] theorem State.onClips_voices (s : State) (f : ClipEngine → ClipEngine) : (s.onClips f).voices = s.voices := rfl
@[simp] theorem State.onClips_ring (s : State) (f : ClipEngine → ClipEngine) : (s.onClips f).ring = s.ring := rfl
@[simp] theorem State.onClips_windowMs (s : State) (f : ClipEngine → ClipEngine) : (s.onClips f).windowMs = s.windowMs := rfl
@[simp] theorem State.onClips_clips (s : State) (f : ClipEngine → ClipEngine) : (s.onClips f).clips = f s.clips := rfl
@[simp] theorem State.onClips_chans (s : State) (f : ClipEngine → ClipEngine) : (s.onClips f).chans = s.chans := rfl
@[simp] theorem State.onClips_stations (s : State) (f : ClipEngine → ClipEngine) : (s.onClips f).stations = s.stations := rfl
@[simp] theorem State.onClips_calls (s : State) (f : ClipEngine → ClipEngine) : (s.onClips f).calls = s.calls := rfl
@[simp] theorem State.onClips_callEnds (s : State) (f : ClipEngine → ClipEngine) : (s.onClips f).callEnds = s.callEnds := rfl
@[simp] theorem State.onClips_cue (s : State) (f : ClipEngine → ClipEngine) : (s.onClips f).cue = s.cue := rfl
@[simp] theorem State.onClips_survey (s : State) (f : ClipEngine → ClipEngine) : (s.onClips f).survey = s.survey := rfl
@[simp] theorem State.onClips_lanes (s : State) (f : ClipEngine → ClipEngine) : (s.onClips f).lanes = s.lanes := rfl

@[simp] theorem State.onCue_pending (s : State) (f : CueEngine → CueEngine) : (s.onCue f).pending = s.pending := rfl
@[simp] theorem State.onCue_ports (s : State) (f : CueEngine → CueEngine) : (s.onCue f).ports = s.ports := rfl
@[simp] theorem State.onCue_restartArmed (s : State) (f : CueEngine → CueEngine) : (s.onCue f).restartArmed = s.restartArmed := rfl
@[simp] theorem State.onCue_resetCause (s : State) (f : CueEngine → CueEngine) : (s.onCue f).resetCause = s.resetCause := rfl
@[simp] theorem State.onCue_resetLeft (s : State) (f : CueEngine → CueEngine) : (s.onCue f).resetLeft = s.resetLeft := rfl
@[simp] theorem State.onCue_progs (s : State) (f : CueEngine → CueEngine) : (s.onCue f).progs = s.progs := rfl
@[simp] theorem State.onCue_openOrder (s : State) (f : CueEngine → CueEngine) : (s.onCue f).openOrder = s.openOrder := rfl
@[simp] theorem State.onCue_endOrder (s : State) (f : CueEngine → CueEngine) : (s.onCue f).endOrder = s.endOrder := rfl
@[simp] theorem State.onCue_arrivals (s : State) (f : CueEngine → CueEngine) : (s.onCue f).arrivals = s.arrivals := rfl
@[simp] theorem State.onCue_zones (s : State) (f : CueEngine → CueEngine) : (s.onCue f).zones = s.zones := rfl
@[simp] theorem State.onCue_alarmUnder (s : State) (f : CueEngine → CueEngine) : (s.onCue f).alarmUnder = s.alarmUnder := rfl
@[simp] theorem State.onCue_msFrames (s : State) (f : CueEngine → CueEngine) : (s.onCue f).msFrames = s.msFrames := rfl
@[simp] theorem State.onCue_slots (s : State) (f : CueEngine → CueEngine) : (s.onCue f).slots = s.slots := rfl
@[simp] theorem State.onCue_patterns (s : State) (f : CueEngine → CueEngine) : (s.onCue f).patterns = s.patterns := rfl
@[simp] theorem State.onCue_tone (s : State) (f : CueEngine → CueEngine) : (s.onCue f).tone = s.tone := rfl
@[simp] theorem State.onCue_voices (s : State) (f : CueEngine → CueEngine) : (s.onCue f).voices = s.voices := rfl
@[simp] theorem State.onCue_ring (s : State) (f : CueEngine → CueEngine) : (s.onCue f).ring = s.ring := rfl
@[simp] theorem State.onCue_windowMs (s : State) (f : CueEngine → CueEngine) : (s.onCue f).windowMs = s.windowMs := rfl
@[simp] theorem State.onCue_clips (s : State) (f : CueEngine → CueEngine) : (s.onCue f).clips = s.clips := rfl
@[simp] theorem State.onCue_chans (s : State) (f : CueEngine → CueEngine) : (s.onCue f).chans = s.chans := rfl
@[simp] theorem State.onCue_stations (s : State) (f : CueEngine → CueEngine) : (s.onCue f).stations = s.stations := rfl
@[simp] theorem State.onCue_calls (s : State) (f : CueEngine → CueEngine) : (s.onCue f).calls = s.calls := rfl
@[simp] theorem State.onCue_callEnds (s : State) (f : CueEngine → CueEngine) : (s.onCue f).callEnds = s.callEnds := rfl
@[simp] theorem State.onCue_cue (s : State) (f : CueEngine → CueEngine) : (s.onCue f).cue = f s.cue := rfl
@[simp] theorem State.onCue_survey (s : State) (f : CueEngine → CueEngine) : (s.onCue f).survey = s.survey := rfl
@[simp] theorem State.onCue_lanes (s : State) (f : CueEngine → CueEngine) : (s.onCue f).lanes = s.lanes := rfl

@[simp] theorem State.onSurvey_pending (s : State) (f : Survey → Survey) : (s.onSurvey f).pending = s.pending := rfl
@[simp] theorem State.onSurvey_ports (s : State) (f : Survey → Survey) : (s.onSurvey f).ports = s.ports := rfl
@[simp] theorem State.onSurvey_restartArmed (s : State) (f : Survey → Survey) : (s.onSurvey f).restartArmed = s.restartArmed := rfl
@[simp] theorem State.onSurvey_resetCause (s : State) (f : Survey → Survey) : (s.onSurvey f).resetCause = s.resetCause := rfl
@[simp] theorem State.onSurvey_resetLeft (s : State) (f : Survey → Survey) : (s.onSurvey f).resetLeft = s.resetLeft := rfl
@[simp] theorem State.onSurvey_progs (s : State) (f : Survey → Survey) : (s.onSurvey f).progs = s.progs := rfl
@[simp] theorem State.onSurvey_openOrder (s : State) (f : Survey → Survey) : (s.onSurvey f).openOrder = s.openOrder := rfl
@[simp] theorem State.onSurvey_endOrder (s : State) (f : Survey → Survey) : (s.onSurvey f).endOrder = s.endOrder := rfl
@[simp] theorem State.onSurvey_arrivals (s : State) (f : Survey → Survey) : (s.onSurvey f).arrivals = s.arrivals := rfl
@[simp] theorem State.onSurvey_zones (s : State) (f : Survey → Survey) : (s.onSurvey f).zones = s.zones := rfl
@[simp] theorem State.onSurvey_alarmUnder (s : State) (f : Survey → Survey) : (s.onSurvey f).alarmUnder = s.alarmUnder := rfl
@[simp] theorem State.onSurvey_msFrames (s : State) (f : Survey → Survey) : (s.onSurvey f).msFrames = s.msFrames := rfl
@[simp] theorem State.onSurvey_slots (s : State) (f : Survey → Survey) : (s.onSurvey f).slots = s.slots := rfl
@[simp] theorem State.onSurvey_patterns (s : State) (f : Survey → Survey) : (s.onSurvey f).patterns = s.patterns := rfl
@[simp] theorem State.onSurvey_tone (s : State) (f : Survey → Survey) : (s.onSurvey f).tone = s.tone := rfl
@[simp] theorem State.onSurvey_voices (s : State) (f : Survey → Survey) : (s.onSurvey f).voices = s.voices := rfl
@[simp] theorem State.onSurvey_ring (s : State) (f : Survey → Survey) : (s.onSurvey f).ring = s.ring := rfl
@[simp] theorem State.onSurvey_windowMs (s : State) (f : Survey → Survey) : (s.onSurvey f).windowMs = s.windowMs := rfl
@[simp] theorem State.onSurvey_clips (s : State) (f : Survey → Survey) : (s.onSurvey f).clips = s.clips := rfl
@[simp] theorem State.onSurvey_chans (s : State) (f : Survey → Survey) : (s.onSurvey f).chans = s.chans := rfl
@[simp] theorem State.onSurvey_stations (s : State) (f : Survey → Survey) : (s.onSurvey f).stations = s.stations := rfl
@[simp] theorem State.onSurvey_calls (s : State) (f : Survey → Survey) : (s.onSurvey f).calls = s.calls := rfl
@[simp] theorem State.onSurvey_callEnds (s : State) (f : Survey → Survey) : (s.onSurvey f).callEnds = s.callEnds := rfl
@[simp] theorem State.onSurvey_cue (s : State) (f : Survey → Survey) : (s.onSurvey f).cue = s.cue := rfl
@[simp] theorem State.onSurvey_survey (s : State) (f : Survey → Survey) : (s.onSurvey f).survey = f s.survey := rfl
@[simp] theorem State.onSurvey_lanes (s : State) (f : Survey → Survey) : (s.onSurvey f).lanes = s.lanes := rfl

end Sys2Proof.Machine
end

