-- ==== Sys2Proof/Laws/Tables.lean ====
section
/-! SUPPORT. Reading a table after a change of one record, of every record, or after it has been built. -/

namespace Sys2Proof

variable {α : Type} {n : Nat}

@[simp] theorem getElem_tabulate (f : Fin n → α) (i : Nat) (h : i < n) : (tabulate f)[i] = f ⟨i, h⟩ := by
  simp [tabulate]

@[simp] theorem getElem_remap (v : Vector α n) (f : Fin n → α → α) (i : Nat) (h : i < n) :
    (remap v f)[i] = f ⟨i, h⟩ v[i] := by
  simp [remap]

/-- A table read after one record has been changed. -/
theorem getElem_adjust (v : Vector α n) (i : Fin n) (f : α → α) (j : Nat) (h : j < n) :
    (adjust v i f)[j] = if i.val = j then f v[j] else v[j] := by
  unfold adjust
  rw [Vector.getElem_set]
  split
  · rename_i e
    subst e
    rfl
  · rfl

@[simp] theorem getElem_adjust_self (v : Vector α n) (i : Fin n) (f : α → α) : (adjust v i f)[i.val] = f v[i.val] := by
  rw [getElem_adjust, if_pos rfl]

theorem getElem_adjust_ne (v : Vector α n) {i j : Fin n} (f : α → α) (h : i ≠ j) : (adjust v i f)[j.val] = v[j.val] := by
  rw [getElem_adjust, if_neg fun e => h (Fin.ext e)]

/-- Two tables with the same records are equal. -/
theorem table_ext {v w : Vector α n} (h : ∀ i : Fin n, v[i.val] = w[i.val]) : v = w :=
  Vector.ext fun i hi => h ⟨i, hi⟩

/-- Two changes of one record in turn. -/
@[simp] theorem adjust_adjust (v : Vector α n) (i : Fin n) (f g : α → α) :
    adjust (adjust v i f) i g = adjust v i fun x => g (f x) := by
  apply table_ext
  intro j
  by_cases h : i.val = j.val <;> simp [getElem_adjust, h]

/-- A record changed to what it was leaves the table as it was. -/
theorem adjust_id (v : Vector α n) (i : Fin n) (f : α → α) (h : f v[i.val] = v[i.val]) : adjust v i f = v := by
  apply table_ext
  intro j
  by_cases e : i = j
  · subst e
    rw [getElem_adjust_self, h]
  · rw [getElem_adjust_ne _ _ e]

/-- Every record changed to what it was leaves the table as it was. -/
theorem remap_id (v : Vector α n) (f : Fin n → α → α) (h : ∀ i : Fin n, f i v[i.val] = v[i.val]) : remap v f = v := by
  apply table_ext
  intro j
  simpa using h j

/-- Zone `z` is in the set that holds zone `y` alone exactly when they are the same. -/
@[simp] theorem zoneBit_getLsbD (y z : Zone) : (zoneBit y).getLsbD z.val = decide (y = z) := by
  revert y z
  decide +kernel

/-- A zone is in the list of a set exactly when its bit is set. -/
@[simp] theorem mem_zonesOf (zs : ZoneSet) (z : Zone) : z ∈ zonesOf zs ↔ zs.getLsbD z.val = true := by
  simp [zonesOf, List.mem_finRange]

end Sys2Proof
end

