-- ==== Sys2Proof/Laws/Ops.lean ====
section
/-! SUPPORT. What the shared operations leave alone: raising a notice, the response, the arbiter, and stopping, starting and
stepping a clip channel; the range a ramp keeps; what output slots, ended calls, emptied load buffers and
ended timers hold; and what one zone of a release step and a changed directory entry come to. Each field that an operation does not name is as before. -/

namespace Sys2Proof.Machine

@[simp] theorem State.raise_pending (s : State) (k : NoticeKind) (p : Port) : (s.raise k p).pending = s.pending := rfl
@[simp] theorem State.raise_restartArmed (s : State) (k : NoticeKind) (p : Port) : (s.raise k p).restartArmed = s.restartArmed := rfl
@[simp] theorem State.raise_resetCause (s : State) (k : NoticeKind) (p : Port) : (s.raise k p).resetCause = s.resetCause := rfl
@[simp] theorem State.raise_resetLeft (s : State) (k : NoticeKind) (p : Port) : (s.raise k p).resetLeft = s.resetLeft := rfl
@[simp] theorem State.raise_progs (s : State) (k : NoticeKind) (p : Port) : (s.raise k p).progs = s.progs := rfl
@[simp] theorem State.raise_openOrder (s : State) (k : NoticeKind) (p : Port) : (s.raise k p).openOrder = s.openOrder := rfl
@[simp] theorem State.raise_endOrder (s : State) (k : NoticeKind) (p : Port) : (s.raise k p).endOrder = s.endOrder := rfl
@[simp] theorem State.raise_arrivals (s : State) (k : NoticeKind) (p : Port) : (s.raise k p).arrivals = s.arrivals := rfl
@[simp] theorem State.raise_zones (s : State) (k : NoticeKind) (p : Port) : (s.raise k p).zones = s.zones := rfl
@[simp] theorem State.raise_alarmUnder (s : State) (k : NoticeKind) (p : Port) : (s.raise k p).alarmUnder = s.alarmUnder := rfl
@[simp] theorem State.raise_msFrames (s : State) (k : NoticeKind) (p : Port) : (s.raise k p).msFrames = s.msFrames := rfl
@[simp] theorem State.raise_slots (s : State) (k : NoticeKind) (p : Port) : (s.raise k p).slots = s.slots := rfl
@[simp] theorem State.raise_patterns (s : State) (k : NoticeKind) (p : Port) : (s.raise k p).patterns = s.patterns := rfl
@[simp] theorem State.raise_tone (s : State) (k : NoticeKind) (p : Port) : (s.raise k p).tone = s.tone := rfl
@[simp] theorem State.raise_voices (s : State) (k : NoticeKind) (p : Port) : (s.raise k p).voices = s.voices := rfl
@[simp] theorem State.raise_ring (s : State) (k : NoticeKind) (p : Port) : (s.raise k p).ring = s.ring := rfl
@[simp] theorem State.raise_windowMs (s : State) (k : NoticeKind) (p : Port) : (s.raise k p).windowMs = s.windowMs := rfl
@[simp] theorem State.raise_clips (s : State) (k : NoticeKind) (p : Port) : (s.raise k p).clips = s.clips := rfl
@[simp] theorem State.raise_chans (s : State) (k : NoticeKind) (p : Port) : (s.raise k p).chans = s.chans := rfl
@[simp] theorem State.raise_stations (s : State) (k : NoticeKind) (p : Port) : (s.raise k p).stations = s.stations := rfl
@[simp] theorem State.raise_calls (s : State) (k : NoticeKind) (p : Port) : (s.raise k p).calls = s.calls := rfl
@[simp] theorem State.raise_callEnds (s : State) (k : NoticeKind) (p : Port) : (s.raise k p).callEnds = s.callEnds := rfl
@[simp] theorem State.raise_cue (s : State) (k : NoticeKind) (p : Port) : (s.raise k p).cue = s.cue := rfl
@[simp] theorem State.raise_survey (s : State) (k : NoticeKind) (p : Port) : (s.raise k p).survey = s.survey := rfl
@[simp] theorem State.raise_lanes (s : State) (k : NoticeKind) (p : Port) : (s.raise k p).lanes = s.lanes := rfl

@[simp] theorem State.raiseProgram_pending (s : State) (p : Port) (id : ProgId) : (s.raiseProgram p id).pending = s.pending := rfl
@[simp] theorem State.raiseProgram_restartArmed (s : State) (p : Port) (id : ProgId) : (s.raiseProgram p id).restartArmed = s.restartArmed := rfl
@[simp] theorem State.raiseProgram_resetCause (s : State) (p : Port) (id : ProgId) : (s.raiseProgram p id).resetCause = s.resetCause := rfl
@[simp] theorem State.raiseProgram_resetLeft (s : State) (p : Port) (id : ProgId) : (s.raiseProgram p id).resetLeft = s.resetLeft := rfl
@[simp] theorem State.raiseProgram_progs (s : State) (p : Port) (id : ProgId) : (s.raiseProgram p id).progs = s.progs := rfl
@[simp] theorem State.raiseProgram_openOrder (s : State) (p : Port) (id : ProgId) : (s.raiseProgram p id).openOrder = s.openOrder := rfl
@[simp] theorem State.raiseProgram_endOrder (s : State) (p : Port) (id : ProgId) : (s.raiseProgram p id).endOrder = s.endOrder := rfl
@[simp] theorem State.raiseProgram_arrivals (s : State) (p : Port) (id : ProgId) : (s.raiseProgram p id).arrivals = s.arrivals := rfl
@[simp] theorem State.raiseProgram_zones (s : State) (p : Port) (id : ProgId) : (s.raiseProgram p id).zones = s.zones := rfl
@[simp] theorem State.raiseProgram_alarmUnder (s : State) (p : Port) (id : ProgId) : (s.raiseProgram p id).alarmUnder = s.alarmUnder := rfl
@[simp] theorem State.raiseProgram_msFrames (s : State) (p : Port) (id : ProgId) : (s.raiseProgram p id).msFrames = s.msFrames := rfl
@[simp] theorem State.raiseProgram_slots (s : State) (p : Port) (id : ProgId) : (s.raiseProgram p id).slots = s.slots := rfl
@[simp] theorem State.raiseProgram_patterns (s : State) (p : Port) (id : ProgId) : (s.raiseProgram p id).patterns = s.patterns := rfl
@[simp] theorem State.raiseProgram_tone (s : State) (p : Port) (id : ProgId) : (s.raiseProgram p id).tone = s.tone := rfl
@[simp] theorem State.raiseProgram_voices (s : State) (p : Port) (id : ProgId) : (s.raiseProgram p id).voices = s.voices := rfl
@[simp] theorem State.raiseProgram_ring (s : State) (p : Port) (id : ProgId) : (s.raiseProgram p id).ring = s.ring := rfl
@[simp] theorem State.raiseProgram_windowMs (s : State) (p : Port) (id : ProgId) : (s.raiseProgram p id).windowMs = s.windowMs := rfl
@[simp] theorem State.raiseProgram_clips (s : State) (p : Port) (id : ProgId) : (s.raiseProgram p id).clips = s.clips := rfl
@[simp] theorem State.raiseProgram_chans (s : State) (p : Port) (id : ProgId) : (s.raiseProgram p id).chans = s.chans := rfl
@[simp] theorem State.raiseProgram_stations (s : State) (p : Port) (id : ProgId) : (s.raiseProgram p id).stations = s.stations := rfl
@[simp] theorem State.raiseProgram_calls (s : State) (p : Port) (id : ProgId) : (s.raiseProgram p id).calls = s.calls := rfl
@[simp] theorem State.raiseProgram_callEnds (s : State) (p : Port) (id : ProgId) : (s.raiseProgram p id).callEnds = s.callEnds := rfl
@[simp] theorem State.raiseProgram_cue (s : State) (p : Port) (id : ProgId) : (s.raiseProgram p id).cue = s.cue := rfl
@[simp] theorem State.raiseProgram_survey (s : State) (p : Port) (id : ProgId) : (s.raiseProgram p id).survey = s.survey := rfl
@[simp] theorem State.raiseProgram_lanes (s : State) (p : Port) (id : ProgId) : (s.raiseProgram p id).lanes = s.lanes := rfl

@[simp] theorem State.raiseAlarm_pending (s : State) (b : Bool) : (s.raiseAlarm b).pending = s.pending := by cases b <;> rfl
@[simp] theorem State.raiseAlarm_restartArmed (s : State) (b : Bool) : (s.raiseAlarm b).restartArmed = s.restartArmed := by cases b <;> rfl
@[simp] theorem State.raiseAlarm_resetCause (s : State) (b : Bool) : (s.raiseAlarm b).resetCause = s.resetCause := by cases b <;> rfl
@[simp] theorem State.raiseAlarm_resetLeft (s : State) (b : Bool) : (s.raiseAlarm b).resetLeft = s.resetLeft := by cases b <;> rfl
@[simp] theorem State.raiseAlarm_progs (s : State) (b : Bool) : (s.raiseAlarm b).progs = s.progs := by cases b <;> rfl
@[simp] theorem State.raiseAlarm_openOrder (s : State) (b : Bool) : (s.raiseAlarm b).openOrder = s.openOrder := by cases b <;> rfl
@[simp] theorem State.raiseAlarm_endOrder (s : State) (b : Bool) : (s.raiseAlarm b).endOrder = s.endOrder := by cases b <;> rfl
@[simp] theorem State.raiseAlarm_arrivals (s : State) (b : Bool) : (s.raiseAlarm b).arrivals = s.arrivals := by cases b <;> rfl
@[simp] theorem State.raiseAlarm_zones (s : State) (b : Bool) : (s.raiseAlarm b).zones = s.zones := by cases b <;> rfl
@[simp] theorem State.raiseAlarm_alarmUnder (s : State) (b : Bool) : (s.raiseAlarm b).alarmUnder = s.alarmUnder := by cases b <;> rfl
@[simp] theorem State.raiseAlarm_msFrames (s : State) (b : Bool) : (s.raiseAlarm b).msFrames = s.msFrames := by cases b <;> rfl
@[simp] theorem State.raiseAlarm_slots (s : State) (b : Bool) : (s.raiseAlarm b).slots = s.slots := by cases b <;> rfl
@[simp] theorem State.raiseAlarm_patterns (s : State) (b : Bool) : (s.raiseAlarm b).patterns = s.patterns := by cases b <;> rfl
@[simp] theorem State.raiseAlarm_tone (s : State) (b : Bool) : (s.raiseAlarm b).tone = s.tone := by cases b <;> rfl
@[simp] theorem State.raiseAlarm_voices (s : State) (b : Bool) : (s.raiseAlarm b).voices = s.voices := by cases b <;> rfl
@[simp] theorem State.raiseAlarm_ring (s : State) (b : Bool) : (s.raiseAlarm b).ring = s.ring := by cases b <;> rfl
@[simp] theorem State.raiseAlarm_windowMs (s : State) (b : Bool) : (s.raiseAlarm b).windowMs = s.windowMs := by cases b <;> rfl
@[simp] theorem State.raiseAlarm_clips (s : State) (b : Bool) : (s.raiseAlarm b).clips = s.clips := by cases b <;> rfl
@[simp] theorem State.raiseAlarm_chans (s : State) (b : Bool) : (s.raiseAlarm b).chans = s.chans := by cases b <;> rfl
@[simp] theorem State.raiseAlarm_stations (s : State) (b : Bool) : (s.raiseAlarm b).stations = s.stations := by cases b <;> rfl
@[simp] theorem State.raiseAlarm_calls (s : State) (b : Bool) : (s.raiseAlarm b).calls = s.calls := by cases b <;> rfl
@[simp] theorem State.raiseAlarm_callEnds (s : State) (b : Bool) : (s.raiseAlarm b).callEnds = s.callEnds := by cases b <;> rfl
@[simp] theorem State.raiseAlarm_cue (s : State) (b : Bool) : (s.raiseAlarm b).cue = s.cue := by cases b <;> rfl
@[simp] theorem State.raiseAlarm_survey (s : State) (b : Bool) : (s.raiseAlarm b).survey = s.survey := by cases b <;> rfl
@[simp] theorem State.raiseAlarm_lanes (s : State) (b : Bool) : (s.raiseAlarm b).lanes = s.lanes := by cases b <;> rfl

@[simp] theorem State.raiseCue_pending (s : State) (b : Bool) : (s.raiseCue b).pending = s.pending := by cases b <;> rfl
@[simp] theorem State.raiseCue_restartArmed (s : State) (b : Bool) : (s.raiseCue b).restartArmed = s.restartArmed := by cases b <;> rfl
@[simp] theorem State.raiseCue_resetCause (s : State) (b : Bool) : (s.raiseCue b).resetCause = s.resetCause := by cases b <;> rfl
@[simp] theorem State.raiseCue_resetLeft (s : State) (b : Bool) : (s.raiseCue b).resetLeft = s.resetLeft := by cases b <;> rfl
@[simp] theorem State.raiseCue_progs (s : State) (b : Bool) : (s.raiseCue b).progs = s.progs := by cases b <;> rfl
@[simp] theorem State.raiseCue_openOrder (s : State) (b : Bool) : (s.raiseCue b).openOrder = s.openOrder := by cases b <;> rfl
@[simp] theorem State.raiseCue_endOrder (s : State) (b : Bool) : (s.raiseCue b).endOrder = s.endOrder := by cases b <;> rfl
@[simp] theorem State.raiseCue_arrivals (s : State) (b : Bool) : (s.raiseCue b).arrivals = s.arrivals := by cases b <;> rfl
@[simp] theorem State.raiseCue_zones (s : State) (b : Bool) : (s.raiseCue b).zones = s.zones := by cases b <;> rfl
@[simp] theorem State.raiseCue_alarmUnder (s : State) (b : Bool) : (s.raiseCue b).alarmUnder = s.alarmUnder := by cases b <;> rfl
@[simp] theorem State.raiseCue_msFrames (s : State) (b : Bool) : (s.raiseCue b).msFrames = s.msFrames := by cases b <;> rfl
@[simp] theorem State.raiseCue_slots (s : State) (b : Bool) : (s.raiseCue b).slots = s.slots := by cases b <;> rfl
@[simp] theorem State.raiseCue_patterns (s : State) (b : Bool) : (s.raiseCue b).patterns = s.patterns := by cases b <;> rfl
@[simp] theorem State.raiseCue_tone (s : State) (b : Bool) : (s.raiseCue b).tone = s.tone := by cases b <;> rfl
@[simp] theorem State.raiseCue_voices (s : State) (b : Bool) : (s.raiseCue b).voices = s.voices := by cases b <;> rfl
@[simp] theorem State.raiseCue_ring (s : State) (b : Bool) : (s.raiseCue b).ring = s.ring := by cases b <;> rfl
@[simp] theorem State.raiseCue_windowMs (s : State) (b : Bool) : (s.raiseCue b).windowMs = s.windowMs := by cases b <;> rfl
@[simp] theorem State.raiseCue_clips (s : State) (b : Bool) : (s.raiseCue b).clips = s.clips := by cases b <;> rfl
@[simp] theorem State.raiseCue_chans (s : State) (b : Bool) : (s.raiseCue b).chans = s.chans := by cases b <;> rfl
@[simp] theorem State.raiseCue_stations (s : State) (b : Bool) : (s.raiseCue b).stations = s.stations := by cases b <;> rfl
@[simp] theorem State.raiseCue_calls (s : State) (b : Bool) : (s.raiseCue b).calls = s.calls := by cases b <;> rfl
@[simp] theorem State.raiseCue_callEnds (s : State) (b : Bool) : (s.raiseCue b).callEnds = s.callEnds := by cases b <;> rfl
@[simp] theorem State.raiseCue_cue (s : State) (b : Bool) : (s.raiseCue b).cue = s.cue := by cases b <;> rfl
@[simp] theorem State.raiseCue_survey (s : State) (b : Bool) : (s.raiseCue b).survey = s.survey := by cases b <;> rfl
@[simp] theorem State.raiseCue_lanes (s : State) (b : Bool) : (s.raiseCue b).lanes = s.lanes := by cases b <;> rfl

@[simp] theorem State.respond_pending (s : State) (p : Port) (c : Byte) (st : Status) (r : List Byte) : (s.respond p c st r).pending = s.pending := rfl
@[simp] theorem State.respond_restartArmed (s : State) (p : Port) (c : Byte) (st : Status) (r : List Byte) : (s.respond p c st r).restartArmed = s.restartArmed := rfl
@[simp] theorem State.respond_resetCause (s : State) (p : Port) (c : Byte) (st : Status) (r : List Byte) : (s.respond p c st r).resetCause = s.resetCause := rfl
@[simp] theorem State.respond_resetLeft (s : State) (p : Port) (c : Byte) (st : Status) (r : List Byte) : (s.respond p c st r).resetLeft = s.resetLeft := rfl
@[simp] theorem State.respond_progs (s : State) (p : Port) (c : Byte) (st : Status) (r : List Byte) : (s.respond p c st r).progs = s.progs := rfl
@[simp] theorem State.respond_openOrder (s : State) (p : Port) (c : Byte) (st : Status) (r : List Byte) : (s.respond p c st r).openOrder = s.openOrder := rfl
@[simp] theorem State.respond_endOrder (s : State) (p : Port) (c : Byte) (st : Status) (r : List Byte) : (s.respond p c st r).endOrder = s.endOrder := rfl
@[simp] theorem State.respond_arrivals (s : State) (p : Port) (c : Byte) (st : Status) (r : List Byte) : (s.respond p c st r).arrivals = s.arrivals := rfl
@[simp] theorem State.respond_zones (s : State) (p : Port) (c : Byte) (st : Status) (r : List Byte) : (s.respond p c st r).zones = s.zones := rfl
@[simp] theorem State.respond_alarmUnder (s : State) (p : Port) (c : Byte) (st : Status) (r : List Byte) : (s.respond p c st r).alarmUnder = s.alarmUnder := rfl
@[simp] theorem State.respond_msFrames (s : State) (p : Port) (c : Byte) (st : Status) (r : List Byte) : (s.respond p c st r).msFrames = s.msFrames := rfl
@[simp] theorem State.respond_slots (s : State) (p : Port) (c : Byte) (st : Status) (r : List Byte) : (s.respond p c st r).slots = s.slots := rfl
@[simp] theorem State.respond_patterns (s : State) (p : Port) (c : Byte) (st : Status) (r : List Byte) : (s.respond p c st r).patterns = s.patterns := rfl
@[simp] theorem State.respond_tone (s : State) (p : Port) (c : Byte) (st : Status) (r : List Byte) : (s.respond p c st r).tone = s.tone := rfl
@[simp] theorem State.respond_voices (s : State) (p : Port) (c : Byte) (st : Status) (r : List Byte) : (s.respond p c st r).voices = s.voices := rfl
@[simp] theorem State.respond_ring (s : State) (p : Port) (c : Byte) (st : Status) (r : List Byte) : (s.respond p c st r).ring = s.ring := rfl
@[simp] theorem State.respond_windowMs (s : State) (p : Port) (c : Byte) (st : Status) (r : List Byte) : (s.respond p c st r).windowMs = s.windowMs := rfl
@[simp] theorem State.respond_clips (s : State) (p : Port) (c : Byte) (st : Status) (r : List Byte) : (s.respond p c st r).clips = s.clips := rfl
@[simp] theorem State.respond_chans (s : State) (p : Port) (c : Byte) (st : Status) (r : List Byte) : (s.respond p c st r).chans = s.chans := rfl
@[simp] theorem State.respond_stations (s : State) (p : Port) (c : Byte) (st : Status) (r : List Byte) : (s.respond p c st r).stations = s.stations := rfl
@[simp] theorem State.respond_calls (s : State) (p : Port) (c : Byte) (st : Status) (r : List Byte) : (s.respond p c st r).calls = s.calls := rfl
@[simp] theorem State.respond_callEnds (s : State) (p : Port) (c : Byte) (st : Status) (r : List Byte) : (s.respond p c st r).callEnds = s.callEnds := rfl
@[simp] theorem State.respond_cue (s : State) (p : Port) (c : Byte) (st : Status) (r : List Byte) : (s.respond p c st r).cue = s.cue := rfl
@[simp] theorem State.respond_survey (s : State) (p : Port) (c : Byte) (st : Status) (r : List Byte) : (s.respond p c st r).survey = s.survey := rfl
@[simp] theorem State.respond_lanes (s : State) (p : Port) (c : Byte) (st : Status) (r : List Byte) : (s.respond p c st r).lanes = s.lanes := rfl

@[simp] theorem State.answering_pending (s : State) (p : Port) (n : Nat) (c : Byte) (st : Status) (r : List Byte) : (s.answering p n c st r).pending = s.pending := rfl
@[simp] theorem State.answering_restartArmed (s : State) (p : Port) (n : Nat) (c : Byte) (st : Status) (r : List Byte) : (s.answering p n c st r).restartArmed = s.restartArmed := rfl
@[simp] theorem State.answering_resetCause (s : State) (p : Port) (n : Nat) (c : Byte) (st : Status) (r : List Byte) : (s.answering p n c st r).resetCause = s.resetCause := rfl
@[simp] theorem State.answering_resetLeft (s : State) (p : Port) (n : Nat) (c : Byte) (st : Status) (r : List Byte) : (s.answering p n c st r).resetLeft = s.resetLeft := rfl
@[simp] theorem State.answering_progs (s : State) (p : Port) (n : Nat) (c : Byte) (st : Status) (r : List Byte) : (s.answering p n c st r).progs = s.progs := rfl
@[simp] theorem State.answering_openOrder (s : State) (p : Port) (n : Nat) (c : Byte) (st : Status) (r : List Byte) : (s.answering p n c st r).openOrder = s.openOrder := rfl
@[simp] theorem State.answering_endOrder (s : State) (p : Port) (n : Nat) (c : Byte) (st : Status) (r : List Byte) : (s.answering p n c st r).endOrder = s.endOrder := rfl
@[simp] theorem State.answering_arrivals (s : State) (p : Port) (n : Nat) (c : Byte) (st : Status) (r : List Byte) : (s.answering p n c st r).arrivals = s.arrivals := rfl
@[simp] theorem State.answering_zones (s : State) (p : Port) (n : Nat) (c : Byte) (st : Status) (r : List Byte) : (s.answering p n c st r).zones = s.zones := rfl
@[simp] theorem State.answering_alarmUnder (s : State) (p : Port) (n : Nat) (c : Byte) (st : Status) (r : List Byte) : (s.answering p n c st r).alarmUnder = s.alarmUnder := rfl
@[simp] theorem State.answering_msFrames (s : State) (p : Port) (n : Nat) (c : Byte) (st : Status) (r : List Byte) : (s.answering p n c st r).msFrames = s.msFrames := rfl
@[simp] theorem State.answering_slots (s : State) (p : Port) (n : Nat) (c : Byte) (st : Status) (r : List Byte) : (s.answering p n c st r).slots = s.slots := rfl
@[simp] theorem State.answering_patterns (s : State) (p : Port) (n : Nat) (c : Byte) (st : Status) (r : List Byte) : (s.answering p n c st r).patterns = s.patterns := rfl
@[simp] theorem State.answering_tone (s : State) (p : Port) (n : Nat) (c : Byte) (st : Status) (r : List Byte) : (s.answering p n c st r).tone = s.tone := rfl
@[simp] theorem State.answering_voices (s : State) (p : Port) (n : Nat) (c : Byte) (st : Status) (r : List Byte) : (s.answering p n c st r).voices = s.voices := rfl
@[simp] theorem State.answering_ring (s : State) (p : Port) (n : Nat) (c : Byte) (st : Status) (r : List Byte) : (s.answering p n c st r).ring = s.ring := rfl
@[simp] theorem State.answering_windowMs (s : State) (p : Port) (n : Nat) (c : Byte) (st : Status) (r : List Byte) : (s.answering p n c st r).windowMs = s.windowMs := rfl
@[simp] theorem State.answering_clips (s : State) (p : Port) (n : Nat) (c : Byte) (st : Status) (r : List Byte) : (s.answering p n c st r).clips = s.clips := rfl
@[simp] theorem State.answering_chans (s : State) (p : Port) (n : Nat) (c : Byte) (st : Status) (r : List Byte) : (s.answering p n c st r).chans = s.chans := rfl
@[simp] theorem State.answering_stations (s : State) (p : Port) (n : Nat) (c : Byte) (st : Status) (r : List Byte) : (s.answering p n c st r).stations = s.stations := rfl
@[simp] theorem State.answering_calls (s : State) (p : Port) (n : Nat) (c : Byte) (st : Status) (r : List Byte) : (s.answering p n c st r).calls = s.calls := rfl
@[simp] theorem State.answering_callEnds (s : State) (p : Port) (n : Nat) (c : Byte) (st : Status) (r : List Byte) : (s.answering p n c st r).callEnds = s.callEnds := rfl
@[simp] theorem State.answering_cue (s : State) (p : Port) (n : Nat) (c : Byte) (st : Status) (r : List Byte) : (s.answering p n c st r).cue = s.cue := rfl
@[simp] theorem State.answering_survey (s : State) (p : Port) (n : Nat) (c : Byte) (st : Status) (r : List Byte) : (s.answering p n c st r).survey = s.survey := rfl
@[simp] theorem State.answering_lanes (s : State) (p : Port) (n : Nat) (c : Byte) (st : Status) (r : List Byte) : (s.answering p n c st r).lanes = s.lanes := rfl

@[simp] theorem State.clockThrough_pending (s : State) (p : Port) (n : Nat) : (s.clockThrough p n).pending = s.pending := by unfold State.clockThrough; split <;> rfl
@[simp] theorem State.clockThrough_restartArmed (s : State) (p : Port) (n : Nat) : (s.clockThrough p n).restartArmed = s.restartArmed := by unfold State.clockThrough; split <;> rfl
@[simp] theorem State.clockThrough_resetCause (s : State) (p : Port) (n : Nat) : (s.clockThrough p n).resetCause = s.resetCause := by unfold State.clockThrough; split <;> rfl
@[simp] theorem State.clockThrough_resetLeft (s : State) (p : Port) (n : Nat) : (s.clockThrough p n).resetLeft = s.resetLeft := by unfold State.clockThrough; split <;> rfl
@[simp] theorem State.clockThrough_progs (s : State) (p : Port) (n : Nat) : (s.clockThrough p n).progs = s.progs := by unfold State.clockThrough; split <;> rfl
@[simp] theorem State.clockThrough_openOrder (s : State) (p : Port) (n : Nat) : (s.clockThrough p n).openOrder = s.openOrder := by unfold State.clockThrough; split <;> rfl
@[simp] theorem State.clockThrough_endOrder (s : State) (p : Port) (n : Nat) : (s.clockThrough p n).endOrder = s.endOrder := by unfold State.clockThrough; split <;> rfl
@[simp] theorem State.clockThrough_arrivals (s : State) (p : Port) (n : Nat) : (s.clockThrough p n).arrivals = s.arrivals := by unfold State.clockThrough; split <;> rfl
@[simp] theorem State.clockThrough_zones (s : State) (p : Port) (n : Nat) : (s.clockThrough p n).zones = s.zones := by unfold State.clockThrough; split <;> rfl
@[simp] theorem State.clockThrough_alarmUnder (s : State) (p : Port) (n : Nat) : (s.clockThrough p n).alarmUnder = s.alarmUnder := by unfold State.clockThrough; split <;> rfl
@[simp] theorem State.clockThrough_msFrames (s : State) (p : Port) (n : Nat) : (s.clockThrough p n).msFrames = s.msFrames := by unfold State.clockThrough; split <;> rfl
@[simp] theorem State.clockThrough_slots (s : State) (p : Port) (n : Nat) : (s.clockThrough p n).slots = s.slots := by unfold State.clockThrough; split <;> rfl
@[simp] theorem State.clockThrough_patterns (s : State) (p : Port) (n : Nat) : (s.clockThrough p n).patterns = s.patterns := by unfold State.clockThrough; split <;> rfl
@[simp] theorem State.clockThrough_tone (s : State) (p : Port) (n : Nat) : (s.clockThrough p n).tone = s.tone := by unfold State.clockThrough; split <;> rfl
@[simp] theorem State.clockThrough_voices (s : State) (p : Port) (n : Nat) : (s.clockThrough p n).voices = s.voices := by unfold State.clockThrough; split <;> rfl
@[simp] theorem State.clockThrough_ring (s : State) (p : Port) (n : Nat) : (s.clockThrough p n).ring = s.ring := by unfold State.clockThrough; split <;> rfl
@[simp] theorem State.clockThrough_windowMs (s : State) (p : Port) (n : Nat) : (s.clockThrough p n).windowMs = s.windowMs := by unfold State.clockThrough; split <;> rfl
@[simp] theorem State.clockThrough_clips (s : State) (p : Port) (n : Nat) : (s.clockThrough p n).clips = s.clips := by unfold State.clockThrough; split <;> rfl
@[simp] theorem State.clockThrough_chans (s : State) (p : Port) (n : Nat) : (s.clockThrough p n).chans = s.chans := by unfold State.clockThrough; split <;> rfl
@[simp] theorem State.clockThrough_stations (s : State) (p : Port) (n : Nat) : (s.clockThrough p n).stations = s.stations := by unfold State.clockThrough; split <;> rfl
@[simp] theorem State.clockThrough_calls (s : State) (p : Port) (n : Nat) : (s.clockThrough p n).calls = s.calls := by unfold State.clockThrough; split <;> rfl
@[simp] theorem State.clockThrough_callEnds (s : State) (p : Port) (n : Nat) : (s.clockThrough p n).callEnds = s.callEnds := by unfold State.clockThrough; split <;> rfl
@[simp] theorem State.clockThrough_cue (s : State) (p : Port) (n : Nat) : (s.clockThrough p n).cue = s.cue := by unfold State.clockThrough; split <;> rfl
@[simp] theorem State.clockThrough_survey (s : State) (p : Port) (n : Nat) : (s.clockThrough p n).survey = s.survey := by unfold State.clockThrough; split <;> rfl
@[simp] theorem State.clockThrough_lanes (s : State) (p : Port) (n : Nat) : (s.clockThrough p n).lanes = s.lanes := by unfold State.clockThrough; split <;> rfl

@[simp] theorem State.arbitrate_pending (s : State) : s.arbitrate.pending = s.pending := by unfold State.arbitrate; (repeat' split) <;> rfl
@[simp] theorem State.arbitrate_ports (s : State) : s.arbitrate.ports = s.ports := by unfold State.arbitrate; (repeat' split) <;> rfl
@[simp] theorem State.arbitrate_restartArmed (s : State) : s.arbitrate.restartArmed = s.restartArmed := by unfold State.arbitrate; (repeat' split) <;> rfl
@[simp] theorem State.arbitrate_resetCause (s : State) : s.arbitrate.resetCause = s.resetCause := by unfold State.arbitrate; (repeat' split) <;> rfl
@[simp] theorem State.arbitrate_resetLeft (s : State) : s.arbitrate.resetLeft = s.resetLeft := by unfold State.arbitrate; (repeat' split) <;> rfl
@[simp] theorem State.arbitrate_progs (s : State) : s.arbitrate.progs = s.progs := by unfold State.arbitrate; (repeat' split) <;> rfl
@[simp] theorem State.arbitrate_openOrder (s : State) : s.arbitrate.openOrder = s.openOrder := by unfold State.arbitrate; (repeat' split) <;> rfl
@[simp] theorem State.arbitrate_endOrder (s : State) : s.arbitrate.endOrder = s.endOrder := by unfold State.arbitrate; (repeat' split) <;> rfl
@[simp] theorem State.arbitrate_arrivals (s : State) : s.arbitrate.arrivals = s.arrivals := by unfold State.arbitrate; (repeat' split) <;> rfl
@[simp] theorem State.arbitrate_zones (s : State) : s.arbitrate.zones = s.zones := by unfold State.arbitrate; (repeat' split) <;> rfl
@[simp] theorem State.arbitrate_alarmUnder (s : State) : s.arbitrate.alarmUnder = s.alarmUnder := by unfold State.arbitrate; (repeat' split) <;> rfl
@[simp] theorem State.arbitrate_msFrames (s : State) : s.arbitrate.msFrames = s.msFrames := by unfold State.arbitrate; (repeat' split) <;> rfl
@[simp] theorem State.arbitrate_slots (s : State) : s.arbitrate.slots = s.slots := by unfold State.arbitrate; (repeat' split) <;> rfl
@[simp] theorem State.arbitrate_patterns (s : State) : s.arbitrate.patterns = s.patterns := by unfold State.arbitrate; (repeat' split) <;> rfl
@[simp] theorem State.arbitrate_tone (s : State) : s.arbitrate.tone = s.tone := by unfold State.arbitrate; (repeat' split) <;> rfl
@[simp] theorem State.arbitrate_voices (s : State) : s.arbitrate.voices = s.voices := by unfold State.arbitrate; (repeat' split) <;> rfl
@[simp] theorem State.arbitrate_ring (s : State) : s.arbitrate.ring = s.ring := by unfold State.arbitrate; (repeat' split) <;> rfl
@[simp] theorem State.arbitrate_windowMs (s : State) : s.arbitrate.windowMs = s.windowMs := by unfold State.arbitrate; (repeat' split) <;> rfl
@[simp] theorem State.arbitrate_chans (s : State) : s.arbitrate.chans = s.chans := by unfold State.arbitrate; (repeat' split) <;> rfl
@[simp] theorem State.arbitrate_stations (s : State) : s.arbitrate.stations = s.stations := by unfold State.arbitrate; (repeat' split) <;> rfl
@[simp] theorem State.arbitrate_calls (s : State) : s.arbitrate.calls = s.calls := by unfold State.arbitrate; (repeat' split) <;> rfl
@[simp] theorem State.arbitrate_callEnds (s : State) : s.arbitrate.callEnds = s.callEnds := by unfold State.arbitrate; (repeat' split) <;> rfl
@[simp] theorem State.arbitrate_cue (s : State) : s.arbitrate.cue = s.cue := by unfold State.arbitrate; (repeat' split) <;> rfl
@[simp] theorem State.arbitrate_survey (s : State) : s.arbitrate.survey = s.survey := by unfold State.arbitrate; (repeat' split) <;> rfl
@[simp] theorem State.arbitrate_lanes (s : State) : s.arbitrate.lanes = s.lanes := by unfold State.arbitrate; (repeat' split) <;> rfl

@[simp] theorem State.stopChan_pending (s : State) (ch : ChanId) : (s.stopChan ch).pending = s.pending := rfl
@[simp] theorem State.stopChan_ports (s : State) (ch : ChanId) : (s.stopChan ch).ports = s.ports := rfl
@[simp] theorem State.stopChan_restartArmed (s : State) (ch : ChanId) : (s.stopChan ch).restartArmed = s.restartArmed := rfl
@[simp] theorem State.stopChan_resetCause (s : State) (ch : ChanId) : (s.stopChan ch).resetCause = s.resetCause := rfl
@[simp] theorem State.stopChan_resetLeft (s : State) (ch : ChanId) : (s.stopChan ch).resetLeft = s.resetLeft := rfl
@[simp] theorem State.stopChan_progs (s : State) (ch : ChanId) : (s.stopChan ch).progs = s.progs := rfl
@[simp] theorem State.stopChan_openOrder (s : State) (ch : ChanId) : (s.stopChan ch).openOrder = s.openOrder := rfl
@[simp] theorem State.stopChan_endOrder (s : State) (ch : ChanId) : (s.stopChan ch).endOrder = s.endOrder := rfl
@[simp] theorem State.stopChan_arrivals (s : State) (ch : ChanId) : (s.stopChan ch).arrivals = s.arrivals := rfl
@[simp] theorem State.stopChan_zones (s : State) (ch : ChanId) : (s.stopChan ch).zones = s.zones := rfl
@[simp] theorem State.stopChan_alarmUnder (s : State) (ch : ChanId) : (s.stopChan ch).alarmUnder = s.alarmUnder := rfl
@[simp] theorem State.stopChan_msFrames (s : State) (ch : ChanId) : (s.stopChan ch).msFrames = s.msFrames := rfl
@[simp] theorem State.stopChan_slots (s : State) (ch : ChanId) : (s.stopChan ch).slots = s.slots := rfl
@[simp] theorem State.stopChan_patterns (s : State) (ch : ChanId) : (s.stopChan ch).patterns = s.patterns := rfl
@[simp] theorem State.stopChan_tone (s : State) (ch : ChanId) : (s.stopChan ch).tone = s.tone := rfl
@[simp] theorem State.stopChan_voices (s : State) (ch : ChanId) : (s.stopChan ch).voices = s.voices := rfl
@[simp] theorem State.stopChan_ring (s : State) (ch : ChanId) : (s.stopChan ch).ring = s.ring := rfl
@[simp] theorem State.stopChan_windowMs (s : State) (ch : ChanId) : (s.stopChan ch).windowMs = s.windowMs := rfl
@[simp] theorem State.stopChan_stations (s : State) (ch : ChanId) : (s.stopChan ch).stations = s.stations := rfl
@[simp] theorem State.stopChan_calls (s : State) (ch : ChanId) : (s.stopChan ch).calls = s.calls := rfl
@[simp] theorem State.stopChan_callEnds (s : State) (ch : ChanId) : (s.stopChan ch).callEnds = s.callEnds := rfl
@[simp] theorem State.stopChan_cue (s : State) (ch : ChanId) : (s.stopChan ch).cue = s.cue := rfl
@[simp] theorem State.stopChan_survey (s : State) (ch : ChanId) : (s.stopChan ch).survey = s.survey := rfl
@[simp] theorem State.stopChan_lanes (s : State) (ch : ChanId) : (s.stopChan ch).lanes = s.lanes := rfl

@[simp] theorem State.releaseChan_pending (s : State) (ch : ChanId) : (s.releaseChan ch).pending = s.pending := rfl
@[simp] theorem State.releaseChan_ports (s : State) (ch : ChanId) : (s.releaseChan ch).ports = s.ports := rfl
@[simp] theorem State.releaseChan_restartArmed (s : State) (ch : ChanId) : (s.releaseChan ch).restartArmed = s.restartArmed := rfl
@[simp] theorem State.releaseChan_resetCause (s : State) (ch : ChanId) : (s.releaseChan ch).resetCause = s.resetCause := rfl
@[simp] theorem State.releaseChan_resetLeft (s : State) (ch : ChanId) : (s.releaseChan ch).resetLeft = s.resetLeft := rfl
@[simp] theorem State.releaseChan_progs (s : State) (ch : ChanId) : (s.releaseChan ch).progs = s.progs := rfl
@[simp] theorem State.releaseChan_openOrder (s : State) (ch : ChanId) : (s.releaseChan ch).openOrder = s.openOrder := rfl
@[simp] theorem State.releaseChan_endOrder (s : State) (ch : ChanId) : (s.releaseChan ch).endOrder = s.endOrder := rfl
@[simp] theorem State.releaseChan_arrivals (s : State) (ch : ChanId) : (s.releaseChan ch).arrivals = s.arrivals := rfl
@[simp] theorem State.releaseChan_zones (s : State) (ch : ChanId) : (s.releaseChan ch).zones = s.zones := rfl
@[simp] theorem State.releaseChan_alarmUnder (s : State) (ch : ChanId) : (s.releaseChan ch).alarmUnder = s.alarmUnder := rfl
@[simp] theorem State.releaseChan_msFrames (s : State) (ch : ChanId) : (s.releaseChan ch).msFrames = s.msFrames := rfl
@[simp] theorem State.releaseChan_slots (s : State) (ch : ChanId) : (s.releaseChan ch).slots = s.slots := rfl
@[simp] theorem State.releaseChan_patterns (s : State) (ch : ChanId) : (s.releaseChan ch).patterns = s.patterns := rfl
@[simp] theorem State.releaseChan_tone (s : State) (ch : ChanId) : (s.releaseChan ch).tone = s.tone := rfl
@[simp] theorem State.releaseChan_voices (s : State) (ch : ChanId) : (s.releaseChan ch).voices = s.voices := rfl
@[simp] theorem State.releaseChan_ring (s : State) (ch : ChanId) : (s.releaseChan ch).ring = s.ring := rfl
@[simp] theorem State.releaseChan_windowMs (s : State) (ch : ChanId) : (s.releaseChan ch).windowMs = s.windowMs := rfl
@[simp] theorem State.releaseChan_stations (s : State) (ch : ChanId) : (s.releaseChan ch).stations = s.stations := rfl
@[simp] theorem State.releaseChan_calls (s : State) (ch : ChanId) : (s.releaseChan ch).calls = s.calls := rfl
@[simp] theorem State.releaseChan_callEnds (s : State) (ch : ChanId) : (s.releaseChan ch).callEnds = s.callEnds := rfl
@[simp] theorem State.releaseChan_cue (s : State) (ch : ChanId) : (s.releaseChan ch).cue = s.cue := rfl
@[simp] theorem State.releaseChan_survey (s : State) (ch : ChanId) : (s.releaseChan ch).survey = s.survey := rfl
@[simp] theorem State.releaseChan_lanes (s : State) (ch : ChanId) : (s.releaseChan ch).lanes = s.lanes := rfl

@[simp] theorem State.stopShow_pending (s : State) (ch : ChanId) : (s.stopShow ch).pending = s.pending := rfl
@[simp] theorem State.stopShow_ports (s : State) (ch : ChanId) : (s.stopShow ch).ports = s.ports := rfl
@[simp] theorem State.stopShow_restartArmed (s : State) (ch : ChanId) : (s.stopShow ch).restartArmed = s.restartArmed := rfl
@[simp] theorem State.stopShow_resetCause (s : State) (ch : ChanId) : (s.stopShow ch).resetCause = s.resetCause := rfl
@[simp] theorem State.stopShow_resetLeft (s : State) (ch : ChanId) : (s.stopShow ch).resetLeft = s.resetLeft := rfl
@[simp] theorem State.stopShow_progs (s : State) (ch : ChanId) : (s.stopShow ch).progs = s.progs := rfl
@[simp] theorem State.stopShow_openOrder (s : State) (ch : ChanId) : (s.stopShow ch).openOrder = s.openOrder := rfl
@[simp] theorem State.stopShow_endOrder (s : State) (ch : ChanId) : (s.stopShow ch).endOrder = s.endOrder := rfl
@[simp] theorem State.stopShow_arrivals (s : State) (ch : ChanId) : (s.stopShow ch).arrivals = s.arrivals := rfl
@[simp] theorem State.stopShow_zones (s : State) (ch : ChanId) : (s.stopShow ch).zones = s.zones := rfl
@[simp] theorem State.stopShow_alarmUnder (s : State) (ch : ChanId) : (s.stopShow ch).alarmUnder = s.alarmUnder := rfl
@[simp] theorem State.stopShow_msFrames (s : State) (ch : ChanId) : (s.stopShow ch).msFrames = s.msFrames := rfl
@[simp] theorem State.stopShow_slots (s : State) (ch : ChanId) : (s.stopShow ch).slots = s.slots := rfl
@[simp] theorem State.stopShow_patterns (s : State) (ch : ChanId) : (s.stopShow ch).patterns = s.patterns := rfl
@[simp] theorem State.stopShow_tone (s : State) (ch : ChanId) : (s.stopShow ch).tone = s.tone := rfl
@[simp] theorem State.stopShow_voices (s : State) (ch : ChanId) : (s.stopShow ch).voices = s.voices := rfl
@[simp] theorem State.stopShow_ring (s : State) (ch : ChanId) : (s.stopShow ch).ring = s.ring := rfl
@[simp] theorem State.stopShow_windowMs (s : State) (ch : ChanId) : (s.stopShow ch).windowMs = s.windowMs := rfl
@[simp] theorem State.stopShow_stations (s : State) (ch : ChanId) : (s.stopShow ch).stations = s.stations := rfl
@[simp] theorem State.stopShow_calls (s : State) (ch : ChanId) : (s.stopShow ch).calls = s.calls := rfl
@[simp] theorem State.stopShow_callEnds (s : State) (ch : ChanId) : (s.stopShow ch).callEnds = s.callEnds := rfl
@[simp] theorem State.stopShow_cue (s : State) (ch : ChanId) : (s.stopShow ch).cue = s.cue := rfl
@[simp] theorem State.stopShow_survey (s : State) (ch : ChanId) : (s.stopShow ch).survey = s.survey := rfl
@[simp] theorem State.stopShow_lanes (s : State) (ch : ChanId) : (s.stopShow ch).lanes = s.lanes := rfl

@[simp] theorem State.startChan_pending (s : State) (ch : ChanId) (n : Option Nat) (tr : Trigger) : (s.startChan ch n tr).pending = s.pending := rfl
@[simp] theorem State.startChan_ports (s : State) (ch : ChanId) (n : Option Nat) (tr : Trigger) : (s.startChan ch n tr).ports = s.ports := rfl
@[simp] theorem State.startChan_restartArmed (s : State) (ch : ChanId) (n : Option Nat) (tr : Trigger) : (s.startChan ch n tr).restartArmed = s.restartArmed := rfl
@[simp] theorem State.startChan_resetCause (s : State) (ch : ChanId) (n : Option Nat) (tr : Trigger) : (s.startChan ch n tr).resetCause = s.resetCause := rfl
@[simp] theorem State.startChan_resetLeft (s : State) (ch : ChanId) (n : Option Nat) (tr : Trigger) : (s.startChan ch n tr).resetLeft = s.resetLeft := rfl
@[simp] theorem State.startChan_progs (s : State) (ch : ChanId) (n : Option Nat) (tr : Trigger) : (s.startChan ch n tr).progs = s.progs := rfl
@[simp] theorem State.startChan_openOrder (s : State) (ch : ChanId) (n : Option Nat) (tr : Trigger) : (s.startChan ch n tr).openOrder = s.openOrder := rfl
@[simp] theorem State.startChan_endOrder (s : State) (ch : ChanId) (n : Option Nat) (tr : Trigger) : (s.startChan ch n tr).endOrder = s.endOrder := rfl
@[simp] theorem State.startChan_arrivals (s : State) (ch : ChanId) (n : Option Nat) (tr : Trigger) : (s.startChan ch n tr).arrivals = s.arrivals := rfl
@[simp] theorem State.startChan_zones (s : State) (ch : ChanId) (n : Option Nat) (tr : Trigger) : (s.startChan ch n tr).zones = s.zones := rfl
@[simp] theorem State.startChan_alarmUnder (s : State) (ch : ChanId) (n : Option Nat) (tr : Trigger) : (s.startChan ch n tr).alarmUnder = s.alarmUnder := rfl
@[simp] theorem State.startChan_msFrames (s : State) (ch : ChanId) (n : Option Nat) (tr : Trigger) : (s.startChan ch n tr).msFrames = s.msFrames := rfl
@[simp] theorem State.startChan_slots (s : State) (ch : ChanId) (n : Option Nat) (tr : Trigger) : (s.startChan ch n tr).slots = s.slots := rfl
@[simp] theorem State.startChan_patterns (s : State) (ch : ChanId) (n : Option Nat) (tr : Trigger) : (s.startChan ch n tr).patterns = s.patterns := rfl
@[simp] theorem State.startChan_tone (s : State) (ch : ChanId) (n : Option Nat) (tr : Trigger) : (s.startChan ch n tr).tone = s.tone := rfl
@[simp] theorem State.startChan_voices (s : State) (ch : ChanId) (n : Option Nat) (tr : Trigger) : (s.startChan ch n tr).voices = s.voices := rfl
@[simp] theorem State.startChan_ring (s : State) (ch : ChanId) (n : Option Nat) (tr : Trigger) : (s.startChan ch n tr).ring = s.ring := rfl
@[simp] theorem State.startChan_windowMs (s : State) (ch : ChanId) (n : Option Nat) (tr : Trigger) : (s.startChan ch n tr).windowMs = s.windowMs := rfl
@[simp] theorem State.startChan_clips (s : State) (ch : ChanId) (n : Option Nat) (tr : Trigger) : (s.startChan ch n tr).clips = s.clips := rfl
@[simp] theorem State.startChan_stations (s : State) (ch : ChanId) (n : Option Nat) (tr : Trigger) : (s.startChan ch n tr).stations = s.stations := rfl
@[simp] theorem State.startChan_calls (s : State) (ch : ChanId) (n : Option Nat) (tr : Trigger) : (s.startChan ch n tr).calls = s.calls := rfl
@[simp] theorem State.startChan_callEnds (s : State) (ch : ChanId) (n : Option Nat) (tr : Trigger) : (s.startChan ch n tr).callEnds = s.callEnds := rfl
@[simp] theorem State.startChan_cue (s : State) (ch : ChanId) (n : Option Nat) (tr : Trigger) : (s.startChan ch n tr).cue = s.cue := rfl
@[simp] theorem State.startChan_survey (s : State) (ch : ChanId) (n : Option Nat) (tr : Trigger) : (s.startChan ch n tr).survey = s.survey := rfl
@[simp] theorem State.startChan_lanes (s : State) (ch : ChanId) (n : Option Nat) (tr : Trigger) : (s.startChan ch n tr).lanes = s.lanes := rfl

@[simp] theorem State.beginPlaying_pending (s : State) (ch : ChanId) : (s.beginPlaying ch).pending = s.pending := by unfold State.beginPlaying; split <;> rfl
@[simp] theorem State.beginPlaying_ports (s : State) (ch : ChanId) : (s.beginPlaying ch).ports = s.ports := by unfold State.beginPlaying; split <;> rfl
@[simp] theorem State.beginPlaying_restartArmed (s : State) (ch : ChanId) : (s.beginPlaying ch).restartArmed = s.restartArmed := by unfold State.beginPlaying; split <;> rfl
@[simp] theorem State.beginPlaying_resetCause (s : State) (ch : ChanId) : (s.beginPlaying ch).resetCause = s.resetCause := by unfold State.beginPlaying; split <;> rfl
@[simp] theorem State.beginPlaying_resetLeft (s : State) (ch : ChanId) : (s.beginPlaying ch).resetLeft = s.resetLeft := by unfold State.beginPlaying; split <;> rfl
@[simp] theorem State.beginPlaying_progs (s : State) (ch : ChanId) : (s.beginPlaying ch).progs = s.progs := by unfold State.beginPlaying; split <;> rfl
@[simp] theorem State.beginPlaying_openOrder (s : State) (ch : ChanId) : (s.beginPlaying ch).openOrder = s.openOrder := by unfold State.beginPlaying; split <;> rfl
@[simp] theorem State.beginPlaying_endOrder (s : State) (ch : ChanId) : (s.beginPlaying ch).endOrder = s.endOrder := by unfold State.beginPlaying; split <;> rfl
@[simp] theorem State.beginPlaying_arrivals (s : State) (ch : ChanId) : (s.beginPlaying ch).arrivals = s.arrivals := by unfold State.beginPlaying; split <;> rfl
@[simp] theorem State.beginPlaying_zones (s : State) (ch : ChanId) : (s.beginPlaying ch).zones = s.zones := by unfold State.beginPlaying; split <;> rfl
@[simp] theorem State.beginPlaying_alarmUnder (s : State) (ch : ChanId) : (s.beginPlaying ch).alarmUnder = s.alarmUnder := by unfold State.beginPlaying; split <;> rfl
@[simp] theorem State.beginPlaying_msFrames (s : State) (ch : ChanId) : (s.beginPlaying ch).msFrames = s.msFrames := by unfold State.beginPlaying; split <;> rfl
@[simp] theorem State.beginPlaying_slots (s : State) (ch : ChanId) : (s.beginPlaying ch).slots = s.slots := by unfold State.beginPlaying; split <;> rfl
@[simp] theorem State.beginPlaying_patterns (s : State) (ch : ChanId) : (s.beginPlaying ch).patterns = s.patterns := by unfold State.beginPlaying; split <;> rfl
@[simp] theorem State.beginPlaying_tone (s : State) (ch : ChanId) : (s.beginPlaying ch).tone = s.tone := by unfold State.beginPlaying; split <;> rfl
@[simp] theorem State.beginPlaying_voices (s : State) (ch : ChanId) : (s.beginPlaying ch).voices = s.voices := by unfold State.beginPlaying; split <;> rfl
@[simp] theorem State.beginPlaying_ring (s : State) (ch : ChanId) : (s.beginPlaying ch).ring = s.ring := by unfold State.beginPlaying; split <;> rfl
@[simp] theorem State.beginPlaying_windowMs (s : State) (ch : ChanId) : (s.beginPlaying ch).windowMs = s.windowMs := by unfold State.beginPlaying; split <;> rfl
@[simp] theorem State.beginPlaying_clips (s : State) (ch : ChanId) : (s.beginPlaying ch).clips = s.clips := by unfold State.beginPlaying; split <;> rfl
@[simp] theorem State.beginPlaying_stations (s : State) (ch : ChanId) : (s.beginPlaying ch).stations = s.stations := by unfold State.beginPlaying; split <;> rfl
@[simp] theorem State.beginPlaying_calls (s : State) (ch : ChanId) : (s.beginPlaying ch).calls = s.calls := by unfold State.beginPlaying; split <;> rfl
@[simp] theorem State.beginPlaying_callEnds (s : State) (ch : ChanId) : (s.beginPlaying ch).callEnds = s.callEnds := by unfold State.beginPlaying; split <;> rfl
@[simp] theorem State.beginPlaying_cue (s : State) (ch : ChanId) : (s.beginPlaying ch).cue = s.cue := by unfold State.beginPlaying; split <;> rfl
@[simp] theorem State.beginPlaying_survey (s : State) (ch : ChanId) : (s.beginPlaying ch).survey = s.survey := by unfold State.beginPlaying; split <;> rfl
@[simp] theorem State.beginPlaying_lanes (s : State) (ch : ChanId) : (s.beginPlaying ch).lanes = s.lanes := by unfold State.beginPlaying; split <;> rfl

@[simp] theorem State.goChan_pending (s : State) (ch : ChanId) : (s.goChan ch).pending = s.pending := by unfold State.goChan; simp only; (repeat' split) <;> simp
@[simp] theorem State.goChan_ports (s : State) (ch : ChanId) : (s.goChan ch).ports = s.ports := by unfold State.goChan; simp only; (repeat' split) <;> simp
@[simp] theorem State.goChan_restartArmed (s : State) (ch : ChanId) : (s.goChan ch).restartArmed = s.restartArmed := by unfold State.goChan; simp only; (repeat' split) <;> simp
@[simp] theorem State.goChan_resetCause (s : State) (ch : ChanId) : (s.goChan ch).resetCause = s.resetCause := by unfold State.goChan; simp only; (repeat' split) <;> simp
@[simp] theorem State.goChan_resetLeft (s : State) (ch : ChanId) : (s.goChan ch).resetLeft = s.resetLeft := by unfold State.goChan; simp only; (repeat' split) <;> simp
@[simp] theorem State.goChan_progs (s : State) (ch : ChanId) : (s.goChan ch).progs = s.progs := by unfold State.goChan; simp only; (repeat' split) <;> simp
@[simp] theorem State.goChan_openOrder (s : State) (ch : ChanId) : (s.goChan ch).openOrder = s.openOrder := by unfold State.goChan; simp only; (repeat' split) <;> simp
@[simp] theorem State.goChan_endOrder (s : State) (ch : ChanId) : (s.goChan ch).endOrder = s.endOrder := by unfold State.goChan; simp only; (repeat' split) <;> simp
@[simp] theorem State.goChan_arrivals (s : State) (ch : ChanId) : (s.goChan ch).arrivals = s.arrivals := by unfold State.goChan; simp only; (repeat' split) <;> simp
@[simp] theorem State.goChan_zones (s : State) (ch : ChanId) : (s.goChan ch).zones = s.zones := by unfold State.goChan; simp only; (repeat' split) <;> simp
@[simp] theorem State.goChan_alarmUnder (s : State) (ch : ChanId) : (s.goChan ch).alarmUnder = s.alarmUnder := by unfold State.goChan; simp only; (repeat' split) <;> simp
@[simp] theorem State.goChan_msFrames (s : State) (ch : ChanId) : (s.goChan ch).msFrames = s.msFrames := by unfold State.goChan; simp only; (repeat' split) <;> simp
@[simp] theorem State.goChan_slots (s : State) (ch : ChanId) : (s.goChan ch).slots = s.slots := by unfold State.goChan; simp only; (repeat' split) <;> simp
@[simp] theorem State.goChan_patterns (s : State) (ch : ChanId) : (s.goChan ch).patterns = s.patterns := by unfold State.goChan; simp only; (repeat' split) <;> simp
@[simp] theorem State.goChan_tone (s : State) (ch : ChanId) : (s.goChan ch).tone = s.tone := by unfold State.goChan; simp only; (repeat' split) <;> simp
@[simp] theorem State.goChan_voices (s : State) (ch : ChanId) : (s.goChan ch).voices = s.voices := by unfold State.goChan; simp only; (repeat' split) <;> simp
@[simp] theorem State.goChan_ring (s : State) (ch : ChanId) : (s.goChan ch).ring = s.ring := by unfold State.goChan; simp only; (repeat' split) <;> simp
@[simp] theorem State.goChan_windowMs (s : State) (ch : ChanId) : (s.goChan ch).windowMs = s.windowMs := by unfold State.goChan; simp only; (repeat' split) <;> simp
@[simp] theorem State.goChan_clips (s : State) (ch : ChanId) : (s.goChan ch).clips = s.clips := by unfold State.goChan; simp only; (repeat' split) <;> simp
@[simp] theorem State.goChan_stations (s : State) (ch : ChanId) : (s.goChan ch).stations = s.stations := by unfold State.goChan; simp only; (repeat' split) <;> simp
@[simp] theorem State.goChan_calls (s : State) (ch : ChanId) : (s.goChan ch).calls = s.calls := by unfold State.goChan; simp only; (repeat' split) <;> simp
@[simp] theorem State.goChan_callEnds (s : State) (ch : ChanId) : (s.goChan ch).callEnds = s.callEnds := by unfold State.goChan; simp only; (repeat' split) <;> simp
@[simp] theorem State.goChan_cue (s : State) (ch : ChanId) : (s.goChan ch).cue = s.cue := by unfold State.goChan; simp only; (repeat' split) <;> simp
@[simp] theorem State.goChan_survey (s : State) (ch : ChanId) : (s.goChan ch).survey = s.survey := by unfold State.goChan; simp only; (repeat' split) <;> simp
@[simp] theorem State.goChan_lanes (s : State) (ch : ChanId) : (s.goChan ch).lanes = s.lanes := by unfold State.goChan; simp only; (repeat' split) <;> simp

@[simp] theorem State.gateShow_pending (s : State) (b : Bool) : (s.gateShow b).pending = s.pending := rfl
@[simp] theorem State.gateShow_ports (s : State) (b : Bool) : (s.gateShow b).ports = s.ports := rfl
@[simp] theorem State.gateShow_restartArmed (s : State) (b : Bool) : (s.gateShow b).restartArmed = s.restartArmed := rfl
@[simp] theorem State.gateShow_resetCause (s : State) (b : Bool) : (s.gateShow b).resetCause = s.resetCause := rfl
@[simp] theorem State.gateShow_resetLeft (s : State) (b : Bool) : (s.gateShow b).resetLeft = s.resetLeft := rfl
@[simp] theorem State.gateShow_progs (s : State) (b : Bool) : (s.gateShow b).progs = s.progs := rfl
@[simp] theorem State.gateShow_openOrder (s : State) (b : Bool) : (s.gateShow b).openOrder = s.openOrder := rfl
@[simp] theorem State.gateShow_endOrder (s : State) (b : Bool) : (s.gateShow b).endOrder = s.endOrder := rfl
@[simp] theorem State.gateShow_arrivals (s : State) (b : Bool) : (s.gateShow b).arrivals = s.arrivals := rfl
@[simp] theorem State.gateShow_zones (s : State) (b : Bool) : (s.gateShow b).zones = s.zones := rfl
@[simp] theorem State.gateShow_alarmUnder (s : State) (b : Bool) : (s.gateShow b).alarmUnder = s.alarmUnder := rfl
@[simp] theorem State.gateShow_msFrames (s : State) (b : Bool) : (s.gateShow b).msFrames = s.msFrames := rfl
@[simp] theorem State.gateShow_slots (s : State) (b : Bool) : (s.gateShow b).slots = s.slots := rfl
@[simp] theorem State.gateShow_patterns (s : State) (b : Bool) : (s.gateShow b).patterns = s.patterns := rfl
@[simp] theorem State.gateShow_tone (s : State) (b : Bool) : (s.gateShow b).tone = s.tone := rfl
@[simp] theorem State.gateShow_voices (s : State) (b : Bool) : (s.gateShow b).voices = s.voices := rfl
@[simp] theorem State.gateShow_ring (s : State) (b : Bool) : (s.gateShow b).ring = s.ring := rfl
@[simp] theorem State.gateShow_windowMs (s : State) (b : Bool) : (s.gateShow b).windowMs = s.windowMs := rfl
@[simp] theorem State.gateShow_clips (s : State) (b : Bool) : (s.gateShow b).clips = s.clips := rfl
@[simp] theorem State.gateShow_stations (s : State) (b : Bool) : (s.gateShow b).stations = s.stations := rfl
@[simp] theorem State.gateShow_calls (s : State) (b : Bool) : (s.gateShow b).calls = s.calls := rfl
@[simp] theorem State.gateShow_callEnds (s : State) (b : Bool) : (s.gateShow b).callEnds = s.callEnds := rfl
@[simp] theorem State.gateShow_cue (s : State) (b : Bool) : (s.gateShow b).cue = s.cue := rfl
@[simp] theorem State.gateShow_survey (s : State) (b : Bool) : (s.gateShow b).survey = s.survey := rfl
@[simp] theorem State.gateShow_lanes (s : State) (b : Bool) : (s.gateShow b).lanes = s.lanes := rfl

@[simp] theorem State.raiseUnderrun_pending (s : State) (ch : ChanId) : (s.raiseUnderrun ch).pending = s.pending := by unfold State.raiseUnderrun; simp only; split <;> rfl
@[simp] theorem State.raiseUnderrun_restartArmed (s : State) (ch : ChanId) : (s.raiseUnderrun ch).restartArmed = s.restartArmed := by unfold State.raiseUnderrun; simp only; split <;> rfl
@[simp] theorem State.raiseUnderrun_resetCause (s : State) (ch : ChanId) : (s.raiseUnderrun ch).resetCause = s.resetCause := by unfold State.raiseUnderrun; simp only; split <;> rfl
@[simp] theorem State.raiseUnderrun_resetLeft (s : State) (ch : ChanId) : (s.raiseUnderrun ch).resetLeft = s.resetLeft := by unfold State.raiseUnderrun; simp only; split <;> rfl
@[simp] theorem State.raiseUnderrun_progs (s : State) (ch : ChanId) : (s.raiseUnderrun ch).progs = s.progs := by unfold State.raiseUnderrun; simp only; split <;> rfl
@[simp] theorem State.raiseUnderrun_openOrder (s : State) (ch : ChanId) : (s.raiseUnderrun ch).openOrder = s.openOrder := by unfold State.raiseUnderrun; simp only; split <;> rfl
@[simp] theorem State.raiseUnderrun_endOrder (s : State) (ch : ChanId) : (s.raiseUnderrun ch).endOrder = s.endOrder := by unfold State.raiseUnderrun; simp only; split <;> rfl
@[simp] theorem State.raiseUnderrun_arrivals (s : State) (ch : ChanId) : (s.raiseUnderrun ch).arrivals = s.arrivals := by unfold State.raiseUnderrun; simp only; split <;> rfl
@[simp] theorem State.raiseUnderrun_zones (s : State) (ch : ChanId) : (s.raiseUnderrun ch).zones = s.zones := by unfold State.raiseUnderrun; simp only; split <;> rfl
@[simp] theorem State.raiseUnderrun_alarmUnder (s : State) (ch : ChanId) : (s.raiseUnderrun ch).alarmUnder = s.alarmUnder := by unfold State.raiseUnderrun; simp only; split <;> rfl
@[simp] theorem State.raiseUnderrun_msFrames (s : State) (ch : ChanId) : (s.raiseUnderrun ch).msFrames = s.msFrames := by unfold State.raiseUnderrun; simp only; split <;> rfl
@[simp] theorem State.raiseUnderrun_slots (s : State) (ch : ChanId) : (s.raiseUnderrun ch).slots = s.slots := by unfold State.raiseUnderrun; simp only; split <;> rfl
@[simp] theorem State.raiseUnderrun_patterns (s : State) (ch : ChanId) : (s.raiseUnderrun ch).patterns = s.patterns := by unfold State.raiseUnderrun; simp only; split <;> rfl
@[simp] theorem State.raiseUnderrun_tone (s : State) (ch : ChanId) : (s.raiseUnderrun ch).tone = s.tone := by unfold State.raiseUnderrun; simp only; split <;> rfl
@[simp] theorem State.raiseUnderrun_voices (s : State) (ch : ChanId) : (s.raiseUnderrun ch).voices = s.voices := by unfold State.raiseUnderrun; simp only; split <;> rfl
@[simp] theorem State.raiseUnderrun_ring (s : State) (ch : ChanId) : (s.raiseUnderrun ch).ring = s.ring := by unfold State.raiseUnderrun; simp only; split <;> rfl
@[simp] theorem State.raiseUnderrun_windowMs (s : State) (ch : ChanId) : (s.raiseUnderrun ch).windowMs = s.windowMs := by unfold State.raiseUnderrun; simp only; split <;> rfl
@[simp] theorem State.raiseUnderrun_clips (s : State) (ch : ChanId) : (s.raiseUnderrun ch).clips = s.clips := by unfold State.raiseUnderrun; simp only; split <;> rfl
@[simp] theorem State.raiseUnderrun_chans (s : State) (ch : ChanId) : (s.raiseUnderrun ch).chans = s.chans := by unfold State.raiseUnderrun; simp only; split <;> rfl
@[simp] theorem State.raiseUnderrun_stations (s : State) (ch : ChanId) : (s.raiseUnderrun ch).stations = s.stations := by unfold State.raiseUnderrun; simp only; split <;> rfl
@[simp] theorem State.raiseUnderrun_calls (s : State) (ch : ChanId) : (s.raiseUnderrun ch).calls = s.calls := by unfold State.raiseUnderrun; simp only; split <;> rfl
@[simp] theorem State.raiseUnderrun_callEnds (s : State) (ch : ChanId) : (s.raiseUnderrun ch).callEnds = s.callEnds := by unfold State.raiseUnderrun; simp only; split <;> rfl
@[simp] theorem State.raiseUnderrun_cue (s : State) (ch : ChanId) : (s.raiseUnderrun ch).cue = s.cue := by unfold State.raiseUnderrun; simp only; split <;> rfl
@[simp] theorem State.raiseUnderrun_survey (s : State) (ch : ChanId) : (s.raiseUnderrun ch).survey = s.survey := by unfold State.raiseUnderrun; simp only; split <;> rfl
@[simp] theorem State.raiseUnderrun_lanes (s : State) (ch : ChanId) : (s.raiseUnderrun ch).lanes = s.lanes := by unfold State.raiseUnderrun; simp only; split <;> rfl

@[simp] theorem State.lateBlock_pending (s : State) (ch : ChanId) (o : Nat) : (s.lateBlock ch o).pending = s.pending := by unfold State.lateBlock; simp only; split <;> simp
@[simp] theorem State.lateBlock_restartArmed (s : State) (ch : ChanId) (o : Nat) : (s.lateBlock ch o).restartArmed = s.restartArmed := by unfold State.lateBlock; simp only; split <;> simp
@[simp] theorem State.lateBlock_resetCause (s : State) (ch : ChanId) (o : Nat) : (s.lateBlock ch o).resetCause = s.resetCause := by unfold State.lateBlock; simp only; split <;> simp
@[simp] theorem State.lateBlock_resetLeft (s : State) (ch : ChanId) (o : Nat) : (s.lateBlock ch o).resetLeft = s.resetLeft := by unfold State.lateBlock; simp only; split <;> simp
@[simp] theorem State.lateBlock_progs (s : State) (ch : ChanId) (o : Nat) : (s.lateBlock ch o).progs = s.progs := by unfold State.lateBlock; simp only; split <;> simp
@[simp] theorem State.lateBlock_openOrder (s : State) (ch : ChanId) (o : Nat) : (s.lateBlock ch o).openOrder = s.openOrder := by unfold State.lateBlock; simp only; split <;> simp
@[simp] theorem State.lateBlock_endOrder (s : State) (ch : ChanId) (o : Nat) : (s.lateBlock ch o).endOrder = s.endOrder := by unfold State.lateBlock; simp only; split <;> simp
@[simp] theorem State.lateBlock_arrivals (s : State) (ch : ChanId) (o : Nat) : (s.lateBlock ch o).arrivals = s.arrivals := by unfold State.lateBlock; simp only; split <;> simp
@[simp] theorem State.lateBlock_zones (s : State) (ch : ChanId) (o : Nat) : (s.lateBlock ch o).zones = s.zones := by unfold State.lateBlock; simp only; split <;> simp
@[simp] theorem State.lateBlock_alarmUnder (s : State) (ch : ChanId) (o : Nat) : (s.lateBlock ch o).alarmUnder = s.alarmUnder := by unfold State.lateBlock; simp only; split <;> simp
@[simp] theorem State.lateBlock_msFrames (s : State) (ch : ChanId) (o : Nat) : (s.lateBlock ch o).msFrames = s.msFrames := by unfold State.lateBlock; simp only; split <;> simp
@[simp] theorem State.lateBlock_slots (s : State) (ch : ChanId) (o : Nat) : (s.lateBlock ch o).slots = s.slots := by unfold State.lateBlock; simp only; split <;> simp
@[simp] theorem State.lateBlock_patterns (s : State) (ch : ChanId) (o : Nat) : (s.lateBlock ch o).patterns = s.patterns := by unfold State.lateBlock; simp only; split <;> simp
@[simp] theorem State.lateBlock_tone (s : State) (ch : ChanId) (o : Nat) : (s.lateBlock ch o).tone = s.tone := by unfold State.lateBlock; simp only; split <;> simp
@[simp] theorem State.lateBlock_voices (s : State) (ch : ChanId) (o : Nat) : (s.lateBlock ch o).voices = s.voices := by unfold State.lateBlock; simp only; split <;> simp
@[simp] theorem State.lateBlock_ring (s : State) (ch : ChanId) (o : Nat) : (s.lateBlock ch o).ring = s.ring := by unfold State.lateBlock; simp only; split <;> simp
@[simp] theorem State.lateBlock_windowMs (s : State) (ch : ChanId) (o : Nat) : (s.lateBlock ch o).windowMs = s.windowMs := by unfold State.lateBlock; simp only; split <;> simp
@[simp] theorem State.lateBlock_clips (s : State) (ch : ChanId) (o : Nat) : (s.lateBlock ch o).clips = s.clips := by unfold State.lateBlock; simp only; split <;> simp
@[simp] theorem State.lateBlock_stations (s : State) (ch : ChanId) (o : Nat) : (s.lateBlock ch o).stations = s.stations := by unfold State.lateBlock; simp only; split <;> simp
@[simp] theorem State.lateBlock_calls (s : State) (ch : ChanId) (o : Nat) : (s.lateBlock ch o).calls = s.calls := by unfold State.lateBlock; simp only; split <;> simp
@[simp] theorem State.lateBlock_callEnds (s : State) (ch : ChanId) (o : Nat) : (s.lateBlock ch o).callEnds = s.callEnds := by unfold State.lateBlock; simp only; split <;> simp
@[simp] theorem State.lateBlock_cue (s : State) (ch : ChanId) (o : Nat) : (s.lateBlock ch o).cue = s.cue := by unfold State.lateBlock; simp only; split <;> simp
@[simp] theorem State.lateBlock_survey (s : State) (ch : ChanId) (o : Nat) : (s.lateBlock ch o).survey = s.survey := by unfold State.lateBlock; simp only; split <;> simp
@[simp] theorem State.lateBlock_lanes (s : State) (ch : ChanId) (o : Nat) : (s.lateBlock ch o).lanes = s.lanes := by unfold State.lateBlock; simp only; split <;> simp

@[simp] theorem State.takeBlock_pending (s : State) (ch : ChanId) (o : Nat) : (s.takeBlock ch o).pending = s.pending := by unfold State.takeBlock; split <;> simp
@[simp] theorem State.takeBlock_restartArmed (s : State) (ch : ChanId) (o : Nat) : (s.takeBlock ch o).restartArmed = s.restartArmed := by unfold State.takeBlock; split <;> simp
@[simp] theorem State.takeBlock_resetCause (s : State) (ch : ChanId) (o : Nat) : (s.takeBlock ch o).resetCause = s.resetCause := by unfold State.takeBlock; split <;> simp
@[simp] theorem State.takeBlock_resetLeft (s : State) (ch : ChanId) (o : Nat) : (s.takeBlock ch o).resetLeft = s.resetLeft := by unfold State.takeBlock; split <;> simp
@[simp] theorem State.takeBlock_progs (s : State) (ch : ChanId) (o : Nat) : (s.takeBlock ch o).progs = s.progs := by unfold State.takeBlock; split <;> simp
@[simp] theorem State.takeBlock_openOrder (s : State) (ch : ChanId) (o : Nat) : (s.takeBlock ch o).openOrder = s.openOrder := by unfold State.takeBlock; split <;> simp
@[simp] theorem State.takeBlock_endOrder (s : State) (ch : ChanId) (o : Nat) : (s.takeBlock ch o).endOrder = s.endOrder := by unfold State.takeBlock; split <;> simp
@[simp] theorem State.takeBlock_arrivals (s : State) (ch : ChanId) (o : Nat) : (s.takeBlock ch o).arrivals = s.arrivals := by unfold State.takeBlock; split <;> simp
@[simp] theorem State.takeBlock_zones (s : State) (ch : ChanId) (o : Nat) : (s.takeBlock ch o).zones = s.zones := by unfold State.takeBlock; split <;> simp
@[simp] theorem State.takeBlock_alarmUnder (s : State) (ch : ChanId) (o : Nat) : (s.takeBlock ch o).alarmUnder = s.alarmUnder := by unfold State.takeBlock; split <;> simp
@[simp] theorem State.takeBlock_msFrames (s : State) (ch : ChanId) (o : Nat) : (s.takeBlock ch o).msFrames = s.msFrames := by unfold State.takeBlock; split <;> simp
@[simp] theorem State.takeBlock_slots (s : State) (ch : ChanId) (o : Nat) : (s.takeBlock ch o).slots = s.slots := by unfold State.takeBlock; split <;> simp
@[simp] theorem State.takeBlock_patterns (s : State) (ch : ChanId) (o : Nat) : (s.takeBlock ch o).patterns = s.patterns := by unfold State.takeBlock; split <;> simp
@[simp] theorem State.takeBlock_tone (s : State) (ch : ChanId) (o : Nat) : (s.takeBlock ch o).tone = s.tone := by unfold State.takeBlock; split <;> simp
@[simp] theorem State.takeBlock_voices (s : State) (ch : ChanId) (o : Nat) : (s.takeBlock ch o).voices = s.voices := by unfold State.takeBlock; split <;> simp
@[simp] theorem State.takeBlock_ring (s : State) (ch : ChanId) (o : Nat) : (s.takeBlock ch o).ring = s.ring := by unfold State.takeBlock; split <;> simp
@[simp] theorem State.takeBlock_windowMs (s : State) (ch : ChanId) (o : Nat) : (s.takeBlock ch o).windowMs = s.windowMs := by unfold State.takeBlock; split <;> simp
@[simp] theorem State.takeBlock_clips (s : State) (ch : ChanId) (o : Nat) : (s.takeBlock ch o).clips = s.clips := by unfold State.takeBlock; split <;> simp
@[simp] theorem State.takeBlock_stations (s : State) (ch : ChanId) (o : Nat) : (s.takeBlock ch o).stations = s.stations := by unfold State.takeBlock; split <;> simp
@[simp] theorem State.takeBlock_calls (s : State) (ch : ChanId) (o : Nat) : (s.takeBlock ch o).calls = s.calls := by unfold State.takeBlock; split <;> simp
@[simp] theorem State.takeBlock_callEnds (s : State) (ch : ChanId) (o : Nat) : (s.takeBlock ch o).callEnds = s.callEnds := by unfold State.takeBlock; split <;> simp
@[simp] theorem State.takeBlock_cue (s : State) (ch : ChanId) (o : Nat) : (s.takeBlock ch o).cue = s.cue := by unfold State.takeBlock; split <;> simp
@[simp] theorem State.takeBlock_survey (s : State) (ch : ChanId) (o : Nat) : (s.takeBlock ch o).survey = s.survey := by unfold State.takeBlock; split <;> simp
@[simp] theorem State.takeBlock_lanes (s : State) (ch : ChanId) (o : Nat) : (s.takeBlock ch o).lanes = s.lanes := by unfold State.takeBlock; split <;> simp

@[simp] theorem State.nextBlock_pending (s : State) (ch : ChanId) (o : Nat) : (s.nextBlock ch o).pending = s.pending := by unfold State.nextBlock; split <;> simp
@[simp] theorem State.nextBlock_restartArmed (s : State) (ch : ChanId) (o : Nat) : (s.nextBlock ch o).restartArmed = s.restartArmed := by unfold State.nextBlock; split <;> simp
@[simp] theorem State.nextBlock_resetCause (s : State) (ch : ChanId) (o : Nat) : (s.nextBlock ch o).resetCause = s.resetCause := by unfold State.nextBlock; split <;> simp
@[simp] theorem State.nextBlock_resetLeft (s : State) (ch : ChanId) (o : Nat) : (s.nextBlock ch o).resetLeft = s.resetLeft := by unfold State.nextBlock; split <;> simp
@[simp] theorem State.nextBlock_progs (s : State) (ch : ChanId) (o : Nat) : (s.nextBlock ch o).progs = s.progs := by unfold State.nextBlock; split <;> simp
@[simp] theorem State.nextBlock_openOrder (s : State) (ch : ChanId) (o : Nat) : (s.nextBlock ch o).openOrder = s.openOrder := by unfold State.nextBlock; split <;> simp
@[simp] theorem State.nextBlock_endOrder (s : State) (ch : ChanId) (o : Nat) : (s.nextBlock ch o).endOrder = s.endOrder := by unfold State.nextBlock; split <;> simp
@[simp] theorem State.nextBlock_arrivals (s : State) (ch : ChanId) (o : Nat) : (s.nextBlock ch o).arrivals = s.arrivals := by unfold State.nextBlock; split <;> simp
@[simp] theorem State.nextBlock_zones (s : State) (ch : ChanId) (o : Nat) : (s.nextBlock ch o).zones = s.zones := by unfold State.nextBlock; split <;> simp
@[simp] theorem State.nextBlock_alarmUnder (s : State) (ch : ChanId) (o : Nat) : (s.nextBlock ch o).alarmUnder = s.alarmUnder := by unfold State.nextBlock; split <;> simp
@[simp] theorem State.nextBlock_msFrames (s : State) (ch : ChanId) (o : Nat) : (s.nextBlock ch o).msFrames = s.msFrames := by unfold State.nextBlock; split <;> simp
@[simp] theorem State.nextBlock_slots (s : State) (ch : ChanId) (o : Nat) : (s.nextBlock ch o).slots = s.slots := by unfold State.nextBlock; split <;> simp
@[simp] theorem State.nextBlock_patterns (s : State) (ch : ChanId) (o : Nat) : (s.nextBlock ch o).patterns = s.patterns := by unfold State.nextBlock; split <;> simp
@[simp] theorem State.nextBlock_tone (s : State) (ch : ChanId) (o : Nat) : (s.nextBlock ch o).tone = s.tone := by unfold State.nextBlock; split <;> simp
@[simp] theorem State.nextBlock_voices (s : State) (ch : ChanId) (o : Nat) : (s.nextBlock ch o).voices = s.voices := by unfold State.nextBlock; split <;> simp
@[simp] theorem State.nextBlock_ring (s : State) (ch : ChanId) (o : Nat) : (s.nextBlock ch o).ring = s.ring := by unfold State.nextBlock; split <;> simp
@[simp] theorem State.nextBlock_windowMs (s : State) (ch : ChanId) (o : Nat) : (s.nextBlock ch o).windowMs = s.windowMs := by unfold State.nextBlock; split <;> simp
@[simp] theorem State.nextBlock_clips (s : State) (ch : ChanId) (o : Nat) : (s.nextBlock ch o).clips = s.clips := by unfold State.nextBlock; split <;> simp
@[simp] theorem State.nextBlock_stations (s : State) (ch : ChanId) (o : Nat) : (s.nextBlock ch o).stations = s.stations := by unfold State.nextBlock; split <;> simp
@[simp] theorem State.nextBlock_calls (s : State) (ch : ChanId) (o : Nat) : (s.nextBlock ch o).calls = s.calls := by unfold State.nextBlock; split <;> simp
@[simp] theorem State.nextBlock_callEnds (s : State) (ch : ChanId) (o : Nat) : (s.nextBlock ch o).callEnds = s.callEnds := by unfold State.nextBlock; split <;> simp
@[simp] theorem State.nextBlock_cue (s : State) (ch : ChanId) (o : Nat) : (s.nextBlock ch o).cue = s.cue := by unfold State.nextBlock; split <;> simp
@[simp] theorem State.nextBlock_survey (s : State) (ch : ChanId) (o : Nat) : (s.nextBlock ch o).survey = s.survey := by unfold State.nextBlock; split <;> simp
@[simp] theorem State.nextBlock_lanes (s : State) (ch : ChanId) (o : Nat) : (s.nextBlock ch o).lanes = s.lanes := by unfold State.nextBlock; split <;> simp

/-! ### Ramps stay in range (R65, R67) -/

theorem Ramp.inRange_iff (r : Ramp) :
    r.inRange = true ↔ r.current ≤ unity ∧ r.start ≤ unity ∧ r.target ≤ unity ∧ ∀ t, r.staged = some t → t.1 ≤ unity := by
  cases h : r.staged <;> simp [Ramp.inRange, h, and_assoc]

theorem clampGain_le (g : Nat) : clampGain g ≤ unity := Nat.min_le_right _ _

/-- A ramp set up from a value in range is in range. -/
theorem Ramp.setUp_inRange {r : Ramp} (h : r.inRange = true) (t d : Nat) : (r.setUp t d).inRange = true := by
  rw [Ramp.inRange_iff] at h ⊢
  obtain ⟨h1, h2, h3, h4⟩ := h
  unfold Ramp.setUp
  simp only
  split <;> exact ⟨by first | exact clampGain_le t | exact h1, by first | exact h2 | exact h1, clampGain_le t, h4⟩

/-- A retarget of a ramp in range is in range. -/
theorem Ramp.retarget_inRange {r : Ramp} (h : r.inRange = true) (b : Bool) (t d : Nat) : (r.retarget b t d).inRange = true := by
  unfold Ramp.retarget Ramp.stage Ramp.cut
  split
  · split
    · rw [Ramp.inRange_iff] at h ⊢
      refine ⟨h.1, h.2.1, h.2.2.1, fun x e => ?_⟩
      cases e
      exact clampGain_le t
    · exact Ramp.setUp_inRange h t d
  · apply Ramp.setUp_inRange
    rw [Ramp.inRange_iff] at h ⊢
    exact ⟨h.1, h.2.1, h.2.2.1, by simp⟩

/-- A ramp moves between its value and its target (R67). -/
theorem Ramp.moved_le {r : Ramp} (hc : r.current ≤ unity) (ht : r.target ≤ unity) : r.moved ≤ unity := by
  unfold Ramp.moved
  split <;> omega

/-- One expiry keeps a ramp in range. -/
theorem Ramp.tick_inRange {r : Ramp} (h : r.inRange = true) : r.tick.inRange = true := by
  have h' := (Ramp.inRange_iff r).mp h
  have hm := Ramp.moved_le h'.1 h'.2.2.1
  unfold Ramp.tick
  split
  · simp only
    split
    · split
      · rw [Ramp.inRange_iff]
        exact ⟨hm, h'.2.1, h'.2.2.1, h'.2.2.2⟩
      · apply Ramp.setUp_inRange
        rw [Ramp.inRange_iff]
        exact ⟨hm, h'.2.1, h'.2.2.1, by simp⟩
    · rw [Ramp.inRange_iff]
      exact ⟨hm, h'.2.1, h'.2.2.1, h'.2.2.2⟩
  · exact h

/-- A saturated value is a sample (R61). -/
theorem isSample_saturate (x : Int) : isSample (saturate x) = true := by
  simp [isSample, saturate, sampleMin, sampleMax]

/-! What the output lanes carry, what a RESTART leaves of them, and what an ended call and an emptied load buffer keep. -/

/-- A slot's first 24 bits carry a sample of the range unchanged (R1). -/
theorem outputSlot_toInt {x : Int} (h : isSample x = true) : ((outputSlot x).extractLsb' 8 24).toInt = x := by
  simp only [isSample, sampleMin, sampleMax, Bool.and_eq_true] at h
  have hl := of_decide_eq_true h.1
  have hu := of_decide_eq_true h.2
  have e : (outputSlot x).extractLsb' 8 24 = BitVec.ofInt 24 x := by
    unfold outputSlot
    generalize BitVec.ofInt 24 x = v
    ext i hi
    simp only [BitVec.getElem_extractLsb', BitVec.getLsbD_append]
    simp [show ¬8 + i < 8 by omega, BitVec.getLsbD_eq_getElem hi]
  rw [e, BitVec.toInt_ofInt, Int.bmod_def]
  norm_num
  split <;> omega

@[simp] theorem Lanes.zoneLane_getElem (l : Lanes) (j : Fin 4) (k : Fin 16) :
    (l.zoneLane j)[k] = outputSlot (l.zoneOut[16 * j.val + k.val]'(by omega)) :=
  getElem_tabulate _ k.val k.isLt

@[simp] theorem Lanes.stationLane_getElem (l : Lanes) (j : Fin 2) (k : Fin 16) :
    (l.stationLane j)[k] = outputSlot (l.stationOut[16 * j.val + k.val]'(by omega)) :=
  getElem_tabulate _ k.val k.isLt

@[simp] theorem Lanes.cleared_zoneOut (l : Lanes) : l.cleared.zoneOut = l.zoneOut := rfl
@[simp] theorem Lanes.cleared_stationOut (l : Lanes) : l.cleared.stationOut = l.stationOut := rfl
@[simp] theorem Lanes.cleared_inputs (l : Lanes) : l.cleared.inputs = Lanes.reset.inputs := rfl
@[simp] theorem Lanes.cleared_sense (l : Lanes) : l.cleared.sense = Lanes.reset.sense := rfl
@[simp] theorem Lanes.cleared_senseBefore (l : Lanes) : l.cleared.senseBefore = Lanes.reset.senseBefore := rfl

@[simp] theorem Call.over_state (c : Call) (why : EndCause) : (c.over why).state = .ended := rfl
@[simp] theorem Call.over_parties (c : Call) (why : EndCause) : (c.over why).parties = c.parties := rfl
@[simp] theorem Call.over_endCause (c : Call) (why : EndCause) : (c.over why).endCause = some why := rfl

theorem Load.following_of_empty {l : Load} {x : BufId} (h : (l.buf x.other).data = []) : l.following x = (l.buf x).dest + 1 := by
  simp [Load.following, h]

theorem Load.following_of_filled {l : Load} {x : BufId} (h : (l.buf x.other).data ≠ []) :
    l.following x = (l.buf x.other).dest + 1 := by
  simp [Load.following, h]

@[simp] theorem outTimer_running (n : Nat) (b : Bool) : outTimer (some n) b = out32 n := rfl
@[simp] theorem outTimer_expired : outTimer none true = [0xFF#8, 0xFF#8, 0xFF#8, 0xFE#8] := by decide
@[simp] theorem outTimer_stopped : outTimer none false = [0xFF#8, 0xFF#8, 0xFF#8, 0xFF#8] := by decide

@[simp] theorem Survey.idle_state (v : Survey) (b : Bool) : (v.idle b).state = .idle := rfl
@[simp] theorem Survey.idle_zone (v : Survey) (b : Bool) : (v.idle b).zone = none := rfl
@[simp] theorem Survey.idle_queue (v : Survey) (b : Bool) : (v.idle b).queue = v.queue := rfl
@[simp] theorem Survey.idle_dwell (v : Survey) (b : Bool) : (v.idle b).dwell = none := rfl
@[simp] theorem Survey.idle_dwellExpired (v : Survey) (b : Bool) : (v.idle b).dwellExpired = b := rfl
@[simp] theorem Survey.idle_pgRunning (v : Survey) (b : Bool) : (v.idle b).pgRunning = false := rfl

@[simp] theorem CueEngine.concluded_bound (c : CueEngine) (n : Nat) (late : Bool) : (c.concluded n late).bound = none := rfl
@[simp] theorem CueEngine.concluded_executing (c : CueEngine) (n : Nat) (late : Bool) :
    (c.concluded n late).executing = none := rfl
@[simp] theorem CueEngine.concluded_standby (c : CueEngine) (n : Nat) (late : Bool) :
    (c.concluded n late).standby = nextCue c.cues n := rfl

theorem CueEngine.concluded_boundExpired_of_running {c : CueEngine} (h : c.bound ≠ none) (n : Nat) (late : Bool) :
    (c.concluded n late).boundExpired = late := by
  simp [CueEngine.concluded, Option.isSome_iff_ne_none.mpr h]

@[simp] theorem CueEngine.stopped_bound (c : CueEngine) : c.stopped.bound = none := by
  unfold CueEngine.stopped; split <;> rfl
@[simp] theorem CueEngine.stopped_boundExpired (c : CueEngine) : c.stopped.boundExpired = false := by
  unfold CueEngine.stopped; split <;> rfl

/-! The end of a pattern, under either name of its event (R97, R100, R107). -/

@[simp] theorem State.reportEnd_tg (s : State) (k : Fin 2) : s.reportEnd (.tg k) = s.toneEnded k := rfl
@[simp] theorem State.reportEnd_cv (s : State) (v : Fin 4) : s.reportEnd (.cv v) = s.chimeEnded v := rfl
@[simp] theorem State.reportEnd_rc (s : State) : s.reportEnd .rc = s := rfl

theorem State.phaseEnded_of_goesOn {s : State} {pl : PlayerId} (h : s.reachesEnd pl = false) :
    s.phaseEnded pl = s.onPlayer pl fun p => p.phaseEnd (s.patternOf p) (playerLoops pl) := by
  simp [State.phaseEnded, h]

theorem State.phaseEnded_of_end {s : State} {pl : PlayerId} (h : s.reachesEnd pl = true) :
    s.phaseEnded pl = (s.onPlayer pl fun p => p.phaseEnd (s.patternOf p) (playerLoops pl)).reportEnd pl := by
  simp [State.phaseEnded, h]

theorem State.patternEnded_of_end {s : State} {pl : PlayerId} (h : s.reachesEnd pl = true) :
    s.patternEnded pl = s.phaseEnded pl := by
  simp [State.patternEnded, h]

/-! ### The release step (R33, R36) and the dirty flag of an entry (R123) -/

/-- A zone with an owner keeps it at its turn; only a bed slot given up there is filled. -/
theorem State.releaseZone_of_owned {s : State} {z : Zone} (h : s.zones[z].owner.isSome = true) (quiet : Bool) (rs beds : ZoneSet) :
    s.releaseZone quiet rs beds z =
      if beds.getLsbD z.val = true ∧ s.zones[z].bed = none then s.fillBed quiet z else s := by
  have hn : s.zones[z].owner.isNone = false := by cases ho : s.zones[z].owner <;> simp_all
  unfold State.releaseZone
  rw [hn]
  simp [Option.isNone_iff_eq_none]

/-- A zone without owner gets its successor, and nothing more where its bed slot was not given up. -/
theorem State.releaseZone_of_unowned {s : State} {z : Zone} {beds : ZoneSet} (h : s.zones[z].owner = none)
    (hb : beds.getLsbD z.val = false) (quiet : Bool) (rs : ZoneSet) : s.releaseZone quiet rs beds z = s.succeed quiet rs z := by
  unfold State.releaseZone
  rw [h, hb]
  rfl

/-- A changed entry's image block is dirty. -/
theorem ClipEngine.onEntry_dirty (c : ClipEngine) (id : ClipId) (f : DirEntry → DirEntry) :
    (c.onEntry id f).dirty[(if id.val < 128 then 0 else 1 : Fin 2)] = true := by
  simp [ClipEngine.onEntry]

/-- What the law of TAIL says of one program (R19, R44, R109). -/
theorem State.tail_is_live {s : State} (h : s.tailsLawful = true) {p : ProgId} (hp : s.progs[p].state = .tail) :
    s.progs[p].kind = .live ∧ s.progs[p].held = 0#64 ∧ s.progs[p].waiting = 0#64 := by
  have := List.all_eq_true.mp h p (List.mem_finRange p)
  simp_all

end Sys2Proof.Machine
end

