-- ==== Sys2Proof/Laws/Ports.lean ====
section
/-! SUPPORT. The transaction of a port command and the arbiter at the end of its step: everything each of them can do. -/

namespace Sys2Proof.Machine

/-- What the port controllers hold after one of them has been changed. -/
theorem State.port_onPort (s : State) (p q : Port) (f : PortCtl → PortCtl) :
    (s.onPort p f).port q = if p = q then f (s.port q) else s.port q := by
  unfold State.port State.onPort
  simp only [Fin.getElem_fin]
  rw [getElem_adjust]
  cases p <;> cases q <;> simp [portIdx]

/-- Two changes of one port controller in turn. -/
@[simp] theorem State.onPort_onPort (s : State) (p : Port) (f g : PortCtl → PortCtl) :
    (s.onPort p f).onPort p g = s.onPort p fun c => g (f c) := by
  simp [State.onPort]

/-- A transaction of at least one byte, and nothing more. -/
theorem State.clockThrough_pos (s : State) (p : Port) {n : Nat} (h : n ≠ 0) :
    s.clockThrough p n = s.onPort p fun c => { c with rx := [], response := none, dataOut := shiftedOut c.response n } := by
  simp [State.clockThrough, h]

/-- A frame is taken and answered: the command's own work is done between the shifting out and the response. -/
theorem State.transact_of_listens {s : State} {t : Txn} (h : s.listens t = true) (code : Byte) (n : Nat)
    (body : State → Reply) :
    s.transact t code n body =
      let r := body (s.clockThrough t.port (n + 3 + t.extra))
      r.1.respond t.port code r.2.1 r.2.2 := by
  have hl : s.resetLeft.isSome = false ∧ (s.restartArmed && t.port == .saf) = false := by
    unfold State.listens at h
    cases hr : s.resetLeft with
    | none => cases ha : (s.restartArmed && t.port == .saf) <;> simp_all
    | some n => simp [hr] at h
  unfold State.transact
  simp only [hl.1, hl.2, Bool.false_eq_true, if_false]

/-- Shifting out and answering, with no other work between, is `replying`. -/
theorem State.respond_clockThrough (s : State) (t : Txn) (n : Nat) (code : Byte) (st : Status) (res : List Byte) :
    (s.clockThrough t.port (n + 3 + t.extra)).respond t.port code st res = s.replying t n code st res := by
  rw [s.clockThrough_pos t.port (by omega)]
  simp [State.respond, State.replying, State.answering]

/-- A busy link or a reset interval, or nothing waiting, leaves the state as it was (R132). -/
theorem State.arbitrate_of_served {s : State} (h : s.served = true) : s.arbitrate = s := by
  unfold State.arbitrate
  simp only [State.served, Bool.or_eq_true] at h
  split
  · rfl
  · rename_i hn
    have : s.firstWaiting.isNone = true := by
      rcases h with h | h
      · exact absurd (by simpa using h) hn
      · exact h
    rw [Option.isNone_iff_eq_none.mp this]

/-- What waits for the link depends on the clip engine and the channels alone. -/
theorem State.firstWaiting_congr {s u : State} (hc : u.clips = s.clips) (hh : u.chans = s.chans) :
    u.firstWaiting = s.firstWaiting := by
  unfold State.firstWaiting State.fetchWanted State.fetching State.chanEntry
  simp only [hc, hh]

/-- `served` depends on the reset interval, the clip engine and the channels alone. -/
theorem State.served_congr {s u : State} (hr : u.resetLeft = s.resetLeft) (hc : u.clips = s.clips) (hh : u.chans = s.chans) :
    u.served = s.served := by
  unfold State.served
  rw [State.firstWaiting_congr hc hh, hr, hc]

/-- Where the clip engine and the channels stay as they were, the arbiter has nothing to do. -/
theorem State.arbitrate_congr {s u : State} (hs : s.served = true) (hr : u.resetLeft = s.resetLeft) (hc : u.clips = s.clips)
    (hh : u.chans = s.chans) : u.arbitrate = u :=
  State.arbitrate_of_served (by rw [State.served_congr hr hc hh]; exact hs)

/-- The link is busy or nothing waits for it once the arbiter has acted (R132). -/
theorem State.arbitrate_served (s : State) : s.arbitrate.served = true := by
  unfold State.arbitrate
  split
  · rename_i h
    simp only [State.served]
    simp only [Bool.or_eq_true] at h ⊢
    exact Or.inl (by simpa using h)
  · split
    · rename_i h
      simp [State.served, h]
    · simp [State.served, State.onClips, ClipEngine.startOp]

@[simp] theorem State.replying_clips (s : State) (t : Txn) (n : Nat) (c : Byte) (st : Status) (r : List Byte) :
    (s.replying t n c st r).clips = s.clips := rfl

@[simp] theorem State.replying_chans (s : State) (t : Txn) (n : Nat) (c : Byte) (st : Status) (r : List Byte) :
    (s.replying t n c st r).chans = s.chans := rfl

@[simp] theorem State.replying_resetLeft (s : State) (t : Txn) (n : Nat) (c : Byte) (st : Status) (r : List Byte) :
    (s.replying t n c st r).resetLeft = s.resetLeft := rfl

/-- A command that works on everything but the port controllers, the clip engine and the channels, in a part at rest: it ends
in the state its work leaves, with its reply. -/
theorem portCommand_of_listens {s : State} {t : Txn} (h : s.listens t = true) (hs : s.served = true) (code : Byte) (n : Nat)
    (body : State → Reply) (u : State) (st : Status) (res : List Byte)
    (hb : body (s.clockThrough t.port (n + 3 + t.extra)) = (u.clockThrough t.port (n + 3 + t.extra), st, res))
    (hr : u.resetLeft = s.resetLeft) (hc : u.clips = s.clips) (hh : u.chans = s.chans) :
    portCommand s t code n body = .next (u.replying t n code st res) := by
  unfold portCommand
  rw [State.transact_of_listens h]
  simp only [hb, State.respond_clockThrough]
  rw [State.arbitrate_congr hs (by simpa using hr) (by simpa using hc) (by simpa using hh)]

end Sys2Proof.Machine
end

