-- ==== Sys2Proof/Tests/Slice0.lean ====
section
/-! SUPPORT. Tests of the model: ill-formed terms that WellFormed refuses, the manual's worked cases, and for every statement a
state and operands that meet its hypotheses. -/

namespace Sys2Proof.Tests

set_option Elab.async false

open Sys2Proof Sys2Proof.Machine

/-! ### Small states -/

def saf : Txn := ⟨.saf, 0⟩
def ann : Txn := ⟨.ann, 0⟩
def icm : Txn := ⟨.icm, 0⟩
def shw : Txn := ⟨.shw, 0⟩

/-- The state a command or event leaves. -/
def after (i : Instr) (s : State) : State :=
  match exec i s with
  | .next u => u
  | .fault _ | .refused _ => s

/-- The status of the response pending at a port. -/
def statusAt (s : State) (p : Port) : Option Byte := (s.port p).response.bind fun r => r[2]?

/-- The results of the response pending at a port. -/
def resultsAt (s : State) (p : Port) : List Byte := (((s.port p).response.getD []).drop 3).dropLast

/-- A READY entry of two blocks. -/
def readyClip : DirEntry := ⟨.ready, some 2, some 1, none, [], some 0, none⟩

/-- The part after its start-up scan, with clip 5 READY. -/
def quiet : State :=
  { State.reset with
    clips := { State.reset.clips with scan := none, link := none, dir := adjust State.reset.clips.dir 5 fun _ => readyClip } }

/-- OPEN_PROGRAM of a LIVE program from IN0. -/
def liveArgs (cls : Byte) (zones : ZoneSet) : OpenArgs :=
  { kind := 1#8, cls := cls, source := 0#8, policy := 1#8, zones := zones, gain := 32768#16, waitLimit := 0xFFFFFF#24,
    joinDeadline := 0xFFFFFF#24, chime := 0xFF#8, clip := 0xFF#8, repeats := 0xFFFF#16, trigger := 0xFF#8,
    tail := 0xFFFFFF#24 }

/-- OPEN_PROGRAM of a SHOW program from IN8 that waits at most 1 s. -/
def showArgs (zones : ZoneSet) : OpenArgs :=
  { liveArgs 5 zones with kind := 4#8, source := 8#8, waitLimit := 1000#24, tail := 0xFFFFFF#24 }

/-- Program 4, LIVE, class 3, owns zone 7. -/
def withLive : State := after (.openProgram ann (liveArgs 3 (zoneBit 7))) quiet

/-- Program 4, SHOW, owns zone 7. -/
def withShow : State := after (.openProgram shw (showArgs (zoneBit 7))) quiet

/-- Program 4, SHOW, waits for zone 7, which program 5 of class 3 owns. -/
def withHeld : State := after (.openProgram ann (liveArgs 2 (zoneBit 7))) withShow

/-- Alarm slot 0 sounds pattern 1 in zone 7. -/
def alarmed : State := after (.alarmStart saf 0 1 (zoneBit 7)) withShow

/-! ### Ill-formed terms -/

theorem test_illformed_lists :
    Instr.wellFormed (.loadPattern ann 12 1 0 (List.replicate 18 ⟨0, 0, 0, 0, 0, 0, 0⟩)) = false ∧
    Instr.wellFormed (.loadBegin ann 0 1 0 0 (List.replicate 121 0)) = false ∧
    Instr.wellFormed (.loadData ann 0 (List.replicate 244 0)) = false ∧
    Instr.wellFormed (.callPlace icm 0 0 0 (List.replicate 243 0)) = false ∧
    Instr.wellFormed (.loadCue shw 1 0 (List.replicate 23 ⟨0, 0⟩)) = false := by decide +kernel

theorem test_illformed_transactions :
    Instr.wellFormed (.unknownCommandFrame .saf [2, 0]) = false ∧
    Instr.wellFormed (.transactionCutShort .saf [2, 0, 0]) = false ∧
    Instr.wellFormed (.restartBegin 0) = false := by decide +kernel

theorem test_illformed_blocks :
    Instr.wellFormed (.audioFrame [0] []) = false ∧
    Instr.wellFormed (.scanReadCompletion 0 (some [1])) = false ∧
    Instr.wellFormed (.fetchCompletion 0 (some [])) = false := by decide +kernel

/-! ### The manual's worked cases -/

/-- Section 3.1: rounding of halves. -/
theorem test_q15_halves : q15 3 16384 = 2 ∧ q15 1 16384 = 1 ∧ q15 (-1) 16384 = 0 ∧ q15 (-3) 16384 = -1 := by decide

/-- Section 3.1: one mixed sample, 3,125,000. -/
theorem test_mixed_sample :
    (let s : State := { quiet with
        progs := adjust (adjust quiet.progs 9 fun g => { g with
            state := .active, kind := .live, cls := 3, source := some 2, gain := Ramp.still 32768 })
          11 fun g => { g with kind := .bed, cls := 6, source := some 9, gain := Ramp.still 16384 }
        zones := adjust quiet.zones 40 fun z => { z with owner := some 9, bed := some 11, duck := Ramp.still 4096 }
        lanes := { quiet.lanes with inputs := adjust (adjust quiet.lanes.inputs 2 fun _ => 3000000) 9 fun _ => 2000000 } }
     s.zoneSample 40) = 3125000 := by decide +kernel

/-- Section 8.8: the ramp from 0 to 32,768 over 2,000 ms takes a step of 17. -/
theorem test_ramp_step : ((Ramp.still 0).setUp 32768 2000).step = 17 := by decide

/-- Section 9.8: the pilot's increment at 18,000 Hz, and the classification of the worked sweep and of its variant. -/
theorem test_survey_case :
    increment 18000 = 6291456#24 ∧
    classify Thresholds.default (some (18100, 1000000)) (some (18225, 1190000)) false = .normal ∧
    classify Thresholds.default (some (18100, 1000000)) (some (18225, 1300000)) false = .degraded := by decide

/-- Section 9.8: the sixth coarse expiry begins the fine phase at 18,325 Hz with 432 frames. -/
theorem test_coarse_ends :
    (let v : Survey := { Survey.reset with
        state := .coarse, zone := some 27, dwell := some 0, readings := 5, maximum := some (1180000, 18200), pilotFreq := 18250 }
     let u := (after .coarseDwellExpiry { quiet with
        survey := v, lanes := { quiet.lanes with senseBefore := adjust quiet.lanes.senseBefore 27 fun _ => 1150000 } }).survey
     (u.state, u.pilotFreq, u.dwell, u.coarsePeak)) = (.fine, 18325, some 432, some (1180000, 18200)) := by decide +kernel

/-! ### States and operands that meet the hypotheses of the statements -/

/-- Program 5, SHOW, waits for zone 7, which program 4 of class 3 owns; its wait limit has run out. -/
def withWaiter : State :=
  let s := after (.openProgram shw (showArgs (zoneBit 7))) withLive
  { s with progs := adjust s.progs 5 fun g => { g with waitTimer := some 0 } }

/-- For the statements whose only hypothesis is that the command is taken: NoticesAreReadAndCleared,
TheNoticeMaskIsSetInOneStep, SetZoneLevelRetargetsTheMasterGains, LevelsAndTheWindowActAtOnce,
SetDuckProfileRetargetsOwnedZones, SetShowZonesNamesThemAll, LoadDataTakesBytesInOrder, TheSurveyIsSet. -/
theorem witness_taken : quiet.listens saf = true ∧ quiet.listens ann = true ∧ quiet.listens icm = true ∧
    quiet.listens shw = true ∧ quiet.served = true := by decide +kernel

/-- The ranges of those statements at their ends. -/
theorem test_range_ends :
    statusAt (after (.setNoticeMask icm 0x1FF#16 1#8) quiet) .icm = some 0#8 ∧
    statusAt (after (.setNoticeMask icm 0x200#16 1#8) quiet) .icm = some 6#8 ∧
    statusAt (after (.clearNotices icm 0x200#16) quiet) .icm = some 6#8 ∧
    statusAt (after (.setVoiceWindow saf 10000#24) quiet) .saf = some 0#8 ∧
    statusAt (after (.setVoiceWindow saf 300001#24) quiet) .saf = some 6#8 ∧
    statusAt (after (.setThresholds saf 0#24 1#24 25#16 100#8) quiet) .saf = some 0#8 ∧
    statusAt (after (.setThresholds saf 1#24 1#24 25#16 100#8) quiet) .saf = some 6#8 ∧
    statusAt (after (.setAutoSurvey saf 2#8 64#8) quiet) .saf = some 0#8 ∧
    statusAt (after (.setAutoSurvey saf 2#8 65#8) quiet) .saf = some 6#8 := by decide +kernel

theorem witness_EveryCommandFrameIsReadBack :
    Instr.wellFormed (.clearNotices ⟨.icm, 1⟩ 0x102#16) = true ∧
    (Instr.clearNotices ⟨.icm, 1⟩ 0x102#16).frameBody = some (⟨.icm, 1⟩, 0x03#8, [0x01#8, 0x02#8]) ∧
    [0xAA#8].length = 1 := by decide +kernel

theorem witness_BadFramesAreAnsweredOrDropped :
    (1#8).toNat < 2 ∧ 250 < (251#8).toNat ∧ (decodeFrame .saf [2#8, 0#8, crc8 [2#8, 0#8] + 1#8] matches .error .check) ∧
    0x99#8 ∉ knownCodes ∧ 0x00#8 ∈ knownCodes ∧ parseParams ⟨.saf, 0⟩ 0x00#8 [7#8] = none ∧
    frameTaken [1#8] = true ∧ (decodeFrame .saf [1#8] matches .error .length) ∧
    frameTaken (sealFrame [0x99#8]) = true ∧ (decodeFrame .saf (sealFrame [0x99#8]) matches .error .unknown) ∧
    frameTaken [2#8, 0#8] = false ∧ quiet.listens saf = true ∧ quiet.served = true := by decide +kernel

theorem witness_ARestartResetsThePart :
    quiet.listens saf = true ∧ quiet.served = true ∧ { quiet with restartArmed := true }.resetLeft = none ∧ 0 < 1 := by
  decide +kernel

theorem witness_ResetsAndTheirInterval :
    { quiet with resetLeft := some 0 }.resetLeft = some 0 ∧ (after .powerOnReset quiet).resetLeft = some 3 := by decide +kernel

theorem witness_FramesAreAnsweredButNotInAReset :
    (Instr.setVoiceWindow saf 10000#24).frameBody = some (saf, 0x36#8, [0x00#8, 0x27#8, 0x10#8]) ∧
    quiet.listens saf = true ∧ { quiet with resetLeft := some 1 }.resetLeft.isSome = true ∧
    { quiet with restartArmed := true }.restartArmed = true ∧ quiet.resetLeft = none := by decide +kernel

theorem witness_PortControllersShareNoState :
    ∃ u, (Instr.poll saf).frameBody = some (saf, 0x00#8, []) ∧ quiet.listens saf = true ∧ exec (.poll saf) quiet = .next u ∧
      Port.ann ≠ saf.port := ⟨_, by decide, by decide +kernel, rfl, by decide⟩

theorem witness_ReadsAnswerAndChangeNothingElse :
    quiet.listens shw = true ∧ quiet.served = true ∧ 31 < (32#8).toNat ∧ (31#8).toNat = (31 : ProgId).val ∧
    63 < (64#8).toNat ∧ (63#8).toNat = (63 : Zone).val ∧ (15#8).toNat = (15 : PatId).val ∧ (1#8).toNat = (1 : Fin 2).val ∧
    State.reset.clips.scan ≠ none ∧ State.reset.listens ann = true ∧ State.reset.served = true ∧ quiet.clips.scan = none ∧
    (255#8).toNat = (255 : ClipId).val ∧ (7#8).toNat = (7 : ChanId).val ∧ (15#8).toNat = (15 : CallId).val := by
  decide +kernel

theorem witness_AudioFrameSendsComputesAndLatches :
    quiet.resetLeft = none ∧ quiet.clips.link = none ∧ quiet.served = true ∧ (List.replicate 48 0x7FFFFFFF#32).length = 48 ∧
    (List.replicate 64 0xFFFFFFFF#32).length = 64 := by decide +kernel

/-- Program 4 plays 8,388,607 in zone 7, which is under survey with its pilot running. -/
def loud : State :=
  { withLive with
    lanes := { withLive.lanes with inputs := adjust withLive.lanes.inputs 0 fun _ => 8388607 }
    zones := adjust withLive.zones 7 fun z => { z with underSurvey := true }
    survey := { withLive.survey with state := .coarse, zone := some 7, pgRunning := true } }

theorem witness_TheZoneSampleIsTheScaledSum :
    (adjust quiet.zones 0 fun z => { z with lineStatus := .shorted })[(0 : Zone)].lineStatus = .shorted ∧
    quiet.zones[(0 : Zone)].owner = none ∧ quiet.zones[(0 : Zone)].bed = none ∧
    withLive.zones[(7 : Zone)].owner = some 4 ∧ withLive.zones[(7 : Zone)].lineStatus ≠ .shorted ∧
    (adjust quiet.zones 0 fun z => { z with bed := some 5 })[(0 : Zone)].bed = some 5 := by decide +kernel

/-- Section 7.4: stations 4, 7 and 9 in call 6, with slot 0 sounding in station 4's home zone 12. -/
def conference : State :=
  let s := after (.alarmStart saf 0 1 (zoneBit 12)) quiet
  let inCall6 := fun (r : Station) (receive : Nat) (home : Option Zone) =>
    { r with state := .inCall, current := some 6, receive := receive, home := home }
  { s with
    calls := adjust s.calls 6 fun c => { c with
      state := .connected, parties := [⟨4, .active, none⟩, ⟨7, .active, none⟩, ⟨9, .active, none⟩] }
    stations := adjust (adjust (adjust s.stations 4 (inCall6 · 16384 (some 12))) 7 (inCall6 · 32768 none))
      9 (inCall6 · 32768 none)
    lanes := { s.lanes with
      inputs := adjust (adjust (adjust s.lanes.inputs 20 fun _ => 300000) 23 fun _ => 2000001) 25 fun _ => -1000000 } }

/-- The worked case of section 7.4, before and after station 9 is held. -/
theorem test_conference_samples :
    (conference.stationSample 4, conference.stationSample 7) = (2597153, -700000) ∧
    (let s := after (.callHold icm 9#8) conference
     (s.stationSample 4, s.stationSample 7, s.stationSample 9)) = (3097153, 300000, 0) := by decide +kernel

theorem witness_OverloadsAreCountedAndRead :
    loud.resetLeft = none ∧ 8388607 < loud.beginBlocks.zoneSum 7 ∧ loud.beginBlocks.zoneSum 6 = 0 ∧
    (∃ u, exec (.audioFrame [] []) loud = .next u) ∧ loud.zones[(7 : Zone)].overload = 0 ∧ loud.listens ann = true ∧
    loud.served = true ∧ (63#8).toNat = (63 : Zone).val ∧ 63 < (64#8).toNat :=
  ⟨by decide +kernel, by decide +kernel, by decide +kernel, ⟨_, rfl⟩, by decide +kernel⟩

/-- For OutputsStayInTheSampleRange, GainsStayInRange, EveryRunFromResetKeepsTheLaws, BuiltInPatternsNeverChange and
TheLinkIsNeverIdleWhileWorkWaits. -/
theorem witness_invariants :
    ∃ u, { withLive with pending := [.poll saf] }.safe = true ∧ Instr.wellFormed (.poll saf) = true ∧
      withLive.lanes.outputsInRange = true ∧ withLive.gainsInRange = true ∧
      (∀ k : PatId, k.val < 4 → withLive.patterns[k] = builtInPattern k) ∧ withLive.served = true ∧
      step { withLive with pending := [.poll saf] } = .next u ∧
      Sys2Proof.core.run 1 { State.reset with pending := [.poll saf] } = Host.Outcome.next (after (.poll saf) State.reset) :=
  ⟨_, by decide +kernel, by decide +kernel, by decide +kernel, by decide +kernel, by decide +kernel, by decide +kernel,
    rfl, rfl⟩

theorem witness_RampsMoveAndTargetsWait :
    (Ramp.still 0).current ≤ 32768 ∧ (Ramp.still 0).staged = none ∧ (Ramp.still 0).running = false ∧
    ((Ramp.still 0).setUp 32768 1).running = true ∧
    (let r : Ramp := { (Ramp.still 0).setUp 5 1 with staged := some (7, 1) }
     r.running = true ∧ r.staged = some (7, 1) ∧ r.moved = r.target) := by decide

/-- Program 4's tail is at its last step. -/
def tailing : State :=
  { withLive with
    msFrames := 48
    progs := adjust withLive.progs 4 fun g => { g with state := .tail, gain := ⟨1, 1, 0, 1, 1, true, none⟩ } }

theorem witness_TheMillisecondExpiryStepsRampsAndEndsTails :
    48 ≤ { withLive with msFrames := 48 }.msFrames ∧ withLive.served = true ∧
    (∀ p : ProgId, withLive.progs[p].state ≠ .tail) ∧ tailing.progs[(4 : ProgId)].state = .tail ∧
    (∀ q : ProgId, q ≠ 4 → tailing.progs[q].state ≠ .tail) ∧ tailing.progs[(4 : ProgId)].gain.tick.running = false ∧
    tailing.progs[(4 : ProgId)].gain.tick.current = 0 := by decide +kernel

theorem witness_SetProgramGainRetargetsTheGain :
    withLive.listens ann = true ∧ withLive.served = true ∧ (4#8).toNat = (4 : ProgId).val ∧ 31 < (32#8).toNat ∧
    (31#8).toNat = (31 : ProgId).val ∧ withLive.progs[(4 : ProgId)].owner = .ann := by decide +kernel

theorem witness_DuckFactorsFollowTheOwner :
    quiet.zones[(7 : Zone)].owner ≠ withLive.zones[(7 : Zone)].owner ∧ withLive.zones[(7 : Zone)].owner = some 4 ∧
    withLive.progs[(4 : ProgId)].cls ≠ 0 ∧ quiet.zones[(7 : Zone)].owner = none ∧
    quiet.zones[(7 : Zone)].duck.current ≤ 32768 ∧ alarmed.zones[(7 : Zone)].owner = some 0 ∧
    alarmed.progs[(0 : ProgId)].cls = 0 := by decide +kernel

theorem witness_ClaimsAreTestedAndWaitedFor :
    withHeld.progs[(5 : ProgId)].kind ≠ .bed ∧
    (adjust quiet.progs 6 fun g => { g with kind := .bed })[(6 : ProgId)].kind = .bed ∧ withHeld.openOrder.Nodup ∧
    (∀ p : ProgId, withHeld.progs[p].cls ≤ 6) := by decide +kernel

theorem witness_ZonesChangeHands :
    withShow.zones[(7 : Zone)].owner = some 4 ∧ (5 :: 4 :: withShow.zones[(7 : Zone)].stack).Nodup ∧
    withShow.zones[(7 : Zone)].stack.length ≤ 3 ∧ withShow.progs[(4 : ProgId)].kind.resumable = true ∧
    withLive.progs[(4 : ProgId)].kind.resumable = false ∧ ([5, 4, 6, 7, 8] : List ProgId).Nodup ∧
    (let s : State := { withWaiter with zones := adjust withWaiter.zones 7 fun z => { z with owner := none } }
     s.zones[(7 : Zone)].owner = none ∧ s.waiterFor (zoneBit 7) 7 = some 5 ∧ s.progs[(5 : ProgId)].together = false ∧
     s.zones[(7 : Zone)].stack = [] ∧ s.zones[(6 : Zone)].stack = [] ∧ s.waiterFor (zoneBit 6) 6 = none) ∧
    (let s : State := { withShow with zones := adjust withShow.zones 7 fun z => { z with owner := none, stack := [4] } }
     s.zones[(7 : Zone)].stack = [4] ∧ s.waiterFor (zoneBit 7) 7 = none) := by decide +kernel

theorem witness_OpensAreRefusedOrGivenTheLowestRecord :
    quiet.listens ann = true ∧ quiet.served = true ∧ 6 < (7#8).toNat ∧ 5 < (6#8).toNat ∧ alarmed.alarmActive = true ∧
    alarmed.listens ann = true ∧ alarmed.served = true ∧ (liveArgs 3 0).zones = 0#64 ∧
    quiet.allocate (recordLow .saf) = some 2 ∧ quiet.allocate (recordLow .ann) = some 4 := by decide +kernel

theorem witness_AnAcceptedOpenTakesItsRecord :
    quiet.listens ann = true ∧ quiet.claimsAgree = true ∧ (∀ q ∈ quiet.endOrder, quiet.progs[q].state = .ended) ∧
    quiet.endOrder.Nodup ∧ (openCheck quiet .ann (liveArgs 3 (zoneBit 63)) matches .ok .live) ∧
    quiet.allocate (recordLow .ann) = some 4 ∧
    (quiet.openBlocks (openRecord (liveArgs 3 (zoneBit 63)) .ann .live) matches .ok none) := by decide +kernel

theorem witness_ALiveOpenTakesAFreeZone :
    quiet.atRest = true ∧ quiet.claimsAgree = true ∧ quiet.kindsLawful = true ∧ (liveArgs 3 (zoneBit 63)).chime = 0xFF#8 ∧
    quiet.zones[(63 : Zone)].owner = none ∧
    quiet.zones[(63 : Zone)].excluded = false ∧ quiet.survey.zone = none := by decide +kernel

theorem witness_ZonesAreAddedAndDropped :
    withWaiter.listens shw = true ∧ withWaiter.claimsAgree = true ∧ withWaiter.kindsLawful = true ∧
    (5#8).toNat = (5 : ProgId).val ∧ withWaiter.progs[(5 : ProgId)].owner = .shw ∧
    withWaiter.progs[(5 : ProgId)].routeSlot = none ∧ withWaiter.progs[(5 : ProgId)].isOpen = true ∧
    withWaiter.progs[(5 : ProgId)].state ≠ .tail ∧ withWaiter.alarmActive = false ∧
    withWaiter.progs[(5 : ProgId)].kind ≠ .bed ∧ withWaiter.progs[(5 : ProgId)].together = false ∧
    withWaiter.passes 5 63 = true ∧ withWaiter.zones[(63 : Zone)].excluded = false ∧ withWaiter.passes 5 7 = false ∧
    withWaiter.progs[(5 : ProgId)].requested &&& ~~~zoneBit 7 = 0#64 := by decide +kernel

/-- A LIVE program in zone 7 with a tail time of 0. -/
def cutOff : State := after (.openProgram ann { liveArgs 3 (zoneBit 7) with tail := 0#24 }) quiet

theorem witness_ProgramsAreClosed :
    withLive.listens ann = true ∧ withLive.atRest = true ∧ withLive.progs[(4 : ProgId)].kind = .live ∧
    withLive.progs[(4 : ProgId)].state = .active ∧ withLive.progs[(4 : ProgId)].tail = some 100 ∧
    0 < withLive.progs[(4 : ProgId)].gain.current ∧ withLive.progs[(4 : ProgId)].routeSlot = none ∧
    withShow.listens shw = true ∧ withShow.progs[(4 : ProgId)].isOpen = true ∧ withShow.progs[(4 : ProgId)].kind ≠ .live ∧
    withShow.progs[(4 : ProgId)].owner = .shw ∧ withShow.listens saf = true ∧
    withLive.progs[(4 : ProgId)].granted ≠ 0#64 ∧ cutOff.progs[(4 : ProgId)].tail = some 0 ∧
    cutOff.progs[(4 : ProgId)].granted ≠ 0#64 ∧ cutOff.listens ann = true := by decide +kernel

/-- Its tail is over at once: the program ends CLOSED and leaves its zone (R44). -/
theorem test_close_without_tail :
    (let s := after (.closeProgram ann 4#8) cutOff
     (resultsAt s .ann, s.progs[(4 : ProgId)].endReason, s.zones[(7 : Zone)].owner)) =
      ([6#8], some .closed, none) := by decide +kernel

theorem witness_ShieldsExclusionsAndReadmissions :
    withShow.listens saf = true ∧ withShow.served = true ∧ withShow.claimsAgree = true ∧ withShow.kindsLawful = true ∧
    withShow.tailsLawful = true ∧ (∀ z : Zone, withShow.zones[z].excluded = false) ∧ zoneBit 7 ≠ 0#64 := by decide +kernel

/-- R44, R109: a program of kind SHOW is never in TAIL. -/
theorem test_tails_are_live :
    State.tailsLawful { withShow with progs := adjust withShow.progs 4 fun g => { g with state := .tail } } = false ∧
    (after (.closeProgram ann 4#8) withLive).progs[(4 : ProgId)].state = .tail ∧
    (after (.closeProgram ann 4#8) withLive).tailsLawful = true := by decide +kernel

/-- The shield level at the ends of its range, on a show zone. -/
theorem test_shield_ends :
    (let s := after (.setShowZones ann (zoneBit 7)) quiet
     (statusAt (after (.setShield shw (zoneBit 7) 2#8) s) .shw, statusAt (after (.setShield shw (zoneBit 7) 3#8) s) .shw,
      statusAt (after (.setShield shw (zoneBit 7) 7#8) s) .shw, statusAt (after (.setShield shw (zoneBit 7) 8#8) s) .shw)) =
    (some 6#8, some 0#8, some 0#8, some 6#8) := by decide +kernel

theorem witness_WaitsAndJoinsExpire :
    withWaiter.atRest = true ∧ withWaiter.claimsAgree = true ∧ withWaiter.kindsLawful = true ∧
    withWaiter.progs[(5 : ProgId)].waitTimer = some 0 ∧ withWaiter.progs[(5 : ProgId)].state = .pending ∧
    (let s : State := { withWaiter with progs := adjust withWaiter.progs 5 fun g => { g with joinTimer := some 0 } }
     s.atRest = true ∧ s.claimsAgree = true ∧ s.kindsLawful = true ∧ s.progs[(5 : ProgId)].joinTimer = some 0 ∧
     s.progs[(5 : ProgId)].isOpen = true ∧ s.progs[(5 : ProgId)].granted = 0#64 ∧ s.progs[(5 : ProgId)].held = 0#64) ∧
    (let s : State := { withLive with progs := adjust withLive.progs 4 fun g => { g with joinTimer := some 0 } }
     s.atRest = true ∧ s.claimsAgree = true ∧ s.kindsLawful = true ∧ s.progs[(4 : ProgId)].joinTimer = some 0 ∧
     s.progs[(4 : ProgId)].isOpen = true ∧ s.progs[(4 : ProgId)].state ≠ .tail ∧
     s.progs[(4 : ProgId)].granted ≠ 0#64) := by decide +kernel

theorem witness_AlarmsStart :
    withShow.listens saf = true ∧ withShow.served = true ∧ 1 < (2#8).toNat ∧ 15 < (16#8).toNat ∧
    (15#8).toNat = (15 : PatId).val ∧ withShow.patterns[(15 : PatId)].steps = [] ∧ (1#8).toNat = (1 : Fin 2).val ∧
    withShow.patterns[(1 : PatId)].steps ≠ [] ∧ (zoneBit 7).getLsbD 7 = true ∧
    withShow.zones[(7 : Zone)].excluded = false ∧ withShow.slots[(1 : Fin 2)].state = .idle ∧
    withShow.claimsAgree = true ∧ withShow.kindsLawful = true ∧ withShow.classesLawful = true ∧
    withShow.alarmHolds 1 = true := by decide +kernel

/-- A voice window of slot 0 on IN3. -/
def speaking : State := after (.alarmVoiceOpen saf 0#8 3#8 0xFF#8 0xFFFF#16) alarmed

/-- Section 4.3: the slot goes from SOUNDING to VOICE, and its generator pauses. -/
theorem test_voice_opens :
    (speaking.slots[(0 : Fin 2)].state, speaking.tone[(0 : Fin 2)].cond, resultsAt speaking .saf) =
      (.voice, .paused, [2#8, 0xFF#8]) := by decide +kernel

theorem witness_AlarmsAreSilencedResoundedAndCleared :
    alarmed.listens saf = true ∧ alarmed.listens ann = true ∧ ann.port ≠ .saf ∧ 1 < (2#8).toNat ∧ alarmed.served = true ∧ (0#8).toNat = (0 : Fin 2).val ∧
    (1#8).toNat = (1 : Fin 2).val ∧ alarmed.slots[(1 : Fin 2)].state = .idle ∧
    alarmed.slots[(0 : Fin 2)].state = .sounding ∧ alarmed.slots[(0 : Fin 2)].pattern = some 1 ∧
    (after (.alarmSilence saf 0#8) alarmed).slots[(0 : Fin 2)].state = .silenced ∧
    alarmed.claimsAgree = true ∧ alarmed.kindsLawful = true ∧ alarmed.classesLawful = true ∧
    (let s := after (.alarmStart saf 0#8 0#8 (zoneBit 9)) (after (.alarmStart saf 1#8 1#8 (zoneBit 9)) quiet)
     s.progs[(1 : ProgId)].isOpen = true ∧ s.zones[(9 : Zone)].owner = some 0 ∧ s.zones[(9 : Zone)].stack.head? = some 1) := by
  decide +kernel

/-- Section 4.2: the GENERAL alarm takes a zone from the LOCAL one, which has it back when the GENERAL alarm is cleared. -/
theorem test_local_alarm_comes_back :
    (let s := after (.alarmStart saf 0#8 0#8 (zoneBit 9)) (after (.alarmStart saf 1#8 1#8 (zoneBit 9)) quiet)
     (s.zones[(9 : Zone)].owner, (after (.alarmClear saf 0#8) s).zones[(9 : Zone)].owner)) = (some 0, some 1) := by
  decide +kernel

/-- R81 to R83, R90: PRIVILEGE from another port, before PARAM for slot 2, which comes before STATE. -/
theorem test_slot_refusals :
    (∀ f ∈ [Instr.alarmSilence, .alarmResound, .alarmClear, .alarmVoiceClose],
      statusAt (after (f shw 2#8) alarmed) .shw = some 5#8 ∧ statusAt (after (f saf 2#8) alarmed) .saf = some 6#8 ∧
      statusAt (after (f saf 1#8) alarmed) .saf = some 7#8) := by decide +kernel

theorem witness_VoiceWindowsOpen :
    alarmed.listens saf = true ∧ alarmed.served = true ∧ (7#8).toNat = (7 : Fin 8).val ∧
    alarmed.slots[(0 : Fin 2)].state = .sounding ∧ (5#8).toNat = (5 : ClipId).val ∧ 1 ≤ (255#16).toNat ∧ (255#16).toNat ≤ 255 ∧
    alarmed.clips.scan = none ∧ alarmed.clips.dir[(5 : ClipId)].state = .ready ∧ alarmed.chans[(0 : ChanId)].user = none ∧
    (∀ c : ChanId, c < 0 → alarmed.chans[c].user ≠ none) := by decide +kernel

theorem witness_VoiceWindowsCloseAndExpire :
    speaking.listens saf = true ∧ speaking.listens icm = true ∧ 1 < (2#8).toNat ∧ speaking.served = true ∧ speaking.slots[(0 : Fin 2)].windowLawful = true ∧
    speaking.slots[(0 : Fin 2)].window.isSome = true ∧ speaking.slots[(0 : Fin 2)].state = .voice ∧
    (let s := after (.alarmVoiceOpen saf 0#8 0xFF#8 5#8 1#16) alarmed
     s.slots[(0 : Fin 2)].window.map (·.source) = some (.clip 5 1 0) ∧ s.served = true ∧ s.listens saf = true) ∧
    alarmed.slots[(0 : Fin 2)].windowLawful = true ∧ alarmed.slots[(0 : Fin 2)].state = .sounding ∧
    (let s : State := { speaking with
        slots := adjust speaking.slots 0 fun a => { a with window := a.window.map fun w => { w with timer := some 0 } } }
     s.slots[(0 : Fin 2)].window = some ⟨.input 3, false, some 0⟩ ∧ s.slots[(0 : Fin 2)].state = .voice ∧
     s.served = true) := by decide +kernel

theorem witness_LoadPatternReplacesThePattern :
    quiet.listens ann = true ∧ quiet.served = true ∧ (12#8).toNat = (12 : PatId).val ∧
    statusAt (after (.loadPattern ann 12#8 0#8 1#8 [⟨2#8, 100#16, 200#16, 1#16, 10#24, 10000#24, 16#8⟩]) quiet) .ann = some 0#8 ∧
    statusAt (after (.loadPattern ann 12#8 0#8 2#8 [⟨2#8, 100#16, 200#16, 1#16, 10#24, 10000#24, 16#8⟩]) quiet) .ann = some 6#8 ∧
    statusAt (after (.loadPattern ann 11#8 1#8 0#8 [⟨2#8, 100#16, 200#16, 1#16, 10#24, 10000#24, 16#8⟩]) quiet) .ann = some 5#8 ∧
    15 < (16#8).toNat ∧ quiet.listens icm = true ∧
    statusAt (after (.loadPattern icm 16#8 1#8 0#8 [⟨2#8, 100#16, 200#16, 1#16, 10#24, 10000#24, 16#8⟩]) quiet) .icm = some 6#8 ∧
    quiet.patternInUse 12 = false ∧
    (let s : State := { alarmed with slots := adjust alarmed.slots 0 fun a => { a with pattern := some 4 } }
     s.patternInUse 4 = true ∧ s.listens saf = true ∧ s.served = true) := by decide +kernel

/-- The generator of `alarmed` at the end of a phase, or at a switch of its tones, or with its end to report. -/
def phaseOver : State := { alarmed with tone := adjust alarmed.tone 0 fun p => { p with left := 0 } }
def switching : State := { alarmed with tone := adjust alarmed.tone 0 fun p => { p with switchLeft := 0 } }
def toneOver : State := { alarmed with tone := adjust alarmed.tone 0 fun p => { p with cond := .stopped, endReport := true } }

theorem witness_PlayersMoveOn :
    phaseOver.served = true ∧ (phaseOver.player (.tg 0)).cond = .running ∧ (phaseOver.player (.tg 0)).left = 0 ∧
    switching.served = true ∧ (switching.player (.tg 0)).cond = .running ∧ (switching.player (.tg 0)).on = true ∧
    (switching.player (.tg 0)).switchLeft = 0 ∧
    ((switching.patternOf (switching.player (.tg 0))).stepAt (switching.player (.tg 0)).step).waveform = .twoTone := by
  decide +kernel

/-- Program 4, LIVE with chime 2 in voice 0, whose chime has ended. -/
def chimed : State :=
  let s := after (.openProgram ann { liveArgs 3 (zoneBit 7) with chime := 2#8 }) quiet
  { s with voices := adjust s.voices 0 fun v => { v with player := { v.player with cond := .stopped, endReport := true } } }

theorem witness_PlayersReportTheirEnds :
    toneOver.tone[(0 : Fin 2)].endReport = true ∧ toneOver.slots[(0 : Fin 2)].pattern = some 1 ∧
    toneOver.slots[(0 : Fin 2)].state = .sounding ∧ chimed.voices[(0 : Fin 4)].player.endReport = true ∧
    chimed.voices[(0 : Fin 4)].bound = some 4 ∧ chimed.progs[(4 : ProgId)].state = .preamble ∧
    chimed.progs[(4 : ProgId)].clipPart = none := by decide +kernel

theorem test_chime_end : (after (.chimeEnd 0) chimed).progs[(4 : ProgId)].state = .active := by decide +kernel

/-! Frames, claims, opens and alarms: the further clauses -/

/-- Every kind of timer and source of AudioFrameSendsComputesAndLatches: a player in its ON phase, at the end of a phase, and
stopped; the link. -/
theorem witness_SourcesAdvanceByAFrame :
    63 = 16 * (3 : Fin 4).val + (15 : Fin 16).val ∧ 31 = 16 * (1 : Fin 2).val + (15 : Fin 16).val ∧
    alarmed.resetLeft = none ∧ (alarmed.player (.tg 0)).cond = .running ∧ (alarmed.player (.tg 0)).on = true ∧
    0 < (alarmed.player (.tg 0)).left ∧ (alarmed.player .rc).cond = .stopped ∧
    { alarmed with tone := adjust alarmed.tone 0 fun p => { p with left := 0 } }.tone[(0 : Fin 2)].left = 0 ∧
    State.reset.clips.link.isSome = true := by decide +kernel

/-- The voice window of `speaking` has run out: the tone sounds under the voice. -/
def mixed : State :=
  after (.voiceWindowExpiry 0) { speaking with
    slots := adjust speaking.slots 0 fun a => { a with window := a.window.map fun w => { w with timer := some 0 } } }

/-- A voice window of slot 0 plays clip 5. -/
def announcing : State := after (.alarmVoiceOpen saf 0#8 0xFF#8 5#8 1#16) alarmed

theorem witness_AlarmZonesFollowTheirSlot :
    alarmed.zones[(7 : Zone)].owner = some (progOfSlot 0) ∧ alarmed.zones[(7 : Zone)].lineStatus ≠ .shorted ∧
    alarmed.slots[(0 : Fin 2)].state = .sounding ∧ speaking.zones[(7 : Zone)].owner = some (progOfSlot 0) ∧
    mixed.zones[(7 : Zone)].owner = some (progOfSlot 0) ∧ mixed.slots[(0 : Fin 2)].state = .voiceMixed ∧
    announcing.slots[(0 : Fin 2)].window.map (·.source) = some (.clip 5 1 0) ∧
    chimed.progs[(4 : ProgId)].state = .preamble ∧ chimed.voices[(0 : Fin 4)].bound = some 4 ∧
    withLive.progs[(4 : ProgId)].state = .active := by decide +kernel

/-- Two tails end at one expiry. -/
def bothTailing : State :=
  let s := after (.openProgram ann (liveArgs 3 (zoneBit 8))) tailing
  { s with progs := adjust s.progs 5 fun g => { g with state := .tail, gain := ⟨1, 1, 0, 1, 1, true, none⟩ } }

theorem witness_SeveralTailsEnd :
    48 ≤ bothTailing.msFrames ∧ (∀ p : ProgId, p = 4 ∨ p = 5 → bothTailing.progs[p].state = .tail ∧
      bothTailing.progs[p].gain.tick.running = false ∧ bothTailing.progs[p].gain.tick.current = 0) ∧
    ∀ q : ProgId, q < 4 → bothTailing.progs[q].state ≠ .tail := by decide +kernel

/-- Program 5 waits for zones 7 and 8 together; program 4, which owned zone 7, has just ended, and a SHOW program owns
zone 8. -/
def togetherNext : State :=
  let s := after (.openProgram ann (liveArgs 2 (zoneBit 7))) quiet
  let s := after (.openProgram ann { liveArgs 3 (zoneBit 7 ||| zoneBit 8) with policy := 0#8 }) s
  let s := after (.openProgram shw (showArgs (zoneBit 8))) s
  s.endProgram 4 .closed

/-- Program 5, a BED, waits for the bed slot of zone 7, and takes `zones` together if it is more than that; the bed of zone 7,
program 4, has just ended. -/
def bedNext (zones : ZoneSet) (policy : Byte) : State :=
  let bed := { showArgs zones with kind := 5#8, cls := 6#8, policy := policy }
  let s := after (.openProgram shw bed) (after (.openProgram shw { bed with zones := zoneBit 7 }) quiet)
  s.endProgram 4 .closed

theorem witness_WaitersThatTakeTogether :
    togetherNext.claimsAgree = true ∧ togetherNext.zones[(7 : Zone)].owner = none ∧
    togetherNext.waiterFor (zoneBit 7) 7 = some 5 ∧ togetherNext.progs[(5 : ProgId)].together = true ∧
    togetherNext.progs[(5 : ProgId)].granted = 0#64 ∧ togetherNext.progs[(5 : ProgId)].held = 0#64 ∧
    togetherNext.zones[(7 : Zone)].stack = [] ∧ togetherNext.zones[(8 : Zone)].owner = some 6 ∧
    togetherNext.progs[(5 : ProgId)].requested = zoneBit 7 ||| zoneBit 8 := by decide +kernel

theorem witness_BedsAreFilled :
    (bedNext (zoneBit 7) 1#8).claimsAgree = true ∧ (bedNext (zoneBit 7) 1#8).zones[(7 : Zone)].bed = none ∧
    (bedNext (zoneBit 7) 1#8).bedWaiter 7 = some 5 ∧ (bedNext (zoneBit 7) 1#8).progs[(5 : ProgId)].together = false ∧
    (bedNext (zoneBit 7 ||| zoneBit 9) 0#8).claimsAgree = true ∧
    (bedNext (zoneBit 7 ||| zoneBit 9) 0#8).bedWaiter 7 = some 5 ∧
    (bedNext (zoneBit 7 ||| zoneBit 9) 0#8).progs[(5 : ProgId)].together = true ∧
    (bedNext (zoneBit 7 ||| zoneBit 9) 0#8).progs[(5 : ProgId)].granted = 0#64 ∧ quiet.bedWaiter 7 = none := by
  decide +kernel

/-- OPEN_PROGRAM of a CLIP program with clip 5 once, and of a CALL_OUT program of station 0. -/
def clipArgs (cls : Byte) : OpenArgs :=
  { liveArgs cls (zoneBit 7) with kind := 2#8, source := 0xFF#8, clip := 5#8, repeats := 1#16, trigger := 0#8 }
def callArgs : OpenArgs := { liveArgs 4 (zoneBit 7) with kind := 3#8, source := 16#8 }

/-- No FREE or ENDED record is left. -/
def crowded : State := { quiet with progs := quiet.progs.map fun g => { g with state := .active } }

/-- Every channel of the pool has a voice window or the cue engine as its user. -/
def poolTaken : State := { quiet with chans := quiet.chans.map fun c => { c with user := some .cue } }

theorem witness_OpensAreRefused :
    quiet.listens ann = true ∧ quiet.listens icm = true ∧ quiet.served = true ∧
    (7#8).toNat ≤ 7 ∧ (120000#24).toNat ≤ 120000 ∧ (liveArgs 3 (zoneBit 63)).zones ≠ 0#64 ∧
    crowded.allocate (recordLow .ann) = none ∧ crowded.served = true ∧ crowded.listens ann = true ∧
    quiet.allocate (recordLow .ann) ≠ none ∧ quiet.clips.dir[(255 : ClipId)].state ≠ .ready ∧
    quiet.clips.scan = none ∧ quiet.clips.dir[(5 : ClipId)].state = .ready ∧
    (∀ ch : ChanId, ch.val < 4 → poolTaken.chans[ch].user ≠ none) ∧ poolTaken.served = true ∧
    poolTaken.listens saf = true ∧ (∀ (ch : ChanId) (p : ProgId), poolTaken.chans[ch].user ≠ some (.prog p)) ∧
    (callArgs.source.toNat = 16 + (0 : StationId).val) := by decide +kernel

/-- R39: each refusal of an OPEN_PROGRAM whose class and port agree. -/
theorem test_open_refusals :
    statusAt (after (.openProgram ann { liveArgs 3 (zoneBit 7) with source := 8#8 }) quiet) .ann = some 6#8 ∧
    statusAt (after (.openProgram ann { liveArgs 3 (zoneBit 7) with waitLimit := 999#24 }) quiet) .ann = some 6#8 ∧
    statusAt (after (.openProgram ann { liveArgs 3 (zoneBit 7) with chime := 3#8 }) quiet) .ann = some 6#8 ∧
    statusAt (after (.openProgram ann { liveArgs 3 (zoneBit 7) with tail := 2001#24 }) quiet) .ann = some 6#8 ∧
    statusAt (after (.openProgram ann { clipArgs 3 with repeats := 257#16 }) quiet) .ann = some 6#8 ∧
    statusAt (after (.openProgram ann (liveArgs 3 (zoneBit 7))) crowded) .ann = some 10#8 ∧
    statusAt (after (.openProgram ann { clipArgs 3 with clip := 6#8 }) quiet) .ann = some 12#8 ∧
    statusAt (after (.openProgram saf (clipArgs 1)) poolTaken) .saf = some 10#8 := by decide +kernel

/-- R1, R3: an output slot carries the sample in its first 24 bits and zeros after them. -/
theorem test_output_slots :
    outputSlot (-1) = 0xFFFFFF00#32 ∧ outputSlot 8388607 = 0x7FFFFF00#32 ∧
    (let l : Lanes := { Lanes.reset with
        zoneOut := adjust Lanes.reset.zoneOut 63 fun _ => -2, stationOut := adjust Lanes.reset.stationOut 31 fun _ => 5 }
     (l.zoneLane 3)[(15 : Fin 16)] = 0xFFFFFE00#32 ∧ (l.stationLane 1)[(15 : Fin 16)] = 0x00000500#32) := by decide +kernel

/-! Clips -/

/-- A load of clip 9 in one block is in progress. -/
def loading : State := after (.loadBegin ann 9#8 1#16 0xFFFF#16 0xFFFF#16 []) quiet

theorem test_load_begin : resultsAt loading .ann = [0#8, 4#8] := by decide +kernel

theorem witness_LoadsBeginByFirstFit :
    quiet.listens ann = true ∧ quiet.alarmActive = false ∧ quiet.clips.scan = none ∧ (9#8).toNat = (9 : ClipId).val ∧
    1 ≤ (1#16).toNat ∧ (1#16).toNat ≤ 16384 ∧ quiet.clips.load = none ∧ quiet.clips.dir[(9 : ClipId)].state = .empty ∧
    firstFit (quiet.clips.ranges (some 9)) 1 = some 4 := by decide +kernel

/-- A full filling buffer, and all but 100 bytes of it, with the other buffer empty or not. -/
theorem witness_LoadDataTakesBytesInOrder :
    loading.clips.load = some ⟨9, 4096, 0, 0xFFFF#16, false, false, .a, ⟨[], 4⟩, ⟨[], 4⟩⟩ ∧ (0#32).toNat = 0 ∧ 1 ≤ [0xAA#8].length ∧ 0 + [0xAA#8].length ≤ 4096 ∧
    4096 < (List.replicate 4096 0xAA#8).length + [0xAA#8].length ∧ loading.listens ann = true ∧ loading.served = true := by
  decide +kernel

theorem test_load_data :
    statusAt (after (.loadData ann 0#32 (List.replicate 240 0xAA#8)) loading) .ann = some 0#8 ∧
    statusAt (after (.loadData ann 0#32 (List.replicate 241 0xAA#8)) loading) .ann = some 6#8 ∧
    statusAt (after (.loadData ann 1#32 [0xAA#8]) loading) .ann = some 6#8 := by decide +kernel

/-- Every byte of the load has come, and both buffers are empty. -/
def loaded : State :=
  { loading with clips := { loading.clips with load := loading.clips.load.map fun l => { l with next := 4096 } } }

theorem witness_LoadsEndAndClipsAreErased :
    loaded.listens ann = true ∧ (loaded.clips.load.map fun l => (l.ending, l.next, l.total)) = some (false, 4096, 4096) ∧
    quiet.listens ann = true ∧ quiet.served = true ∧ quiet.clips.load = none ∧ quiet.alarmActive = false ∧
    quiet.clips.scan = none ∧ (5#8).toNat = (5 : ClipId).val ∧ quiet.clips.dir[(5 : ClipId)].state = .ready ∧
    (∀ c : ChanId, quiet.chans[c].clip ≠ some 5) ∧ quiet.clips.dir[(255 : ClipId)].state = .empty ∧
    loading.alarmActive = false ∧ loading.clips.dir[(9 : ClipId)].state = .loading ∧ loading.served = true := by
  decide +kernel

/-- Channel 0 plays block `b` of clip 5 for program 4 and has presented its last sample. -/
def playing (remaining : Nat) (repeats : Option Nat) (ahead : List RingBlock) : State :=
  let s := after (.openProgram ann { liveArgs 3 (zoneBit 7) with
    kind := 2#8, source := 0xFF#8, clip := 5#8, repeats := 1#16, trigger := 0#8 }) quiet
  { s with chans := adjust s.chans 0 fun c =>
      { c with state := .playing, cursor := .playing ⟨0, [1#8]⟩ 2048, remaining := remaining, repeats := repeats,
               ahead := ahead, trigger := .free } }

theorem witness_BlocksAndPassesEnd :
    (let s := playing 1 (some 1) [⟨1, [2#8]⟩]
     s.chans[(0 : ChanId)].state = .playing ∧ s.chans[(0 : ChanId)].cursor = .playing ⟨0, [1#8]⟩ 2048 ∧ 2048 ≤ 2048 ∧
     0 < s.chans[(0 : ChanId)].remaining ∧ s.chans[(0 : ChanId)].trigger ≠ .stepped) ∧
    (playing 1 (some 1) []).chans[(0 : ChanId)].ahead = [] ∧ (playing 1 (some 1) []).chans[(0 : ChanId)].underrun = 0 ∧
    (playing 0 (some 2) [⟨0, [2#8]⟩]).chans[(0 : ChanId)].remaining = 0 ∧
    (playing 0 none []).chans[(0 : ChanId)].repeats = none ∧
    (let s := playing 0 (some 1) []
     s.chans[(0 : ChanId)].clip = some 5 ∧ s.chans[(0 : ChanId)].user = some (.prog 4) ∧ s.usersLawful = true ∧
     s.progs[(4 : ProgId)].isOpen = true ∧ s.progs[(4 : ProgId)].clipPart.bind (·.channel) = some 0) := by decide +kernel

/-- Stored samples, less significant byte first, are widened by 256 (R120). -/
theorem test_channel_sample :
    (let c := { quiet.chans[(0 : ChanId)] with
       state := .playing, cursor := .playing ⟨0, [0x01#8, 0x80#8, 0xFF#8, 0x7F#8]⟩ 0 }
     (c.sample, { c with cursor := .playing ⟨0, [0x01#8, 0x80#8, 0xFF#8, 0x7F#8]⟩ 1 }.sample,
       { c with state := .paused }.sample, { c with cursor := .toBegin 0 }.sample)) =
      (-8388352, 8388352, 0, 0) := by decide +kernel

/-- Section 5: a completed clip ends its program COMPLETE. -/
theorem test_clip_completes :
    (let s := after (.terminalCount 0) (playing 0 (some 1) [])
     (s.progs[(4 : ProgId)].state, s.progs[(4 : ProgId)].endReason, s.zones[(7 : Zone)].owner) = (.ended, some .complete, none) ∧
     (s.chans[(0 : ChanId)].state, s.chans[(0 : ChanId)].user, s.chans[(0 : ChanId)].clip) = (.free, none, none)) := by
  decide +kernel

/-- A state whose link carries an operation. -/
def linked (op : StoreOp) (left : Nat) (s : State) : State :=
  { s with clips := { s.clips with link := some ⟨3, left, op⟩ } }

theorem witness_FetchesReportsAndTimeouts :
    (let s := linked (.fetch 0 0 1 2 false) 0 (playing 1 (some 1) [])
     s.resetLeft = none ∧ s.chans[(0 : ChanId)].clip = some 5 ∧ s.chans[(0 : ChanId)].state = .playing ∧
     s.clips.link = some ⟨3, 0, .fetch 0 0 1 2 false⟩ ∧ s.served = true ∧ 3 ≠ 4) ∧
    (linked (.fetch 0 0 1 2 true) 0 quiet).clips.link = some ⟨3, 0, .fetch 0 0 1 2 true⟩ := by decide +kernel

theorem witness_StoreAndScanStepsComplete :
    (linked (.directory 1 []) 5 quiet).clips.link = some ⟨3, 5, .directory 1 []⟩ ∧ quiet.resetLeft = none ∧
    (linked (.programBlock .a 4 [] false) 5 loading).clips.load.isSome = true ∧
    (let s := after (.eraseClip ann 5#8) quiet
     (linked (.erase 5 2) 5 s).clips.dir[(5 : ClipId)].erasePos = some 0 ∧ s.clips.eraseFailed = false) ∧
    State.reset.resetLeft = none ∧ State.reset.clips.scan = some ⟨0, 0, false⟩ ∧
    State.reset.clips.link.map (·.op) = some (.scanRead 0) ∧
    (let s : State := { quiet with clips := { quiet.clips with scan := some ⟨1, 3, false⟩ } }
     (linked (.scanRead 1) 5 s).clips.scan = some ⟨1, 3, false⟩) := by decide +kernel

/-- An image block whose check agrees: 3,328 bytes of records and their check. -/
theorem witness_AnImageBlockMayAgree :
    ∃ data : List Byte, (crc16From 0xFFFF#16 (data.take 3328)).toNat = imageWord data 3328 := by
  have h : (List.replicate 3328 (0#8 : Byte)).length = 3328 := List.length_replicate
  generalize List.replicate 3328 (0#8 : Byte) = r at h
  refine ⟨r ++ put16 (crc16From 0xFFFF#16 r), ?_⟩
  rw [List.take_left' h]
  generalize crc16From 0xFFFF#16 r = x
  have e : (x.extractLsb' 8 8 ++ x.extractLsb' 0 8).toNat = x.toNat := by
    rw [BitVec.toNat_append, BitVec.extractLsb'_toNat, BitVec.extractLsb'_toNat,
      ← Nat.shiftLeft_add_eq_or_of_lt (Nat.mod_lt _ (by decide)), Nat.shiftLeft_eq, Nat.shiftRight_eq_div_pow]
    have := x.isLt
    omega
  simpa [imageWord, byteAt, put16, h] using e.symm

theorem witness_TheLinkIsNeverIdleWhileWorkWaits :
    (let s : State := { quiet with clips := { quiet.clips with dirty := adjust quiet.clips.dirty 1 fun _ => true } }
     s.resetLeft = none ∧ s.clips.link = none ∧ s.served = false ∧ s.clips.scan = none ∧
     s.clips.dirty[(0 : Fin 2)] = false ∧ s.clips.dirty[(1 : Fin 2)] = true) := by decide +kernel

/-- Zone 63 is excluded. -/
def shut : State := after (.excludeZones saf (zoneBit 63)) quiet

theorem witness_OpensTakeOrWait :
    quiet.kindsLawful = true ∧ shut.kindsLawful = true ∧ shut.claimsAgree = true ∧ shut.listens ann = true ∧
    (zoneBit 63) &&& ~~~shut.excludedSet = 0#64 ∧ (openCheck shut .ann (liveArgs 3 (zoneBit 63)) matches .ok .live) ∧
    shut.allocate (recordLow .ann) = some 4 ∧ withLive.kindsLawful = true ∧ withLive.claimsAgree = true ∧
    (openCheck withLive .shw { showArgs (zoneBit 7 ||| zoneBit 8) with policy := 0#8 } matches .ok .showSound) ∧
    (openCheck quiet .ann (clipArgs 3) matches .ok .clip) ∧
    (quiet.openBlocks (openRecord (clipArgs 3) .ann .clip) matches .ok (some (0, none))) := by decide +kernel

/-- Section 5: the chime gets a voice, and a fifth chime gets none. -/
theorem test_chime_bound_or_skipped :
    (let a : OpenArgs := { liveArgs 3 (zoneBit 7) with chime := 2#8 }
     let s := after (.openProgram ann a) quiet
     let full : State := { quiet with voices := quiet.voices.map fun v => { v with bound := some 31 } }
     (s.progs[(4 : ProgId)].state, s.progs[(4 : ProgId)].chimeSkipped,
      (after (.openProgram ann a) full).progs[(4 : ProgId)].state, (after (.openProgram ann a) full).progs[(4 : ProgId)].chimeSkipped)) =
    (.preamble, false, .active, true) := by decide +kernel

theorem witness_AlarmsStartAgain :
    shut.listens saf = true ∧ shut.atRest = true ∧ shut.alarmHolds 0 = true ∧ shut.slots[(0 : Fin 2)].state = .idle ∧
    shut.zones[(63 : Zone)].excluded = true ∧ alarmed.safe = true ∧ alarmed.slots[(0 : Fin 2)].state = .sounding ∧
    alarmed.progs[(0 : ProgId)].requested = zoneBit 7 ∧ announcing.listens saf = true := by decide +kernel

theorem witness_AlarmsStartOverAVoice :
    announcing.safe = true ∧ announcing.slots[(0 : Fin 2)].state = .voice := by decide +kernel

/-- The load of clip 9 with these bytes in buffers A and B. -/
def buffered (a b : List Byte) : State :=
  { loading with clips := { loading.clips with load := loading.clips.load.map fun l =>
      { l with total := 16384, next := a.length + b.length, bufA := ⟨a, 4⟩, bufB := ⟨b, 5⟩ } } }

/-- A block of 4,096 bytes. -/
def block : List Byte := List.replicate 4096 0xAA#8

theorem witness_FullBuffersRefuseOrSwitch :
    (buffered block [0xBB#8]).clips.load.map (fun l => (l.next, l.total, l.ending, l.filling)) = some (4097, 16384, false, .a) ∧
    (buffered block [0xBB#8]).clips.load.map (fun l => (l.bufA.data.length, l.bufB.data.length)) = some (4096, 1) ∧
    (buffered block [0xBB#8]).served = true ∧ (buffered block [0xBB#8]).listens ann = true ∧
    (buffered block []).clips.load.map (fun l => (l.bufA.data.length, l.bufB.data)) = some (4096, []) ∧
    (buffered block []).served = true ∧ (buffered block []).listens ann = true ∧ quiet.clips.load = none := by decide +kernel

/-- R125, R126: a full buffer and bytes in the other are BUSY; with the other empty the bytes go on there. -/
theorem test_buffers_busy_or_switched :
    statusAt (after (.loadData ann 4097#32 [1#8]) (buffered block [0xBB#8])) .ann = some 9#8 ∧
    ((after (.loadData ann 4096#32 [1#8]) (buffered block [])).clips.load.map fun l => (l.filling, l.bufB)) =
      some (.b, ⟨[1#8], 5⟩) := by decide +kernel

/-- `s` with channel `c` STEPPED and step marks at both blocks of clip 5. -/
def stepped (c : ChanId) (s : State) : State :=
  { s with
    chans := adjust s.chans c fun r => { r with trigger := .stepped }
    clips := { s.clips with dir := adjust s.clips.dir 5 fun e => { e with marks := [0, 1] } } }

/-- The last block of a clip in the window of slot 0, and of one on show channel 4. -/
def windowEnds : State :=
  { announcing with chans := adjust announcing.chans 0 fun c =>
      { c with state := .playing, cursor := .playing ⟨1, [1#8]⟩ 2048, remaining := 0, repeats := some 1, ahead := [] } }
def showEnds : State :=
  { quiet with chans := adjust quiet.chans 4 fun c =>
      { c with state := .playing, user := some .cue, clip := some 5, cursor := .playing ⟨1, [1#8]⟩ 2048, remaining := 0, repeats := some 1 } }

theorem witness_StepMarksAndEnds :
    (stepped 0 (playing 1 (some 1) [])).chans[(0 : ChanId)].trigger = .stepped ∧
    (stepped 0 (playing 1 (some 1) [])).clips.dir[(5 : ClipId)].marks = [0, 1] ∧
    (stepped 0 (playing 0 (some 2) [])).chans[(0 : ChanId)].remaining = 0 ∧
    (stepped 0 (playing 0 none [])).chans[(0 : ChanId)].cursor = .playing ⟨0, [1#8]⟩ 2048 ∧
    windowEnds.chans[(0 : ChanId)].user = some (.window 0) ∧ windowEnds.chans[(0 : ChanId)].clip = some 5 ∧
    windowEnds.slots[(0 : Fin 2)].window.map (·.source) = some (.clip 5 1 0) ∧
    showEnds.chans[(4 : ChanId)].state = .playing ∧ showEnds.chans[(4 : ChanId)].user = some .cue := by decide +kernel

/-- R141, R91, R185. -/
theorem test_marks_and_ends :
    ((after (.blockDone 0) (stepped 0 (playing 1 (some 1) [⟨1, [2#8]⟩]))).chans[(0 : ChanId)].pause,
      (after (.blockDone 0) (stepped 0 (playing 1 (some 1) [⟨1, [2#8]⟩]))).chans[(0 : ChanId)].ahead,
      (after (.terminalCount 0) windowEnds).slots[(0 : Fin 2)].state,
      ((after (.terminalCount 4) showEnds).port .shw).has .cue) = (some .mark, [⟨1, [2#8]⟩], .sounding, true) := by
  decide +kernel

theorem witness_ProgrammedBuffersAndScans :
    (linked (.programBlock .a 4 [] false) 5 loading).clips.load.map (·.ending) = some false ∧
    State.reset.clips.entriesLawful = true ∧ imageWord [0#8, 0#8] 0 = 0 := by decide +kernel

/-- `s` with nothing on the link and no image block dirty. -/
def unlinked (s : State) : State := { s with clips := { s.clips with link := none, dirty := Vector.replicate 2 false } }

theorem witness_TheArbitersLastChoices :
    (∀ c : ChanId, (unlinked (buffered block [])).fetchWanted c = none) ∧
    (unlinked (buffered block [])).served = false ∧ (unlinked (buffered block [])).clips.scan = none ∧
    (unlinked (buffered block block)).served = false ∧ (4 < 5) ∧
    (let s := unlinked (after (.eraseClip ann 5#8) quiet)
     s.served = false ∧ s.clips.eraseList = [5] ∧ s.clips.load = none ∧ s.resetLeft = none ∧ s.clips.scan = none ∧
     (∀ c : ChanId, s.fetchWanted c = none)) := by decide +kernel

/-- R126: a step that completes with both buffers empty leaves its buffer to the block after the last one with bytes. -/
theorem test_emptied_buffer_is_destined :
    ((after (.programmingStepCompletion 3 true) (linked (.programBlock .a 4 [] false) 5 (buffered block [0xBB#8]))).clips.load.map
      fun l => (l.bufA, l.bufB.dest)) = some (⟨[], 6⟩, 5) := by decide +kernel

/-! Intercom -/

/-- Station 0 calls stations 1 and 2; the call rings. -/
def calling : State := after (.callPlace icm 0#8 0#8 5000#24 [1#8, 2#8]) quiet

/-- The same call answered by station 1. -/
def talking : State := after (.callAnswer icm 1#8) calling

/-- Station 0 talks to station 1 alone. -/
def pair : State := after (.callAnswer icm 1#8) (after (.callPlace icm 0#8 0#8 5000#24 [1#8]) quiet)

/-- Station 5 has barged station 1 out of that call by an EMERGENCY call, and station 1 has answered. -/
def barged : State := after (.callAnswer icm 1#8) (after (.callPlace icm 5#8 2#8 5000#24 [1#8]) pair)

theorem test_call_answer :
    (talking.calls[(0 : CallId)].state, talking.stations[(0 : StationId)].state, talking.stations[(1 : StationId)].state,
      talking.stations[(2 : StationId)].state, talking.ring.cond) = (.connected, .inCall, .inCall, .ringing, .running) := by
  decide +kernel

/-- Section 7.4: a barged station goes back to its old call when the emergency call ends. -/
theorem test_recall :
    (barged.stations[(1 : StationId)].suspended, (after (.callEnd icm 1#8) barged).stations[(1 : StationId)].current,
      (after (.callEnd icm 1#8) barged).stations[(1 : StationId)].state) = (some 0, some 0, .inCall) := by decide +kernel

theorem witness_SetStationTakesWhatIsGiven :
    quiet.listens icm = true ∧ quiet.served = true ∧ 31 < (32#8).toNat ∧ (31#8).toNat = (31 : StationId).val ∧
    (63#8).toNat = (63 : Zone).val ∧ 63 < (64#8).toNat ∧ (64#8).toNat < 0xFE ∧ 1 < (2#8).toNat ∧ (2#8 : Byte) ≠ 0xFF#8 ∧
    calling.listens icm = true ∧ calling.served = true ∧ calling.stations[(1 : StationId)].state = .ringing := by
  decide +kernel

theorem witness_APlacedCallRings :
    quiet.listens icm = true ∧ quiet.intercomLawful = true ∧ [1#8, 2#8, 31#8].map BitVec.toNat = [1, 2, 31] ∧
    (2#8).toNat = priorityCode .emergency ∧ (5000#24).toNat = 5000 ∧ (120000#24).toNat = 120000 ∧
    ([0, 1, 2, 31] : List StationId).Nodup ∧ quiet.alarmActive = false ∧
    (∀ a : StationId, quiet.stations[a].state = .idle) ∧ quiet.calls[(0 : CallId)].state = .free ∧
    pair.listens icm = true ∧ pair.intercomLawful = true ∧ pair.stations[(5 : StationId)].state = .idle ∧
    pair.calls[(1 : CallId)].state = .free ∧ (∀ y : CallId, y < 1 → pair.calls[y].state ≠ .free) ∧
    pair.stations[(1 : StationId)].state = .inCall ∧ pair.stations[(1 : StationId)].current = some 0 ∧
    pair.calls[(0 : CallId)].priority ≠ .emergency := by decide +kernel

theorem witness_CallsAreAnsweredHeldAndJoined :
    calling.listens icm = true ∧ calling.served = true ∧ calling.intercomLawful = true ∧
    calling.stations[(1 : StationId)].state = .ringing ∧ calling.stations[(1 : StationId)].current = some 0 ∧
    talking.listens icm = true ∧ talking.served = true ∧ talking.intercomLawful = true ∧
    talking.stations[(1 : StationId)].state = .inCall ∧ talking.stations[(1 : StationId)].current = some 0 ∧
    (let s := after (.callHold icm 1#8) talking
     s.stations[(1 : StationId)].state = .onHold ∧ s.stations[(1 : StationId)].current = some 0 ∧ s.served = true ∧
     s.listens icm = true ∧ s.intercomLawful = true) ∧
    talking.calls[(0 : CallId)].state = .connected ∧ talking.calls[(0 : CallId)].parties.length < 4 ∧
    talking.stations[(9 : StationId)].state = .idle ∧ 9 ∉ talking.calls[(0 : CallId)].stations := by decide +kernel

/-- The ring timer of station 2 in `s` has run out. -/
def rungOut (s : State) : State :=
  { s with calls := adjust s.calls 0 fun c => { c with
      parties := c.parties.map fun p => if p.station = 2 then { p with timer := some 0 } else p } }

theorem witness_CallsAreLeftAndEnded :
    pair.intercomLawful = true ∧ pair.listens icm = true ∧ pair.stations[(1 : StationId)].current = some 0 ∧
    pair.calls[(0 : CallId)].priority ≠ .emergency ∧ pair.served = true ∧ pair.stations[(9 : StationId)].current = none ∧
    talking.intercomLawful = true ∧ talking.stations[(2 : StationId)].current = some 0 ∧
    (rungOut talking).intercomLawful = true ∧ (rungOut talking).calls[(0 : CallId)].state = .connected ∧
    (⟨2, .ringing, some 0⟩ ∈ (rungOut talking).calls[(0 : CallId)].parties) ∧
    (∀ p ∈ talking.calls[(0 : CallId)].parties, p.station = 2 → p.timer ≠ some 0) ∧ talking.served = true ∧
    barged.intercomLawful = true ∧ barged.listens icm = true ∧ barged.calls[(1 : CallId)].state = .connected ∧
    barged.calls[(1 : CallId)].priority = .emergency ∧ barged.stations[(1 : StationId)].current = some 1 ∧
    barged.stations[(1 : StationId)].suspended = some 0 ∧ barged.calls[(0 : CallId)].state = .connected := by decide +kernel

/-- Station 5's EMERGENCY call to station 1 rings; station 1 is suspended in its old call, and its ring time is over. -/
def barging : State :=
  let s := after (.callPlace icm 5#8 2#8 5000#24 [1#8]) pair
  { s with calls := adjust s.calls 1 fun c => { c with
      parties := c.parties.map fun p => if p.station = 1 then { p with timer := some 0 } else p } }

theorem witness_BargedStationsAreRecalled :
    barged.intercomLawful = true ∧ barged.stations[(1 : StationId)].current = some 1 ∧
    barged.calls[(1 : CallId)].priority = .emergency ∧ barged.stations[(1 : StationId)].suspended = some 0 ∧
    barging.intercomLawful = true ∧ barging.stations[(1 : StationId)].current = some 1 ∧
    barging.calls[(1 : CallId)].priority = .emergency ∧ barging.stations[(1 : StationId)].suspended = some 0 ∧
    ⟨1, .ringing, some 0⟩ ∈ barging.calls[(1 : CallId)].parties ∧ barging.listens icm = true := by decide +kernel

/-- R149, R160: an ended call keeps its parties with the ring time they had left. -/
theorem test_ended_call_keeps_ring_time :
    ((after (.callEnd icm 0#8) calling).calls[(0 : CallId)].parties.map fun p => (p.station, p.timer)) =
      [(0, none), (1, some 240000), (2, some 240000)] := by decide +kernel

/-- R39: a CALL_OUT of a station in use. -/
theorem test_call_out_busy :
    calling.stations[(0 : StationId)].state ≠ .idle ∧ statusAt (after (.openProgram icm callArgs) calling) .icm = some 9#8 := by
  decide +kernel

/-! Cues -/

def playAction (k : Fin 4) (tr : Trigger) : CueAction := .play k 5 tr (some 1)

/-- Cue 10 plays clip 5 on two show channels and is followed by cue 20 after 5,000 ms; the engine stands by with cue 10. -/
def cued : State :=
  { quiet with cue := { CueEngine.reset with
      cues := [⟨10, some 5000, [playAction 0 .gated, playAction 1 .free]⟩,
               ⟨20, none, [.route 0 8 (zoneBit 50)]⟩], state := .standby, standby := some 10 } }

/-- The engine stands by with cue 20. -/
def routing : State := { cued with cue := { cued.cue with standby := some 20 } }

/-- Cue 10 is PRIMING, and its bound has run out. -/
def bounded : State :=
  let s := after (.cueGo shw) cued
  { s with cue := { s.cue with bound := some 0 } }

/-- Section 8.8: the GO's answer, and FOLLOWING with 240,000 frames after a late start. -/
theorem test_go :
    (resultsAt (after (.cueGo shw) cued) .shw, (after .primingBoundExpiry bounded).cue.state,
      (after .primingBoundExpiry bounded).cue.countdown, (after .primingBoundExpiry bounded).cue.last) =
    ([0#8, 10#8, 3#8, 0#8, 0xFF#8, 0xFF#8], .following, some ⟨240000, false⟩, some ⟨10, true, 0, none⟩) := by
  decide +kernel

/-- Section 8.4: a ROUTE opens a SHOW program in record 4. -/
theorem test_route :
    (let s := after (.cueGo shw) routing
     (s.progs[(4 : ProgId)].state, s.progs[(4 : ProgId)].cls, s.zones[(50 : Zone)].owner, s.cue.slots[(0 : Fin 8)].showProg,
       s.cue.state, s.cue.standby)) = (.active, 5, some 4, some 4, .finished, none) := by decide +kernel

theorem witness_TheCueListIsEdited :
    cued.listens shw = true ∧ cued.served = true ∧ cued.cue.listLawful = true ∧
    (cueOfFrame 9999#16 600000#24 [⟨5#8, 0x03000000000000000000#80⟩]).isSome = true ∧
    cueOfFrame 10000#16 600000#24 [⟨5#8, 0x03000000000000000000#80⟩] = none ∧
    cueOfFrame 1#16 600001#24 [⟨5#8, 0x03000000000000000000#80⟩] = none ∧ 6 < (7#8).toNat ∧
    cued.cue.find 10 ≠ none ∧ cued.cue.find 9999 = none ∧ cued.cue.cues.length < 64 ∧ cued.cue.standby = some 10 ∧
    nextCue (cued.cue.cues.filter fun q => q.number ≠ 10) 10 = some 20 ∧
    nextCue (routing.cue.cues.filter fun q => q.number ≠ 20) 20 = none ∧ cued.listens icm = true ∧ icm.port ≠ .shw ∧
    statusAt (after (.deleteCue icm 0#16) cued) .icm = some 5#8 ∧
    statusAt (after (.cueStandby icm 0#16) cued) .icm = some 5#8 ∧
    bounded.cue.state = .priming ∧ bounded.cue.executing = some 10 ∧ bounded.listens shw = true ∧ bounded.served = true ∧
    ({ cued.cue with cues := (List.range 64).map fun i => (⟨i + 1, none, [.stop 0]⟩ : Cue) }).listLawful = true := by
  decide +kernel

theorem witness_AGoExecutesTheStandbyCue :
    cued.listens shw = true ∧ cued.alarmActive = false ∧ cued.cue.state = .standby ∧ cued.clipReady 5 = true ∧
    cued.cue.find 10 = some ⟨10, some 5000, [playAction 0 .gated, playAction 1 .free]⟩ ∧
    (([playAction 0 .gated, playAction 1 .free] : List CueAction).flatMap CueAction.plays).Nodup ∧ cued.served = true ∧
    routing.cue.find 20 = some ⟨20, none, [.route 0 8 (zoneBit 50)]⟩ ∧ routing.cue.slots[(0 : Fin 8)].showProg = none ∧
    routing.cue.holdPending = false ∧ routing.atRest = true ∧ routing.claimsAgree = true ∧ routing.ordersLawful = true ∧
    routing.allocate 4 = some 4 ∧ routing.zones[(50 : Zone)].owner = none ∧ routing.zones[(50 : Zone)].excluded = false ∧
    bounded.cue.state = .priming ∧ quiet.cue.state = .empty ∧ quiet.listens shw = true ∧ quiet.served = true ∧
    alarmed.alarmActive = true ∧ alarmed.listens shw = true := by decide +kernel

/-- FOLLOWING toward cue 10 with the countdown run out; and HELD, to return there. -/
def following : State := { cued with cue := { cued.cue with state := .following, countdown := some ⟨0, false⟩ } }
def held : State := { cued with cue := { cued.cue with state := .held, ret := some .following, countdown := some ⟨96000, true⟩ } }

theorem witness_StartsFollowsAndHolds :
    bounded.cue.state = .priming ∧ bounded.cue.bound = some 0 ∧ bounded.cue.executing = some 10 ∧
    (bounded.cue.find 10).isSome = true ∧ (0 ∈ bounded.cue.startSet.map Prod.fst) ∧
    bounded.chans[showChan 0].state = .priming ∧ bounded.cue.holdPending = false ∧
    following.cue.state = .following ∧ following.cue.countdown = some ⟨0, false⟩ ∧ following.alarmActive = false ∧
    following.served = true ∧ following.cue.standby = some 10 ∧ cued.cue.state = .standby ∧ held.cue.state = .held := by
  decide +kernel

/-- A priming bound that has run out reads 0xFFFFFFFE, a stopped one all ones (R212; assumption log 23). -/
theorem test_bound_reads :
    (let bound := fun s => ((resultsAt (after (.readCueEngine shw) s) .shw).drop 7).take 4
     (bound (after .primingBoundExpiry bounded), bound (after (.cueStopAll shw) bounded))) =
      ([0xFF#8, 0xFF#8, 0xFF#8, 0xFE#8], [0xFF#8, 0xFF#8, 0xFF#8, 0xFF#8]) := by decide +kernel

theorem witness_TheShowIsResumedOrStopped :
    cued.listens shw = true ∧ cued.served = true ∧ cued.cue.state ≠ .held ∧ held.listens shw = true ∧
    held.cue.state = .held ∧ held.cue.ret = some .following ∧
    (∀ k : Fin 8, held.cue.slots[k].showProg = none) ∧ held.cue.countdown.map (·.left) = some 96000 := by decide +kernel

/-- HELD with the countdown frozen at 0 toward cue 10, and show channel 2 paused by the hold. -/
def heldAtZero : State :=
  { held with
    cue := { held.cue with countdown := some ⟨0, true⟩ }
    chans := adjust held.chans 6 fun c =>
      { c with state := .paused, pause := some .gate, trigger := .gated, clip := some 5, cursor := .playing ⟨0, [1#8]⟩ 9 } }

/-- The same while alarm slot 1 sounds. -/
def heldAtZeroAlarmed : State := { heldAtZero with slots := adjust heldAtZero.slots 1 fun a => { a with state := .sounding } }

theorem witness_TheShowIsResumedAtZero :
    heldAtZero.listens shw = true ∧ heldAtZero.cue.state = .held ∧ heldAtZero.cue.ret = some .following ∧
    heldAtZero.cue.countdown = some ⟨0, true⟩ ∧ (∀ k : Fin 8, heldAtZero.cue.slots[k].showProg = none) ∧
    heldAtZero.alarmActive = false ∧ heldAtZero.cue.standby = some 10 ∧ heldAtZero.clipReady 5 = true ∧
    heldAtZero.cue.find 10 = some ⟨10, some 5000, [playAction 0 .gated, playAction 1 .free]⟩ ∧
    heldAtZeroAlarmed.alarmActive = true ∧ heldAtZeroAlarmed.listens shw = true ∧ held.listens saf = true ∧
    saf.port ≠ .shw ∧ statusAt (after (.cueResume saf) held) .saf = some 5#8 ∧
    statusAt (after (.cueStopAll saf) held) .saf = some 5#8 := by decide +kernel

/-- R180, R183, R187: the cue executes in the step, or is withheld; the channel goes on; no notice is raised. -/
theorem test_resume_at_zero :
    (∀ s ∈ [heldAtZero, heldAtZeroAlarmed], (after (.cueResume shw) s).cue.countdown = none ∧
      (after (.cueResume shw) s).chans[(6 : ChanId)].state = .playing ∧ ((after (.cueResume shw) s).port .shw).has .cue = false) ∧
    (resultsAt (after (.cueResume shw) heldAtZero) .shw, (after (.cueResume shw) heldAtZero).cue.startSet,
      resultsAt (after (.cueResume shw) heldAtZeroAlarmed) .shw) = ([3#8], [(0, false), (1, false)], [1#8]) := by decide +kernel

theorem test_resume_and_stop :
    ((after (.cueResume shw) held).cue.state, (after (.cueResume shw) held).cue.countdown,
      (after (.cueStopAll shw) (after (.cueGo shw) routing)).cue.state,
      (after (.cueStopAll shw) (after (.cueGo shw) routing)).zones[(50 : Zone)].owner) =
    (.following, some ⟨96000, false⟩, .standby, none) := by decide +kernel

/-- `cued` after its GO and the first `n` fetches, whose link carries the fetch that comes next. -/
def fetched : Nat → State
  | 0 => after (.cueGo shw) cued
  | n + 1 => after (.fetchCompletion ((fetched n).clips.link.elim 0 Link.no) (some [1#8])) (fetched n)

theorem witness_PrimingEnds :
    (fetched 0).clips.link.map (·.op) = some (.fetch 4 0 1 2 false) ∧ (fetched 0).chans[(4 : ChanId)].state = .priming ∧
    (fetched 0).chans[(4 : ChanId)].ahead = [] ∧ (fetched 0).chans[(4 : ChanId)].clip = some 5 ∧
    (fetched 1).clips.link.map (·.op) = some (.fetch 4 1 1 3 false) ∧ (fetched 1).cue.startSet = [(0, false), (1, false)] ∧
    (fetched 1).chans[(4 : ChanId)].goMark = false ∧ (fetched 1).chans[(4 : ChanId)].ahead.length = 1 ∧
    (fetched 0).resetLeft = none := by decide +kernel

theorem witness_TheLastReportStartsTheSet :
    (fetched 3).clips.link.map (·.op) = some (.fetch 5 1 1 3 false) ∧ (fetched 3).chans[(5 : ChanId)].state = .priming ∧
    (fetched 3).cue.startSet = [(0, true), (1, false)] ∧ (fetched 3).cue.state = .priming ∧
    (fetched 3).cue.executing = some 10 ∧ (fetched 3).cue.holdPending = false ∧
    ((fetched 3).cue.find 10).map (·.follow) = some (some 5000) ∧ (fetched 3).chans[(4 : ChanId)].state = .paused ∧
    (fetched 3).chans[(4 : ChanId)].pause = some .start := by decide +kernel

/-- Section 8.8: with the last report both channels start, and the countdown to the next cue begins. -/
theorem test_synchronized_start :
    ((fetched 4).chans[(4 : ChanId)].state, (fetched 4).chans[(5 : ChanId)].state, (fetched 4).cue.countdown,
      (fetched 4).cue.last) = (.playing, .playing, some ⟨240000, false⟩, some ⟨10, false, 0, none⟩) := by decide +kernel

/-- A pool channel primes for program 4. -/
theorem witness_PoolChannelsPrime :
    (let s := after (.openProgram ann (clipArgs 3)) quiet
     (s.chans[(0 : ChanId)].state, s.chans[(0 : ChanId)].clip, s.clips.link.map (·.op), s.resetLeft)) =
      (.priming, some 5, some (.fetch 0 0 1 2 false), none) := by decide +kernel

/-- The engine stands by with a cue of one action. -/
def oneAction (a : CueAction) (s : State) : State :=
  { s with cue := { s.cue with cues := [⟨10, none, [a]⟩, ⟨20, none, [.stop 0]⟩], state := .standby, standby := some 10 } }

/-- Slot 0 holds source 8, and no program. -/
def sourced : State :=
  { quiet with cue := { quiet.cue with slots := adjust quiet.cue.slots 0 fun r => { r with source := some 8 } } }

/-- The SHOW program that cue 20 of `routing` opened. -/
def routed : State := after (.cueGo shw) routing

theorem witness_SingleActionsAreExecuted :
    (let s := oneAction (.stop 3) quiet
     s.listens shw = true ∧ s.alarmActive = false ∧ s.cue.state = .standby ∧ s.cue.standby = some 10 ∧
     s.cue.find 10 = some ⟨10, none, [.stop 3]⟩ ∧ s.cue.holdPending = false) ∧
    quiet.cue.slots[(0 : Fin 8)].showProg = none ∧ routed.cue.slots[(0 : Fin 8)].showProg = some 4 ∧
    quiet.chans[showChan 3].state ≠ .paused ∧ quiet.clipReady 6 = false ∧ quiet.cue.slots[(0 : Fin 8)].source = none ∧
    crowded.allocate 4 = none ∧ sourced.cue.slots[(0 : Fin 8)].source = some 8 ∧
    sourced.cue.slots[(0 : Fin 8)].bedProg = none := by decide +kernel

theorem witness_RoutesAndBedsOfACue :
    (oneAction (.bed 0 (zoneBit 50)) sourced).safe = true ∧ (oneAction (.bed 0 (zoneBit 50)) sourced).allocate 4 = some 4 ∧
    quiet.zones[(50 : Zone)].bed = none ∧ quiet.zones[(50 : Zone)].excluded = false := by decide +kernel

theorem witness_RoutesOfExcludedZones :
    (oneAction (.route 0 8 (zoneBit 63)) shut).safe = true ∧ (oneAction (.route 0 8 (zoneBit 63)) shut).allocate 4 = some 4 ∧
    shut.zones[(63 : Zone)].excluded = true := by decide +kernel

theorem witness_UnroutedSlots :
    (oneAction (.unroute 0) routed).safe = true ∧ (∀ p : ProgId, routed.progs[p].waiting = 0#64) := by decide +kernel

/-- R53, R172: a route whose zones are all excluded, in a reclaimed ENDED record of the show port, is reported. -/
theorem test_reclaimed_route_is_reported :
    (let ended : Program := { Program.free with state := .ended, owner := .shw, endReason := some .noZones }
     let s := oneAction (.route 0 8 (zoneBit 63)) shut
     let full : State := { s with
       progs := s.progs.map fun _ => ended
       endOrder := (List.finRange 32).drop 4
       openOrder := (List.finRange 32).drop 4 }
     let u := after (.cueGo shw) full
     ((u.port .shw).has .program, (u.port .shw).changed.getLsbD 4, u.cue.last.map (·.faults))) = (true, true, some 1) := by decide +kernel

/-- A channel at a step mark moves on. -/
theorem test_step_moves_on :
    (let s := oneAction (.step 0) quiet
     let s := { s with chans := adjust s.chans 4 fun c => { c with
       state := .paused, pause := some .mark, clip := some 5, cursor := .toBegin 1, ahead := [⟨1, [1#8]⟩] } }
     ((after (.cueGo shw) s).chans[(4 : ChanId)].state, (after (.cueGo shw) s).chans[(4 : ChanId)].cursor)) =
      (.playing, .playing ⟨1, [1#8]⟩ 0) := by decide +kernel

theorem witness_TheShowIsStopped :
    quiet.listens shw = true ∧ quiet.usersLawful = true ∧ routed.usersLawful = true ∧ (fetched 1).usersLawful = true := by
  decide +kernel

/-! Survey -/

/-- Zone 27 is under survey for ANN. -/
def surveyed : State := after (.surveyZone ann (zoneBit 27)) quiet

theorem test_survey_begins :
    (surveyed.survey.state, surveyed.survey.pilotFreq, surveyed.survey.dwell, resultsAt surveyed .ann) =
      (.coarse, 18000, some 288, [1#8, 1#8]) := by decide +kernel

/-- The auto survey's interval has run out on zone 7, which a program of class 2 owns. -/
def autoDue : State :=
  { withHeld with survey := { withHeld.survey with auto := some ⟨16, 64⟩, autoTimer := some 0, cycle := 7 } }

theorem witness_TheSurveyQueue :
    quiet.listens saf = true ∧ quiet.served = true ∧ quiet.survey.state = .idle ∧ quiet.survey.zone = none ∧
    quiet.survey.queue = [] ∧ quiet.ownerClass 63 = none ∧ withHeld.ownerClass 7 = some 2 ∧ withHeld.survey.state = .idle ∧
    withHeld.listens ann = true ∧ withHeld.served = true ∧ surveyed.survey.state ≠ .idle ∧
    surveyed.survey.zone = some 27 ∧ surveyed.listens saf = true ∧ surveyed.served = true ∧
    (zoneBit 27).getLsbD 27 = true ∧ (zoneBit 26).getLsbD 27 = false ∧
    (let s : State := { surveyed with survey := { surveyed.survey with auto := some ⟨16, 64⟩, autoTimer := some 0, cycle := 63 } }
     s.survey.autoTimer = some 0 ∧ s.survey.auto = some ⟨16, 64⟩ ∧ s.survey.state ≠ .idle ∧ s.served = true) ∧
    withHeld.survey.zone = none ∧ withHeld.survey.queue = [] ∧
    zonesOf (zoneBit 7 ||| zoneBit 9 ||| zoneBit 63) = [7] ++ 9 :: [63] ∧ withHeld.ownerClass 9 = none ∧
    (autoDue.survey.autoTimer = some 0 ∧ autoDue.survey.auto = some ⟨16, 64⟩ ∧ autoDue.survey.state = .idle ∧
     autoDue.survey.zone = none ∧ autoDue.survey.queue = [] ∧ autoDue.served = true ∧
     autoDue.ownerClass autoDue.survey.cycle = some 2) := by decide +kernel

/-- Zones of a low class are skipped; the first other is surveyed, and the rest wait (R189, R191). -/
theorem test_survey_of_several_zones :
    (let s := after (.surveyZone ann (zoneBit 7 ||| zoneBit 9 ||| zoneBit 63)) withHeld
     (resultsAt s .ann, s.survey.zone, s.survey.queue.map QueueEntry.zone, (s.port .ann).has .survey,
       (after .autoSurveyIntervalExpiry autoDue).survey.zone)) =
      ([3#8, 3#8], some 9, [63], true, none) := by decide +kernel

/-- Behind zone 27 stand zone 7, which a program of class 2 owns, and zone 9, for both ports. -/
def queued : State :=
  after (.surveyZone ann (zoneBit 7 ||| zoneBit 9)) (after (.surveyZone saf (zoneBit 7 ||| zoneBit 9))
    (after (.surveyZone ann (zoneBit 27)) withHeld))

theorem witness_ACancelTakesTheNextHead :
    queued.listens saf = true ∧ queued.listens shw = true ∧ queued.served = true ∧ queued.surveyLawful = true ∧
    queued.survey.zone = some 27 ∧ queued.survey.queue = [⟨7, ⟨true, true⟩⟩] ++ ⟨9, ⟨true, true⟩⟩ :: [] ∧
    queued.ownerClass 7 = some 2 ∧ queued.ownerClass 9 = none ∧
    statusAt (after (.surveyCancel shw 0#64) queued) .shw = some 5#8 ∧
    statusAt (after (.surveyCancel icm (zoneBit 27)) queued) .icm = some 5#8 := by decide +kernel

/-- R190, R191, R198: the cancel aborts zone 27, skips zone 7 with SURVEY, at the port that cancels too, and surveys zone 9;
without zone 9 the engine is IDLE. -/
theorem test_cancel_takes_the_next_head :
    (let look := fun zones => (after (.surveyCancel ann zones) queued).survey.zone
     let first := fun zones => (after (.surveyCancel ann zones) queued).zones[(7 : Zone)].lastResult.map (·.outcome)
     let told := fun zones => ((after (.surveyCancel ann zones) queued).port .ann).has .survey
     [zoneBit 27, zoneBit 27 ||| zoneBit 9, zoneBit 27 ||| zoneBit 7].map fun z => (look z, first z, told z)) =
      [(some 9, some .skipped, true), (none, some .skipped, true), (some 9, none, false)] ∧
    (after (.surveyCancel ann (zoneBit 27)) queued).zones[(27 : Zone)].lastResult.map (·.outcome) = some .aborted ∧
    resultsAt (after (.surveyCancel ann (zoneBit 27 ||| zoneBit 9)) queued) .ann = [1#8, 1#8] := by decide +kernel

theorem test_survey_parameter_ends :
    statusAt (after (.setSurveyParams saf ⟨21000#16, 21500#16, 10#8, 4#8, 20#24, 10#8, 35#24, 5#8, 2048#16⟩) quiet) .saf =
      some 0#8 ∧
    statusAt (after (.setSurveyParams saf ⟨21000#16, 21475#16, 10#8, 4#8, 20#24, 10#8, 35#24, 5#8, 2048#16⟩) quiet) .saf =
      some 6#8 ∧
    statusAt (after (.setReference saf (zoneBit 63) 0#8 15000#16 1#24) quiet) .saf = some 0#8 ∧
    statusAt (after (.setReference saf (zoneBit 63) 0#8 15000#16 0#24) quiet) .saf = some 6#8 ∧
    statusAt (after (.setReference saf (zoneBit 63) 1#8 15000#16 1#24) quiet) .saf = some 7#8 ∧
    statusAt (after (.setReference saf (zoneBit 63) 3#8 15000#16 1#24) quiet) .saf = some 6#8 := by decide +kernel

/-- The last dwell of a phase of the survey of zone 27, with the readings so far and the pilot's frequency. -/
def dwelling (st : SurveyState) (readings f : Nat) (best : Option (Nat × Nat)) : State :=
  { quiet with survey := { Survey.reset with
      state := st, zone := some 27, dwell := some 0, readings := readings, maximum := best, pilotFreq := f } }

theorem witness_DwellsReadTheLine :
    (∀ st ∈ [SurveyState.coarse, .fine], (dwelling st 1 18000 none).survey.state = st ∧
      (dwelling st 1 18000 none).survey.zone = some 27 ∧ (dwelling st 1 18000 none).survey.dwell = some 0 ∧
      (dwelling st 1 18000 none).served = true) ∧
    18000 + 2 * 25 ≤ 22000 ∧ 1 + 1 ≤ SweepParams.default.blank ∧ SweepParams.default.blank < 2 + 1 ∧
    21950 + 2 * 25 ≤ SweepParams.default.fEnd ∧ SweepParams.default.fEnd < 21975 + 2 * 25 ∧
    (dwelling .coarse 2 18000 (some (7, 18000))).survey.maximum = some (7, 18000) ∧
    (dwelling .coarse 2 18000 none).lanes.senseBefore[(27 : Zone)] = 0 ∧ (dwelling .fine 0 18025 none).survey.queue = [] ∧
    0 < SweepParams.default.confirm ∧ SweepParams.default.confirm ≤ 1 ∧ SweepParams.default.fStart + 25 ≤ 18025 ∧
    18024 < SweepParams.default.fStart + 25 := by decide +kernel

/-- Section 9.4: a line that draws nothing is OPEN, whatever its reference. -/
theorem test_open_line :
    (let s := after .fineDwellExpiry (dwelling .fine 5 18225 (some (40000, 18250)))
     (s.zones[(27 : Zone)].lineStatus, s.zones[(27 : Zone)].lastResult, (s.port .saf).has .line, (s.port .saf).has .survey)) =
    (.opened, some ⟨.opened, some (18250, 40000), false⟩, true, true) := by decide +kernel

/-- The last dwell has expired, which READ_SURVEY sends as 0xFFFFFFFE (R212). -/
theorem test_dwell_reads :
    (((resultsAt (after (.readSurvey saf 0xFF#8) (after .fineDwellExpiry (dwelling .fine 5 18225 (some (40000, 18250)))))
      .saf).drop 17).take 4) = [0xFF#8, 0xFF#8, 0xFF#8, 0xFE#8] := by decide +kernel

/-! Ends, channels taken, call-outs and refusals: the further clauses -/

/-- Station 0 is in TALKOUT for program 4 in zone 7. -/
def calledOut : State := after (.openProgram icm callArgs) quiet

/-- R115, R116, R147: the station of a CALL_OUT is in TALKOUT, and IDLE again when the program is closed. -/
theorem test_talkout_and_back :
    (resultsAt calledOut .icm).head? = some 4#8 ∧
    (calledOut.stations[(0 : StationId)].state, (after (.closeProgram icm 4#8) calledOut).stations[(0 : StationId)].state,
      (after (.openProgram icm { callArgs with zones := zoneBit 63 }) shut).stations[(0 : StationId)].state) =
      (.talkout, .idle, .idle) := by decide +kernel

theorem witness_CallOutsOpenAndClose :
    quiet.safe = true ∧ shut.safe = true ∧ quiet.listens icm = true ∧ (openCheck quiet .icm callArgs matches .ok .callOut) ∧
    callArgs.source.toNat = 16 + (0 : StationId).val ∧ quiet.allocate (recordLow .icm) = some 4 ∧
    (quiet.openBlocks (openRecord callArgs .icm .callOut) matches .ok none) ∧
    calledOut.progs[(4 : ProgId)].kind = .callOut ∧ calledOut.progs[(4 : ProgId)].source = some (16 + (0 : StationId).val) ∧
    calledOut.progs[(4 : ProgId)].isOpen = true ∧ calledOut.progs[(4 : ProgId)].owner = .icm ∧
    calledOut.progs[(4 : ProgId)].routeSlot = none ∧ calledOut.listens saf = true := by decide +kernel

/-- Programs 4 to 7 of class 3 and kind CLIP have the four pool channels. -/
def poolUsed : State :=
  [0, 1, 2, 3].foldl (fun s k => after (.openProgram ann { clipArgs 3 with zones := zoneBit k }) s) quiet

/-- The same, with alarm slot 0 sounding in zone 9. -/
def poolUsedAlarmed : State := after (.alarmStart saf 0#8 1#8 (zoneBit 9)) poolUsed

theorem witness_PoolChannelsAreTaken :
    poolUsed.safe = true ∧ poolUsed.listens saf = true ∧ (openCheck poolUsed .saf (clipArgs 1) matches .ok .clip) ∧
    poolUsed.allocate (recordLow .saf) = some 2 ∧
    (poolUsed.openBlocks (openRecord (clipArgs 1) .saf .clip) matches .ok (some (3, some 7))) ∧
    (openCheck shut .ann { clipArgs 3 with zones := zoneBit 63 } matches .ok .clip) ∧
    poolUsedAlarmed.safe = true ∧ poolUsedAlarmed.listens saf = true ∧ poolUsedAlarmed.slots[(0 : Fin 2)].state = .sounding ∧
    poolUsedAlarmed.clips.scan = none ∧ poolUsedAlarmed.clips.dir[(5 : ClipId)].state = .ready ∧
    (∀ c : Fin 4, poolUsedAlarmed.chans[(⟨c.val, by omega⟩ : ChanId)].user = some (.prog ⟨4 + c.val, by omega⟩)) ∧
    (∀ r : ProgId, 4 ≤ r.val → r.val < 7 → poolUsedAlarmed.progs[r].cls = poolUsedAlarmed.progs[(7 : ProgId)].cls ∧
      poolUsedAlarmed.openOrder.idxOf r < poolUsedAlarmed.openOrder.idxOf 7) := by decide +kernel

/-- R134: the latest of the four loses its channel and ends; its port is told. -/
theorem test_channel_is_taken :
    (let s := after (.openProgram saf (clipArgs 1)) poolUsed
     let u := after (.alarmVoiceOpen saf 0#8 0xFF#8 5#8 1#16) poolUsedAlarmed
     (s.progs[(7 : ProgId)].endReason, s.chans[(3 : ChanId)].user, (s.port .ann).changed.getLsbD 7,
       u.progs[(7 : ProgId)].endReason, resultsAt u .saf)) =
      (some .channelTaken, some (.prog 2), true, some .channelTaken, [2#8, 3#8]) := by decide +kernel

/-- Programs 4 and 5 are BEDs: 4 has the slot of zone 7, 5 that of zone 8. -/
def beds : State :=
  let bed := { showArgs (zoneBit 7) with kind := 5#8, cls := 6#8 }
  after (.openProgram shw { bed with zones := zoneBit 8 }) (after (.openProgram shw bed) quiet)

/-- Program 4 is the bed of zone 7, which nobody owns; program 5, SHOW, owns zone 9, and program 6, LIVE, waits for both zones
under ALL_OR_WAIT since a shield over zone 9, now gone, kept it out. -/
def underBed : State :=
  [.setShowZones ann (zoneBit 9), .setShield shw (zoneBit 9) 3#8,
    .openProgram shw { showArgs (zoneBit 7) with kind := 5#8, cls := 6#8 }, .openProgram shw (showArgs (zoneBit 9)),
    .openProgram ann { liveArgs 3 (zoneBit 7 ||| zoneBit 9) with policy := 0#8 },
    .setShield shw (zoneBit 9) 7#8].foldl (fun s i => after i s) quiet

/-- Program 5 is the bed of zone 7, which program 4 owns. -/
def ownedBed : State := after (.openProgram shw { showArgs (zoneBit 7) with kind := 5#8, cls := 6#8 }) withLive

theorem witness_BedsThatAloneAreGivenUp :
    (∀ s ∈ [underBed, ownedBed], s.safe = true ∧ s.listens shw = true) ∧
    (∀ p ∈ [underBed.progs[(4 : ProgId)], ownedBed.progs[(5 : ProgId)]], p.owner = .shw ∧ p.routeSlot = none ∧
      p.isOpen = true ∧ p.kind = .bed ∧ p.requested = zoneBit 7 ∧ p.granted = zoneBit 7) ∧
    ownedBed.zones[(7 : Zone)].owner = some 4 ∧ underBed.zones[(7 : Zone)].owner = none ∧
    (let w := underBed.progs[(6 : ProgId)]
     w.kind = .live ∧ w.cls = 3 ∧ w.policy = .allOrWait ∧ w.gotAll = false ∧ w.waiting = zoneBit 7 ||| zoneBit 9 ∧
     w.requested = w.waiting) ∧
    (∀ q : ProgId, q ≠ 6 → q ≠ 4 → underBed.progs[q].waiting = 0#64) ∧
    underBed.passes 6 7 = true ∧ underBed.passes 6 9 = true := by decide +kernel

/-- R33 to R35: the zone's bed alone is given up, and the waiting program takes both zones; a zone with an owner keeps it. -/
theorem test_bed_alone_is_given_up :
    (∀ i ∈ [Instr.closeProgram shw 4#8, .dropZones shw 4#8 (zoneBit 7)],
      let u := after i underBed
      (u.progs[(6 : ProgId)].state, u.zones[(7 : Zone)].owner, u.zones[(9 : Zone)].owner, u.zones[(9 : Zone)].stack,
        u.zones[(7 : Zone)].bed, (u.port .ann).changed.getLsbD 6) = (.active, some 6, some 6, [5], none, true)) ∧
    (let u := after (.closeProgram shw 5#8) ownedBed
     u.zones[(7 : Zone)].owner = some 4 ∧ u.zones[(7 : Zone)].bed = none) := by decide +kernel

/-- Program 5 waits under ALL_OR_WAIT for zones 7, which program 4 of class 3 owns, and 8. -/
def waitingForAll : State :=
  after (.openProgram shw { showArgs (zoneBit 7 ||| zoneBit 8) with policy := 0#8 }) withLive

theorem witness_BedsAndWaitersAddZones :
    beds.listens shw = true ∧ beds.claimsAgree = true ∧ beds.kindsLawful = true ∧ beds.statesFollow = true ∧
    beds.alarmActive = false ∧ beds.progs[(5 : ProgId)].kind = .bed ∧ beds.progs[(5 : ProgId)].together = false ∧
    beds.progs[(5 : ProgId)].owner = .shw ∧ beds.progs[(5 : ProgId)].isOpen = true ∧ beds.progs[(5 : ProgId)].state ≠ .tail ∧
    beds.progs[(5 : ProgId)].routeSlot = none ∧ beds.zones[(7 : Zone)].bed = some 4 ∧ beds.zones[(63 : Zone)].bed = none ∧
    beds.zones[(63 : Zone)].excluded = false ∧ beds.zones[(8 : Zone)].bed = some 5 ∧
    (∀ s ∈ [waitingForAll, waitingForAll.endProgram 4 .closed], s.listens shw = true ∧ s.claimsAgree = true ∧
      s.kindsLawful = true ∧ s.alarmActive = false ∧ s.progs[(5 : ProgId)].together = true ∧ s.progs[(5 : ProgId)].granted = 0#64 ∧
      s.progs[(5 : ProgId)].held = 0#64 ∧ s.progs[(5 : ProgId)].isOpen = true ∧ s.progs[(5 : ProgId)].owner = .shw ∧
      s.progs[(5 : ProgId)].state ≠ .tail ∧ s.progs[(5 : ProgId)].routeSlot = none) ∧
    waitingForAll.passes 5 7 = false ∧ (waitingForAll.endProgram 4 .closed).passes 5 7 = true ∧
    (waitingForAll.endProgram 4 .closed).passes 5 8 = true := by decide +kernel

/-- A tail and an ended record, for the refusals of ADD_ZONES, DROP_ZONES, CLOSE_PROGRAM and FORCE_CLOSE. -/
theorem witness_ProgramCommandsAreRefused :
    tailing.listens ann = true ∧ tailing.served = true ∧ tailing.progs[(4 : ProgId)].state = .tail ∧
    tailing.progs[(4 : ProgId)].owner = .ann ∧ tailing.progs[(4 : ProgId)].routeSlot = none ∧ tailing.alarmActive = false ∧
    (let s := after (.closeProgram shw 4#8) withShow
     s.progs[(4 : ProgId)].state = .ended ∧ s.progs[(4 : ProgId)].owner = .shw ∧ s.served = true ∧ s.listens shw = true ∧
     s.listens saf = true) ∧
    alarmed.alarmActive = true ∧ alarmed.listens shw = true ∧ alarmed.served = true ∧ alarmed.progs[(4 : ProgId)].owner = .shw ∧
    3 ≤ alarmed.progs[(4 : ProgId)].cls ∧ alarmed.progs[(4 : ProgId)].state ≠ .free := by decide +kernel

/-- `p` with nothing left to play: the last phase of the last repetition of its last step is over. -/
def spent (p : Player) : Player := { p with cond := .running, on := false, left := 0, rep := 65535, step := 255 }

/-- Program 4 of kind CLIP with chime 2 in voice 0, which has come to its END; and the generator of slot 0 likewise. -/
def chimeOver : State :=
  let s := after (.openProgram ann { clipArgs 3 with chime := 2#8 }) quiet
  { s with voices := adjust s.voices 0 fun v => { v with player := spent v.player } }
def generatorOver : State :=
  { alarmed with
    slots := adjust alarmed.slots 0 fun a => { a with pattern := some 2 }
    tone := adjust alarmed.tone 0 fun p => { spent p with pattern := 2 } }

theorem witness_EndsAreTakenAtOnce :
    (let pl := chimeOver.player (.cv 0)
     pl.cond = .running ∧ pl.left = 0 ∧ pl.on = false ∧ ((chimeOver.patternOf pl).stepAt pl.step).repeats ≤ pl.rep ∧
     (chimeOver.patternOf pl).steps.length ≤ pl.step) ∧
    chimeOver.served = true ∧ chimeOver.voices[(0 : Fin 4)].bound = some 4 ∧ chimeOver.progs[(4 : ProgId)].state = .preamble ∧
    chimeOver.progs[(4 : ProgId)].clipPart.bind (·.channel) = some 0 ∧ chimeOver.progs[(4 : ProgId)].clipStarted = false ∧
    (let pl := generatorOver.player (.tg 0)
     pl.cond = .running ∧ pl.left = 0 ∧ pl.on = false ∧ ((generatorOver.patternOf pl).stepAt pl.step).repeats ≤ pl.rep ∧
     (generatorOver.patternOf pl).steps.length ≤ pl.step ∧ (generatorOver.patternOf pl).loop = none) ∧
    generatorOver.served = true ∧ generatorOver.slots[(0 : Fin 2)].pattern = some 2 ∧
    generatorOver.slots[(0 : Fin 2)].state = .sounding := by decide +kernel

/-- R107, R111, R100: the step of the phase end makes the program ACTIVE and starts its clip, or silences the slot. -/
theorem test_end_takes_effect_in_its_step :
    (let s := after (.playerPhaseEnd (.cv 0)) chimeOver
     (s.progs[(4 : ProgId)].state, s.voices[(0 : Fin 4)].bound, s.chans[(0 : ChanId)].state,
       (after (.playerPhaseEnd (.tg 0)) generatorOver).slots[(0 : Fin 2)].state)) = (.active, none, .priming, .silenced) := by
  decide +kernel

/-- The last programming step of the load of clip 9 is on the link. -/
def lastStep : State :=
  linked (.programBlock .a 4 [0xAA#8] false) 5 { loaded with
    clips := { loaded.clips with load := loaded.clips.load.map fun l => { l with ending := true } } }

theorem witness_LoadsComplete :
    lastStep.clips.link = some ⟨3, 5, .programBlock .a 4 [0xAA#8] false⟩ ∧ lastStep.resetLeft = none ∧
    (lastStep.clips.load.map fun l => (l.ending, (l.buf BufId.a.other).data)) = some (true, []) := by decide +kernel

/-- R127: a step that fails leaves the clip DAMAGED; the load is over either way. -/
theorem test_load_completes :
    (let s := after (.programmingStepCompletion 3 false) lastStep
     (s.clips.load, s.clips.dir[(9 : ClipId)].state, (s.port .ann).has .clip)) = (none, .damaged, true) := by decide +kernel

/-- Station 5's EMERGENCY call to stations 1 and 2: both ring, one or both have answered, one's ring time is over. -/
def emergency (answered : List Byte) (late : Option StationId) : State :=
  let s := answered.foldl (fun s b => after (.callAnswer icm b) s) (after (.callPlace icm 5#8 2#8 5000#24 [1#8, 2#8]) quiet)
  { s with calls := adjust s.calls 0 fun c => { c with
      parties := c.parties.map fun p => if late = some p.station then { p with timer := some 0 } else p } }

theorem witness_EmergencyCallsAreSettled :
    (∀ s ∈ [emergency [1#8, 2#8] none, emergency [1#8] none, emergency [] (some 1)],
      s.intercomLawful = true ∧ s.listens icm = true ∧ s.stations[(5 : StationId)].current = some 0 ∧
      s.stations[(1 : StationId)].current = some 0 ∧ s.calls[(0 : CallId)].priority = .emergency) ∧
    (emergency [1#8] none).calls[(0 : CallId)].state = .connected ∧
    ⟨1, .ringing, some 0⟩ ∈ (emergency [] (some 1)).calls[(0 : CallId)].parties ∧
    barged.stations[(5 : StationId)].current = some 1 ∧ barged.stations[(5 : StationId)].suspended = none := by decide +kernel

/-- R150: the call goes on, rings again, or is DEPLETED when station 5 leaves it; then station 1 has its old call back. -/
theorem test_emergency_left :
    (let left := fun s => after (.callLeave icm 5#8) s
     ((left (emergency [1#8, 2#8] none)).calls[(0 : CallId)].state, (left (emergency [1#8] none)).calls[(0 : CallId)].state,
       (left barged).calls[(1 : CallId)].endCause, (left barged).stations[(1 : StationId)].current)) =
      (.connected, .ringing, some .depleted, some 0) := by decide +kernel

/-- The maximum of a coarse pass stands at the end of the band; and two zones wait, the first owned by class 2. -/
theorem witness_BandsEndWithAMaximum :
    SweepParams.default.fEnd < (dwelling .coarse 2 21975 (some (7, 18000))).survey.pilotFreq + SweepParams.default.coarse * 25 ∧
    (dwelling .coarse 1 21975 (some (7, 18000))).survey.readings + 1 ≤ SweepParams.default.blank ∧
    (dwelling .coarse 2 21975 (some (0, 18000))).lanes.senseBefore[(27 : Zone)] = 0 ∧
    (dwelling .coarse 2 21975 none).survey.queue = [] ∧ withHeld.ownerClass 7 = some 2 ∧ withHeld.ownerClass 9 = none := by
  decide +kernel

/-- R191, R195: the survey of zone 27 ends OPEN, zone 7 is skipped, and that of zone 9 begins. -/
theorem test_queue_goes_on :
    (let s : State := { withHeld with survey :=
       { (dwelling .coarse 2 21975 none).survey with queue := [⟨7, ⟨true, false⟩⟩, ⟨9, ⟨true, false⟩⟩] } }
     let u := after .coarseDwellExpiry s
     (u.zones[(27 : Zone)].lastResult.map (·.outcome), u.zones[(7 : Zone)].lastResult.map (·.outcome), u.survey.zone,
       u.survey.queue)) = (some .opened, some .skipped, some 9, []) := by decide +kernel

/-! Reads, chimes, exclusions, refusals and calls left out: the further clauses -/

/-- The channel of a CLIP program, a pattern with steps and one without, for the fields of READ_STATION, READ_CHANNEL and
READ_PATTERN. -/
theorem witness_ReadsGiveTheirFields :
    (let s := after (.openProgram ann (clipArgs 3)) quiet
     s.listens saf = true ∧ s.served = true ∧ s.chans[(0 : ChanId)].nextFetch = some (0, 1) ∧ 1 < 65536 ∧
     (7#8).toNat = (7 : ChanId).val ∧ s.chans[(7 : ChanId)].nextFetch = none) ∧
    (31#8).toNat = (31 : StationId).val ∧ (15#8).toNat = (15 : PatId).val ∧
    (4#8).toNat = (4 : ProgId).val ∧ withLive.progs[(4 : ProgId)].state ≠ .free ∧ withLive.listens saf = true ∧
    withLive.served = true ∧ calling.listens saf = true ∧ calling.calls[(0 : CallId)].state ≠ .free ∧
    quiet.survey.readings < 256 ∧ (63#8 : Byte) = BitVec.ofNat 8 (63 : Zone).val := by decide +kernel

/-- R212: the fields at their places. -/
theorem test_read_fields :
    resultsAt (after (.readStation saf 1#8) barged) .saf =
      [1#8, 3#8, 0xFF#8, 0x80#8, 0#8, 0x20#8, 0#8, 1#8, 0#8, 2#8, 4#8] ∧
    resultsAt (after (.readPattern saf 15#8) quiet) .saf = [0#8, 0xFF#8, 0xFF#8, 0#8] ∧
    ((resultsAt (after (.readChannel saf 0#8) (after (.openProgram ann (clipArgs 3)) quiet)) .saf).take 9 =
      [0#8, 1#8, 0#8, 4#8, 5#8, 0xFF#8, 0xFF#8, 0xFF#8, 0xFF#8]) := by decide +kernel

/-- R212: the bytes of READ_PROGRAM, READ_CLIP and READ_CALL in their order. -/
theorem test_read_layouts :
    resultsAt (after (.readProgram shw 4#8) (after (.openProgram ann (liveArgs 3 (zoneBit 7))) quiet)) .shw =
      [4#8, 1#8, 3#8, 1#8, 0#8, 1#8, 3#8, 0xFF#8, 0xFF#8, 0#8, 0x80#8, 0#8, 0#8, 0#8, 0#8, 0#8, 0#8, 0#8,
       0x80#8, 0#8, 0#8, 0#8, 0#8, 0#8, 0#8, 0#8, 0#8, 0#8, 0#8, 0#8, 0#8, 0#8, 0#8, 0#8, 0#8, 0#8, 0#8, 0#8, 0#8, 0#8,
       0#8, 0#8, 0#8, 0#8, 0xFF#8, 0xFF#8, 0xFF#8, 0xFF#8, 0xFF#8, 0xFF#8, 0xFF#8, 0xFF#8, 0xFF#8, 0xFF#8, 0xFF#8, 0xFF#8,
       0xFF#8, 0#8, 0#8, 100#8, 0x80#8, 0#8, 0x80#8, 0#8] ∧
    resultsAt (after (.readClip shw 5#8) (after (.openProgram ann (clipArgs 3)) quiet)) .shw =
      [5#8, 2#8, 0#8, 2#8, 0#8, 1#8, 0xFF#8, 0xFF#8, 0#8, 0#8, 0#8, 1#8, 0xFF#8, 0xFF#8, 0xFF#8, 0xFF#8, 0xFF#8, 0xFF#8,
       0xFF#8, 0xFF#8, 0xFF#8, 0x3F#8, 0xFC#8, 0x3F#8, 0xFC#8, 0xFF#8] ∧
    resultsAt (after (.readCall shw 0#8) (after (.callPlace icm 0#8 0#8 5000#24 [1#8]) quiet)) .shw =
      [0#8, 1#8, 0#8, 0#8, 0x13#8, 0x88#8, 0xFF#8, 2#8, 0#8, 0#8, 0xFF#8, 0xFF#8, 0xFF#8, 0xFF#8, 1#8, 1#8, 0#8, 3#8, 0xA9#8,
       0x80#8, 0#8] := by decide +kernel

/-- R66, R69: CUT ramps of duration 0 and of no distance stand at once; another runs, over at most 10,000 ms. -/
theorem test_cut_ramps :
    (let cut := fun target duration => ((Ramp.still 0).setUp 100 1000).retarget false target duration
     ((cut 40000 0).current, (cut 40000 0).running, (cut 0 5).running, (cut 20 65535).duration, (cut 20 5).step)) =
      (32768, false, false, 10000, 4) := by decide

/-- Programs 4 to 7 of class 3 have the four chime voices, in zones 0 to 3. -/
def voicesUsed : State :=
  [0, 1, 2, 3].foldl (fun s k => after (.openProgram ann { liveArgs 3 (zoneBit k) with chime := 2#8 }) s) quiet

/-- An OPEN_PROGRAM of class 2 with a chime. -/
def chimeOpen (zones : ZoneSet) (pattern : Byte) : OpenArgs := { liveArgs 2 zones with chime := pattern }

theorem witness_ChimesAreBoundOrSkipped :
    (∀ s ∈ [quiet, voicesUsed], s.listens ann = true ∧ s.claimsAgree = true ∧ s.kindsLawful = true ∧ s.statesFollow = true ∧
      s.endOrder = [] ∧ (openCheck s .ann (chimeOpen (zoneBit 2) 2#8) matches .ok .live)) ∧
    quiet.allocate 4 = some 4 ∧ voicesUsed.allocate 4 = some 8 ∧
    (voicesUsed.openBlocks (openRecord (chimeOpen (zoneBit 2) 2#8) .ann .live) matches .ok none) ∧
    (let s : State := { quiet with progs := adjust quiet.progs 4 fun g => { g with kind := .live, chime := some 2 } }
     s.progs[(4 : ProgId)].ret = none ∧ s.patterns[(2 : PatId)].steps ≠ [] ∧ s.voices[(0 : Fin 4)].bound = none ∧
     quiet.patterns[(12 : PatId)].steps = [] ∧ (∀ v : Fin 4, voicesUsed.voices[v].bound ≠ none)) := by decide +kernel

/-- R101, R104: the lowest free voice; the voice of a program that the open ended; none left; an empty pattern. -/
theorem test_chime_voices :
    (let one := fun z pat s => after (.openProgram ann (chimeOpen z pat)) s
     ((one (zoneBit 9) 2#8 quiet).voices[(0 : Fin 4)].bound, (one (zoneBit 2) 2#8 voicesUsed).voices[(2 : Fin 4)].bound,
       (one (zoneBit 2) 2#8 voicesUsed).progs[(6 : ProgId)].state,
       (one (zoneBit 9) 2#8 voicesUsed).progs[(8 : ProgId)].chimeSkipped,
       (one (zoneBit 9) 12#8 quiet).progs[(4 : ProgId)].chimeSkipped)) = (some 4, some 8, .ended, true, true) := by decide +kernel

/-- Slot 0 speaks a clip in zone 7, and slot 1 sounds in zones 7 and 8. -/
def bothAlarms : State := after (.alarmStart saf 1#8 1#8 (zoneBit 7 ||| zoneBit 8)) announcing

theorem witness_ExclusionsEndAlarms :
    bothAlarms.safe = true ∧ bothAlarms.listens saf = true ∧ (∀ k : Fin 2, bothAlarms.slots[k].state ≠ .idle) ∧
    bothAlarms.progs[(0 : ProgId)].requested &&& ~~~zoneBit 7 = 0#64 ∧
    bothAlarms.progs[(1 : ProgId)].requested &&& ~~~zoneBit 7 ≠ 0#64 ∧ quiet.listens ann = true ∧ ann.port ≠ .saf := by
  decide +kernel

/-- R84: slot 0 goes IDLE with its window's channel released, slot 1 sounds on; and the refusals. -/
theorem test_exclusions_end_alarms :
    (let s := after (.excludeZones saf (zoneBit 7)) bothAlarms
     (s.slots[(0 : Fin 2)].state, s.slots[(1 : Fin 2)].state, s.progs[(0 : ProgId)].endReason, bothAlarms.chans[(0 : ChanId)].user,
       s.chans[(0 : ChanId)].user, (s.port .saf).has .alarm)) =
      (.idle, .sounding, some .noZones, some (.window 0), none, true) ∧
    statusAt (after (.excludeZones ann (zoneBit 7)) quiet) .ann = some 5#8 ∧
    statusAt (after (.excludeZones saf 0#64) quiet) .saf = some 6#8 := by decide +kernel

/-- R78, R88: a clip window from SILENCED parks the generator at step 1, one from SOUNDING pauses it; ALARM at ANN, not SAF. -/
theorem test_clip_windows_hold_the_tone :
    (let silenced := after (.clearNotices ann 0x1FF#16) (after (.alarmSilence saf 0#8) alarmed)
     let u := after (.alarmVoiceOpen saf 0#8 0xFF#8 5#8 1#16) silenced
     let v := after (.alarmVoiceOpen saf 0#8 0xFF#8 5#8 1#16) poolUsedAlarmed
     u.tone[(0 : Fin 2)] = Player.parked 1 (builtInPattern 1) ∧
     v.tone[(0 : Fin 2)] = poolUsedAlarmed.tone[(0 : Fin 2)].pause ∧
     [(u.port .ann).has .alarm, (u.port .saf).has .alarm, (v.port .icm).has .alarm] = [true, false, true]) := by decide +kernel

/-- R88: PARAM, STATE and NOT_READY of ALARM_VOICE_OPEN at the ends of its ranges. -/
theorem test_voice_refusals :
    (let say := fun s slot source clip n => statusAt (after (.alarmVoiceOpen saf slot source clip n) s) .saf
     [say alarmed 2#8 7#8 0xFF#8 1#16, say alarmed 0#8 8#8 0xFF#8 1#16, say alarmed 0#8 0xFF#8 0xFF#8 1#16,
       say alarmed 0#8 7#8 5#8 1#16, say alarmed 0#8 0xFF#8 5#8 0#16, say alarmed 0#8 0xFF#8 5#8 256#16,
       say alarmed 1#8 7#8 0xFF#8 1#16, say speaking 0#8 0xFF#8 6#8 255#16, say alarmed 0#8 0xFF#8 6#8 255#16]) =
      [some 6#8, some 6#8, some 6#8, some 6#8, some 6#8, some 6#8, some 7#8, some 7#8, some 12#8] := by decide +kernel

/-- R124: PARAM, BUSY and FULL of LOAD_BEGIN; entry 5 is READY, and 16,382 data blocks are all there are. -/
theorem test_load_refusals :
    (let load := fun s clip n loop marks => statusAt (after (.loadBegin ann clip n loop 0#16 marks) s) .ann
     [load quiet 9#8 0#16 0xFFFF#16 [], load quiet 9#8 16385#16 0xFFFF#16 [], load quiet 9#8 4#16 4#16 [],
       load quiet 9#8 4#16 3#16 [1#16, 1#16], load quiet 9#8 4#16 3#16 [4#16],
       load quiet 9#8 16384#16 0xFFFF#16 [0#16, 1#16, 2#16, 3#16, 4#16, 5#16, 6#16, 7#16, 8#16],
       load loading 10#8 1#16 0xFFFF#16 [], load quiet 5#8 1#16 0xFFFF#16 [], load quiet 9#8 16384#16 0xFFFF#16 [3#16, 16383#16],
       load State.reset 9#8 0#16 0xFFFF#16 [], load alarmed 9#8 0#16 0xFFFF#16 []]) =
      [some 6#8, some 6#8, some 6#8, some 6#8, some 6#8, some 6#8, some 9#8, some 9#8, some 10#8, some 12#8, some 8#8] := by
  decide +kernel

/-- R123, R132: a load that begins with the link free starts the directory step of its entry's image block with the entry in
it; with the link busy the block stays dirty. -/
theorem test_entries_soil_their_block :
    (match loading.clips.link.map (·.op) with | some (.directory 0 b) => b[9 * 26]? | _ => none) = some 1#8 ∧
    (let busy := linked (.scanRead 0) 5 quiet
     (after (.loadBegin ann 200#8 1#16 0xFFFF#16 0#16 []) busy).clips.dirty[(1 : Fin 2)] = true ∧
     (after (.eraseClip ann 5#8) busy).clips.dirty[(0 : Fin 2)] = true ∧
     (after (.loadAbandon ann) loading).clips.dirty[(0 : Fin 2)] = true ∧
     (after (.loadEnd ann) loaded).clips.dirty[(0 : Fin 2)] = true) := by decide +kernel

/-- R127 to R129: LOAD_END with bytes missing and with its mark set, and the refusals of ERASE_CLIP. -/
theorem test_load_end_refusals :
    statusAt (after (.loadEnd ann) loading) .ann = some 6#8 ∧ statusAt (after (.loadEnd ann) lastStep) .ann = some 7#8 ∧
    statusAt (after (.loadEnd shw) loaded) .shw = some 5#8 ∧ statusAt (after (.eraseClip ann 5#8) alarmed) .ann = some 8#8 ∧
    statusAt (after (.eraseClip ann 5#8) State.reset) .ann = some 12#8 := by decide +kernel

/-- R144: a read of block 1 whose check does not agree, at the fourth attempt: the scan is over and CLIP is raised. -/
theorem test_scan_mismatch :
    (crc16From 0xFFFF#16 (List.take 3328 [])).toNat ≠ imageWord [] 3328 ∧
    (let s : State := { quiet with clips := { quiet.clips with scan := some ⟨1, 3, false⟩ } }
     let u := after (.scanReadCompletion 3 (some [])) (linked (.scanRead 1) 5 s)
     (u.clips.scan, (u.port .ann).has .clip)) = (none, true) := by decide +kernel

/-- Station 9 is DISABLED beside the call of `talking`. -/
def disabled9 : State := after (.setStation icm 9#8 0xFF#8 0xFFFF#16 0xFFFF#16 1#8) talking

/-- No call record is FREE: station 2 i calls station 2 i + 1 for every i, and calls 7 and then 2 have ended. -/
def callsUsed : State :=
  let s := [0, 1, 2, 3, 4, 5, 6, 7, 8, 9, 10, 11, 12, 13, 14, 15].foldl
    (fun s i => after (.callPlace icm (BitVec.ofNat 8 (2 * i)) 0#8 5000#24 [BitVec.ofNat 8 (2 * i + 1)]) s) quiet
  after (.callEnd icm 2#8) (after (.callEnd icm 7#8) s)

theorem witness_CalleesAreLeftOut :
    disabled9.intercomLawful = true ∧ disabled9.listens icm = true ∧ disabled9.stations[(9 : StationId)].state = .disabled ∧
    disabled9.stations[(5 : StationId)].state = .idle ∧ disabled9.stations[(1 : StationId)].state = .inCall ∧
    disabled9.calls[(1 : CallId)].state = .free ∧ disabled9.calls[(0 : CallId)].state ≠ .free ∧
    callsUsed.intercomLawful = true ∧ callsUsed.listens icm = true ∧ (∀ y : CallId, callsUsed.calls[y].state ≠ .free) ∧
    callsUsed.callEnds = [7, 2] ∧ callsUsed.calls[(7 : CallId)].state = .ended ∧
    callsUsed.stations[(14 : StationId)].state = .idle := by decide +kernel

/-- R152, R153: left-out callees, a call with none left, and the record that ended earliest. -/
theorem test_callees_left_out :
    resultsAt (after (.callPlace icm 5#8 0#8 0xFFFFFF#24 [9#8, 1#8, 6#8]) disabled9) .icm =
      [1#8, 1#8, 3#8, 9#8, 2#8, 1#8, 1#8, 6#8, 0#8] ∧
    resultsAt (after (.callPlace icm 5#8 0#8 5000#24 [9#8]) disabled9) .icm = [1#8, 3#8, 1#8, 9#8, 2#8] ∧
    (resultsAt (after (.callPlace icm 14#8 1#8 5000#24 [15#8]) callsUsed) .icm).head? = some 7#8 ∧
    (let status := fun o pr ring cs s => statusAt (after (.callPlace icm o pr ring cs) s) .icm
     [status 32#8 0#8 5000#24 [1#8] quiet, status 0#8 3#8 5000#24 [1#8] quiet, status 0#8 0#8 4999#24 [1#8] quiet,
       status 0#8 0#8 120001#24 [1#8] quiet, status 0#8 0#8 5000#24 [] quiet, status 0#8 0#8 5000#24 [0#8] quiet,
       status 0#8 0#8 5000#24 [1#8, 2#8, 3#8, 4#8] quiet, status 0#8 0#8 5000#24 [1#8] alarmed,
       status 0#8 0#8 5000#24 [3#8] calling, status 14#8 0#8 5000#24 [15#8] { callsUsed with callEnds := [] }]) =
      [some 6#8, some 6#8, some 6#8, some 6#8, some 6#8, some 6#8, some 6#8, some 8#8, some 9#8, some 10#8] := by decide +kernel

/-- Four parties: station 1 has answered, stations 2 and 3 ring. -/
def fourTalking : State := after (.callAnswer icm 1#8) (after (.callPlace icm 0#8 0#8 5000#24 [1#8, 2#8, 3#8]) quiet)

/-- An EMERGENCY call of stations 5 and 6 is CONNECTED beside the calls of `s`. -/
def rescue (s : State) : State := after (.callAnswer icm 6#8) (after (.callPlace icm 5#8 2#8 5000#24 [6#8]) s)

theorem witness_CallCommandsAreRefused :
    quiet.listens saf = true ∧ quiet.listens icm = true ∧ saf.port ≠ .icm ∧ 31 < (32#8).toNat ∧ 15 < (16#8).toNat ∧
    quiet.calls[(15 : CallId)].state = .free ∧ calling.calls[(0 : CallId)].state = .ringing ∧
    callsUsed.calls[(7 : CallId)].state = .ended ∧ callsUsed.served = true ∧ fourTalking.listens icm = true ∧
    fourTalking.calls[(0 : CallId)].state = .connected ∧ 4 ≤ fourTalking.calls[(0 : CallId)].parties.length ∧
    fourTalking.served = true ∧ disabled9.served = true ∧ disabled9.calls[(0 : CallId)].state = .connected ∧
    1 ∈ disabled9.calls[(0 : CallId)].stations ∧ disabled9.calls[(0 : CallId)].parties.length < 4 ∧
    (let s := rescue pair
     s.intercomLawful = true ∧ s.listens icm = true ∧ s.served = true ∧ s.calls[(1 : CallId)].state = .connected ∧
     s.calls[(1 : CallId)].priority = .emergency ∧ s.calls[(1 : CallId)].parties.length < 4 ∧
     s.stations[(0 : StationId)].current = some 0 ∧ s.calls[(0 : CallId)].priority ≠ .emergency ∧
     s.stations[(5 : StationId)].current = some 1) := by decide +kernel

/-- R154, R156 to R159: each refusal in its order. -/
theorem test_call_refusals :
    (∀ f ∈ [Instr.callAnswer, .callHold, .callRetrieve, .callLeave],
      statusAt (after (f ann 32#8) quiet) .ann = some 5#8 ∧ statusAt (after (f icm 32#8) quiet) .icm = some 6#8 ∧
      statusAt (after (f icm 31#8) quiet) .icm = some 7#8) ∧
    (let add := fun x a s => statusAt (after (.callAdd icm x a) s) .icm
     let done := fun x s => statusAt (after (.callEnd icm x) s) .icm
     [add 16#8 1#8 quiet, add 15#8 32#8 quiet, add 15#8 31#8 quiet, add 0#8 9#8 calling, add 7#8 9#8 callsUsed,
       add 0#8 1#8 fourTalking, add 0#8 1#8 disabled9, add 0#8 9#8 disabled9, add 0#8 5#8 (rescue pair),
       done 16#8 quiet, done 15#8 quiet, done 7#8 callsUsed]) =
      [some 6#8, some 6#8, some 11#8, some 7#8, some 7#8, some 10#8, some 9#8, some 9#8, some 9#8, some 6#8, some 11#8, some 7#8] ∧
    statusAt (after (.callAdd shw 16#8 1#8) quiet) .shw = some 5#8 ∧
    statusAt (after (.callEnd shw 16#8) quiet) .shw = some 5#8 := by decide +kernel

/-- R153, R156: stations added to an EMERGENCY call are SUSPENDED in their old call, or out of it, DEPLETED where they were the
last to ring. -/
theorem test_added_by_a_barge :
    (let s := after (.callAdd icm 1#8 0#8) (rescue pair)
     let u := after (.callAdd icm 1#8 1#8) (rescue (after (.callPlace icm 0#8 0#8 5000#24 [1#8]) quiet))
     (s.stations[(0 : StationId)].suspended, s.calls[(1 : CallId)].stations, s.calls[(0 : CallId)].state,
       (s.port .icm).has .call, u.stations[(1 : StationId)].suspended, u.calls[(0 : CallId)].endCause)) =
      (some 0, [5, 6, 0], .connected, true, none, some .depleted) := by decide +kernel

theorem witness_BargesOfOtherParties :
    calling.intercomLawful = true ∧ calling.stations[(0 : StationId)].state = .calling ∧
    calling.stations[(1 : StationId)].state = .ringing ∧ calling.calls[(0 : CallId)].priority ≠ .emergency ∧
    calling.calls[(1 : CallId)].state = .free ∧ calling.calls[(0 : CallId)].state ≠ .free ∧
    (let s := after (.callPlace icm 0#8 0#8 5000#24 [1#8]) quiet
     s.intercomLawful = true ∧ s.calls[(0 : CallId)].state = .ringing ∧ s.calls[(0 : CallId)].parties.length = 2) ∧
    (after (.callHold icm 1#8) talking).stations[(1 : StationId)].state = .onHold := by decide +kernel

/-- R150, R168: a caller is suspended; a ringing party is removed, and its call is DEPLETED when it was the last. -/
theorem test_barges_of_other_parties :
    (let barge := fun (a : Byte) s => after (.callPlace icm 5#8 2#8 5000#24 [a]) s
     ((barge 0#8 calling).stations[(0 : StationId)].suspended, (barge 1#8 calling).calls[(0 : CallId)].stations,
       (barge 1#8 calling).calls[(0 : CallId)].endCause,
       (barge 1#8 (after (.callPlace icm 0#8 0#8 5000#24 [1#8]) quiet)).calls[(0 : CallId)].endCause)) =
      (some 0, [0, 2], none, some .depleted) := by decide +kernel

/-! Cues of several actions, and what safety traffic takes: the further clauses -/

/-- A LOAD_CUE frame of a FADE and a PLAY, and the cue it gives: the target and the duration are clamped. -/
theorem witness_AFrameIsItsCue :
    Cue.isOf ⟨9999, some 600000, [.fade 7 .bedPart 32768 10000 true, .play 3 255 .gated none]⟩ 9999#16 600000#24
      [⟨3#8, 0x0701FFFFFFFEFF00AAAA#80⟩, ⟨4#8, 0x03FF010100AAAAAAAAAA#80⟩] := by
  have fade : RawAction.says ⟨3#8, 0x0701FFFFFFFEFF00AAAA#80⟩ (.fade 7 .bedPart 32768 10000 true) := by
    unfold RawAction.says; decide +kernel
  have play : RawAction.says ⟨4#8, 0x03FF010100AAAAAAAAAA#80⟩ (.play 3 255 .gated none) := by
    unfold RawAction.says; decide +kernel
  exact ⟨by decide, by decide, by decide, .inr (by decide), by decide, by decide, .cons fade (.cons play .nil), by decide⟩

/-- R170: PARAM, for one field outside its range at a time, and for two PLAYs on one channel. -/
theorem test_cue_frames_refused :
    (let load := fun as => statusAt (after (.loadCue shw 1#16 0#24 as) cued) .shw
     [load [⟨0#8, 0x08080100000000000000#80⟩], load [⟨0#8, 0x07070100000000000000#80⟩], load [⟨0#8, 0x07340100000000000000#80⟩],
       load [⟨0#8, 0x07380100000000000000#80⟩], load [⟨0#8, 0x07080000000000000000#80⟩], load [⟨2#8, 0x00000000000000000001#80⟩],
       load [⟨3#8, 0x00020000000000000000#80⟩], load [⟨3#8, 0x00000000000000020000#80⟩], load [⟨4#8, 0x00050300010000000000#80⟩],
       load [⟨4#8, 0x00050000000000000000#80⟩], load [⟨4#8, 0x00050001010000000000#80⟩], load [⟨6#8, 0x04000000000000000000#80⟩],
       load [⟨4#8, 0x00050000010000000000#80⟩, ⟨4#8, 0x00050000010000000000#80⟩]]) =
      [some 6#8, some 6#8, some 0#8, some 6#8, some 6#8, some 6#8, some 6#8, some 6#8, some 6#8, some 6#8, some 6#8, some 6#8,
        some 6#8] := by decide +kernel

/-- The zone 63 is excluded beside the route of `routed`; and slot 0 has a bed in zones 50 and 52 too. -/
def routedShut : State := after (.excludeZones saf (zoneBit 63)) routed
def bedded : State := after (.cueGo shw) (oneAction (.bed 0 (zoneBit 50 ||| zoneBit 52)) routed)

/-- Slot 0's bed was opened with source 8, and its source is now 9. -/
def bedded9 : State :=
  { bedded with cue := { bedded.cue with slots := adjust bedded.cue.slots 0 fun r => { r with source := some 9 } } }

theorem witness_RoutesChangeTheirZones :
    (oneAction (.route 0 8 (zoneBit 51)) routed).safe = true ∧ (oneAction (.route 0 8 (zoneBit 51)) routed).listens shw = true ∧
    routed.cue.holdPending = false ∧ routed.cue.slots[(0 : Fin 8)].showProg = some 4 ∧
    routed.progs[(4 : ProgId)].source = some 8 ∧ routed.progs[(4 : ProgId)].policy = .takeAvailable ∧
    routed.progs[(4 : ProgId)].state ≠ .tail ∧ (∀ r : ProgId, routed.progs[r].waiting = 0#64) ∧
    routed.zones[(51 : Zone)].owner = none ∧ routed.zones[(51 : Zone)].excluded = false ∧
    (oneAction (.route 0 8 (zoneBit 63)) routedShut).safe = true ∧ routedShut.zones[(63 : Zone)].excluded = true ∧
    (routed.allocate 4).getD 4 = 5 ∧ 8 ≠ 9 := by decide +kernel

theorem witness_BedsChangeTheirZones :
    (oneAction (.bed 0 (zoneBit 63)) bedded).safe = true ∧ bedded.cue.slots[(0 : Fin 8)].bedProg = some 5 ∧
    bedded.progs[(5 : ProgId)].source = some 8 ∧ bedded.progs[(5 : ProgId)].policy = .takeAvailable ∧
    bedded.progs[(5 : ProgId)].state ≠ .tail ∧ (∀ r : ProgId, bedded.progs[r].waiting = 0#64) ∧
    bedded.zones[(52 : Zone)].bed = some 5 ∧ bedded.zones[(63 : Zone)].bed = none ∧
    (oneAction (.bed 0 (zoneBit 63)) (after (.excludeZones saf (zoneBit 63)) bedded)).safe = true ∧
    (oneAction (.bed 0 (zoneBit 63)) bedded9).safe = true ∧ bedded9.cue.slots[(0 : Fin 8)].source = some 9 ∧
    (bedded9.allocate 4).getD 5 = 6 := by decide +kernel

/-- R176: the route moves to zone 51, ends over an excluded zone, and another source opens another program; a bed moves. -/
theorem test_routes_and_beds_change :
    (let go := fun a s => after (.cueGo shw) (oneAction a s)
     let moved := go (.route 0 8 (zoneBit 51)) routed
     let other := go (.route 0 9 (zoneBit 51)) routed
     ((moved.zones[(50 : Zone)].owner, moved.zones[(51 : Zone)].owner, moved.cue.slots[(0 : Fin 8)].showProg),
       (go (.route 0 8 (zoneBit 63)) routedShut).cue.last.map (·.first),
       (other.progs[(4 : ProgId)].endReason, other.cue.slots[(0 : Fin 8)].showProg),
       (go (.bed 0 (zoneBit 63)) bedded).zones[(63 : Zone)].bed)) =
      ((none, some 4, some 4), some (some (1, .noZones)), (some .closed, some 5), some 5) := by decide +kernel

/-- Cue 10 of several actions, follow delay `follow`, then cue 20 of one action, then cue 9999. -/
def cuesOf (follow : Option Nat) (as : List CueAction) (a : CueAction) (s : State) : State :=
  { s with cue := { s.cue with
      cues := [⟨10, follow, as⟩, ⟨20, none, [a]⟩, ⟨9999, none, [.stop 0]⟩], state := .standby, standby := some 10 } }

/-- Show channel 3 is at a step mark. -/
def marked : State :=
  { quiet with chans := adjust quiet.chans (showChan 3) fun c =>
      { c with state := .paused, pause := some .mark, clip := some 5, trigger := .stepped, cursor := .toBegin 1 } }

theorem witness_CuesOfSeveralActions :
    (let s := cuesOf none [.route 0 8 (zoneBit 63), .fade 0 .showPart 0 2000 true] (.stop 0) quiet
     s.safe = true ∧ s.listens shw = true ∧ s.alarmActive = false ∧ s.cue.holdPending = false ∧ s.allocate 4 = some 4 ∧
     s.zones[(63 : Zone)].owner = none ∧ s.zones[(63 : Zone)].excluded = false ∧
     s.cue.find 10 = some ⟨10, none, [.route 0 8 (zoneBit 63), .fade 0 .showPart 0 2000 true]⟩) ∧
    marked.cue.slots[(7 : Fin 8)].bedProg = none ∧ marked.clipReady 5 = true ∧ marked.listens shw = true ∧
    (let s := cuesOf (some 0) [.stop 3] (.stop 1) marked
     nextCue s.cue.cues 10 = some 20 ∧ s.cue.find 20 = some ⟨20, none, [.stop 1]⟩ ∧ nextCue s.cue.cues 20 = some 9999) := by
  decide +kernel

/-- R176 to R179: a FADE of the program just routed; a STEP after a STOP; a PLAY after the STOP that follows it; chains. -/
theorem test_cues_of_several_actions :
    (let go := fun follow as a s => after (.cueGo shw) (cuesOf follow as a s)
     ((go none [.route 0 8 (zoneBit 63), .fade 0 .showPart 0 2000 true] (.stop 0) quiet).progs[(4 : ProgId)].gain.step,
       (go none [.fade 7 .bedPart 0 0 true, .stop 3, .step 3] (.stop 0) marked).cue.last,
       (go none [.play 3 5 .free none, .stop 3] (.stop 0) marked).chans[showChan 3].state,
       (go (some 0) [.stop 3] (.stop 1) marked).cue.last, (go (some 0) [.stop 3] (.stop 1) marked).cue.standby,
       resultsAt (go (some 0) [.stop 3] (.play 3 5 .free (some 1)) marked) .shw)) =
      (17, some ⟨10, false, 2, some (1, .noProgram)⟩, .priming, some ⟨20, false, 0, none⟩, some 9999,
        [0#8, 10#8, 3#8, 0#8, 0xFF#8, 0xFF#8]) := by decide +kernel

/-- Zone 50, which the route of `routed` owns, is open to class 3. -/
def lowered : State := { routed with zones := adjust routed.zones 50 fun z => { z with shield := 4 } }

/-- The route's engine in PRIMING. -/
def routedPriming : State :=
  after (.cueGo shw) { routed with cue := { routed.cue with state := .standby, standby := some 10 } }

theorem witness_SafetyTrafficTakesARoute :
    (∀ s ∈ [routed, routedPriming], s.safe = true ∧ s.listens saf = true ∧ s.zones[(50 : Zone)].owner = some 4 ∧
      s.progs[(4 : ProgId)].kind = .showSound ∧ s.progs[(4 : ProgId)].routeSlot = some 0 ∧
      (openCheck s .saf (liveArgs 1 (zoneBit 50)) matches .ok .live)) ∧
    routed.cue.state = .finished ∧ routedPriming.cue.state = .priming ∧ lowered.listens ann = true ∧
    (openCheck lowered .ann (liveArgs 3 (zoneBit 50)) matches .ok .live) ∧
    (after (.openProgram ann (liveArgs 3 (zoneBit 50))) lowered).zones[(50 : Zone)].owner = some 5 := by decide +kernel

/-- Every pool channel serves a class 3 CLIP program beside the route. -/
def routedPool : State :=
  [0, 1, 2, 3].foldl (fun s k => after (.openProgram ann { clipArgs 3 with zones := zoneBit k }) s) routed

theorem witness_AClipTakesARoute :
    routedPool.safe = true ∧ routedPool.listens saf = true ∧ routedPool.zones[(50 : Zone)].owner = some 4 ∧
    (openCheck routedPool .saf { clipArgs 1 with zones := zoneBit 50 } matches .ok .clip) ∧
    (∀ ch : ChanId, ch.val < 4 → routedPool.chans[ch].user ≠ none) ∧ (∀ r : ProgId, routedPool.progs[r].waiting = 0#64) ∧
    (let u := after (.openProgram saf { clipArgs 1 with zones := zoneBit 50 }) routedPool
     u.zones[(50 : Zone)].owner = some 2 ∧ u.progs[(2 : ProgId)].cls = 1 ∧ u.cue.state = .held) := by decide +kernel

/-- R52, R181: an alarm or a class 1 open holds the engine, in PRIMING at the start; a class 3 open leaves it. -/
theorem test_takeovers_are_reported :
    (let took := fun i s => ((after i s).cue.state, (after i s).cue.ret, (after i s).cue.holdPending)
     (took (.alarmStart saf 1#8 1#8 (zoneBit 50)) routed, took (.openProgram saf (liveArgs 1 (zoneBit 50))) routed,
       took (.alarmStart saf 0#8 1#8 (zoneBit 50)) routedPriming, took (.openProgram ann (liveArgs 3 (zoneBit 50))) lowered)) =
      ((.held, some .finished, false), (.held, some .finished, false), (.priming, none, true), (.finished, none, false)) := by
  decide +kernel

theorem witness_ClaimsAbortTheSurvey :
    surveyed.safe = true ∧ surveyed.listens saf = true ∧ surveyed.listens ann = true ∧ surveyed.survey.zone = some 27 ∧
    (openCheck surveyed .ann (liveArgs 2 (zoneBit 27)) matches .ok .live) ∧ surveyed.survey.requesters.ann = true := by
  decide +kernel

/-- R198: an alarm and an open of class 2 abort the survey of their zone; one of class 3 does not. -/
theorem test_claims_abort_the_survey :
    (let took := fun i => ((after i surveyed).survey.zone, (after i surveyed).zones[(27 : Zone)].lastResult.map (·.outcome))
     (took (.alarmStart saf 1#8 1#8 (zoneBit 27)), took (.openProgram ann (liveArgs 2 (zoneBit 27))),
       took (.openProgram ann (liveArgs 3 (zoneBit 27))))) =
      ((none, some .aborted), (none, some .aborted), (some 27, none)) := by decide +kernel

end Sys2Proof.Tests
end

section
namespace Sys2Proof.Machine

/-! ### What the shared operations leave alone

The claim manager, the alarm slots, the cue engine, the intercom switch, the survey engine, the clip engine and the players work
on records of their own. The rest of the state is changed by single commands and events alone, never by an operation that
several of them share; it is kept together here, so that each operation has one lemma for all of it. -/

/-- The fields of the state that no shared operation touches. -/
structure Outside where
  pending : List Instr
  restartArmed : Bool
  resetCause : ResetCause
  resetLeft : Option Nat
  alarmUnder : Nat
  msFrames : Nat
  patterns : Vector Pattern 16
  windowMs : Nat
  lanes : Lanes

def State.outside (s : State) : Outside :=
  ⟨s.pending, s.restartArmed, s.resetCause, s.resetLeft, s.alarmUnder, s.msFrames, s.patterns, s.windowMs, s.lanes⟩

theorem State.outside_lanes (s : State) : s.outside.lanes = s.lanes := rfl
theorem State.outside_msFrames (s : State) : s.outside.msFrames = s.msFrames := rfl

@[simp] theorem State.answering_outside (s : State) (p : Port) (n : Nat) (code : Byte) (st : Status) (r : List Byte) :
    (s.answering p n code st r).outside = s.outside := rfl
@[simp] theorem State.arbitrate_outside (s : State) : (s.arbitrate).outside = s.outside := by
  simp [State.outside]
@[simp] theorem State.beginPlaying_outside (s : State) (ch : ChanId) : (s.beginPlaying ch).outside = s.outside := by
  simp [State.outside]
@[simp] theorem State.clockThrough_outside (s : State) (p : Port) (n : Nat) : (s.clockThrough p n).outside = s.outside := by
  simp [State.outside]
@[simp] theorem State.gateShow_outside (s : State) (b : Bool) : (s.gateShow b).outside = s.outside := rfl
@[simp] theorem State.goChan_outside (s : State) (ch : ChanId) : (s.goChan ch).outside = s.outside := by
  simp [State.outside]
@[simp] theorem State.lateBlock_outside (s : State) (ch : ChanId) (o : Nat) : (s.lateBlock ch o).outside = s.outside := by
  simp [State.outside]
@[simp] theorem State.nextBlock_outside (s : State) (ch : ChanId) (o : Nat) : (s.nextBlock ch o).outside = s.outside := by
  simp [State.outside]
@[simp] theorem State.onCall_outside (s : State) (x : CallId) (f : Call → Call) : (s.onCall x f).outside = s.outside := rfl
@[simp] theorem State.onChan_outside (s : State) (ch : ChanId) (f : Channel → Channel) :
    (s.onChan ch f).outside = s.outside := rfl
@[simp] theorem State.onClips_outside (s : State) (f : ClipEngine → ClipEngine) : (s.onClips f).outside = s.outside := rfl
@[simp] theorem State.onCue_outside (s : State) (f : CueEngine → CueEngine) : (s.onCue f).outside = s.outside := rfl
@[simp] theorem State.onPort_outside (s : State) (p : Port) (f : PortCtl → PortCtl) :
    (s.onPort p f).outside = s.outside := rfl
@[simp] theorem State.onProg_outside (s : State) (p : ProgId) (f : Program → Program) :
    (s.onProg p f).outside = s.outside := rfl
@[simp] theorem State.onSlot_outside (s : State) (k : Fin 2) (f : AlarmSlot → AlarmSlot) :
    (s.onSlot k f).outside = s.outside := rfl
@[simp] theorem State.onStation_outside (s : State) (a : StationId) (f : Station → Station) :
    (s.onStation a f).outside = s.outside := rfl
@[simp] theorem State.onSurvey_outside (s : State) (f : Survey → Survey) : (s.onSurvey f).outside = s.outside := rfl
@[simp] theorem State.onTone_outside (s : State) (k : Fin 2) (f : Player → Player) :
    (s.onTone k f).outside = s.outside := rfl
@[simp] theorem State.onVoice_outside (s : State) (v : Fin 4) (f : ChimeVoice → ChimeVoice) :
    (s.onVoice v f).outside = s.outside := rfl
@[simp] theorem State.onZone_outside (s : State) (z : Zone) (f : ZoneRec → ZoneRec) :
    (s.onZone z f).outside = s.outside := rfl
@[simp] theorem State.onZones_outside (s : State) (zs : ZoneSet) (f : ZoneRec → ZoneRec) :
    (s.onZones zs f).outside = s.outside := rfl
@[simp] theorem State.raiseAlarm_outside (s : State) (b : Bool) : (s.raiseAlarm b).outside = s.outside := by
  simp [State.outside]
@[simp] theorem State.raiseCue_outside (s : State) (b : Bool) : (s.raiseCue b).outside = s.outside := by
  simp [State.outside]
@[simp] theorem State.raiseProgram_outside (s : State) (p : Port) (id : ProgId) :
    (s.raiseProgram p id).outside = s.outside := rfl
@[simp] theorem State.raiseUnderrun_outside (s : State) (ch : ChanId) : (s.raiseUnderrun ch).outside = s.outside := by
  simp [State.outside]
@[simp] theorem State.raise_outside (s : State) (k : NoticeKind) (p : Port) : (s.raise k p).outside = s.outside := rfl
@[simp] theorem State.releaseChan_outside (s : State) (ch : ChanId) : (s.releaseChan ch).outside = s.outside := rfl
@[simp] theorem State.respond_outside (s : State) (p : Port) (code : Byte) (st : Status) (r : List Byte) :
    (s.respond p code st r).outside = s.outside := rfl
@[simp] theorem State.startChan_outside (s : State) (ch : ChanId) (n : Option Nat) (tr : Trigger) :
    (s.startChan ch n tr).outside = s.outside := rfl
@[simp] theorem State.stopChan_outside (s : State) (ch : ChanId) : (s.stopChan ch).outside = s.outside := rfl
@[simp] theorem State.stopShow_outside (s : State) (ch : ChanId) : (s.stopShow ch).outside = s.outside := rfl
@[simp] theorem State.takeBlock_outside (s : State) (ch : ChanId) (o : Nat) : (s.takeBlock ch o).outside = s.outside := by
  simp [State.outside]

/-- What each turn of a fold leaves alone, the fold leaves alone. -/
theorem foldl_view {α β : Type} (view : State → β) {f : State → α → State} (h : ∀ s a, view (f s a) = view s) (l : List α)
    (s : State) : view (l.foldl f s) = view s := by
  induction l generalizing s with
  | nil => rfl
  | cons a l ih => rw [List.foldl_cons, ih, h]

theorem foldl_outside {α : Type} {f : State → α → State} (h : ∀ s a, (f s a).outside = s.outside) (l : List α) (s : State) :
    (l.foldl f s).outside = s.outside :=
  foldl_view State.outside h l s

@[simp] theorem State.raiseSurvey_outside (s : State) (r : Requesters) (spare : Option Port) :
    (s.raiseSurvey r spare).outside = s.outside :=
  foldl_outside (fun s p => by split <;> simp) _ s

@[simp] theorem State.releaseVoice_outside (s : State) (p : ProgId) : (s.releaseVoice p).outside = s.outside := by
  unfold State.releaseVoice; split <;> simp

@[simp] theorem State.onBoundVoice_outside (s : State) (p : ProgId) (f : Player → Player) :
    (s.onBoundVoice p f).outside = s.outside := by
  unfold State.onBoundVoice; split <;> simp

theorem State.bindVoice_outside {s u : State} {p : ProgId} {pat : PatId} (h : s.bindVoice p pat = some u) :
    u.outside = s.outside := by
  unfold State.bindVoice at h
  split at h
  · cases h
  · split at h <;> cases h; simp

@[simp] theorem State.gateProgram_outside (s : State) (p : ProgId) (b : Bool) : (s.gateProgram p b).outside = s.outside := by
  unfold State.gateProgram; (repeat' split) <;> simp

theorem State.stepChan_outside {s u : State} {ch : ChanId} (h : s.stepChan ch = some u) : u.outside = s.outside := by
  unfold State.stepChan at h
  simp only at h
  split at h
  · split at h <;> cases h <;> simp
  · cases h

/-! The survey engine. -/

@[simp] theorem State.beginSurvey_outside (s : State) (e : QueueEntry) : (s.beginSurvey e).outside = s.outside := rfl

@[simp] theorem State.takeHeads_outside (s : State) (q : List QueueEntry) : (s.takeHeads q).outside = s.outside := by
  induction q generalizing s with
  | nil => rfl
  | cons e q ih =>
    unfold State.takeHeads
    split
    · split <;> simp [ih]
    · simp

@[simp] theorem State.takeHead_outside (s : State) : s.takeHead.outside = s.outside := by
  unfold State.takeHead; split <;> simp

@[simp] theorem State.abortSurvey_outside (s : State) (spare : Option Port) : (s.abortSurvey spare).outside = s.outside := by
  unfold State.abortSurvey; split <;> simp

@[simp] theorem State.surveyCheck_outside (s : State) : s.surveyCheck.outside = s.outside := by
  unfold State.surveyCheck; (repeat' split) <;> simp

@[simp] theorem State.completeSurvey_outside (s : State) (z : Zone) (peak : Option (Nat × Nat)) (edge noPeak : Bool) :
    (s.completeSurvey z peak edge noPeak).outside = s.outside := by
  unfold State.completeSurvey; simp only; split <;> simp

@[simp] theorem State.coarseOn_outside (s : State) (z : Zone) : (s.coarseOn z).outside = s.outside := by
  unfold State.coarseOn; simp only; split <;> simp

@[simp] theorem State.coarseReading_outside (s : State) (z : Zone) (r : Nat) :
    (s.coarseReading z r).outside = s.outside := by
  unfold State.coarseReading; simp only; (repeat' split) <;> simp

@[simp] theorem State.fineReading_outside (s : State) (z : Zone) (r : Nat) : (s.fineReading z r).outside = s.outside := by
  unfold State.fineReading; simp only; (repeat' split) <;> simp

/-! The cue engine's holds and the alarm slots. -/

@[simp] theorem State.enterHeld_outside (s : State) (ret : EngineState) (quiet : Bool) :
    (s.enterHeld ret quiet).outside = s.outside := by
  simp [State.enterHeld]

@[simp] theorem State.reportTakeover_outside (s : State) (quiet : Bool) : (s.reportTakeover quiet).outside = s.outside := by
  unfold State.reportTakeover; split <;> simp

@[simp] theorem State.resumeCheck_outside (s0 s : State) (quiet : Bool) :
    (State.resumeCheck s0 s quiet).outside = s.outside := by
  unfold State.resumeCheck; split <;> simp

@[simp] theorem State.dropRoute_outside (s : State) (p : ProgId) : (s.dropRoute p).outside = s.outside := by
  unfold State.dropRoute; split <;> simp

@[simp] theorem State.closeWindow_outside (s : State) (k : Fin 2) : (s.closeWindow k).outside = s.outside := by
  unfold State.closeWindow; simp only; (repeat' split) <;> simp

@[simp] theorem State.startTone_outside (s : State) (k : Fin 2) : (s.startTone k).outside = s.outside := by
  unfold State.startTone; split <;> simp

@[simp] theorem State.parkTone_outside (s : State) (k : Fin 2) : (s.parkTone k).outside = s.outside := by
  unfold State.parkTone; split <;> simp

@[simp] theorem State.stopTone_outside (s : State) (k : Fin 2) : (s.stopTone k).outside = s.outside := rfl

@[simp] theorem State.idleSlot_outside (s : State) (k : Fin 2) (named : Bool) :
    (s.idleSlot k named).outside = s.outside := by
  simp [State.idleSlot]

@[simp] theorem State.returnFromVoice_outside (s : State) (k : Fin 2) (named : Bool) :
    (s.returnFromVoice k named).outside = s.outside := by
  unfold State.returnFromVoice; simp only; (repeat' split) <;> simp

@[simp] theorem State.silence_outside (s : State) (k : Fin 2) (named : Bool) : (s.silence k named).outside = s.outside := by
  unfold State.silence; split <;> simp

@[simp] theorem State.slotProgramEnded_outside (s : State) (p : ProgId) : (s.slotProgramEnded p).outside = s.outside := by
  unfold State.slotProgramEnded; (repeat' split) <;> simp

/-! The claim manager. -/

@[simp] theorem State.own_outside (s : State) (p : ProgId) (z : Zone) : (s.own p z).outside = s.outside := rfl

@[simp] theorem State.evict_outside (s : State) (z : Zone) : (s.evict z).outside = s.outside := by
  unfold State.evict; split <;> simp

@[simp] theorem State.displace_outside (s : State) (o : ProgId) (z : Zone) : (s.displace o z).outside = s.outside := by
  unfold State.displace; simp only; (repeat' split) <;> simp

@[simp] theorem State.takeForeground_outside (s : State) (quiet : Bool) (p : ProgId) (z : Zone) :
    (s.takeForeground quiet p z).outside = s.outside := by
  unfold State.takeForeground; simp only; (repeat' split) <;> simp

@[simp] theorem State.takeBed_outside (s : State) (p : ProgId) (z : Zone) : (s.takeBed p z).outside = s.outside := rfl

@[simp] theorem State.take_outside (s : State) (quiet : Bool) (p : ProgId) (z : Zone) :
    (s.take quiet p z).outside = s.outside := by
  unfold State.take; split <;> simp

@[simp] theorem State.claimOne_outside (s : State) (quiet : Bool) (p : ProgId) (z : Zone) :
    (s.claimOne quiet p z).outside = s.outside := by
  unfold State.claimOne; (repeat' split) <;> simp

@[simp] theorem State.claimEach_outside (s : State) (quiet : Bool) (p : ProgId) (zs : ZoneSet) :
    (s.claimEach quiet p zs).outside = s.outside :=
  foldl_outside (fun s z => s.claimOne_outside quiet p z) _ s

@[simp] theorem State.takeAll_outside (s : State) (quiet : Bool) (p : ProgId) (zs : ZoneSet) :
    (s.takeAll quiet p zs).outside = s.outside :=
  foldl_outside (fun s z => s.take_outside quiet p z) _ _

@[simp] theorem State.claimTogether_outside (s : State) (quiet : Bool) (p : ProgId) (zs : ZoneSet) :
    (s.claimTogether quiet p zs).outside = s.outside := by
  unfold State.claimTogether; split <;> simp

@[simp] theorem State.claimMore_outside (s : State) (quiet : Bool) (p : ProgId) (zs : ZoneSet) :
    (s.claimMore quiet p zs).outside = s.outside := by
  unfold State.claimMore; simp only; split <;> simp

@[simp] theorem State.grantWaiter_outside (s : State) (quiet : Bool) (w : ProgId) (z : Zone) :
    (s.grantWaiter quiet w z).outside = s.outside := by
  unfold State.grantWaiter; split <;> simp

@[simp] theorem State.popStack_outside (s : State) (z : Zone) : (s.popStack z).outside = s.outside := by
  unfold State.popStack; split <;> simp

@[simp] theorem State.succeed_outside (s : State) (quiet : Bool) (rs : ZoneSet) (z : Zone) :
    (s.succeed quiet rs z).outside = s.outside := by
  unfold State.succeed; (repeat' split) <;> simp

@[simp] theorem State.fillBed_outside (s : State) (quiet : Bool) (z : Zone) : (s.fillBed quiet z).outside = s.outside := by
  unfold State.fillBed; (repeat' split) <;> simp

@[simp] theorem State.releaseZone_outside (s : State) (quiet : Bool) (rs beds : ZoneSet) (z : Zone) :
    (s.releaseZone quiet rs beds z).outside = s.outside := by
  unfold State.releaseZone; simp only; (repeat' split) <;> simp

@[simp] theorem State.releaseStep_outside (s : State) (quiet : Bool) (fg beds : ZoneSet) :
    (s.releaseStep quiet fg beds).outside = s.outside :=
  foldl_outside (fun s z => s.releaseZone_outside quiet _ beds z) _ s

@[simp] theorem State.releaseProgChan_outside (s : State) (p : ProgId) : (s.releaseProgChan p).outside = s.outside := by
  unfold State.releaseProgChan; (repeat' split) <;> simp

@[simp] theorem State.releaseStation_outside (s : State) (p : ProgId) : (s.releaseStation p).outside = s.outside := by
  unfold State.releaseStation; split <;> simp

@[simp] theorem State.endProgram_outside (s : State) (p : ProgId) (why : EndReason) :
    (s.endProgram p why).outside = s.outside := by
  simp only [State.endProgram, State.slotProgramEnded_outside, State.dropRoute_outside, State.releaseStation_outside,
    State.releaseProgChan_outside, State.releaseVoice_outside, State.onProg_outside]
  rfl

@[simp] theorem State.startClip_outside (s : State) (p : ProgId) : (s.startClip p).outside = s.outside := by
  unfold State.startClip; (repeat' split) <;> simp

@[simp] theorem State.firstActive_outside (s : State) (p : ProgId) (skipped : Bool) :
    (s.firstActive p skipped).outside = s.outside := by
  simp [State.firstActive]

@[simp] theorem State.enterGranted_outside (s : State) (p : ProgId) : (s.enterGranted p).outside = s.outside := by
  unfold State.enterGranted
  simp only
  split
  · simp
  · simp
  · split
    case h_3 => simp
    all_goals
      split
      · next h => simpa using State.bindVoice_outside h
      · simp

@[simp] theorem State.enterUngranted_outside (s : State) (p : ProgId) : (s.enterUngranted p).outside = s.outside := by
  unfold State.enterUngranted; simp only; split <;> simp

@[simp] theorem State.settleProgram_outside (s : State) (p : ProgId) : (s.settleProgram p).outside = s.outside := by
  unfold State.settleProgram; simp only; (repeat' split) <;> simp

@[simp] theorem State.duckHandOff_outside (s0 s : State) : (State.duckHandOff s0 s).outside = s.outside := rfl

@[simp] theorem State.programNotices_outside (s0 s : State) (named : Option ProgId) :
    (State.programNotices s0 s named).outside = s.outside :=
  foldl_outside (fun t p => by split <;> simp) _ s

@[simp] theorem State.finish_outside (s0 s : State) (c : Cause) : (State.finish s0 s c).outside = s.outside := by
  simp only [State.finish, State.programNotices_outside, State.resumeCheck_outside, State.surveyCheck_outside,
    State.duckHandOff_outside]
  exact foldl_outside State.settleProgram_outside _ s

@[simp] theorem State.endAndRelease_outside (s : State) (p : ProgId) (why : EndReason) (c : Cause) :
    (s.endAndRelease p why c).outside = s.outside := by
  simp [State.endAndRelease]

@[simp] theorem State.dropZonesOf_outside (s : State) (p : ProgId) (zs : ZoneSet) (c : Cause) :
    (s.dropZonesOf p zs c).outside = s.outside := by
  simp [State.dropZonesOf]

@[simp] theorem State.addZonesTo_outside (s : State) (p : ProgId) (zs : ZoneSet) (c : Cause) :
    (s.addZonesTo p zs c).outside = s.outside := by
  simp [State.addZonesTo]

@[simp] theorem State.takeRecord_outside (s : State) (p : ProgId) (g : Program) :
    (s.takeRecord p g).outside = s.outside := rfl

@[simp] theorem State.claimOpened_outside (s0 s : State) (p : ProgId) (zs : ZoneSet) (c : Cause) :
    (State.claimOpened s0 s p zs c).outside = s.outside := by
  unfold State.claimOpened; simp only [State.finish_outside]; (repeat' split) <;> simp

@[simp] theorem State.bindPool_outside (s : State) (ch : ChanId) (from? : Option ProgId) (u : ChanUser) (id : ClipId)
    (c : Cause) : (s.bindPool ch from? u id c).outside = s.outside := by
  unfold State.bindPool; simp only; split <;> simp

end Sys2Proof.Machine
end

section
namespace Sys2Proof.Machine

/-! Commands of programs and alarm slots. -/

@[simp] theorem State.openIn_outside (s : State) (r : ProgId) (g : Program) (chan : Option (ChanId × Option ProgId))
    (zs : ZoneSet) : (s.openIn r g chan zs).outside = s.outside := by
  unfold State.openIn; simp only [State.claimOpened_outside]; (repeat' split) <;> simp

@[simp] theorem State.closeProg_outside (s : State) (r : ProgId) (c : Cause) : (s.closeProg r c).outside = s.outside := by
  unfold State.closeProg; simp only; (repeat' split) <;> simp

@[simp] theorem State.freeRecord_outside (s : State) (r : ProgId) : (s.freeRecord r).outside = s.outside := rfl

@[simp] theorem State.exclude_outside (s : State) (zs : ZoneSet) : (s.exclude zs).outside = s.outside :=
  (State.finish_outside ..).trans rfl

@[simp] theorem State.alarmOpen_outside (s : State) (k : Fin 2) (pat : PatId) (zs : ZoneSet) :
    (s.alarmOpen k pat zs).outside = s.outside := by
  unfold State.alarmOpen; simp only; split <;> simp

@[simp] theorem State.alarmAgain_outside (s : State) (k : Fin 2) (pat : PatId) (zs : ZoneSet) :
    (s.alarmAgain k pat zs).outside = s.outside := by
  unfold State.alarmAgain; simp only; split <;> simp

@[simp] theorem State.openWindow_outside (s : State) (k : Fin 2) (src : VoiceSource) :
    (s.openWindow k src).outside = s.outside := by
  unfold State.openWindow; simp only; split <;> simp

@[simp] theorem State.openClipWindow_outside (s : State) (k : Fin 2) (id : ClipId) (r : Nat) (ch : ChanId)
    (from? : Option ProgId) : (s.openClipWindow k id r ch from?).outside = s.outside := by
  simp [State.openClipWindow]

/-! The clip directory, the load and the store's reports. -/

@[simp] theorem State.completeLoad_outside (s : State) : s.completeLoad.outside = s.outside := by
  unfold State.completeLoad; (repeat' split) <;> simp

@[simp] theorem State.leaveEraseList_outside (s : State) (id : ClipId) (f : DirEntry → DirEntry) :
    (s.leaveEraseList id f).outside = s.outside := rfl

@[simp] theorem State.eraseDone_outside (s : State) (id : ClipId) (ok : Bool) : (s.eraseDone id ok).outside = s.outside := by
  unfold State.eraseDone; simp only; (repeat' split) <;> simp

@[simp] theorem State.scanOn_outside (s : State) (sc : Scan) : (s.scanOn sc).outside = s.outside := by
  unfold State.scanOn; split <;> simp

@[simp] theorem State.scanReadDone_outside (s : State) (data : Option (List Byte)) :
    (s.scanReadDone data).outside = s.outside := by
  unfold State.scanReadDone; (repeat' split) <;> simp

@[simp] theorem State.freeLink_outside (s : State) : s.freeLink.outside = s.outside := rfl

@[simp] theorem State.directoryDone_outside (s : State) (img : Fin 2) (ok : Bool) :
    (s.directoryDone img ok).outside = s.outside := by
  unfold State.directoryDone; split <;> simp

@[simp] theorem State.programmingDone_outside (s : State) (x : BufId) (discard ok : Bool) :
    (s.programmingDone x discard ok).outside = s.outside := by
  unfold State.programmingDone; split <;> simp

@[simp] theorem State.beginLoad_outside (s : State) (id : ClipId) (n : Nat) (loop : Option Nat) (check : Nat)
    (marks : List Nat) (first : Nat) : (s.beginLoad id n loop check marks first).outside = s.outside := rfl

/-! The execution of a cue. -/

@[simp] theorem State.cueFault_outside (s : State) (i : Nat) (f : CueFault) : (s.cueFault i f).outside = s.outside := rfl

@[simp] theorem State.zonesFault_outside (s : State) (i : Nat) (p : ProgId) : (s.zonesFault i p).outside = s.outside := by
  unfold State.zonesFault; split <;> simp

@[simp] theorem State.openRoute_outside (s : State) (quiet : Bool) (i : Nat) (slot : Fin 8) (bed : Bool) (src : Nat)
    (zs : ZoneSet) : (s.openRoute quiet i slot bed src zs).outside = s.outside := by
  unfold State.openRoute; split <;> simp

@[simp] theorem State.changeRoute_outside (s : State) (quiet : Bool) (i : Nat) (p : ProgId) (zs : ZoneSet) :
    (s.changeRoute quiet i p zs).outside = s.outside := by
  unfold State.changeRoute; simp only [State.zonesFault_outside]; split <;> simp

@[simp] theorem State.closeRoute_outside (s : State) (quiet : Bool) (p : Option ProgId) :
    (s.closeRoute quiet p).outside = s.outside := by
  unfold State.closeRoute; split <;> simp

@[simp] theorem State.setRoute_outside (s : State) (quiet : Bool) (i : Nat) (slot : Fin 8) (bed : Bool) (src : Nat)
    (zs : ZoneSet) : (s.setRoute quiet i slot bed src zs).outside = s.outside := by
  unfold State.setRoute; (repeat' split) <;> simp

@[simp] theorem State.emptyRoute_outside (s : State) (quiet : Bool) (slot : Fin 8) :
    (s.emptyRoute quiet slot).outside = s.outside := by
  simp [State.emptyRoute]

theorem State.playShow_outside {s u : State} {k : Fin 4} {id : ClipId} {tr : Trigger} {n : Option Nat}
    (h : s.playShow k id tr n = some u) : u.outside = s.outside := by
  unfold State.playShow at h
  split at h <;> cases h
  simp

@[simp] theorem State.runAction_outside (s : State) (quiet : Bool) (i : Nat) (a : CueAction) :
    (s.runAction quiet i a).outside = s.outside := by
  cases a with
  | route slot src zs => simp [State.runAction]
  | unroute slot => simp [State.runAction]
  | bed slot zs => unfold State.runAction; simp only; split <;> simp
  | fade slot part target duration st => unfold State.runAction; simp only; split <;> simp
  | play k id tr n => rfl
  | stop k => simp [State.runAction]
  | step k =>
    unfold State.runAction
    simp only
    split
    · simp
    · next h => exact State.stepChan_outside h

@[simp] theorem State.runPlay_outside (s : State) (i : Nat) (a : CueAction) : (s.runPlay i a).outside = s.outside := by
  unfold State.runPlay
  split
  · split
    · simp
    · next h => simpa using State.playShow_outside h
  all_goals rfl

@[simp] theorem State.firstPart_outside (s : State) (q : Cue) (quiet : Bool) :
    (s.firstPart q quiet).outside = s.outside := by
  have h : ∀ s' : State, (q.indexed.foldl (fun s x => s.runPlay x.1 x.2)
      (q.indexed.foldl (fun s x => s.runAction quiet x.1 x.2) s')).outside = s'.outside := fun s' => by
    rw [foldl_outside fun (s : State) (x : Nat × CueAction) => s.runPlay_outside x.1 x.2,
      foldl_outside fun (s : State) (x : Nat × CueAction) => s.runAction_outside quiet x.1 x.2]
  unfold State.firstPart
  simp only
  split <;> simp [h]

@[simp] theorem State.withhold_outside (s : State) (quiet : Bool) : (s.withhold quiet).outside = s.outside := by
  simp [State.withhold]

@[simp] theorem State.endExecution_outside (fuel : Nat) (s : State) (late quiet : Bool) :
    (s.endExecution fuel late quiet).outside = s.outside := by
  induction fuel generalizing s late with
  | zero => unfold State.endExecution; simp only; (repeat' split) <;> simp_all
  | succ fuel ih => unfold State.endExecution; simp only; (repeat' split) <;> simp_all

@[simp] theorem State.executeStandby_outside (s : State) (quiet : Bool) : (s.executeStandby quiet).outside = s.outside := by
  unfold State.executeStandby; simp only; (repeat' split) <;> simp

@[simp] theorem State.followDone_outside (s : State) (quiet : Bool) : (s.followDone quiet).outside = s.outside := by
  unfold State.followDone; simp only; split <;> simp

@[simp] theorem State.giveGo_outside (s : State) (late : Bool) : (s.giveGo late).outside = s.outside := by
  simp only [State.giveGo, State.raiseCue_outside, State.endExecution_outside]
  exact foldl_outside (fun (s : State) (m : Fin 4 × Bool) => s.goChan_outside (showChan m.1)) _ s

@[simp] theorem State.reportPrimed_outside (s : State) (k : Fin 4) : (s.reportPrimed k).outside = s.outside := by
  unfold State.reportPrimed; simp only; split <;> simp

/-! The intercom switch. -/

@[simp] theorem State.fallBack_outside (s : State) (x : CallId) : (s.fallBack x).outside = s.outside :=
  foldl_outside (fun s a => s.onStation_outside a _) _ _

@[simp] theorem State.closeCall_outside (s : State) (x : CallId) (why : EndCause) :
    (s.closeCall x why).outside = s.outside := rfl

@[simp] theorem State.endPlain_outside (s : State) (x : CallId) (why : EndCause) : (s.endPlain x why).outside = s.outside :=
  foldl_outside (fun s p => by split <;> rfl) _ s

@[simp] theorem State.settlePlain_outside (s : State) (x : CallId) : (s.settlePlain x).outside = s.outside := by
  unfold State.settlePlain; split <;> simp

@[simp] theorem State.recall_outside (s : State) (a : StationId) : (s.recall a).outside = s.outside := by
  unfold State.recall; split <;> simp

@[simp] theorem State.partyOut_outside (s : State) (emergency : Bool) (p : Party) :
    (s.partyOut emergency p).outside = s.outside := by
  unfold State.partyOut; simp only; (repeat' split) <;> simp

@[simp] theorem State.endCall_outside (s : State) (x : CallId) (why : EndCause) : (s.endCall x why).outside = s.outside :=
  foldl_outside (fun s p => s.partyOut_outside _ p) _ s

@[simp] theorem State.settle_outside (s : State) (x : CallId) : (s.settle x).outside = s.outside := by
  unfold State.settle; split <;> simp

@[simp] theorem State.ringStation_outside (s : State) (x : CallId) (a : StationId) :
    (s.ringStation x a).outside = s.outside := rfl

@[simp] theorem State.barge_outside (s : State) (a : StationId) (old : CallId) : (s.barge a old).outside = s.outside := by
  unfold State.barge; split <;> simp

@[simp] theorem State.treat_outside (s : State) (x : CallId) (a : StationId) : (s.treat x a).1.outside = s.outside := by
  unfold State.treat; simp only; (repeat' split) <;> simp

@[simp] theorem State.leaveCall_outside (s : State) (x : CallId) (a : StationId) :
    (s.leaveCall x a).outside = s.outside := by
  unfold State.leaveCall; simp only; split <;> simp

@[simp] theorem State.cadence_outside (s0 s : State) : (State.cadence s0 s).outside = s.outside := by
  unfold State.cadence; (repeat' split) <;> rfl

@[simp] theorem State.callDone_outside (s0 s : State) (x : CallId) (a : Option StationId) (cleared : Bool) :
    (State.callDone s0 s x a cleared).outside = s.outside := by
  unfold State.callDone; simp only; split <;> simp

@[simp] theorem State.newCall_outside (s : State) (x : CallId) (q : CallRequest) : (s.newCall x q).outside = s.outside := rfl

@[simp] theorem State.placeCallee_outside (s : State) (x : CallId) (a : StationId) :
    (s.placeCallee x a).1.outside = s.outside := by
  have h := s.treat_outside x a
  unfold State.placeCallee
  split <;> next e => rw [e] at h; simpa using h

@[simp] theorem State.placeCallees_outside (s : State) (x : CallId) (l : List StationId) :
    (s.placeCallees x l).1.outside = s.outside := by
  induction l generalizing s with
  | nil => rfl
  | cons a l ih => simp [State.placeCallees, ih]

@[simp] theorem State.placeCall_outside (s : State) (x : CallId) (q : CallRequest) :
    (s.placeCall x q).1.outside = s.outside := by
  simp [State.placeCall]

@[simp] theorem State.answer_outside (s : State) (x : CallId) (a : StationId) : (s.answer x a).outside = s.outside := by
  simp only [State.answer, State.settle_outside]
  exact foldl_outside (fun s b => s.onStation_outside b _) _ _

@[simp] theorem State.setHold_outside (s : State) (x : CallId) (a : StationId) (hold : Bool) :
    (s.setHold x a hold).outside = s.outside := rfl

/-! The part's own events. -/

@[simp] theorem State.onPlayer_outside (s : State) (pl : PlayerId) (f : Player → Player) :
    (s.onPlayer pl f).outside = s.outside := by
  cases pl <;> rfl

@[simp] theorem State.toneEnded_outside (s : State) (k : Fin 2) : (s.toneEnded k).outside = s.outside := by
  unfold State.toneEnded; split <;> simp

@[simp] theorem State.chimeEnded_outside (s : State) (v : Fin 4) : (s.chimeEnded v).outside = s.outside := by
  unfold State.chimeEnded; (repeat' split) <;> simp

@[simp] theorem State.reportEnd_outside (s : State) (pl : PlayerId) : (s.reportEnd pl).outside = s.outside := by
  cases pl <;> simp

@[simp] theorem State.phaseEnded_outside (s : State) (pl : PlayerId) : (s.phaseEnded pl).outside = s.outside := by
  unfold State.phaseEnded; simp only; split <;> simp

@[simp] theorem State.patternEnded_outside (s : State) (pl : PlayerId) : (s.patternEnded pl).outside = s.outside := by
  unfold State.patternEnded; (repeat' split) <;> simp

@[simp] theorem State.channelComplete_outside (s : State) (ch : ChanId) : (s.channelComplete ch).outside = s.outside := by
  unfold State.channelComplete; simp only; split <;> simp

@[simp] theorem State.holdBlock_outside (s : State) (ch : ChanId) (b : RingBlock) :
    (s.holdBlock ch b).outside = s.outside := rfl

@[simp] theorem State.newPass_outside (s : State) (ch : ChanId) (left : Option Nat) :
    (s.newPass ch left).outside = s.outside := by
  simp [State.newPass]

@[simp] theorem State.terminalCount_outside (s : State) (ch : ChanId) (b : RingBlock) :
    (s.terminalCount ch b).outside = s.outside := by
  unfold State.terminalCount; simp only; (repeat' split) <;> simp

@[simp] theorem State.blockEnd_outside (s : State) (ch : ChanId) : (s.blockEnd ch).outside = s.outside := by
  unfold State.blockEnd; (repeat' split) <;> simp

@[simp] theorem State.joinDone_outside (s : State) (p : ProgId) : (s.joinDone p).outside = s.outside := by
  simp [State.joinDone]

@[simp] theorem State.windowExpired_outside (s : State) (k : Fin 2) : (s.windowExpired k).outside = s.outside := by
  simp [State.windowExpired]

@[simp] theorem State.primingEnd_outside (s : State) (ch : ChanId) : (s.primingEnd ch).outside = s.outside := by
  unfold State.primingEnd; simp only; (repeat' split) <;> simp

@[simp] theorem State.fetched_outside (s : State) (ch : ChanId) (offset pass : Nat) (data : List Byte) :
    (s.fetched ch offset pass data).outside = s.outside := by
  simp [State.fetched]

@[simp] theorem State.fetchDone_outside (s : State) (ch : ChanId) (offset pass : Nat) (discard : Bool)
    (data : Option (List Byte)) : (s.fetchDone ch offset pass discard data).outside = s.outside := by
  unfold State.fetchDone; split <;> simp

@[simp] theorem State.opFailed_outside (s : State) (op : StoreOp) : (s.opFailed op).outside = s.outside := by
  cases op <;> simp [State.opFailed]

@[simp] theorem State.tickRamps_lanes (s : State) : s.tickRamps.lanes = s.lanes := rfl

@[simp] theorem State.endTails_outside (s : State) : s.endTails.outside = s.outside :=
  foldl_outside (fun s p => by split <;> simp) _ s

@[simp] theorem State.countOverloads_lanes (s : State) : s.countOverloads.lanes = s.lanes := by
  unfold State.countOverloads; simp only; split <;> rfl

end Sys2Proof.Machine
end

section
namespace Sys2Proof.Machine

/-! ### Output slots stay in the sample range (R3, R61, R162) -/

theorem Lanes.outputsInRange_iff (l : Lanes) :
    l.outputsInRange = true ↔
      (∀ z : Zone, isSample l.zoneOut[z] = true) ∧ ∀ a : StationId, isSample l.stationOut[a] = true := by
  simp [Lanes.outputsInRange, List.all_eq_true, List.mem_finRange]

theorem Lanes.reset_outputsInRange : Lanes.reset.outputsInRange = true := by decide +kernel

theorem Lanes.cleared_outputsInRange (l : Lanes) : l.cleared.outputsInRange = l.outputsInRange := rfl

/-- The samples a frame transmits are saturated (R61, R162). -/
theorem State.frame_outputsInRange (s : State) (inputs sense : List (BitVec 32)) :
    (s.frame inputs sense).lanes.outputsInRange = true := by
  rw [Lanes.outputsInRange_iff]
  constructor
  · intro z
    simp [State.frame, Lanes.latch, State.countTimers, State.advanceSources, State.output, State.zoneSample, isSample_saturate]
  · intro a
    simp [State.frame, Lanes.latch, State.countTimers, State.advanceSources, State.output, State.stationSample, isSample_saturate]

/-- The next state of a meaning, where there is one, has every output slot in the sample range. -/
def OutputsAnswered (o : Out) : Prop := ∀ u, o = .next u → u.lanes.outputsInRange = true

theorem outputsAnswered_next {u : State} (h : u.lanes.outputsInRange = true) : OutputsAnswered (.next u) := by
  rintro _ ⟨⟩
  exact h

theorem outputsAnswered_partEvent {u : State} (h : u.lanes.outputsInRange = true) : OutputsAnswered (partEvent u) :=
  outputsAnswered_next (by rwa [State.arbitrate_lanes])

/-- An event that leaves the lanes alone. -/
theorem outputsAnswered_event {s u : State} (h : s.lanes.outputsInRange = true) (hu : u.lanes = s.lanes) :
    OutputsAnswered (partEvent u) :=
  outputsAnswered_partEvent (by rwa [hu])

theorem State.restartNow_outputsInRange {s : State} (h : s.lanes.outputsInRange = true) :
    s.restartNow.lanes.outputsInRange = true :=
  (s.lanes.cleared_outputsInRange).trans h

/-- A port command whose own work leaves the lanes alone: what its transaction adds, a reset of a RESTART included, keeps
the output slots. -/
theorem outputsAnswered_portCommand {s : State} (h : s.lanes.outputsInRange = true) (t : Txn) (code : Byte) (n : Nat)
    {body : State → Reply} (hb : ∀ s, (body s).1.lanes = s.lanes) : OutputsAnswered (portCommand s t code n body) := by
  apply outputsAnswered_partEvent
  unfold State.transact
  simp only
  split
  · simpa using h
  · split
    · exact State.restartNow_outputsInRange (by simpa using h)
    · simpa [hb] using h

theorem execCallAdd_outputsAnswered (t : Txn) (call station : Byte) {s : State} (h : s.lanes.outputsInRange = true) :
    OutputsAnswered (execCallAdd t call station s) := by
  refine outputsAnswered_portCommand h t _ _ fun s => ?_
  simp only
  split
  · rfl
  · split
    · next x a _ _ =>
      have ht := s.treat_outside x a
      (repeat' split) <;> simp_all [okWith, refuse, ← State.outside_lanes]
    · rfl

theorem execCueStopAll_outputsAnswered (t : Txn) {s : State} (h : s.lanes.outputsInRange = true) :
    OutputsAnswered (execCueStopAll t s) := by
  refine outputsAnswered_portCommand h t _ _ fun s => ?_
  simp only
  split
  · rfl
  · simp only [okWith, State.onCue_lanes]
    rw [← State.outside_lanes, foldl_outside fun s slot => s.emptyRoute_outside true slot,
      foldl_outside fun s k => s.stopShow_outside (showChan k), State.outside_lanes]

/-- A port command changes no output slot but by the reset of a RESTART, which keeps them. -/
theorem runCommand_outputsAnswered (i : Instr) {s : State} (h : s.lanes.outputsInRange = true) :
    OutputsAnswered (runCommand i s) := by
  cases i
  case callAdd t call station => exact execCallAdd_outputsAnswered t call station h
  case cueStopAll t => exact execCueStopAll_outputsAnswered t h
  case unknownCommandFrame | transactionCutShort | powerOnReset | restartBegin | resetIntervalEnd | audioFrame
    | playerPhaseEnd | twoToneSwitch | toneGeneratorEnd | chimeEnd | blockDone | terminalCount | rampTick
    | waitLimitExpiry | joinDeadlineExpiry | voiceWindowExpiry | ringTimerExpiry | primingBoundExpiry
    | followCountdownExpiry | coarseDwellExpiry | fineDwellExpiry | autoSurveyIntervalExpiry | storeOperationTimeout
    | scanReadCompletion | fetchCompletion | directoryStepCompletion | programmingStepCompletion | eraseStepCompletion =>
    exact outputsAnswered_next h
  all_goals
    refine outputsAnswered_portCommand h _ _ _ fun s => ?_
    simp -failIfUnchanged only
    (repeat' split) <;> simp -failIfUnchanged [okWith, refuse] <;> simp [← State.outside_lanes]

/-- A transaction given by its bytes: it is dropped, begins the reset, is answered as a bad frame, or runs its command. -/
theorem rawTransaction_outputsAnswered (p : Port) (bytes : List Byte) {s : State} (h : s.lanes.outputsInRange = true) :
    OutputsAnswered (s.rawTransaction p bytes) := by
  have hc : (s.clockThrough p bytes.length).lanes.outputsInRange = true := by rwa [State.clockThrough_lanes]
  unfold State.rawTransaction
  simp only
  split
  · exact outputsAnswered_next hc
  split
  · exact outputsAnswered_next (State.restartNow_outputsInRange hc)
  split
  · exact outputsAnswered_next hc
  split
  · exact outputsAnswered_event hc (State.respond_lanes ..)
  · next i _ => exact runCommand_outputsAnswered i h

/-- An audio frame transmits saturated samples, and one of the reset interval zeros (R14, R61, R162). -/
theorem execAudioFrame_outputsAnswered (inputs sense : List (BitVec 32)) (s : State) :
    OutputsAnswered (execAudioFrame inputs sense s) := by
  apply outputsAnswered_partEvent
  split
  · exact Lanes.reset_outputsInRange
  · exact s.frame_outputsInRange inputs sense

theorem execRestartBegin_outputsAnswered (clocked : Nat) {s : State} (h : s.lanes.outputsInRange = true) :
    OutputsAnswered (execRestartBegin clocked s) := by
  apply outputsAnswered_partEvent
  split
  · exact State.restartNow_outputsInRange (by rwa [State.clockThrough_lanes])
  · exact h

/-- Every command and event keeps the output slots in the sample range. -/
theorem exec_outputsAnswered (i : Instr) {s : State} (h : s.lanes.outputsInRange = true) : OutputsAnswered (exec i s) := by
  have hrun := runCommand_outputsAnswered i h
  cases i
  case unknownCommandFrame p bytes => exact rawTransaction_outputsAnswered p bytes h
  case transactionCutShort p bytes => exact rawTransaction_outputsAnswered p bytes h
  case powerOnReset => exact outputsAnswered_partEvent Lanes.reset_outputsInRange
  case restartBegin clocked => exact execRestartBegin_outputsAnswered clocked h
  case rampTick =>
    refine outputsAnswered_event h ?_
    split
    · rw [← State.outside_lanes, State.endTails_outside, State.outside_lanes, State.tickRamps_lanes]
    · rfl
  case audioFrame inputs sense => exact execAudioFrame_outputsAnswered inputs sense s
  case resetIntervalEnd | playerPhaseEnd | twoToneSwitch | toneGeneratorEnd | chimeEnd | blockDone | terminalCount
    | waitLimitExpiry | joinDeadlineExpiry | voiceWindowExpiry | ringTimerExpiry | primingBoundExpiry
    | followCountdownExpiry | coarseDwellExpiry | fineDwellExpiry | autoSurveyIntervalExpiry | storeOperationTimeout
    | scanReadCompletion | fetchCompletion | directoryStepCompletion | programmingStepCompletion | eraseStepCompletion =>
    refine outputsAnswered_event h ?_
    (repeat' split) <;> simp -failIfUnchanged <;> simp [← State.outside_lanes]
  all_goals exact hrun

/-- Settles O14: an idle step changes nothing, and any other runs a command or event, each of which keeps the range. -/
theorem outputsStayInTheSampleRange : Obligations.OutputsStayInTheSampleRange := by
  intro s u hs hstep
  unfold step at hstep
  split at hstep
  · cases hstep
    exact hs
  · next i rest _ => exact exec_outputsAnswered i (s := { s with pending := rest }) hs u hstep

end Sys2Proof.Machine
end

section
namespace Sys2Proof.Machine

/-! ### The reset state (R14, R211) -/

@[simp] theorem State.reset_progs (p : ProgId) : State.reset.progs[p.val] = Program.free := Vector.getElem_replicate p.isLt
@[simp] theorem State.reset_zones (z : Zone) : State.reset.zones[z.val] = ZoneRec.reset := Vector.getElem_replicate z.isLt
@[simp] theorem State.reset_slots (k : Fin 2) : State.reset.slots[k.val] = AlarmSlot.idle := Vector.getElem_replicate k.isLt
@[simp] theorem State.reset_tone (k : Fin 2) : State.reset.tone[k.val] = Player.stopped := Vector.getElem_replicate k.isLt
@[simp] theorem State.reset_stations (a : StationId) : State.reset.stations[a.val] = Station.reset :=
  Vector.getElem_replicate a.isLt
@[simp] theorem State.reset_calls (x : CallId) : State.reset.calls[x.val] = Call.free := Vector.getElem_replicate x.isLt
@[simp] theorem State.reset_patterns (k : PatId) :
    State.reset.patterns[k.val] = builtInPattern k := getElem_tabulate _ _ k.isLt
@[simp] theorem State.reset_chans (ch : ChanId) :
    State.reset.chans[ch.val] = Channel.reset (if ch.val < 4 then none else some .cue) := getElem_tabulate _ _ ch.isLt
@[simp] theorem State.reset_dir (id : ClipId) : State.reset.clips.dir[id.val] = DirEntry.empty :=
  Vector.getElem_replicate id.isLt
@[simp] theorem State.reset_routes (k : Fin 8) : State.reset.cue.slots[k.val] = RouteSlot.empty :=
  Vector.getElem_replicate k.isLt

theorem State.reset_atRest : State.reset.atRest = true := by
  have hs : State.reset.statesFollow = true := by simp [State.statesFollow, Program.settled, Program.free]
  have hv : State.reset.surveyClear = true := rfl
  have hl : State.reset.served = true := rfl
  simp [State.atRest, hs, hv, hl]

theorem State.reset_claims :
    State.reset.claimsAgree = true ∧ State.reset.zonesLawful = true ∧ State.reset.kindsLawful = true ∧
    State.reset.tailsLawful = true ∧ State.reset.classesLawful = true ∧ State.reset.stacksLawful = true := by
  refine ⟨?_, ?_, ?_, ?_, ?_, ?_⟩
  · simp [State.claimsAgree, State.programAgrees, Program.isOpen, Program.free, ZoneRec.reset]
  · simp [State.zonesLawful, State.zoneLawful, Program.claimsLawful, Program.isOpen, Program.free, ZoneRec.reset]
  · simp [State.kindsLawful, ZoneRec.reset]
  · simp [State.tailsLawful, Program.free]
  · simp [State.classesLawful, Program.isOpen, Program.free]
  · simp [State.stacksLawful, State.stackLawful, ZoneRec.reset, neverFalling]

theorem State.reset_orders : State.reset.ordersLawful = true := by
  have ho : State.reset.openOrder = [] := rfl
  have he : State.reset.endOrder = [] := rfl
  have hc : State.reset.callEnds = [] := rfl
  simp [State.ordersLawful, ho, he, hc, Program.free, Call.free]

theorem State.reset_alarms (k : Fin 2) :
    (State.reset.slotLawful k && State.reset.alarmHolds k && State.reset.toneFollows k &&
      State.reset.slots[k.val].windowLawful) = true := by
  simp [State.slotLawful, State.alarmHolds, State.toneFollows, AlarmSlot.windowLawful, AlarmSlot.idle, Program.isOpen,
    Program.free, Player.stopped]

theorem builtInPattern_levelsInRange (k : PatId) : (builtInPattern k).levelsInRange = true := by
  revert k; decide

theorem State.reset_gainsInRange : State.reset.gainsInRange = true := by
  have hu : State.reset.alarmUnder = 8192 := rfl
  have hp : State.reset.survey.pilotLevel = 512 := rfl
  simp [State.gainsInRange, ZoneRec.gainsInRange, Ramp.inRange, Ramp.still, Program.free, ZoneRec.reset, Station.reset, unity,
    builtInPattern_levelsInRange, hu, hp]

theorem State.reset_intercom :
    State.reset.cadenceLawful = true ∧ State.reset.intercomLawful = true ∧ State.reset.calloutsLawful = true := by
  have hr : State.reset.ring = Player.stopped := rfl
  have hn : State.reset.ringingStations = 0 := by simp [State.ringingStations, Station.reset]
  refine ⟨?_, ?_, ?_⟩
  · simp [State.cadenceLawful, hr, Player.stopped]
  · simp [State.intercomLawful, State.stationAgrees, Call.lawful, Call.stations, State.partiesAgree, Call.live, hr, hn,
      Station.reset, Call.free, Player.stopped]
  · simp [State.calloutsLawful, Program.isOpen, Program.free, Station.reset]

theorem State.reset_clips :
    State.reset.channelsReady = true ∧ State.reset.usersLawful = true ∧ State.reset.clips.rangesApart = true ∧
    State.reset.clips.entriesLawful = true := by
  refine ⟨?_, ?_, ?_, ?_⟩
  · simp [State.channelsReady, Channel.reset]
  · simp only [State.usersLawful, Bool.and_eq_true, List.all_eq_true]
    refine ⟨⟨fun p _ => ?_, fun k _ => ?_⟩, fun ch _ => ?_⟩
    · simp [Program.isOpen, Program.free]
    · simp [AlarmSlot.idle]
    · by_cases h : ch.val < 4
      · simp [h, Channel.reset]
      · simp [h, Channel.reset, Nat.le_of_not_lt h]
  · have hn : State.reset.clips.ranges none = [] := by simp [ClipEngine.ranges, DirEntry.range, DirEntry.empty]
    simp [ClipEngine.rangesApart, hn]
  · have hd : State.reset.clips.load = none := rfl
    have he : State.reset.clips.eraseList = [] := rfl
    have hl : State.reset.clips.link = some ⟨0, 24000, .scanRead 0⟩ := rfl
    have hs : State.reset.clips.scan = some ⟨0, 0, false⟩ := rfl
    simp [ClipEngine.entriesLawful, hd, he, hl, hs, DirEntry.empty]

theorem State.reset_cueAndSurvey :
    State.reset.cue.listLawful = true ∧ State.reset.cue.stateLawful = true ∧ State.reset.routesLawful = true ∧
    State.reset.surveyLawful = true := by
  refine ⟨rfl, rfl, ?_, ?_⟩
  · simp [State.routesLawful, RouteSlot.empty]
  · have hv : State.reset.survey = Survey.reset := rfl
    simp [State.surveyLawful, hv, Survey.reset, ZoneRec.reset]

/-- Settles O16, law by law: every record is at its reset value, and the laws ask nothing more of those. -/
theorem theResetStateIsSafe : Obligations.TheResetStateIsSafe := by
  obtain ⟨hagree, hzones, hkinds, htails, hclasses, hstacks⟩ := State.reset_claims
  obtain ⟨hcadence, hintercom, hcallouts⟩ := State.reset_intercom
  obtain ⟨hready, husers, hranges, hentries⟩ := State.reset_clips
  obtain ⟨hlist, hengine, hroutes, hsurvey⟩ := State.reset_cueAndSurvey
  have hout : State.reset.lanes.outputsInRange = true := Lanes.reset_outputsInRange
  have hres : State.reset.resetLawful = true := rfl
  have halarms : ((List.finRange 2).all fun k => State.reset.slotLawful k && State.reset.alarmHolds k &&
      State.reset.toneFollows k && State.reset.slots[k].windowLawful) = true :=
    List.all_eq_true.mpr fun k _ => State.reset_alarms k
  refine ⟨?_, rfl, rfl⟩
  simp only [State.safe, State.reset_atRest, hagree, hzones, hkinds, htails, hclasses, hstacks, State.reset_orders, halarms,
    State.reset_gainsInRange, hout, hcadence, hintercom, hcallouts, hres, hready, husers, hranges, hentries, hlist, hengine,
    hroutes, hsurvey, Bool.and_self]

end Sys2Proof.Machine
end

section
namespace Sys2Proof.Machine

/-! ### Sources by their identifiers (R2, R9) -/

theorem State.sampleOf_input (s : State) (c : Fin 48) : s.sampleOf (some c.val) = s.lanes.inputs[c] := by
  simp [State.sampleOf, State.sourceSample]

theorem State.sampleOf_chan (s : State) (c : ChanId) : s.sampleOf (some (48 + c.val)) = s.chans[c].sample := by
  simp [State.sampleOf, State.sourceSample, show 48 + c.val < 56 by omega]

theorem State.sampleOf_tone (s : State) (k : Fin 2) : s.sampleOf (some (56 + k.val)) = s.playerSample s.tone[k] := by
  simp [State.sampleOf, State.sourceSample, show ¬56 + k.val < 48 by omega, show 56 + k.val < 58 by omega]

theorem State.sampleOf_voice (s : State) (v : Fin 4) :
    s.sampleOf (some (58 + v.val)) = s.playerSample s.voices[v].player := by
  simp [State.sampleOf, State.sourceSample, show ¬58 + v.val < 48 by omega, show ¬58 + v.val < 56 by omega,
    show 58 + v.val < 62 by omega]

theorem State.sampleOf_ring (s : State) : s.sampleOf (some 62) = s.playerSample s.ring := rfl

theorem State.sampleOf_mic (s : State) (a : StationId) : s.sampleOf (some (16 + a.val)) = s.micSample a :=
  s.sampleOf_input ⟨16 + a.val, by omega⟩

theorem State.playerSample_eq (s : State) (pl : Player) :
    s.playerSample pl =
      if pl.cond = .running ∧ pl.on = true ∧ 0 < pl.left then
        q15 (waveValue (s.patterns[pl.pattern].stepAt pl.step).waveform pl.acc.toNat) (s.patterns[pl.pattern].stepAt pl.step).level
      else 0 := by
  simp [State.playerSample, Player.sample, Player.sounding, State.patternOf, and_assoc]

/-! ### Foreground sources (R55) -/

theorem slotOfProg_of_le {p : ProgId} (h : 2 ≤ p.val) : slotOfProg p = none := dif_neg (by omega)

@[simp] theorem slotOfProg_progOfSlot (k : Fin 2) : slotOfProg (progOfSlot k) = some k := dif_pos k.isLt

theorem State.foreground_of_playing {s : State} {p : ProgId} (hp : 2 ≤ p.val)
    (h : s.progs[p].state = .active ∨ s.progs[p].state = .tail) : s.foreground p = s.progs[p].source := by
  rcases h with h | h <;> simp only [State.foreground, slotOfProg_of_le hp, h]

/-- The voice bound to a program is the first that names it (R101). -/
theorem State.voiceOf_eq_some {s : State} {p : ProgId} {v : Fin 4} (h : s.voices[v].bound = some p)
    (hfirst : ∀ w : Fin 4, w < v → s.voices[w].bound ≠ some p) : s.voiceOf p = some v := by
  unfold State.voiceOf
  rw [List.find?_eq_some_iff_getElem]
  refine ⟨by simpa using h, v.val, by simp, by simp, fun j hj => ?_⟩
  simpa using hfirst ⟨j, by omega⟩ hj

theorem State.foreground_of_preamble {s : State} {p : ProgId} (hp : 2 ≤ p.val) (hs : s.progs[p].state = .preamble) {v : Fin 4}
    (h : s.voices[v].bound = some p) (hfirst : ∀ w : Fin 4, w < v → s.voices[w].bound ≠ some p) :
    s.foreground p = some (58 + v.val) := by
  simp only [State.foreground, slotOfProg_of_le hp, hs, State.chimeSource, State.voiceOf_eq_some h hfirst, Option.map_some]

/-! ### The terms of a zone sample (R56 to R61) -/

section ZoneTerms
variable {s : State} {z : Zone}

theorem State.zoneSample_of_shorted (h : s.zones[z].lineStatus = .shorted) : s.zoneSample z = saturate (s.pilotTerm z) := by
  simp [State.zoneSample, State.zoneSum, h, -Fin.getElem_fin]

theorem State.zoneSample_of_line (h : s.zones[z].lineStatus ≠ .shorted) :
    s.zoneSample z =
      saturate (q15 (s.fgTerm z + s.bedTerm z + s.underTerm z) (s.zoneLevel z) + s.pilotTerm z) := by
  simp [State.zoneSample, State.zoneSum, h, -Fin.getElem_fin]

theorem State.fgTerm_of_shorted (h : s.zones[z].lineStatus = .shorted) : s.fgTerm z = 0 := by
  simp [State.fgTerm, h, -Fin.getElem_fin]

theorem State.fgTerm_of_owned {p : ProgId} (hl : s.zones[z].lineStatus ≠ .shorted) (h : s.zones[z].owner = some p) :
    s.fgTerm z = q15 (s.sampleOf (s.foreground p)) s.progs[p].gain.current := by
  simp [State.fgTerm, h, hl, -Fin.getElem_fin]

theorem State.zoneLevel_of_owned {p : ProgId} (h : s.zones[z].owner = some p) :
    s.zoneLevel z = if s.progs[p].cls ≤ 1 then s.zones[z].emergency else s.zones[z].master.current := by
  simp [State.zoneLevel, State.ownerClass, h, -Fin.getElem_fin]

theorem State.underTerm_of_program {p : ProgId} (h : s.zones[z].owner = some p) (hp : 2 ≤ p.val) : s.underTerm z = 0 := by
  simp [State.underTerm, h, slotOfProg_of_le hp, -Fin.getElem_fin]

theorem State.underTerm_of_alarm {k : Fin 2} (h : s.zones[z].owner = some (progOfSlot k)) :
    s.underTerm z = if s.slots[k].state = .voiceMixed then q15 (s.sampleOf (some (56 + k.val))) s.alarmUnder else 0 := by
  simp [State.underTerm, h, State.sampleOf_tone, -Fin.getElem_fin]

/-- Of a zone without owner the bed alone is left. -/
theorem State.zoneSample_of_unowned (hl : s.zones[z].lineStatus ≠ .shorted) (h : s.zones[z].owner = none) :
    s.zoneSample z = saturate (q15 (s.bedTerm z) s.zones[z].master.current + s.pilotTerm z) := by
  rw [State.zoneSample_of_line hl]
  simp [State.fgTerm, State.underTerm, State.zoneLevel, State.ownerClass, h, -Fin.getElem_fin]

theorem State.zoneSample_of_owned {p : ProgId} (hl : s.zones[z].lineStatus ≠ .shorted) (h : s.zones[z].owner = some p) :
    s.zoneSample z = saturate
      (q15 (q15 (s.sampleOf (s.foreground p)) s.progs[p].gain.current + s.bedTerm z + s.underTerm z)
        (if s.progs[p].cls ≤ 1 then s.zones[z].emergency else s.zones[z].master.current) + s.pilotTerm z) := by
  rw [State.zoneSample_of_line hl, State.fgTerm_of_owned hl h, State.zoneLevel_of_owned h]

theorem State.bedTerm_of_bed {b : ProgId} (h : s.zones[z].bed = some b) :
    s.bedTerm z = q15 (s.sampleOf s.progs[b].source) (q15 s.progs[b].gain.current s.zones[z].duck.current).toNat := by
  simp [State.bedTerm, h, -Fin.getElem_fin]

theorem State.bedTerm_of_none (h : s.zones[z].bed = none) : s.bedTerm z = 0 := by
  simp [State.bedTerm, h, -Fin.getElem_fin]

theorem State.pilotTerm_of_idle (h : s.zones[z].underSurvey = false) : s.pilotTerm z = 0 := by
  simp [State.pilotTerm, h, -Fin.getElem_fin]

end ZoneTerms

@[simp] theorem q15_zero (g : Nat) : q15 0 g = 0 := by simp [q15]

/-! ### The terms of a station sample (R162 to R165) -/

theorem State.callTerm_eq (s : State) (a : StationId) :
    s.callTerm a =
      match s.stations[a].current with
      | none => 0
      | some x => ((s.calls[x].parties.filter fun p => p.station ≠ a ∧ p.state = .active).map fun p =>
          q15 (s.sampleOf (some (16 + p.station.val))) s.stations[a].receive).sum := by
  have hf : (fun p : Party => p.station != a && p.state == .active) = fun p => decide (p.station ≠ a ∧ p.state = .active) := by
    funext p
    simp only [ne_eq, Bool.decide_and, decide_not]
    rfl
  simp only [State.sampleOf_mic, ← hf]
  rfl

/-- On a SHORT line the feed is 0, for the foreground term is. -/
theorem State.feedTerm_eq (s : State) (a : StationId) :
    s.feedTerm a =
      match s.stations[a].home with
      | none => 0
      | some y => match s.zones[y].owner with
        | none => 0
        | some o =>
          if s.progs[o].cls ≤ 1 ∧ s.zones[y].lineStatus ≠ .shorted then
            q15 (q15 (s.sampleOf (s.foreground o)) s.progs[o].gain.current) s.stations[a].feed
          else 0 := by
  cases hh : s.stations[a].home with
  | none => simp only [State.feedTerm, hh]
  | some y =>
    cases ho : s.zones[y].owner with
    | none => simp only [State.feedTerm, State.ownerClass, hh, ho]
    | some o =>
      simp only [State.feedTerm, State.ownerClass, hh, ho]
      by_cases hl : s.zones[y].lineStatus = .shorted
      · simp [State.fgTerm_of_shorted hl, hl, -Fin.getElem_fin]
      · simp [State.fgTerm_of_owned hl ho, hl, -Fin.getElem_fin]

/-- Settles O12, clause by clause from the terms above. -/
theorem theZoneSampleIsTheScaledSum : Obligations.TheZoneSampleIsTheScaledSum := by
  intro s z
  refine ⟨State.zoneSample_of_shorted, State.zoneSample_of_unowned, ?_, ?_, fun b => State.bedTerm_of_bed, ?_, ?_, ?_,
    s.playerSample_eq, ?_⟩
  · intro hl ho hb hv
    rw [State.zoneSample_of_unowned hl ho, State.bedTerm_of_none hb, State.pilotTerm_of_idle hv, q15_zero]
    rfl
  · intro p hl ho hp
    rw [State.zoneSample_of_owned hl ho, State.underTerm_of_program ho hp, add_zero]
    rfl
  · exact fun p hp => ⟨State.foreground_of_playing hp, fun v hs h hfirst => State.foreground_of_preamble hp hs h hfirst⟩
  · intro k hl ho
    rw [State.zoneSample_of_owned hl ho, State.underTerm_of_alarm ho]
    simp only [State.foreground, slotOfProg_progOfSlot, State.alarmSource]
    cases s.slots[k].state <;> rfl
  · exact ⟨rfl, s.sampleOf_input, s.sampleOf_chan, s.sampleOf_tone, s.sampleOf_voice, s.sampleOf_ring, rfl⟩
  · intro a
    refine congrArg saturate ?_
    unfold State.stationSum State.ringTerm
    cases s.stations[a].state
    case inCall => exact congrArg₂ (· + ·) (s.callTerm_eq a) (s.feedTerm_eq a)
    case calling | ringing => exact congrArg (_ + ·) (s.feedTerm_eq a)
    case onHold | idle | talkout => exact s.feedTerm_eq a
    case disabled => rfl

end Sys2Proof.Machine
end

section
namespace Sys2Proof.Machine

/-! ### Fields of a frame read (R212, R213) -/

theorem opt_eq_none_iff {w : Nat} (x : BitVec w) : opt x = none ↔ x = BitVec.allOnes w := by
  simp [opt]

theorem opt_of_ne {w : Nat} {x : BitVec w} (h : x ≠ BitVec.allOnes w) : opt x = some x.toNat := if_neg h

/-- A number below the field's last value is not the absent value. -/
theorem opt_of_lt {w : Nat} {x : BitVec w} (h : x.toNat < 2 ^ w - 1) : opt x = some x.toNat :=
  opt_of_ne fun e => by simp [e] at h

theorem inRange_iff (lo hi n : Nat) : inRange lo hi n = true ↔ lo ≤ n ∧ n ≤ hi := by simp [inRange]

theorem opt_all_iff {w : Nat} (x : BitVec w) (f : Nat → Bool) :
    (opt x).all f = true ↔ x = BitVec.allOnes w ∨ f x.toNat = true := by
  by_cases h : x = BitVec.allOnes w
  · rw [(opt_eq_none_iff x).mpr h]
    simp [h]
  · simp [opt_of_ne h, h]

/-- A range that leaves out the field's last value leaves out the absent value. -/
theorem opt_any_inRange {w : Nat} (x : BitVec w) {lo hi : Nat} (h : hi < 2 ^ w - 1) :
    (opt x).any (inRange lo hi) = true ↔ lo ≤ x.toNat ∧ x.toNat ≤ hi := by
  by_cases hx : x = BitVec.allOnes w
  · rw [(opt_eq_none_iff x).mpr hx, hx]
    simp
    omega
  · simp [opt_of_ne hx, inRange_iff]

theorem kind?_eq_some_iff (x : Byte) (k : ProgKind) : kind? x = some k ↔ x.toNat = kindCode k := by
  unfold kind?
  split <;> cases k <;> simp_all [kindCode]

theorem kind?_eq_none_iff (x : Byte) : kind? x = none ↔ 5 < x.toNat := by
  unfold kind?
  split <;> simp_all
  omega

theorem policy?_isSome_iff (x : Byte) : (policy? x).isSome = true ↔ x.toNat ≤ 1 := by
  unfold policy?
  split <;> simp_all
  omega

theorem trigger?_freeOrGated_iff (x : Byte) :
    trigger? x = some .free ∨ trigger? x = some .gated ↔ x.toNat ≤ 1 := by
  unfold trigger?
  split <;> simp_all
  omega

theorem repeats?_isSome_iff (x : BitVec 16) : (repeats? x).isSome = true ↔ 1 ≤ x.toNat ∧ x.toNat ≤ 256 := by
  unfold repeats?
  split
  · simp_all
  · split <;> simp_all [inRange_iff] <;> omega

/-! ### The class table and the parameters of an open (R18, R39) -/

/-- Class, kind and port belong together by R18; kinds by their codes. -/
def ClassPaired (c k : Nat) (p : Port) : Prop :=
  (c = 1 ∧ (k = 1 ∨ k = 2) ∧ p = .saf) ∨ (c = 2 ∧ (k = 1 ∨ k = 2 ∨ k = 3) ∧ (p = .ann ∨ p = .icm)) ∨
  (c = 3 ∧ (k = 1 ∨ k = 2) ∧ p = .ann) ∨ (c = 4 ∧ k = 3 ∧ p = .icm) ∨ (c = 5 ∧ k = 4 ∧ p = .shw) ∨
  (c = 6 ∧ k = 5 ∧ (p = .ann ∨ p = .shw))

theorem classAllowed_iff {c : Nat} (hc : c ≤ 6) (k : ProgKind) (p : Port) :
    classAllowed c k p = true ↔ ClassPaired c (kindCode k) p := by
  interval_cases c <;> cases k <;> simp [classAllowed, ClassPaired, kindCode]

/-- Only kinds that a port opens are paired with a class. -/
theorem ClassPaired.kind_pos {c k : Nat} {p : Port} (h : ClassPaired c k p) : 1 ≤ k := by
  unfold ClassPaired at h
  omega

/-- The parameters of an open are those R10 and R39 allow for its kind. -/
def OpenFormed (a : OpenArgs) : Prop :=
  let k := a.kind.toNat
  let limit := fun x : BitVec 24 => x = 0xFFFFFF#24 ∨ (1000 ≤ x.toNat ∧ x.toNat ≤ 120000)
  (k = 1 → a.source.toNat ≤ 7) ∧ (k = 2 → a.source = 0xFF#8) ∧ (k = 3 → 16 ≤ a.source.toNat ∧ a.source.toNat ≤ 47) ∧
  (4 ≤ k → a.source.toNat ≤ 15) ∧ a.zones ≠ 0#64 ∧ a.policy.toNat ≤ 1 ∧ limit a.waitLimit ∧ limit a.joinDeadline ∧
  (a.chime = 0xFF#8 ∨ ((a.chime.toNat = 2 ∨ (12 ≤ a.chime.toNat ∧ a.chime.toNat ≤ 15)) ∧ k ≤ 2)) ∧
  (a.clip ≠ 0xFF#8 ↔ k = 2) ∧
  (k = 2 → 1 ≤ a.repeats.toNat ∧ a.repeats.toNat ≤ 256 ∧ a.trigger.toNat ≤ 1) ∧
  (a.tail = 0xFFFFFF#24 ∨ (a.tail.toNat ≤ 2000 ∧ k = 1))

/-- The checks of R39, item 4, with the absent values of the optional fields set aside. -/
theorem openParamsOk_eq (a : OpenArgs) (k : ProgKind) :
    openParamsOk a k =
      ((if k = .clip then (opt a.source).isNone else (opt a.source).any (sourceAllowed k)) && a.zones != 0#64 &&
        (policy? a.policy).isSome && (opt a.waitLimit).all (inRange 1000 120000) &&
        (opt a.joinDeadline).all (inRange 1000 120000) &&
        (opt a.chime).all (fun c => (c == 2 || inRange 12 15 c) && (k == .live || k == .clip)) &&
        ((opt a.clip).isSome == (k == .clip)) &&
        (k != .clip || ((repeats? a.repeats).isSome && (trigger? a.trigger == some .free || trigger? a.trigger == some .gated))) &&
        (opt a.tail).all fun d => decide (d ≤ 2000) && k == .live) := by
  unfold openParamsOk
  cases opt a.source <;> cases opt a.chime <;> cases opt a.tail <;> cases k <;> rfl

theorem openParamsOk_iff {a : OpenArgs} {k : ProgKind} (h : kind? a.kind = some k) (hk : k ≠ .alarm) :
    openParamsOk a k = true ↔ OpenFormed a := by
  rw [kind?_eq_some_iff] at h
  have hclip : ((opt a.clip).isSome == (k == .clip)) = true ↔ (a.clip ≠ 0xFF#8 ↔ k = .clip) := by
    rw [beq_iff_eq, Bool.eq_iff_iff, Option.isSome_iff_ne_none, beq_iff_eq, Ne, opt_eq_none_iff]
    rfl
  have hlive : sourceAllowed .live = inRange 0 7 := rfl
  have hcall : sourceAllowed .callOut = inRange 16 47 := rfl
  have hshow : sourceAllowed .showSound = inRange 0 15 := rfl
  have hbed : sourceAllowed .bed = inRange 0 15 := rfl
  simp only [openParamsOk_eq, OpenFormed, h, opt_all_iff, inRange_iff, policy?_isSome_iff, Bool.and_eq_true, hclip]
  cases k
  case alarm => exact absurd rfl hk
  all_goals
    simp [hlive, hcall, hshow, hbed, opt_any_inRange, kindCode, opt_eq_none_iff, inRange_iff, repeats?_isSome_iff,
      trigger?_freeOrGated_iff, and_assoc]


/-! ### The refusals of OPEN_PROGRAM (R39) -/

theorem openCheck_clockThrough (s : State) (q p : Port) (n : Nat) (a : OpenArgs) :
    openCheck (s.clockThrough q n) p a = openCheck s p a := by
  unfold State.clockThrough; split <;> rfl

theorem State.allocate_clockThrough (s : State) (q : Port) (n low : Nat) :
    (s.clockThrough q n).allocate low = s.allocate low := by
  unfold State.clockThrough; split <;> rfl

theorem State.openBlocks_clockThrough (s : State) (q : Port) (n : Nat) (g : Program) :
    (s.clockThrough q n).openBlocks g = s.openBlocks g := by
  unfold State.clockThrough; split <;> rfl

section Checks
variable {s : State} {p : Port} {a : OpenArgs} {k : ProgKind}

theorem openCheck_of_range (h : 6 < a.cls.toNat ∨ 5 < a.kind.toNat) : openCheck s p a = .error .param := by
  unfold openCheck
  split
  · rfl
  · next k hk =>
    have hk5 : ¬5 < a.kind.toNat := fun h5 => by simp [(kind?_eq_none_iff a.kind).mpr h5] at hk
    simp [h.resolve_right hk5]

theorem openCheck_of_unpaired (hk : kind? a.kind = some k) (hc : a.cls.toNat ≤ 6)
    (h : ¬ClassPaired a.cls.toNat a.kind.toNat p) : openCheck s p a = .error .privilege := by
  rw [(kind?_eq_some_iff a.kind k).mp hk, ← classAllowed_iff hc] at h
  simp [openCheck, hk, Nat.not_lt.mpr hc, h]

theorem openCheck_of_paired (hk : kind? a.kind = some k) (hc : a.cls.toNat ≤ 6)
    (h : ClassPaired a.cls.toNat a.kind.toNat p) :
    openCheck s p a =
      if s.alarmActive = true ∧ 3 ≤ a.cls.toNat then .error .alarmActive
      else if openParamsOk a k = false then .error .param else .ok k := by
  rw [(kind?_eq_some_iff a.kind k).mp hk, ← classAllowed_iff hc] at h
  simp [openCheck, hk, Nat.not_lt.mpr hc, h]

theorem ClassPaired.formed_iff (h : ClassPaired a.cls.toNat a.kind.toNat p) (hk : kind? a.kind = some k) :
    openParamsOk a k = true ↔ OpenFormed a := by
  refine openParamsOk_iff hk fun e => ?_
  have hpos := h.kind_pos
  rw [(kind?_eq_some_iff a.kind k).mp hk, e] at hpos
  exact absurd hpos (by decide)

theorem openCheck_of_alarm (hk : kind? a.kind = some k) (hc : a.cls.toNat ≤ 6)
    (h : ClassPaired a.cls.toNat a.kind.toNat p) (ha : s.alarmActive = true) (h3 : 3 ≤ a.cls.toNat) :
    openCheck s p a = .error .alarmActive :=
  (openCheck_of_paired hk hc h).trans (if_pos ⟨ha, h3⟩)

theorem openCheck_of_quiet (hk : kind? a.kind = some k) (hc : a.cls.toNat ≤ 6)
    (h : ClassPaired a.cls.toNat a.kind.toNat p) (ha : s.alarmActive = false ∨ a.cls.toNat ≤ 2) :
    openCheck s p a = if openParamsOk a k = false then .error .param else .ok k := by
  rw [openCheck_of_paired hk hc h, if_neg]
  rintro ⟨hon, h3⟩
  rcases ha with ha | ha
  · simp [hon] at ha
  · omega

theorem openCheck_of_malformed (hk : kind? a.kind = some k) (hc : a.cls.toNat ≤ 6)
    (h : ClassPaired a.cls.toNat a.kind.toNat p) (ha : s.alarmActive = false ∨ a.cls.toNat ≤ 2) (hf : ¬OpenFormed a) :
    openCheck s p a = .error .param :=
  (openCheck_of_quiet hk hc h ha).trans (if_pos (Bool.eq_false_iff.mpr (mt (h.formed_iff hk).mp hf)))

theorem openCheck_of_formed (hk : kind? a.kind = some k) (hc : a.cls.toNat ≤ 6)
    (h : ClassPaired a.cls.toNat a.kind.toNat p) (ha : s.alarmActive = false ∨ a.cls.toNat ≤ 2) (hf : OpenFormed a) :
    openCheck s p a = .ok k :=
  (openCheck_of_quiet hk hc h ha).trans (if_neg (by simp [(h.formed_iff hk).mpr hf]))

/-- An open that names no zone is malformed. -/
theorem OpenFormed.zones_ne (h : OpenFormed a) : a.zones ≠ 0#64 := by
  obtain ⟨-, -, -, -, hz, -⟩ := h
  exact hz

end Checks

section Refusals
variable {s : State} {t : Txn} {a : OpenArgs}

/-- An OPEN_PROGRAM that has no effect but its answer of the status. -/
def State.refusesOpen (s : State) (t : Txn) (a : OpenArgs) (st : Status) : Prop :=
  exec (.openProgram t a) s = .next (s.replying t 28 0x10#8 st [])

theorem State.refusesOpen_of_check (hl : s.listens t = true) (hs : s.served = true) {e : Status}
    (h : openCheck s t.port a = .error e) : s.refusesOpen t a e := by
  refine portCommand_of_listens hl hs _ _ _ s e [] ?_ rfl rfl rfl
  simp only [openCheck_clockThrough, h, refuse]

theorem State.refusesOpen_of_allocate (hl : s.listens t = true) (hs : s.served = true) {k : ProgKind}
    (h : openCheck s t.port a = .ok k) (ha : s.allocate (recordLow t.port) = none) : s.refusesOpen t a .full := by
  refine portCommand_of_listens hl hs _ _ _ s .full [] ?_ rfl rfl rfl
  simp only [openCheck_clockThrough, h, State.allocate_clockThrough, ha, refuse]

theorem State.refusesOpen_of_blocks (hl : s.listens t = true) (hs : s.served = true) {k : ProgKind}
    (h : openCheck s t.port a = .ok k) (ha : s.allocate (recordLow t.port) ≠ none) {e : Status}
    (hb : s.openBlocks (openRecord a t.port k) = .error e) : s.refusesOpen t a e := by
  obtain ⟨r, hr⟩ := Option.ne_none_iff_exists'.mp ha
  refine portCommand_of_listens hl hs _ _ _ s e [] ?_ rfl rfl rfl
  simp only [openCheck_clockThrough, h, State.allocate_clockThrough, hr, State.openBlocks_clockThrough, hb, refuse]

end Refusals

/-! The clip pool's and the intercom switch's answers (R134, R115). -/

theorem State.clipReady_iff (s : State) (id : ClipId) :
    s.clipReady id = true ↔ s.clips.scan = none ∧ s.clips.dir[id].state = .ready := by
  simp [State.clipReady]

theorem State.poolRequest_of_notReady {s : State} {id : ClipId} (h : ¬s.clipReady id = true) (mayTake : Bool) :
    s.poolRequest id mayTake = .error .notReady := by
  simp [State.poolRequest, h]

theorem mem_poolChans (ch : ChanId) : ch ∈ poolChans ↔ ch.val < 4 := by
  revert ch; decide

theorem State.freePool_eq_none_iff (s : State) :
    s.freePool = none ↔ ∀ ch : ChanId, ch.val < 4 → s.chans[ch].user ≠ none := by
  simp only [State.freePool, List.find?_eq_none, mem_poolChans, Option.isNone_iff_eq_none, Ne]

theorem Channel.program_eq_some_iff (c : Channel) (p : ProgId) : c.program = some p ↔ c.user = some (.prog p) := by
  unfold Channel.program
  split <;> simp_all

theorem State.victim_eq_none {s : State} (h : ∀ (ch : ChanId) (p : ProgId), ch.val < 4 → s.chans[ch].user ≠ some (.prog p)) :
    s.victim = none := by
  have hn : (poolChans.filterMap fun ch => s.chans[ch].program.map fun p => (ch, p)) = [] := by
    rw [List.filterMap_eq_nil_iff]
    intro ch hch
    rw [Option.map_eq_none_iff, Option.eq_none_iff_forall_ne_some]
    intro p hp
    exact h ch p ((mem_poolChans ch).mp hch) ((Channel.program_eq_some_iff _ p).mp hp)
  simp only [State.victim, hn]

/-- A full pool is refused where none may be taken, or no program has a channel to give. -/
theorem State.poolRequest_of_full {s : State} {id : ClipId} {mayTake : Bool} (hr : s.clipReady id = true)
    (hf : s.freePool = none) (hv : mayTake = false ∨ s.victim = none) : s.poolRequest id mayTake = .error .full := by
  rcases hv with hv | hv <;> simp [State.poolRequest, hr, hf, hv]

theorem State.openBlocks_of_clip (s : State) {g : Program} {part : ClipPart} (h : g.clipPart = some part) {e : Status}
    (he : s.poolRequest part.clip (g.cls == 1) = .error e) : s.openBlocks g = .error e := by
  simp only [State.openBlocks, h, he]

theorem State.openBlocks_of_station (s : State) {g : Program} (hc : g.clipPart = none) {a : StationId}
    (h : g.station = some a) (hs : s.stations[a].state ≠ .idle) : s.openBlocks g = .error .busy := by
  simp only [State.openBlocks, hc, h, hs, if_false]

/-- An accepted CLIP request names its clip. -/
theorem openClipPart_clip {a : OpenArgs} (h : OpenFormed a) (hk : a.kind.toNat = 2) {id : ClipId} (hid : a.clip.toNat = id.val) :
    ∃ part, openClipPart a = some part ∧ part.clip = id := by
  obtain ⟨-, -, -, -, -, -, -, -, -, -, hclip, -⟩ := h
  obtain ⟨h1, h2, h3⟩ := hclip hk
  obtain ⟨r, hr⟩ := Option.isSome_iff_exists.mp ((repeats?_isSome_iff a.repeats).mpr ⟨h1, h2⟩)
  have hi : idx? 256 a.clip = some id := by simp [idx?, hid]
  rcases (trigger?_freeOrGated_iff a.trigger).mpr h3 with ht | ht <;>
  · simp only [openClipPart, hi, hr, ht]
    exact ⟨_, rfl, rfl⟩

/-! ### Allocation (R40) -/

section Allocation
variable {s : State} {low : Nat}

theorem State.noFreeRecord_iff :
    ((List.finRange 32).find? fun p => decide (low ≤ p.val) && s.progs[p].state == .free) = none ↔
      ∀ q : ProgId, low ≤ q.val → s.progs[q].state ≠ .free := by
  simp [List.find?_eq_none]

theorem State.allocate_eq_none_iff :
    s.allocate low = none ↔ ∀ q : ProgId, low ≤ q.val → s.progs[q].state ≠ .free ∧ q ∉ s.endOrder := by
  unfold State.allocate
  split
  · next p h =>
    have hp := List.find?_some h
    simp only [Bool.and_eq_true, decide_eq_true_eq, beq_iff_eq] at hp
    simp only [reduceCtorEq, false_iff]
    exact fun hall => (hall p hp.1).1 hp.2
  · next h =>
    rw [State.noFreeRecord_iff] at h
    simp only [List.find?_eq_none, decide_eq_true_eq]
    exact ⟨fun he q hq => ⟨h q hq, fun hm => he q hm hq⟩, fun hall q hm hq => (hall q hq).2 hm⟩

/-- The record taken is the lowest FREE one of the range; without one it is the first of the range to have ended. -/
theorem State.allocate_cases {p : ProgId} (h : s.allocate low = some p) :
    low ≤ p.val ∧
      ((s.progs[p].state = .free ∧ ∀ q : ProgId, low ≤ q.val → q < p → s.progs[q].state ≠ .free) ∨
        ((∀ q : ProgId, low ≤ q.val → s.progs[q].state ≠ .free) ∧
          ∃ before after, s.endOrder = before ++ p :: after ∧ ∀ q ∈ before, q.val < low)) := by
  unfold State.allocate at h
  split at h
  · next r hr =>
    cases h
    rw [List.find?_eq_some_iff_getElem] at hr
    obtain ⟨hp, i, hi, hip, hfirst⟩ := hr
    simp only [Bool.and_eq_true, decide_eq_true_eq, beq_iff_eq] at hp
    refine ⟨hp.1, Or.inl ⟨hp.2, fun q hq hlt hfree => ?_⟩⟩
    have hqi : q.val < i := by
      have hpi : p.val = i := by rw [← hip]; simp
      rw [← hpi]
      exact hlt
    simpa [hq, -Fin.getElem_fin, hfree] using hfirst q.val hqi
  · next hn =>
    rw [State.noFreeRecord_iff] at hn
    rw [List.find?_eq_some_iff_append] at h
    obtain ⟨hp, before, after, he, hb⟩ := h
    exact ⟨by simpa using hp, Or.inr ⟨hn, before, after, he, fun q hq => by simpa using hb q hq⟩⟩

end Allocation

/-- The blocks' refusals of a CLIP: the clip is not ready, or the pool is full (R134). -/
theorem State.refusesOpen_clip {s : State} {t : Txn} {a : OpenArgs} (hl : s.listens t = true) (hs : s.served = true)
    (hcheck : openCheck s t.port a = .ok .clip) (hf : OpenFormed a) (hk : a.kind.toNat = 2)
    (ha : s.allocate (recordLow t.port) ≠ none) {id : ClipId} (hid : a.clip.toNat = id.val) :
    (¬s.clipReady id = true → s.refusesOpen t a .notReady) ∧
    (s.clipReady id = true → (∀ ch : ChanId, ch.val < 4 → s.chans[ch].user ≠ none) →
      (a.cls.toNat ≠ 1 ∨ ∀ (ch : ChanId) (p : ProgId), ch.val < 4 → s.chans[ch].user ≠ some (.prog p)) →
      s.refusesOpen t a .full) := by
  obtain ⟨part, hpart, hclip⟩ := openClipPart_clip hf hk hid
  have hrec : (openRecord a t.port .clip).clipPart = some part := hpart
  subst hclip
  constructor
  · exact fun hn => State.refusesOpen_of_blocks hl hs hcheck ha
      (s.openBlocks_of_clip hrec (State.poolRequest_of_notReady hn _))
  · intro hr hfull hv
    refine State.refusesOpen_of_blocks hl hs hcheck ha
      (s.openBlocks_of_clip hrec (State.poolRequest_of_full hr (s.freePool_eq_none_iff.mpr hfull) ?_))
    exact hv.imp (fun hc => by simpa [openRecord] using hc) State.victim_eq_none

/-- The blocks' refusal of a CALL_OUT whose station is not IDLE (R115). -/
theorem State.refusesOpen_callOut {s : State} {t : Txn} {a : OpenArgs} (hl : s.listens t = true) (hs : s.served = true)
    (hcheck : openCheck s t.port a = .ok .callOut) (ha : s.allocate (recordLow t.port) ≠ none) {st : StationId}
    (hsrc : a.source.toNat = 16 + st.val) (hst : s.stations[st].state ≠ .idle) : s.refusesOpen t a .busy := by
  have hopt : opt a.source = some (16 + st.val) := by
    rw [opt_of_lt (by omega), hsrc]
  have hstation : (openRecord a t.port .callOut).station = some st := by
    simp [openRecord, Program.station, hopt, show 16 + st.val < 48 by omega]
  exact State.refusesOpen_of_blocks hl hs hcheck ha (s.openBlocks_of_station rfl hstation hst)

/-- Settles O27: each refusal is that of the check it fails, in the order of R39; the records are those of `allocate_cases`. -/
theorem opensAreRefusedOrGivenTheLowestRecord : Obligations.OpensAreRefusedOrGivenTheLowestRecord := by
  refine ⟨fun t a s hl hs => ⟨fun h => State.refusesOpen_of_check hl hs (openCheck_of_range h), fun hc hk5 => ?_⟩,
    fun s port => ⟨fun p h => ?_, State.allocate_eq_none_iff⟩⟩
  · obtain ⟨k, hk⟩ := Option.ne_none_iff_exists'.mp (mt (kind?_eq_none_iff a.kind).mp (by omega))
    have hcode := (kind?_eq_some_iff a.kind k).mp hk
    have refused {e : Status} (h : openCheck s t.port a = .error e) : s.refusesOpen t a e :=
      State.refusesOpen_of_check hl hs h
    refine ⟨fun hp => refused (openCheck_of_unpaired hk hc hp), fun hp ha h3 => refused (openCheck_of_alarm hk hc hp ha h3),
      fun hp hq hz => refused (openCheck_of_malformed hk hc hp hq fun hf => hf.zones_ne hz),
      fun hp hq => ⟨fun hf => refused (openCheck_of_malformed hk hc hp hq hf), fun hf ha => ?_, fun hf ha => ⟨?_, ?_⟩⟩⟩
    all_goals have hcheck := openCheck_of_formed hk hc hp hq hf
    · exact State.refusesOpen_of_allocate hl hs hcheck ha
    · intro id hk2 hid
      obtain rfl : k = .clip := Option.some.inj (hk.symm.trans ((kind?_eq_some_iff _ _).mpr hk2))
      have hclip := State.refusesOpen_clip hl hs hcheck hf hk2 ha hid
      rw [State.clipReady_iff] at hclip
      exact hclip
    · intro st hk3 hsrc hst
      obtain rfl : k = .callOut := Option.some.inj (hk.symm.trans ((kind?_eq_some_iff _ _).mpr hk3))
      exact State.refusesOpen_callOut hl hs hcheck ha hsrc hst
  · obtain ⟨hlow, ⟨hfree, hq⟩ | ⟨hnone, hends⟩⟩ := State.allocate_cases h
    · exact ⟨hlow, fun _ => hq, fun hn => absurd hfree hn⟩
    · exact ⟨hlow, fun hf => absurd hf (hnone p hlow), fun _ => ⟨hnone, hends⟩⟩

end Sys2Proof.Machine
end

section
namespace Sys2Proof.Machine

/-! ### One audio frame (R1 to R8, R54) -/

theorem State.countOverloads_eq (s : State) :
    ∃ ports, s.countOverloads = { s with zones := remap s.zones fun z r => r.counted (s.overloads z), ports := ports } := by
  unfold State.countOverloads
  split
  · exact ⟨_, rfl⟩
  · exact ⟨s.ports, rfl⟩

/-- Everything a frame outside a reset interval does: all but the port controllers, whose notices R62 gives. -/
theorem State.frame_eq (s : State) (inputs sense : List (BitVec 32)) :
    ∃ ports, s.frame inputs sense = { s with
      ports := ports
      lanes :=
        { inputs := tabulate fun i => inputValue (slotWord inputs i.val)
          sense := tabulate fun z => senseValue (slotWord sense z.val)
          senseBefore := s.lanes.sense
          zoneOut := tabulate fun z => s.beginBlocks.zoneSample z
          stationOut := tabulate fun a => s.beginBlocks.stationSample a }
      zones := remap s.zones fun z r => r.counted (s.beginBlocks.overloads z)
      chans := remap s.chans fun _ c => c.frameBegin.advance
      tone := remap s.tone fun _ pl => pl.advance (s.patternOf pl)
      voices := remap s.voices fun _ v => { v with player := v.player.advance (s.patternOf v.player) }
      ring := s.ring.advance (s.patternOf s.ring)
      survey := s.survey.advance
      progs := remap s.progs fun _ g => g.countDown
      slots := remap s.slots fun _ a => a.countDown
      calls := remap s.calls fun _ c => c.countDown
      cue := s.cue.countDown
      clips := { s.clips with link := s.clips.link.map fun l => { l with left := l.left - 1 } }
      msFrames := s.msFrames + 1 } := by
  obtain ⟨ports, h⟩ := s.beginBlocks.output.countOverloads_eq
  refine ⟨ports, ?_⟩
  have hc : (remap (remap s.chans fun _ c => c.frameBegin) fun _ c => c.advance) =
      remap s.chans fun _ c => c.frameBegin.advance := table_ext fun i => by simp
  simp only [State.frame, h]
  simp only [State.advanceSources, State.countTimers, Lanes.latch, State.output, State.beginBlocks, State.patternOf, hc]
  rfl

section FrameFields
variable (s : State) (inputs sense : List (BitVec 32))

@[simp] theorem State.frame_lanes :
    (s.frame inputs sense).lanes =
      { inputs := tabulate fun i => inputValue (slotWord inputs i.val)
        sense := tabulate fun z => senseValue (slotWord sense z.val)
        senseBefore := s.lanes.sense
        zoneOut := tabulate fun z => s.beginBlocks.zoneSample z
        stationOut := tabulate fun a => s.beginBlocks.stationSample a } := by
  obtain ⟨_, h⟩ := s.frame_eq inputs sense; rw [h]
@[simp] theorem State.frame_zones :
    (s.frame inputs sense).zones = remap s.zones fun z r => r.counted (s.beginBlocks.overloads z) := by
  obtain ⟨_, h⟩ := s.frame_eq inputs sense; rw [h]
@[simp] theorem State.frame_chans : (s.frame inputs sense).chans = remap s.chans fun _ c => c.frameBegin.advance := by
  obtain ⟨_, h⟩ := s.frame_eq inputs sense; rw [h]
@[simp] theorem State.frame_tone : (s.frame inputs sense).tone = remap s.tone fun _ pl => pl.advance (s.patternOf pl) := by
  obtain ⟨_, h⟩ := s.frame_eq inputs sense; rw [h]
@[simp] theorem State.frame_voices :
    (s.frame inputs sense).voices = remap s.voices fun _ v => { v with player := v.player.advance (s.patternOf v.player) } := by
  obtain ⟨_, h⟩ := s.frame_eq inputs sense; rw [h]
@[simp] theorem State.frame_ring : (s.frame inputs sense).ring = s.ring.advance (s.patternOf s.ring) := by
  obtain ⟨_, h⟩ := s.frame_eq inputs sense; rw [h]
@[simp] theorem State.frame_survey : (s.frame inputs sense).survey = s.survey.advance := by
  obtain ⟨_, h⟩ := s.frame_eq inputs sense; rw [h]
@[simp] theorem State.frame_progs : (s.frame inputs sense).progs = remap s.progs fun _ g => g.countDown := by
  obtain ⟨_, h⟩ := s.frame_eq inputs sense; rw [h]
@[simp] theorem State.frame_slots : (s.frame inputs sense).slots = remap s.slots fun _ a => a.countDown := by
  obtain ⟨_, h⟩ := s.frame_eq inputs sense; rw [h]
@[simp] theorem State.frame_calls : (s.frame inputs sense).calls = remap s.calls fun _ c => c.countDown := by
  obtain ⟨_, h⟩ := s.frame_eq inputs sense; rw [h]
@[simp] theorem State.frame_cue : (s.frame inputs sense).cue = s.cue.countDown := by
  obtain ⟨_, h⟩ := s.frame_eq inputs sense; rw [h]
@[simp] theorem State.frame_clips :
    (s.frame inputs sense).clips = { s.clips with link := s.clips.link.map fun l => { l with left := l.left - 1 } } := by
  obtain ⟨_, h⟩ := s.frame_eq inputs sense; rw [h]
@[simp] theorem State.frame_msFrames : (s.frame inputs sense).msFrames = s.msFrames + 1 := by
  obtain ⟨_, h⟩ := s.frame_eq inputs sense; rw [h]
@[simp] theorem State.frame_resetLeft : (s.frame inputs sense).resetLeft = s.resetLeft := by
  obtain ⟨_, h⟩ := s.frame_eq inputs sense; rw [h]
@[simp] theorem State.frame_patterns : (s.frame inputs sense).patterns = s.patterns := by
  obtain ⟨_, h⟩ := s.frame_eq inputs sense; rw [h]
@[simp] theorem State.frame_stations : (s.frame inputs sense).stations = s.stations := by
  obtain ⟨_, h⟩ := s.frame_eq inputs sense; rw [h]
@[simp] theorem State.frame_alarmUnder : (s.frame inputs sense).alarmUnder = s.alarmUnder := by
  obtain ⟨_, h⟩ := s.frame_eq inputs sense; rw [h]
@[simp] theorem State.frame_windowMs : (s.frame inputs sense).windowMs = s.windowMs := by
  obtain ⟨_, h⟩ := s.frame_eq inputs sense; rw [h]
@[simp] theorem State.frame_openOrder : (s.frame inputs sense).openOrder = s.openOrder := by
  obtain ⟨_, h⟩ := s.frame_eq inputs sense; rw [h]
@[simp] theorem State.frame_endOrder : (s.frame inputs sense).endOrder = s.endOrder := by
  obtain ⟨_, h⟩ := s.frame_eq inputs sense; rw [h]

end FrameFields

/-- The frame is a step of its own, with the arbiter at its end. -/
theorem exec_audioFrame {s : State} (h : s.resetLeft = none) (inputs sense : List (BitVec 32)) :
    exec (.audioFrame inputs sense) s = .next (s.frame inputs sense).arbitrate := by
  change execAudioFrame inputs sense s = _
  simp only [execAudioFrame, h, partEvent]

/-! ### Slot words (R1, R4) -/

theorem slotValue_toNat (w : BitVec 32) : (slotValue w).toNat = w.toNat / 256 := by
  have := w.isLt
  simp [slotValue, BitVec.extractLsb'_toNat, Nat.shiftRight_eq_div_pow]
  omega

/-- The last eight bits of an output slot are zero. -/
theorem outputSlot_low (x : Int) : (outputSlot x).extractLsb' 0 8 = 0#8 := by
  unfold outputSlot
  generalize BitVec.ofInt 24 x = v
  ext i hi
  simp only [BitVec.getElem_extractLsb', BitVec.getLsbD_append]
  simp [hi]

theorem isSample_zoneSample (s : State) (z : Zone) : isSample (s.zoneSample z) = true := isSample_saturate _

theorem isSample_stationSample (s : State) (a : StationId) : isSample (s.stationSample a) = true := isSample_saturate _

/-! ### Sources advance by one frame (R7, R97, R98, R137) -/

theorem Player.advance_eq (pl : Player) (pat : Pattern) :
    pl.advance pat =
      if pl.cond = .running ∧ pl.on = true ∧ 0 < pl.left then
        { pl with
          left := pl.left - 1
          acc := pl.acc + increment (if pl.toneB then (pat.stepAt pl.step).freqB else (pat.stepAt pl.step).freqA)
          switchLeft := pl.switchLeft - 1 }
      else if pl.cond = .running then { pl with left := pl.left - 1 }
      else pl := by
  unfold Player.advance Player.sounding
  by_cases h : pl.cond = .running <;> simp [h]

theorem Channel.frameBegin_of_begins {c : Channel} {o : Nat} {b : RingBlock} {rest : List RingBlock} (hs : c.state = .playing)
    (hc : c.cursor = .toBegin o) (ha : c.ahead = b :: rest) :
    c.frameBegin = { c with cursor := .playing b 0, ahead := rest } := by
  simp only [Channel.frameBegin, hs, hc, ha]

/-- No block begins in the frame. -/
theorem Channel.frameBegin_of_not {c : Channel} (h : ¬(c.state = .playing ∧ (∃ o, c.cursor = .toBegin o) ∧ c.ahead ≠ [])) :
    c.frameBegin = c := by
  unfold Channel.frameBegin
  split
  · next hs hc ha => exact absurd ⟨hs, ⟨_, hc⟩, by simp [ha]⟩ h
  · rfl

theorem Channel.advance_of_playing {c : Channel} {b : RingBlock} {k : Nat} (hs : c.state = .playing)
    (hc : c.cursor = .playing b k) : c.advance = { c with cursor := .playing b (min 2048 (k + 1)) } := by
  simp only [Channel.advance, hs, hc]
  rfl

theorem Channel.advance_of_not {c : Channel} (h : ¬(c.state = .playing ∧ ∃ b k, c.cursor = .playing b k)) :
    c.advance = c := by
  unfold Channel.advance
  split
  · next hs hc => exact absurd ⟨hs, _, _, hc⟩ h
  · rfl

/-- A channel that is not PLAYING, or has neither a block playing nor one to begin that is ahead, stands. -/
theorem Channel.frame_of_idle {c : Channel}
    (h : c.state ≠ .playing ∨ c.cursor = .none ∨ ((∃ o, c.cursor = .toBegin o) ∧ c.ahead = [])) :
    c.frameBegin.advance = c := by
  rw [Channel.frameBegin_of_not, Channel.advance_of_not]
  · rintro ⟨hs, b, k, hc⟩
    rcases h with h | h | ⟨⟨o, h⟩, -⟩
    · exact h hs
    all_goals simp [h] at hc
  · rintro ⟨hs, ⟨o, hc⟩, ha⟩
    rcases h with h | h | ⟨-, h⟩
    · exact h hs
    · simp [h] at hc
    · exact ha h

theorem Channel.frame_of_begins {c : Channel} {o : Nat} {b : RingBlock} {rest : List RingBlock} (hs : c.state = .playing)
    (hc : c.cursor = .toBegin o) (ha : c.ahead = b :: rest) :
    c.frameBegin.advance = { c with cursor := .playing b 1, ahead := rest } := by
  rw [Channel.frameBegin_of_begins hs hc ha]
  exact Channel.advance_of_playing (c := { c with cursor := .playing b 0, ahead := rest }) (k := 0) hs rfl

theorem Channel.frame_of_plays {c : Channel} {b : RingBlock} {k : Nat} (hs : c.state = .playing)
    (hc : c.cursor = .playing b k) : c.frameBegin.advance = { c with cursor := .playing b (min 2048 (k + 1)) } := by
  rw [Channel.frameBegin_of_not (by simp [hc]), Channel.advance_of_playing hs hc]

/-! ### What the arbiter does at the end of a frame (R132, R136) -/

theorem State.arbitrate_of_link {s : State} {l : Link} (h : s.clips.link = some l) : s.arbitrate = s := by
  simp [State.arbitrate, h]

/-- The arbiter changes the operation on the link, its number and a dirty flag at most. -/
theorem State.arbitrate_clips (s : State) :
    s.arbitrate.clips = { s.clips with
      link := s.arbitrate.clips.link, opNo := s.arbitrate.clips.opNo, dirty := s.arbitrate.clips.dirty } := by
  unfold State.arbitrate
  split
  · rfl
  · split <;> rfl

/-- A channel asks for a fetch by its state, its mode, its ring and its next fetch, and the link. -/
theorem State.fetchWanted_congr {s u : State} {ch : ChanId} (hl : u.clips = s.clips)
    (hc : u.chans[ch].state = s.chans[ch].state ∧ u.chans[ch].hold = s.chans[ch].hold ∧
      u.chans[ch].ahead = s.chans[ch].ahead ∧ u.chans[ch].nextFetch = s.chans[ch].nextFetch) :
    u.fetchWanted ch = s.fetchWanted ch := by
  obtain ⟨h1, h2, h3, h4⟩ := hc
  have hf : u.fetching ch = s.fetching ch := by unfold State.fetching; rw [hl]
  simp only [State.fetchWanted, hf, h1, h2, h3, h4]

/-- Where nothing waited before and the clip engine is as it was, a channel's fetch alone can wait now. -/
theorem State.firstWaiting_fetch {s u : State} (h : s.firstWaiting = none) (hc : u.clips = s.clips) :
    (∀ ch : ChanId, s.fetchWanted ch = none) ∧
      (u.firstWaiting = none ∨ ∃ (ch : ChanId) (o p block : Nat),
        u.fetchWanted ch = some (o, p) ∧ u.firstWaiting = some (.fetch ch o p block false)) := by
  unfold State.firstWaiting at h
  split at h
  · cases h
  next hscan =>
  split at h
  · next ch hch =>
    have hw := List.find?_some hch
    simp_all
  next hnone =>
  refine ⟨fun ch => by simpa using List.find?_eq_none.mp hnone ch (List.mem_finRange ch), ?_⟩
  cases hu : (List.finRange 8).find? fun ch => (u.fetchWanted ch).isSome with
  | none =>
    left
    simp only [State.firstWaiting, hc, hscan, hu, h]
  | some ch =>
    right
    have hw := List.find?_some hu
    obtain ⟨⟨o, p⟩, hf⟩ := Option.isSome_iff_exists.mp hw
    refine ⟨ch, o, p, (u.chanEntry u.chans[ch]).first.getD 0 + o, hf, ?_⟩
    simp only [State.firstWaiting, hc, hscan, hu, hf, Option.map_some]

/-- A free link takes the operation that waits. -/
theorem State.arbitrate_of_waiting {s : State} (hr : s.resetLeft = none) (hl : s.clips.link = none) {op : StoreOp}
    (hw : s.firstWaiting = some op) : s.arbitrate = s.onClips fun c => c.startOp op := by
  simp [State.arbitrate, hr, hl, hw]

/-- On a link that is free because nothing waited, the frame leaves the clip engine alone, or a fetch takes the link that the
beginning of a block has made room for. -/
theorem State.frame_arbitrate_clips {s : State} (hr : s.resetLeft = none) (hl : s.clips.link = none) (hs : s.served = true)
    (inputs sense : List (BitVec 32)) :
    let u := (s.frame inputs sense).arbitrate
    u.clips = s.clips ∨
      ∃ (ch : ChanId) (o p block : Nat), (∃ q, s.chans[ch].cursor = .toBegin q) ∧ s.chans[ch].ahead ≠ [] ∧
        u.clips = { s.clips with
          opNo := s.clips.opNo + 1, link := some ⟨s.clips.opNo, 24000, .fetch ch o p block false⟩ } := by
  have hw : s.firstWaiting = none := by simpa [State.served, hr, hl] using hs
  have hclips : (s.frame inputs sense).clips = s.clips := by
    rw [State.frame_clips, hl, Option.map_none, ← hl]
  obtain ⟨hquiet, hnone | ⟨ch, o, p, block, hwant, hfetch⟩⟩ := State.firstWaiting_fetch hw hclips
  · left
    rw [State.arbitrate_of_served (by simp [State.served, hnone]), hclips]
  · right
    have hbegins : s.chans[ch].state = .playing ∧ (∃ q, s.chans[ch].cursor = .toBegin q) ∧ s.chans[ch].ahead ≠ [] := by
      by_contra hno
      have hsame : (s.frame inputs sense).fetchWanted ch = s.fetchWanted ch := by
        refine State.fetchWanted_congr hclips ?_
        rw [State.frame_chans, Fin.getElem_fin, getElem_remap, ← Fin.getElem_fin, Channel.frameBegin_of_not hno]
        unfold Channel.advance
        split <;> exact ⟨rfl, rfl, rfl, rfl⟩
      rw [hsame, hquiet ch] at hwant
      cases hwant
    refine ⟨ch, o, p, block, hbegins.2.1, hbegins.2.2, ?_⟩
    rw [State.arbitrate_of_waiting (by simpa using hr) (by rw [hclips]; exact hl) hfetch, State.onClips_clips, hclips]
    rfl

/-- On a busy link the operation comes a frame nearer its limit. -/
theorem State.frame_arbitrate_of_link {s : State} {l : Link} (hl : s.clips.link = some l) (inputs sense : List (BitVec 32)) :
    (s.frame inputs sense).arbitrate = s.frame inputs sense :=
  State.arbitrate_of_link (l := { l with left := l.left - 1 }) (by simp [hl])

theorem senseValue_eq (w : BitVec 32) : senseValue w = min 8388607 (w.toNat / 256) := by
  rw [senseValue, slotValue_toNat]

theorem ZoneRec.counted_eq (r : ZoneRec) (hot : Bool) : ∃ n, r.counted hot = { r with overload := n } := by
  cases hot
  · exact ⟨r.overload, rfl⟩
  · exact ⟨min 65535 (r.overload + 1), rfl⟩

theorem Call.countDown_eq (c : Call) :
    c.countDown =
      if c.state = .ringing ∨ c.state = .connected then
        { c with parties := c.parties.map fun p => { p with timer := p.timer.map fun n => n - 1 } }
      else c := by
  simp only [Call.countDown, Call.live, Bool.or_eq_true, beq_iff_eq]
  rfl

@[simp] theorem State.arbitrate_player (s : State) (id : PlayerId) : s.arbitrate.player id = s.player id := by
  cases id <;> simp [State.player]

theorem State.frame_player (s : State) (inputs sense : List (BitVec 32)) (id : PlayerId) :
    (s.frame inputs sense).player id = (s.player id).advance (s.patternOf (s.player id)) := by
  cases id <;> simp [State.player]

/-- The word of a slot that carries sample `x`: its value first, then eight zero bits (R1). -/
theorem outputSlot_carries {x : Int} (h : isSample x = true) :
    ((outputSlot x).extractLsb' 8 24).toInt = x ∧ (outputSlot x).extractLsb' 0 8 = 0#8 :=
  ⟨outputSlot_toInt h, outputSlot_low x⟩

/-- Settles O11, clause by clause from the frame's fields; what the arbiter adds touches the clip engine alone. -/
theorem audioFrameSendsComputesAndLatches : Obligations.AudioFrameSendsComputesAndLatches := by
  intro inputs sense s hr _ _
  refine ⟨_, exec_audioFrame hr inputs sense, fun z => by simp, fun a => by simp, ?inputs, ?sense, ?clips,
    fun hl hs => State.frame_arbitrate_clips hr hl hs inputs sense, by simp, by simp, by simp, ?cues, ?progs, ?zones,
    ?zoneLanes, ?stationLanes, by simp, by simp, by simp, by simp, ⟨?timers, ?windows, ?calls, ?cue, ?survey, ?link⟩,
    ?players, fun v => by simp, ?chans⟩
  case inputs =>
    intro k
    simp only [State.arbitrate_lanes, State.frame_lanes, Fin.getElem_fin, getElem_tabulate]
    rfl
  case sense =>
    intro z
    simp only [State.arbitrate_lanes, State.frame_lanes, Fin.getElem_fin, getElem_tabulate, senseValue_eq]
    exact ⟨rfl, trivial⟩
  case clips => exact (State.arbitrate_clips _).trans (by rw [State.frame_clips])
  case cues | cue =>
    rw [State.arbitrate_cue, State.frame_cue]
    rfl
  case progs =>
    intro p
    simp only [State.arbitrate_progs, State.frame_progs, Fin.getElem_fin, getElem_remap]
    exact ⟨_, _, rfl⟩
  case zones =>
    intro z
    simp only [State.arbitrate_zones, State.frame_zones, Fin.getElem_fin, getElem_remap]
    exact ZoneRec.counted_eq _ _
  case zoneLanes =>
    intro j k z hz
    have hslot : (⟨16 * j.val + k.val, by omega⟩ : Zone) = z := Fin.ext hz.symm
    simp only [Lanes.zoneLane_getElem, State.arbitrate_lanes, State.frame_lanes, getElem_tabulate, hslot]
    exact outputSlot_carries (isSample_zoneSample _ _)
  case stationLanes =>
    intro j k a ha
    have hslot : (⟨16 * j.val + k.val, by omega⟩ : StationId) = a := Fin.ext ha.symm
    simp only [Lanes.stationLane_getElem, State.arbitrate_lanes, State.frame_lanes, getElem_tabulate, hslot]
    exact outputSlot_carries (isSample_stationSample _ _)
  case timers =>
    intro p
    simp only [State.arbitrate_progs, State.frame_progs, Fin.getElem_fin, getElem_remap]
    rfl
  case windows =>
    intro k
    simp only [State.arbitrate_slots, State.frame_slots, Fin.getElem_fin, getElem_remap]
    rfl
  case calls =>
    intro x
    simp only [State.arbitrate_calls, State.frame_calls, Fin.getElem_fin, getElem_remap]
    exact Call.countDown_eq _
  case survey =>
    rw [State.arbitrate_survey, State.frame_survey]
    rfl
  case link =>
    intro l hl
    rw [State.frame_arbitrate_of_link hl, State.frame_clips, hl, Option.map_some]
  case players =>
    intro id
    rw [State.arbitrate_player, State.frame_player]
    exact Player.advance_eq _ _
  case chans =>
    intro c
    have hc : (s.frame inputs sense).arbitrate.chans[c] = s.chans[c].frameBegin.advance := by simp
    rw [hc]
    exact ⟨fun h => Channel.frame_of_idle (.inl h), fun h => Channel.frame_of_idle (.inr (.inl h)),
      fun o h ha => Channel.frame_of_idle (.inr (.inr ⟨⟨o, h⟩, ha⟩)), fun o b rest hs h ha => Channel.frame_of_begins hs h ha,
      fun b k hs h => Channel.frame_of_plays hs h⟩

end Sys2Proof.Machine
end

section
namespace Sys2Proof.Machine

/-! ### What the other blocks leave of the claims

The claim manager's records are the programs and, of a zone, its owner, hold stack and bed slot. The blocks it hands its changes
to (voices, channels, stations, alarm slots, cue and survey engine) never change them. -/

/-- The programs and the claims on the zones. -/
structure Claims where
  progs : Vector Program 32
  owner : Zone → Option ProgId
  stack : Zone → List ProgId
  bed : Zone → Option ProgId

def State.claims (s : State) : Claims :=
  ⟨s.progs, fun z => s.zones[z].owner, fun z => s.zones[z].stack, fun z => s.zones[z].bed⟩

theorem State.progs_of_claims {s u : State} (h : u.claims = s.claims) : u.progs = s.progs := congrArg Claims.progs h

theorem State.owner_of_claims {s u : State} (h : u.claims = s.claims) (z : Zone) : u.zones[z].owner = s.zones[z].owner :=
  congrFun (congrArg Claims.owner h) z

theorem State.stack_of_claims {s u : State} (h : u.claims = s.claims) (z : Zone) : u.zones[z].stack = s.zones[z].stack :=
  congrFun (congrArg Claims.stack h) z

theorem foldl_claims {α : Type} {f : State → α → State} (h : ∀ s a, (f s a).claims = s.claims) (l : List α) (s : State) :
    (l.foldl f s).claims = s.claims :=
  foldl_view State.claims h l s

/-- A change of a zone's record that keeps its owner, hold stack and bed slot. -/
theorem State.onZone_claims (s : State) (z : Zone) {f : ZoneRec → ZoneRec}
    (h : ∀ r, (f r).owner = r.owner ∧ (f r).stack = r.stack ∧ (f r).bed = r.bed) : (s.onZone z f).claims = s.claims := by
  have hz (y : Zone) : (adjust s.zones z f)[y.val].owner = s.zones[y.val].owner ∧
      (adjust s.zones z f)[y.val].stack = s.zones[y.val].stack ∧ (adjust s.zones z f)[y.val].bed = s.zones[y.val].bed := by
    rw [getElem_adjust]
    split
    · exact h _
    · exact ⟨rfl, rfl, rfl⟩
  simp [State.claims, hz]

@[simp] theorem State.raise_claims (s : State) (k : NoticeKind) (p : Port) : (s.raise k p).claims = s.claims := rfl
@[simp] theorem State.raiseProgram_claims (s : State) (p : Port) (id : ProgId) :
    (s.raiseProgram p id).claims = s.claims := rfl
@[simp] theorem State.raiseAlarm_claims (s : State) (b : Bool) : (s.raiseAlarm b).claims = s.claims := by cases b <;> rfl
@[simp] theorem State.raiseCue_claims (s : State) (b : Bool) : (s.raiseCue b).claims = s.claims := by cases b <;> rfl
@[simp] theorem State.onSlot_claims (s : State) (k : Fin 2) (f : AlarmSlot → AlarmSlot) :
    (s.onSlot k f).claims = s.claims := rfl
@[simp] theorem State.onVoice_claims (s : State) (v : Fin 4) (f : ChimeVoice → ChimeVoice) :
    (s.onVoice v f).claims = s.claims := rfl
@[simp] theorem State.onChan_claims (s : State) (ch : ChanId) (f : Channel → Channel) :
    (s.onChan ch f).claims = s.claims := rfl
@[simp] theorem State.onCue_claims (s : State) (f : CueEngine → CueEngine) : (s.onCue f).claims = s.claims := rfl
@[simp] theorem State.onSurvey_claims (s : State) (f : Survey → Survey) : (s.onSurvey f).claims = s.claims := rfl
@[simp] theorem State.onStation_claims (s : State) (a : StationId) (f : Station → Station) :
    (s.onStation a f).claims = s.claims := rfl
@[simp] theorem State.startChan_claims (s : State) (ch : ChanId) (n : Option Nat) (tr : Trigger) :
    (s.startChan ch n tr).claims = s.claims := rfl
@[simp] theorem State.releaseChan_claims (s : State) (ch : ChanId) : (s.releaseChan ch).claims = s.claims := rfl
@[simp] theorem State.gateShow_claims (s : State) (b : Bool) : (s.gateShow b).claims = s.claims := rfl
@[simp] theorem State.stopTone_claims (s : State) (k : Fin 2) : (s.stopTone k).claims = s.claims := rfl

@[simp] theorem State.raiseSurvey_claims (s : State) (r : Requesters) (spare : Option Port) :
    (s.raiseSurvey r spare).claims = s.claims :=
  foldl_claims (fun s p => by split <;> simp) _ s

@[simp] theorem State.releaseVoice_claims (s : State) (p : ProgId) : (s.releaseVoice p).claims = s.claims := by
  unfold State.releaseVoice; split <;> simp

@[simp] theorem State.onBoundVoice_claims (s : State) (p : ProgId) (f : Player → Player) :
    (s.onBoundVoice p f).claims = s.claims := by
  unfold State.onBoundVoice; split <;> simp

theorem State.bindVoice_claims {s u : State} {p : ProgId} {pat : PatId} (h : s.bindVoice p pat = some u) :
    u.claims = s.claims := by
  unfold State.bindVoice at h
  split at h
  · cases h
  · split at h <;> cases h; simp

@[simp] theorem State.gateProgram_claims (s : State) (p : ProgId) (b : Bool) : (s.gateProgram p b).claims = s.claims := by
  unfold State.gateProgram; (repeat' split) <;> simp

@[simp] theorem State.releaseProgChan_claims (s : State) (p : ProgId) : (s.releaseProgChan p).claims = s.claims := by
  unfold State.releaseProgChan; (repeat' split) <;> simp

@[simp] theorem State.releaseStation_claims (s : State) (p : ProgId) : (s.releaseStation p).claims = s.claims := by
  unfold State.releaseStation; split <;> simp

@[simp] theorem State.dropRoute_claims (s : State) (p : ProgId) : (s.dropRoute p).claims = s.claims := by
  unfold State.dropRoute; split <;> simp

@[simp] theorem State.enterHeld_claims (s : State) (ret : EngineState) (quiet : Bool) :
    (s.enterHeld ret quiet).claims = s.claims := by
  simp [State.enterHeld]

@[simp] theorem State.reportTakeover_claims (s : State) (quiet : Bool) : (s.reportTakeover quiet).claims = s.claims := by
  unfold State.reportTakeover; split <;> simp

@[simp] theorem State.resumeCheck_claims (s0 s : State) (quiet : Bool) :
    (State.resumeCheck s0 s quiet).claims = s.claims := by
  unfold State.resumeCheck; split <;> simp

@[simp] theorem State.closeWindow_claims (s : State) (k : Fin 2) : (s.closeWindow k).claims = s.claims := by
  unfold State.closeWindow; simp only; (repeat' split) <;> simp

@[simp] theorem State.idleSlot_claims (s : State) (k : Fin 2) (named : Bool) : (s.idleSlot k named).claims = s.claims := by
  simp [State.idleSlot]

@[simp] theorem State.slotProgramEnded_claims (s : State) (p : ProgId) : (s.slotProgramEnded p).claims = s.claims := by
  unfold State.slotProgramEnded; (repeat' split) <;> simp

@[simp] theorem State.beginSurvey_claims (s : State) (e : QueueEntry) : (s.beginSurvey e).claims = s.claims :=
  State.onZone_claims _ _ fun _ => ⟨rfl, rfl, rfl⟩

@[simp] theorem State.takeHeads_claims (s : State) (q : List QueueEntry) : (s.takeHeads q).claims = s.claims := by
  induction q generalizing s with
  | nil => rfl
  | cons e q ih =>
    unfold State.takeHeads
    split
    · split
      · rw [ih, State.raiseSurvey_claims]
        exact State.onZone_claims _ _ fun _ => ⟨rfl, rfl, rfl⟩
      · simp
    · simp

@[simp] theorem State.takeHead_claims (s : State) : s.takeHead.claims = s.claims := by
  unfold State.takeHead; split <;> simp

@[simp] theorem State.abortSurvey_claims (s : State) (spare : Option Port) : (s.abortSurvey spare).claims = s.claims := by
  unfold State.abortSurvey
  split
  · rfl
  · simp only [State.takeHead_claims, State.raiseSurvey_claims, State.onSurvey_claims]
    exact State.onZone_claims _ _ fun _ => ⟨rfl, rfl, rfl⟩

@[simp] theorem State.surveyCheck_claims (s : State) : s.surveyCheck.claims = s.claims := by
  unfold State.surveyCheck; (repeat' split) <;> simp

@[simp] theorem ZoneRec.duckFor_owner (r : ZoneRec) (c : Option Nat) : (r.duckFor c).owner = r.owner := rfl
@[simp] theorem ZoneRec.duckFor_stack (r : ZoneRec) (c : Option Nat) : (r.duckFor c).stack = r.stack := rfl
@[simp] theorem ZoneRec.duckFor_bed (r : ZoneRec) (c : Option Nat) : (r.duckFor c).bed = r.bed := rfl

@[simp] theorem State.duckHandOff_claims (s0 s : State) : (State.duckHandOff s0 s).claims = s.claims := by
  simp only [State.claims, State.duckHandOff, Fin.getElem_fin, getElem_remap]
  congr <;> funext z <;> split <;> simp

@[simp] theorem State.programNotices_claims (s0 s : State) (named : Option ProgId) :
    (State.programNotices s0 s named).claims = s.claims :=
  foldl_claims (fun t p => by split <;> simp) _ s

/-- At the end of an operation only the settling of the programs changes the claims. -/
theorem State.finish_claims (s0 s : State) (c : Cause) :
    (State.finish s0 s c).claims = ((List.finRange 32).foldl (fun s p => s.settleProgram p) s).claims := by
  simp [State.finish]

end Sys2Proof.Machine
end

section
namespace Sys2Proof.Machine

/-! ### A release step moves zones between sets and nothing else

Taking, popping, granting and filling change the zone sets of the programs concerned; what else a record says stands. And what
they hand out goes to the owner of the zone, to an entry of its stack or to a program that waits: a program without any claim
gets none. -/

/-- A program's record without its zone sets. -/
def Program.bare (g : Program) : Program :=
  { g with requested := 0#64, granted := 0#64, held := 0#64, waiting := 0#64, gotAll := false }

/-- What the records say but for the zone sets. -/
def State.bare (s : State) : ProgId → Program := fun p => s.progs[p].bare

theorem State.bare_of_claims {s u : State} (h : u.claims = s.claims) : u.bare = s.bare := by
  unfold State.bare
  rw [State.progs_of_claims h]

@[simp] theorem State.onZone_bare (s : State) (z : Zone) (f : ZoneRec → ZoneRec) : (s.onZone z f).bare = s.bare := rfl

theorem State.onProg_bare (s : State) (p : ProgId) {f : Program → Program} (h : ∀ g, (f g).bare = g.bare) :
    (s.onProg p f).bare = s.bare := by
  funext q
  simp only [State.bare, State.onProg_progs, Fin.getElem_fin, getElem_adjust]
  split
  · exact h _
  · rfl

theorem foldl_bare {α : Type} {f : State → α → State} (h : ∀ s a, (f s a).bare = s.bare) (l : List α) (s : State) :
    (l.foldl f s).bare = s.bare :=
  foldl_view State.bare h l s

@[simp] theorem State.own_bare (s : State) (p : ProgId) (z : Zone) : (s.own p z).bare = s.bare :=
  State.onProg_bare _ _ fun _ => rfl

@[simp] theorem State.evict_bare (s : State) (z : Zone) : (s.evict z).bare = s.bare := by
  unfold State.evict
  split
  · rfl
  · exact State.onProg_bare _ _ fun _ => rfl

@[simp] theorem State.displace_bare (s : State) (o : ProgId) (z : Zone) : (s.displace o z).bare = s.bare := by
  unfold State.displace
  split
  · rw [State.onProg_bare (f := fun g => g.suspend z) (h := fun _ => rfl), State.onZone_bare]
    split <;> simp
  · exact State.onProg_bare _ _ fun _ => rfl

@[simp] theorem State.takeForeground_bare (s : State) (quiet : Bool) (p : ProgId) (z : Zone) :
    (s.takeForeground quiet p z).bare = s.bare := by
  unfold State.takeForeground
  simp only
  split
  · simp
  · split
    · rw [State.bare_of_claims (State.reportTakeover_claims ..)]; simp
    · simp

@[simp] theorem State.takeBed_bare (s : State) (p : ProgId) (z : Zone) : (s.takeBed p z).bare = s.bare :=
  State.onProg_bare _ _ fun _ => rfl

@[simp] theorem State.take_bare (s : State) (quiet : Bool) (p : ProgId) (z : Zone) : (s.take quiet p z).bare = s.bare := by
  unfold State.take; split <;> simp

@[simp] theorem State.takeAll_bare (s : State) (quiet : Bool) (p : ProgId) (zs : ZoneSet) :
    (s.takeAll quiet p zs).bare = s.bare :=
  (foldl_bare (fun s z => s.take_bare quiet p z) ..).trans (State.onProg_bare _ _ fun _ => rfl)

@[simp] theorem State.grantWaiter_bare (s : State) (quiet : Bool) (w : ProgId) (z : Zone) :
    (s.grantWaiter quiet w z).bare = s.bare := by
  unfold State.grantWaiter; split <;> simp

@[simp] theorem State.popStack_bare (s : State) (z : Zone) : (s.popStack z).bare = s.bare := by
  unfold State.popStack
  split
  · rfl
  · exact State.onProg_bare _ _ fun _ => rfl

@[simp] theorem State.succeed_bare (s : State) (quiet : Bool) (rs : ZoneSet) (z : Zone) :
    (s.succeed quiet rs z).bare = s.bare := by
  unfold State.succeed; (repeat' split) <;> simp

@[simp] theorem State.fillBed_bare (s : State) (quiet : Bool) (z : Zone) : (s.fillBed quiet z).bare = s.bare := by
  unfold State.fillBed; (repeat' split) <;> simp

@[simp] theorem State.releaseZone_bare (s : State) (quiet : Bool) (rs beds : ZoneSet) (z : Zone) :
    (s.releaseZone quiet rs beds z).bare = s.bare := by
  unfold State.releaseZone; simp only; (repeat' split) <;> simp

@[simp] theorem State.releaseStep_bare (s : State) (quiet : Bool) (fg beds : ZoneSet) :
    (s.releaseStep quiet fg beds).bare = s.bare :=
  foldl_bare (fun s z => s.releaseZone_bare quiet _ beds z) _ s

/-- A program that has no zone, waits for none, and stands in no zone's foreground or hold stack. -/
structure State.Unclaimed (s : State) (p : ProgId) : Prop where
  granted : s.progs[p].granted = 0#64
  waiting : s.progs[p].waiting = 0#64
  owner : ∀ z : Zone, s.zones[z].owner ≠ some p
  stack : ∀ z : Zone, p ∉ s.zones[z].stack

theorem State.unclaimed_of_claims {s u : State} {p : ProgId} (h : u.claims = s.claims) (hs : s.Unclaimed p) :
    u.Unclaimed p where
  granted := by rw [State.progs_of_claims h]; exact hs.granted
  waiting := by rw [State.progs_of_claims h]; exact hs.waiting
  owner z := by rw [State.owner_of_claims h]; exact hs.owner z
  stack z := by rw [State.stack_of_claims h]; exact hs.stack z

theorem State.unclaimed_onZone {s : State} {p : ProgId} (hs : s.Unclaimed p) {z : Zone} {f : ZoneRec → ZoneRec}
    (ho : (f s.zones[z]).owner ≠ some p) (hk : p ∉ (f s.zones[z]).stack) : (s.onZone z f).Unclaimed p where
  granted := hs.granted
  waiting := hs.waiting
  owner y := by
    simp only [State.onZone_zones, Fin.getElem_fin, getElem_adjust]
    split
    · next e => cases Fin.ext e; exact ho
    · exact hs.owner y
  stack y := by
    simp only [State.onZone_zones, Fin.getElem_fin, getElem_adjust]
    split
    · next e => cases Fin.ext e; exact hk
    · exact hs.stack y

theorem State.unclaimed_onProg_ne {s : State} {p q : ProgId} (hs : s.Unclaimed p) (hq : q ≠ p) (f : Program → Program) :
    (s.onProg q f).Unclaimed p where
  granted := by simpa only [State.onProg_progs, Fin.getElem_fin, getElem_adjust_ne _ _ hq] using hs.granted
  waiting := by simpa only [State.onProg_progs, Fin.getElem_fin, getElem_adjust_ne _ _ hq] using hs.waiting
  owner := hs.owner
  stack := hs.stack

/-- A change of some program's record that adds nothing to its granted and waiting sets. -/
theorem State.unclaimed_onProg {s : State} {p q : ProgId} (hs : s.Unclaimed p) {f : Program → Program}
    (hg : ∀ g, g.granted = 0#64 → (f g).granted = 0#64) (hw : ∀ g, g.waiting = 0#64 → (f g).waiting = 0#64) :
    (s.onProg q f).Unclaimed p := by
  by_cases hq : q = p
  · subst hq
    exact ⟨by simpa using hg _ hs.granted, by simpa using hw _ hs.waiting, hs.owner, hs.stack⟩
  · exact State.unclaimed_onProg_ne hs hq f

theorem foldl_unclaimed {α : Type} {f : State → α → State} {p : ProgId}
    (h : ∀ s a, s.Unclaimed p → (f s a).Unclaimed p) (l : List α) {s : State} (hs : s.Unclaimed p) :
    (l.foldl f s).Unclaimed p :=
  List.foldlRecOn (motive := fun u : State => u.Unclaimed p) l f hs fun u hu a _ => h u a hu

theorem State.unclaimed_own {s : State} {p w : ProgId} (hs : s.Unclaimed p) (hw : w ≠ p) (z : Zone) :
    (s.own w z).Unclaimed p :=
  State.unclaimed_onProg_ne (State.unclaimed_onZone hs (by simpa using hw) (hs.stack z)) hw _

theorem Program.without_granted {g : Program} (h : g.granted = 0#64) (zs : ZoneSet) : (g.without zs).granted = 0#64 := by
  simp [Program.without, h]

theorem Program.without_waiting {g : Program} (h : g.waiting = 0#64) (zs : ZoneSet) : (g.without zs).waiting = 0#64 := by
  simp [Program.without, h]

theorem State.unclaimed_evict {s : State} {p : ProgId} (hs : s.Unclaimed p) (z : Zone) : (s.evict z).Unclaimed p := by
  unfold State.evict
  split
  · exact hs
  · exact State.unclaimed_onProg
      (State.unclaimed_onZone hs (hs.owner z) fun h => hs.stack z (List.dropLast_subset _ h))
      (fun _ h => Program.without_granted h _) fun _ h => Program.without_waiting h _

theorem State.unclaimed_displace {s : State} {p o : ProgId} (hs : s.Unclaimed p) (ho : o ≠ p) (z : Zone) :
    (s.displace o z).Unclaimed p := by
  unfold State.displace
  split
  · have h1 : (if (s.zones[z].evicted).isSome then s.evict z else s).Unclaimed p := by
      split
      · exact State.unclaimed_evict hs z
      · exact hs
    refine State.unclaimed_onProg_ne (State.unclaimed_onZone h1 (h1.owner z) fun h => ?_) ho _
    rcases List.mem_cons.mp h with h | h
    · exact ho h.symm
    · exact h1.stack z h
  · exact State.unclaimed_onProg_ne hs ho _

theorem State.unclaimed_takeForeground {s : State} {p w : ProgId} (hs : s.Unclaimed p) (hw : w ≠ p) (quiet : Bool) (z : Zone) :
    (s.takeForeground quiet w z).Unclaimed p := by
  unfold State.takeForeground
  simp only
  split
  · exact State.unclaimed_own hs hw z
  · next o ho =>
    have h1 := State.unclaimed_own (State.unclaimed_displace hs (fun e => hs.owner z (e ▸ ho)) z) hw z
    split
    · exact State.unclaimed_of_claims (State.reportTakeover_claims ..) h1
    · exact h1

theorem State.unclaimed_takeBed {s : State} {p w : ProgId} (hs : s.Unclaimed p) (hw : w ≠ p) (z : Zone) :
    (s.takeBed w z).Unclaimed p :=
  State.unclaimed_onProg_ne (State.unclaimed_onZone hs (hs.owner z) (hs.stack z)) hw _

theorem State.unclaimed_take {s : State} {p w : ProgId} (hs : s.Unclaimed p) (hw : w ≠ p) (quiet : Bool) (z : Zone) :
    (s.take quiet w z).Unclaimed p := by
  unfold State.take
  split
  · exact State.unclaimed_takeBed hs hw z
  · exact State.unclaimed_takeForeground hs hw quiet z

theorem State.unclaimed_takeAll {s : State} {p w : ProgId} (hs : s.Unclaimed p) (hw : w ≠ p) (quiet : Bool) (zs : ZoneSet) :
    (s.takeAll quiet w zs).Unclaimed p :=
  foldl_unclaimed (fun _ z h => State.unclaimed_take h hw quiet z) _ (State.unclaimed_onProg_ne hs hw _)

theorem State.unclaimed_popStack {s : State} {p : ProgId} (hs : s.Unclaimed p) (z : Zone) : (s.popStack z).Unclaimed p := by
  unfold State.popStack
  split
  · exact hs
  · next t rest ht =>
    have hk := hs.stack z
    rw [ht, List.mem_cons, not_or] at hk
    have htp : t ≠ p := fun e => hk.1 e.symm
    exact State.unclaimed_onProg_ne (State.unclaimed_onZone hs (by simpa using htp) hk.2) htp _

theorem State.waiting_of_mem_waitList {s : State} {w : ProgId} (h : w ∈ s.waitList) : s.progs[w].waiting ≠ 0#64 := by
  obtain ⟨c, -, hw⟩ := List.mem_flatMap.mp h
  have hf := (List.mem_filter.mp hw).2
  simp_all

/-- A program without claims is on no wait list. -/
theorem State.Unclaimed.ne_of_mem_waitList {s : State} {p w : ProgId} (hs : s.Unclaimed p) (h : w ∈ s.waitList) : w ≠ p :=
  fun e => State.waiting_of_mem_waitList h (e ▸ hs.waiting)

theorem State.unclaimed_grantWaiter {s : State} {p w : ProgId} (hs : s.Unclaimed p) (hw : w ≠ p) (quiet : Bool) (z : Zone) :
    (s.grantWaiter quiet w z).Unclaimed p := by
  unfold State.grantWaiter
  split
  · exact State.unclaimed_takeAll hs hw quiet _
  · exact State.unclaimed_own hs hw z

theorem State.unclaimed_succeed {s : State} {p : ProgId} (hs : s.Unclaimed p) (quiet : Bool) (rs : ZoneSet) (z : Zone) :
    (s.succeed quiet rs z).Unclaimed p := by
  have granted {w} (h : s.waiterFor rs z = some w) : (s.grantWaiter quiet w z).Unclaimed p :=
    State.unclaimed_grantWaiter hs (hs.ne_of_mem_waitList (List.mem_of_find?_eq_some h)) quiet z
  have popped := State.unclaimed_popStack hs z
  unfold State.succeed
  split
  · exact hs
  · next h => exact granted h
  · exact popped
  · next h =>
    split
    · exact granted h
    · exact popped

theorem State.unclaimed_fillBed {s : State} {p : ProgId} (hs : s.Unclaimed p) (quiet : Bool) (z : Zone) :
    (s.fillBed quiet z).Unclaimed p := by
  unfold State.fillBed
  split
  · exact hs
  · next h =>
    have hw := hs.ne_of_mem_waitList (List.mem_of_find?_eq_some h)
    split
    · exact State.unclaimed_takeAll hs hw quiet _
    · exact State.unclaimed_takeBed hs hw z

theorem State.unclaimed_releaseZone {s : State} {p : ProgId} (hs : s.Unclaimed p) (quiet : Bool) (rs beds : ZoneSet) (z : Zone) :
    (s.releaseZone quiet rs beds z).Unclaimed p := by
  have filled {u : State} (hu : u.Unclaimed p) :
      (if beds.getLsbD z.val && u.zones[z].bed.isNone then u.fillBed quiet z else u).Unclaimed p := by
    split
    · exact State.unclaimed_fillBed hu quiet z
    · exact hu
  unfold State.releaseZone
  refine filled ?_
  split
  · exact State.unclaimed_succeed hs quiet rs z
  · exact hs

theorem State.unclaimed_releaseStep {s : State} {p : ProgId} (hs : s.Unclaimed p) (quiet : Bool) (fg beds : ZoneSet) :
    (s.releaseStep quiet fg beds).Unclaimed p :=
  foldl_unclaimed (fun _ z h => State.unclaimed_releaseZone h quiet _ beds z) _ hs

end Sys2Proof.Machine
end

section
namespace Sys2Proof.Machine

/-! ### Ending and settling one program, as another sees it -/

/-- From `s` to `u` the record of `p` stands, and `p` has gained no foreground and no stack entry. -/
structure Leaves (p : ProgId) (s u : State) : Prop where
  prog : u.progs[p] = s.progs[p]
  owner : ∀ z : Zone, u.zones[z].owner = some p → s.zones[z].owner = some p
  stack : ∀ z : Zone, p ∈ u.zones[z].stack → p ∈ s.zones[z].stack

theorem Leaves.refl (p : ProgId) (s : State) : Leaves p s s := ⟨rfl, fun _ h => h, fun _ h => h⟩

theorem Leaves.trans {p : ProgId} {s u v : State} (h : Leaves p s u) (k : Leaves p u v) : Leaves p s v :=
  ⟨k.prog.trans h.prog, fun z e => h.owner z (k.owner z e), fun z e => h.stack z (k.stack z e)⟩

theorem Leaves.of_claims {p : ProgId} {s u : State} (h : u.claims = s.claims) : Leaves p s u where
  prog := by rw [State.progs_of_claims h]
  owner z e := by rwa [State.owner_of_claims h] at e
  stack z e := by rwa [State.stack_of_claims h] at e

theorem Leaves.onProg {p q : ProgId} (hq : q ≠ p) (s : State) (f : Program → Program) : Leaves p s (s.onProg q f) :=
  ⟨getElem_adjust_ne _ f hq, fun _ h => h, fun _ h => h⟩

theorem Leaves.unclaimed {p : ProgId} {s u : State} (h : Leaves p s u) (hs : s.Unclaimed p) : u.Unclaimed p where
  granted := by rw [h.prog]; exact hs.granted
  waiting := by rw [h.prog]; exact hs.waiting
  owner z e := hs.owner z (h.owner z e)
  stack z e := hs.stack z (h.stack z e)

/-- The claims once a program has left every zone and its record says that it has ended (R21). -/
theorem State.endProgram_claims (s : State) (q : ProgId) (why : EndReason) :
    (s.endProgram q why).claims =
      (({ s with zones := remap s.zones fun _ r => r.strip q } : State).onProg q fun g => g.finished why).claims := by
  simp only [State.endProgram, State.slotProgramEnded_claims, State.dropRoute_claims, State.releaseStation_claims,
    State.releaseProgChan_claims, State.releaseVoice_claims]
  rfl

theorem Leaves.endProgram {p q : ProgId} (hq : q ≠ p) (s : State) (why : EndReason) : Leaves p s (s.endProgram q why) := by
  refine Leaves.trans (Leaves.trans ?_ (Leaves.onProg hq _ fun g => g.finished why)) (Leaves.of_claims (s.endProgram_claims q why))
  refine ⟨rfl, fun z h => ?_, fun z h => ?_⟩
  · simp only [Fin.getElem_fin, getElem_remap, ZoneRec.strip] at h
    split at h
    · cases h
    · exact h
  · simp only [Fin.getElem_fin, getElem_remap, ZoneRec.strip] at h
    exact List.mem_of_mem_filter h

theorem Leaves.startClip {p q : ProgId} (hq : q ≠ p) (s : State) : Leaves p s (s.startClip q) := by
  unfold State.startClip
  split
  · exact Leaves.refl p s
  · split
    · exact Leaves.refl p s
    · split
      · exact Leaves.refl p s
      · exact (Leaves.of_claims (State.startChan_claims ..)).trans (Leaves.onProg hq _ _)

theorem Leaves.firstActive {p q : ProgId} (hq : q ≠ p) (s : State) (skipped : Bool) : Leaves p s (s.firstActive q skipped) :=
  (Leaves.onProg hq s _).trans (Leaves.startClip hq _)

theorem Leaves.enterGranted {p q : ProgId} (hq : q ≠ p) (s : State) : Leaves p s (s.enterGranted q) := by
  unfold State.enterGranted
  simp only
  split
  · exact (Leaves.onProg hq s _).trans (Leaves.of_claims (State.onBoundVoice_claims ..))
  · exact (Leaves.onProg hq s _).trans (Leaves.of_claims (State.gateProgram_claims ..))
  · split
    case h_3 => exact Leaves.firstActive hq s false
    all_goals
      split
      · next h => exact (Leaves.of_claims (State.bindVoice_claims h)).trans (Leaves.onProg hq _ _)
      · exact Leaves.firstActive hq s true

theorem Leaves.enterUngranted {p q : ProgId} (hq : q ≠ p) (s : State) : Leaves p s (s.enterUngranted q) := by
  unfold State.enterUngranted
  simp only
  split
  · exact (Leaves.onProg hq s _).trans (Leaves.of_claims (State.onBoundVoice_claims ..))
  · exact (Leaves.onProg hq s _).trans (Leaves.of_claims (State.gateProgram_claims ..))
  all_goals exact Leaves.onProg hq s _

/-- The settling of a program that is open and not in its tail: it ends without a claim left, or takes its state (R19). -/
def State.settleOpen (s : State) (p : ProgId) : State :=
  let g := s.progs[p]
  if g.granted = 0#64 ∧ g.held = 0#64 ∧ g.waiting = 0#64 then s.endProgram p .noZones
  else
    (if g.granted = 0#64 then s.enterUngranted p
      else if g.state = .pending ∨ g.state = .held then s.enterGranted p
      else s).onProg p Program.waitClock

/-- The settling by the state of the program. -/
theorem State.settleProgram_eq (s : State) (p : ProgId) :
    s.settleProgram p =
      match s.progs[p].state with
      | .free | .ended => s
      | .tail => if s.progs[p].granted = 0#64 then s.endProgram p .noZones else s
      | .pending | .preamble | .active | .held => s.settleOpen p := rfl

theorem Leaves.settleOpen {p q : ProgId} (hq : q ≠ p) (s : State) : Leaves p s (s.settleOpen q) := by
  unfold State.settleOpen
  simp only
  split
  · exact Leaves.endProgram hq s _
  · refine Leaves.trans (u := if _ then _ else _) ?_ (Leaves.onProg hq _ _)
    split
    · exact Leaves.enterUngranted hq s
    · split
      · exact Leaves.enterGranted hq s
      · exact Leaves.refl p s

/-- The settling of another program. -/
theorem Leaves.settleProgram {p q : ProgId} (hq : q ≠ p) (s : State) : Leaves p s (s.settleProgram q) := by
  rw [State.settleProgram_eq]
  cases s.progs[q].state
  case free | ended => exact Leaves.refl p s
  case tail =>
    show Leaves p s (if _ then _ else _)
    split
    · exact Leaves.endProgram hq s _
    · exact Leaves.refl p s
  all_goals exact Leaves.settleOpen hq s

/-! ### A program that has ended, and a tail whose turn to end is to come -/

/-- The program has ended for the reason given and owns nothing (R21, R22). -/
structure State.Gone (s : State) (why : EndReason) (p : ProgId) : Prop where
  state : s.progs[p].state = .ended
  reason : s.progs[p].endReason = some why
  unclaimed : s.Unclaimed p

/-- A tail that has completed waits for its turn, or has lost its last zone to the end of one before it (R109). -/
def State.Completed (s : State) (p : ProgId) : Prop := s.progs[p].tailDone = true ∨ s.Gone .noZones p

theorem Program.tailDone_iff (g : Program) :
    g.tailDone = true ↔ g.state = .tail ∧ g.gain.running = false ∧ g.gain.current = 0 := by
  simp [Program.tailDone, and_assoc]

theorem State.gone_leaves {s u : State} {why : EndReason} {p : ProgId} (h : Leaves p s u) (hs : s.Gone why p) :
    u.Gone why p where
  state := by rw [h.prog]; exact hs.state
  reason := by rw [h.prog]; exact hs.reason
  unclaimed := h.unclaimed hs.unclaimed

theorem State.completed_leaves {s u : State} {p : ProgId} (h : Leaves p s u) (hs : s.Completed p) : u.Completed p :=
  hs.imp (by rw [h.prog]; exact id) (State.gone_leaves h)

/-- The end of a program, whatever the state it is in (R21). -/
theorem State.gone_endProgram (s : State) (p : ProgId) (why : EndReason) : (s.endProgram p why).Gone why p := by
  refine State.gone_leaves (Leaves.of_claims (s.endProgram_claims p why)) ?_
  refine ⟨by simp [Program.finished], by simp [Program.finished], ⟨by simp [Program.finished], by simp [Program.finished],
    fun z => ?_, fun z => ?_⟩⟩
  · simp only [State.onProg_zones, Fin.getElem_fin, getElem_remap, ZoneRec.strip]
    split
    · simp
    · assumption
  · simp [ZoneRec.strip]

/-- A release step moves zone sets alone, and a program without claims gets nothing in it. -/
theorem State.gone_releaseStep {s : State} {why : EndReason} {p : ProgId} (hs : s.Gone why p) (quiet : Bool) (fg beds : ZoneSet) :
    (s.releaseStep quiet fg beds).Gone why p := by
  have hb := congrFun (s.releaseStep_bare quiet fg beds) p
  exact ⟨(congrArg Program.state hb).trans hs.state, (congrArg Program.endReason hb).trans hs.reason,
    State.unclaimed_releaseStep hs.unclaimed quiet fg beds⟩

theorem State.completed_releaseStep {s : State} {p : ProgId} (hs : s.Completed p) (quiet : Bool) (fg beds : ZoneSet) :
    (s.releaseStep quiet fg beds).Completed p := by
  refine hs.imp (fun h => ?_) fun h => State.gone_releaseStep h quiet fg beds
  have hb := congrFun (s.releaseStep_bare quiet fg beds) p
  exact (congrArg Program.tailDone hb).trans h

theorem State.gone_settleProgram {s : State} {why : EndReason} {p : ProgId} (q : ProgId) (hs : s.Gone why p) :
    (s.settleProgram q).Gone why p := by
  by_cases hq : q = p
  · subst hq
    rwa [State.settleProgram_eq, hs.state]
  · exact State.gone_leaves (Leaves.settleProgram hq s) hs

/-- A completed tail that has lost its last zone ends NO_ZONES at the settling, and any other stands (R19). -/
theorem State.completed_settleProgram {s : State} {p : ProgId} (q : ProgId) (hs : s.Completed p) :
    (s.settleProgram q).Completed p := by
  rcases hs with hs | hs
  · by_cases hq : q = p
    · subst hq
      have hst := ((Program.tailDone_iff _).mp hs).1
      rw [State.settleProgram_eq, hst]
      show State.Completed (if _ then _ else _) q
      split
      · exact Or.inr (s.gone_endProgram q _)
      · exact Or.inl hs
    · exact State.completed_leaves (Leaves.settleProgram hq s) (Or.inl hs)
  · exact Or.inr (State.gone_settleProgram q hs)

theorem State.gone_finish {s0 s : State} {why : EndReason} {p : ProgId} (c : Cause) (hs : s.Gone why p) :
    (State.finish s0 s c).Gone why p :=
  State.gone_leaves (Leaves.of_claims (State.finish_claims s0 s c))
    (List.foldlRecOn (motive := fun u : State => u.Gone why p) _ _ hs fun _ h q _ => State.gone_settleProgram q h)

theorem State.completed_finish {s0 s : State} {p : ProgId} (c : Cause) (hs : s.Completed p) :
    (State.finish s0 s c).Completed p :=
  State.completed_leaves (Leaves.of_claims (State.finish_claims s0 s c))
    (List.foldlRecOn (motive := fun u : State => u.Completed p) _ _ hs fun _ h q _ => State.completed_settleProgram q h)

/-- The program that ends with its release step (R21, R33). -/
theorem State.gone_endAndRelease_self (s : State) (p : ProgId) (why : EndReason) (c : Cause) :
    (s.endAndRelease p why c).Gone why p :=
  State.gone_finish c (State.gone_releaseStep (s.gone_endProgram p why) ..)

theorem State.gone_endAndRelease {s : State} {p q : ProgId} {why : EndReason} (hq : q ≠ p) (hs : s.Gone why p) (w : EndReason)
    (c : Cause) : (s.endAndRelease q w c).Gone why p :=
  State.gone_finish c (State.gone_releaseStep (State.gone_leaves (Leaves.endProgram hq s w) hs) ..)

theorem State.completed_endAndRelease {s : State} {p q : ProgId} (hq : q ≠ p) (hs : s.Completed p) (w : EndReason) (c : Cause) :
    (s.endAndRelease q w c).Completed p :=
  State.completed_finish c (State.completed_releaseStep (State.completed_leaves (Leaves.endProgram hq s w) hs) ..)

/-! ### The tails that complete at one expiry (R109) -/

/-- One program's turn. -/
def State.endTail (s : State) (p : ProgId) : State :=
  if s.progs[p].tailDone then s.endAndRelease p .closed Cause.event else s

theorem State.endTails_eq (s : State) : s.endTails = (List.finRange 32).foldl State.endTail s := rfl

theorem State.gone_endTail {s : State} {p q : ProgId} {why : EndReason} (hq : q ≠ p) (hs : s.Gone why p) :
    (s.endTail q).Gone why p := by
  unfold State.endTail
  split
  · exact State.gone_endAndRelease hq hs ..
  · exact hs

theorem State.completed_endTail {s : State} {p q : ProgId} (hq : q ≠ p) (hs : s.Completed p) :
    (s.endTail q).Completed p := by
  unfold State.endTail
  split
  · exact State.completed_endAndRelease hq hs ..
  · exact hs

/-- At its own turn a completed tail ends CLOSED, unless it has ended already. -/
theorem State.gone_endTail_self {s : State} {p : ProgId} (hs : s.Completed p) :
    (s.endTail p).Gone .closed p ∨ (s.endTail p).Gone .noZones p := by
  unfold State.endTail
  split
  · exact Or.inl (s.gone_endAndRelease_self p ..)
  · next h => exact Or.inr (hs.resolve_left h)

/-- The turns before a program's own, and those after it. -/
theorem finRange_split {n : Nat} (p : Fin n) :
    ∃ before after, List.finRange n = before ++ p :: after ∧ (∀ q ∈ before, q < p) ∧ ∀ q ∈ after, p < q := by
  obtain ⟨before, after, h⟩ := List.append_of_mem (List.mem_finRange p)
  have hs : (before ++ p :: after).Pairwise (· < ·) := h ▸ List.pairwise_lt_finRange n
  obtain ⟨-, hpa, hb⟩ := List.pairwise_append.mp hs
  exact ⟨before, after, h, fun q hq => hb q hq p (by simp), (List.pairwise_cons.mp hpa).1⟩

/-- Every tail that has completed ends and owns nothing: CLOSED, or NO_ZONES where those before it took its last zone. -/
theorem State.gone_endTails {s : State} {p : ProgId} (hp : s.progs[p].tailDone = true) :
    s.endTails.Gone .closed p ∨ s.endTails.Gone .noZones p := by
  obtain ⟨before, after, hl, hb, ha⟩ := finRange_split p
  have later {u : State} {why : EndReason} (h : u.Gone why p) : (after.foldl State.endTail u).Gone why p :=
    List.foldlRecOn (motive := fun u : State => u.Gone why p) _ _ h fun _ h q hq => State.gone_endTail (ha q hq).ne' h
  have hw : (before.foldl State.endTail s).Completed p :=
    List.foldlRecOn (motive := fun u : State => u.Completed p) _ _ (Or.inl hp) fun _ h q hq => State.completed_endTail (hb q hq).ne h
  rw [State.endTails_eq, hl, List.foldl_append, List.foldl_cons]
  exact (State.gone_endTail_self hw).imp later later

theorem foldl_endTail_of_not_done {s : State} {l : List ProgId} (h : ∀ q ∈ l, s.progs[q].tailDone = false) :
    l.foldl State.endTail s = s := by
  induction l with
  | nil => rfl
  | cons q l ih =>
    have hq : s.endTail q = s := if_neg (by rw [h q (by simp)]; decide)
    rw [List.foldl_cons, hq, ih fun r hr => h r (List.mem_cons_of_mem q hr)]

/-- The lowest id among the tails that have completed ends CLOSED. -/
theorem State.gone_endTails_lowest {s : State} {p : ProgId} (hp : s.progs[p].tailDone = true)
    (hlow : ∀ q < p, s.progs[q].tailDone = false) : s.endTails.Gone .closed p := by
  obtain ⟨before, after, hl, hb, ha⟩ := finRange_split p
  rw [State.endTails_eq, hl, List.foldl_append, List.foldl_cons, foldl_endTail_of_not_done fun q hq => hlow q (hb q hq)]
  refine List.foldlRecOn (motive := fun u : State => u.Gone .closed p) _ _ ?_ fun _ h q hq => State.gone_endTail (ha q hq).ne' h
  rw [State.endTail, if_pos hp]
  exact s.gone_endAndRelease_self p ..

/-! ### The millisecond expiry (R67) -/

theorem State.tickRamps_progs (s : State) (p : ProgId) :
    s.tickRamps.progs[p] =
      if s.progs[p].state = .free ∨ s.progs[p].state = .ended then s.progs[p]
      else { s.progs[p] with gain := s.progs[p].gain.tick } := by
  have hr : s.progs[p.val].ramps = true ↔ ¬(s.progs[p.val].state = .free ∨ s.progs[p.val].state = .ended) := by
    simp [Program.ramps]
  simp only [State.tickRamps, Fin.getElem_fin, getElem_remap, hr, ite_not]

theorem State.tickRamps_zones (s : State) (z : Zone) :
    s.tickRamps.zones[z] = { s.zones[z] with master := s.zones[z].master.tick, duck := s.zones[z].duck.tick } := by
  simp [State.tickRamps]

/-- After the ramps have moved, a tail has completed when its gain has come to rest at 0. -/
theorem State.tickRamps_tailDone (s : State) (p : ProgId) :
    s.tickRamps.progs[p].tailDone = true ↔
      s.progs[p].state = .tail ∧ s.progs[p].gain.tick.running = false ∧ s.progs[p].gain.tick.current = 0 := by
  rw [Program.tailDone_iff, State.tickRamps_progs]
  split
  · next h => rcases h with h | h <;> rw [h] <;> simp
  · rfl

/-- A due expiry. -/
theorem exec_rampTick_of_due {s : State} (h : 48 ≤ s.msFrames) :
    exec .rampTick s = .next s.tickRamps.endTails.arbitrate := by
  show partEvent (if Config.framesPerMs ≤ s.msFrames then _ else _) = _
  rw [if_pos (show Config.framesPerMs ≤ s.msFrames from h)]
  rfl

theorem State.arbitrate_claims (s : State) : s.arbitrate.claims = s.claims := by
  simp [State.claims]

theorem State.tick_msFrames (s : State) : s.tickRamps.endTails.arbitrate.msFrames = s.msFrames - 48 := by
  rw [State.arbitrate_msFrames, ← State.outside_msFrames, State.endTails_outside]
  rfl

/-- A completed tail after a due expiry. -/
theorem State.tick_gone {s : State} {p : ProgId} {why : EndReason} (h : s.tickRamps.endTails.Gone why p) :
    let u := s.tickRamps.endTails.arbitrate
    u.progs[p].state = .ended ∧ u.progs[p].granted = 0#64 ∧ (∀ z : Zone, u.zones[z].owner ≠ some p) ∧
      u.progs[p].endReason = some why :=
  have hu := State.gone_leaves (Leaves.of_claims (State.arbitrate_claims _)) h
  ⟨hu.state, hu.unclaimed.granted, hu.unclaimed.owner, hu.reason⟩

/-- Settles O19: the ramps move, and the completed tails take their turns in ascending id. -/
theorem theMillisecondExpiryStepsRampsAndEndsTails : Obligations.TheMillisecondExpiryStepsRampsAndEndsTails := by
  unfold Obligations.TheMillisecondExpiryStepsRampsAndEndsTails
  refine ⟨fun s hdue hserved hno => ?_, fun s p hdue hp hother hrun hcur => ?_, fun s hdue => ?_⟩
  · have hnone (p : ProgId) : s.tickRamps.progs[p].tailDone = false := by
      rw [Bool.eq_false_iff, Ne, State.tickRamps_tailDone]
      rintro ⟨hp, hrun, hcur⟩
      rcases hno p hp with h | h
      · rw [hrun] at h
        cases h
      · exact h hcur
    refine ⟨s.tickRamps, ?_, rfl, s.tickRamps_progs, s.tickRamps_zones, rfl⟩
    rw [exec_rampTick_of_due hdue, State.endTails_eq, foldl_endTail_of_not_done fun q _ => hnone q]
    exact congrArg Host.Outcome.next (State.arbitrate_congr hserved rfl rfl rfl)
  · have hlow : ∀ q < p, s.tickRamps.progs[q].tailDone = false := fun q hq => by
      rw [Bool.eq_false_iff, Ne, State.tickRamps_tailDone]
      exact fun h => hother q hq.ne h.1
    obtain ⟨hstate, hgranted, howner, hreason⟩ :=
      State.tick_gone (State.gone_endTails_lowest ((s.tickRamps_tailDone p).mpr ⟨hp, hrun, hcur⟩) hlow)
    exact ⟨_, exec_rampTick_of_due hdue, hstate, hreason, hgranted, howner⟩
  · refine ⟨_, exec_rampTick_of_due hdue, s.tick_msFrames, fun p hp => ?_⟩
    have hdone := (s.tickRamps_tailDone p).mpr hp
    have hclosed (hlow : ∀ q, q < p → ¬(s.progs[q].state = .tail ∧ s.progs[q].gain.tick.running = false ∧
        s.progs[q].gain.tick.current = 0)) : s.tickRamps.endTails.arbitrate.progs[p].endReason = some .closed :=
      (State.tick_gone (State.gone_endTails_lowest hdone fun q hq => by
        rw [Bool.eq_false_iff, Ne, State.tickRamps_tailDone]
        exact hlow q hq)).2.2.2
    rcases State.gone_endTails hdone with h | h <;>
      obtain ⟨hstate, hgranted, howner, hreason⟩ := State.tick_gone h
    · exact ⟨hstate, hgranted, howner, Or.inl hreason, hclosed⟩
    · exact ⟨hstate, hgranted, howner, Or.inr hreason, hclosed⟩

end Sys2Proof.Machine
end

section
namespace Sys2Proof.Machine

/-! ### The test of a claim and the wait list (R25, R26, R30) -/

theorem State.beats_iff (s : State) (p o : ProgId) (h : Nat) :
    s.beats p o h = true ↔
      (s.progs[p].cls = 0 ∧ s.progs[o].cls = 0 ∧ p = 0 ∧ o = 1) ∨
        (s.progs[p].cls < s.progs[o].cls ∧ (s.progs[p].cls ≤ 2 ∨ s.progs[p].cls < h)) := by
  unfold State.beats
  simp only
  split
  · next e =>
    simp only [Fin.getElem_fin] at e
    simp [e.1, e.2]
  · next e =>
    simp only [Bool.and_eq_true, Bool.or_eq_true, decide_eq_true_eq]
    exact ⟨Or.inr, fun h => h.resolve_left fun h => e ⟨h.1, h.2.1⟩⟩

theorem State.passes_of_bed {s : State} {p : ProgId} (h : s.progs[p].kind = .bed) (z : Zone) :
    s.passes p z = true ↔ s.zones[z].bed = none := by
  simp only [State.passes, h, if_true, Option.isNone_iff_eq_none]

theorem State.passes_of_foreground {s : State} {p : ProgId} (h : s.progs[p].kind ≠ .bed) (z : Zone) :
    s.passes p z = true ↔ ∀ o : ProgId, s.zones[z].owner = some o → s.beats p o s.zones[z].shield = true := by
  simp only [State.passes, h, if_false]
  cases s.zones[z].owner <;> simp

theorem State.mem_waitList {s : State} (hc : ∀ p : ProgId, s.progs[p].cls ≤ 6) (p : ProgId) :
    p ∈ s.waitList ↔ p ∈ s.openOrder ∧ s.progs[p].waiting ≠ 0#64 := by
  unfold State.waitList
  simp only [List.mem_flatMap, List.mem_range, List.mem_filter, Bool.and_eq_true, beq_iff_eq, bne_iff_ne]
  constructor
  · rintro ⟨_, _, ho, _, hw⟩
    exact ⟨ho, hw⟩
  · rintro ⟨ho, hw⟩
    exact ⟨_, Nat.lt_succ_of_le (hc p), ho, rfl, hw⟩

/-- Entries of a list without repetition stand in the order of their places. -/
theorem pairwise_idxOf {α : Type} [DecidableEq α] {l : List α} (h : l.Nodup) :
    l.Pairwise fun a b => l.idxOf a < l.idxOf b := by
  rw [List.pairwise_iff_getElem]
  intro i j hi hj hij
  rwa [h.idxOf_getElem, h.idxOf_getElem]

/-- The wait list goes by class, and within a class by the order of opening (R17, R25). -/
theorem State.waitList_sorted {s : State} (h : s.openOrder.Nodup) :
    s.waitList.Pairwise fun a b => s.progs[a].cls < s.progs[b].cls ∨
      (s.progs[a].cls = s.progs[b].cls ∧ s.openOrder.idxOf a < s.openOrder.idxOf b) := by
  have hcls (c : Nat) {p : ProgId}
      (hp : p ∈ s.openOrder.filter fun p => s.progs[p].cls == c && s.progs[p].waiting != 0#64) : s.progs[p].cls = c := by
    simp only [List.mem_filter, Bool.and_eq_true, beq_iff_eq] at hp
    exact hp.2.1
  unfold State.waitList
  rw [List.pairwise_flatMap]
  constructor
  · intro c _
    refine ((pairwise_idxOf h).filter _).imp_of_mem fun {a b} ha hb hab => Or.inr ⟨?_, hab⟩
    rw [hcls c ha, hcls c hb]
  · refine List.pairwise_lt_range.imp fun {c d} hcd a ha b hb => Or.inl ?_
    rw [hcls c ha, hcls d hb]
    exact hcd

theorem State.waitList_nodup {s : State} (h : s.openOrder.Nodup) : s.waitList.Nodup :=
  (State.waitList_sorted h).imp fun {a b} hab e => by subst e; rcases hab with hab | hab <;> omega

/-- Settles O25: the test by the kind of the program, the wait list by its construction class by class. -/
theorem claimsAreTestedAndWaitedFor : Obligations.ClaimsAreTestedAndWaitedFor := by
  unfold Obligations.ClaimsAreTestedAndWaitedFor
  refine ⟨fun s p z => ⟨fun hk => ?_, fun hk => State.passes_of_bed hk z⟩, fun s ho hc =>
    ⟨State.waitList_nodup ho, State.mem_waitList hc, State.waitList_sorted ho⟩⟩
  simp only [State.passes_of_foreground hk, State.beats_iff]

/-! ### SET_SHOW_ZONES, SET_SHIELD and READMIT_ZONES (R46, R47, R49) -/

/-- The shifting out of a transaction and a change of the zone table do not touch each other. -/
theorem State.clockThrough_withZones (s : State) (v : Vector ZoneRec 64) (p : Port) (n : Nat) :
    State.clockThrough { s with zones := v } p n = { s.clockThrough p n with zones := v } := by
  unfold State.clockThrough; split <;> rfl

/-- Settles O33: nothing but the zone table changes, so the reply is all the transaction adds. -/
theorem setShowZonesNamesThemAll : Obligations.SetShowZonesNamesThemAll := by
  unfold Obligations.SetShowZonesNamesThemAll
  intro t zones s hl hs
  show execSetShowZones t zones s = _
  unfold execSetShowZones
  by_cases hp : t.port = .ann
  · rw [if_neg (not_not_intro hp)]
    refine portCommand_of_listens hl hs _ _ _ _ _ _ ?_ rfl rfl rfl
    have hr (z : Zone) (r : ZoneRec) : r.showMark (zones.getLsbD z.val) =
        if zones.getLsbD z.val then { r with showZone := true } else { r with showZone := false, shield := 7 } := by
      cases zones.getLsbD z.val <;> rfl
    simp only [hp, bne_self_eq_false, Bool.false_eq_true, if_false, okWith, hr, State.clockThrough_withZones,
      State.clockThrough_zones]
  · rw [if_pos hp]
    exact portCommand_of_listens hl hs _ _ _ s _ _ (by simp [hp, refuse]) rfl rfl rfl

end Sys2Proof.Machine
end

section
namespace Sys2Proof

/-! ### Zone sets, bit by bit -/

theorem zoneSet_ext {a b : ZoneSet} (h : ∀ z : Zone, a.getLsbD z.val = b.getLsbD z.val) : a = b :=
  BitVec.eq_of_getLsbD_eq fun i hi => h ⟨i, hi⟩

theorem zoneSet_eq_zero_iff (a : ZoneSet) : a = 0#64 ↔ ∀ z : Zone, a.getLsbD z.val = false :=
  ⟨fun h z => by rw [h, BitVec.getLsbD_zero], fun h => zoneSet_ext fun z => by rw [h z, BitVec.getLsbD_zero]⟩

@[simp] theorem getLsbD_compl (a : ZoneSet) (z : Zone) : (~~~a).getLsbD z.val = !a.getLsbD z.val := by
  simp [-BitVec.getLsbD_eq_getElem, BitVec.getLsbD_not]

theorem zonesOf_nodup (zs : ZoneSet) : (zonesOf zs).Nodup := (List.nodup_finRange 64).filter _

@[simp] theorem getLsbD_zonesWhere (f : Zone → Bool) (z : Zone) : (zonesWhere f).getLsbD z.val = f z := by
  have key (l : List Zone) (zs : ZoneSet) :
      (l.foldl (fun zs y => if f y then zs ||| zoneBit y else zs) zs).getLsbD z.val = (zs.getLsbD z.val || (decide (z ∈ l) && f z)) := by
    induction l generalizing zs with
    | nil => simp
    | cons y l ih =>
      rw [List.foldl_cons, ih]
      by_cases e : y = z
      · subst e; cases h : f y <;> simp [-BitVec.getLsbD_eq_getElem]
      · have e' : z ≠ y := fun h => e h.symm
        cases h : f y <;> simp [-BitVec.getLsbD_eq_getElem, e, e']
  rw [zonesWhere, key, BitVec.getLsbD_zero]
  simp

end Sys2Proof

namespace Sys2Proof.Machine

/-! ### A program's part in one zone (R16)

A zone is in none of a program's sets, or in its request and in exactly one of the granted, the held and the waiting set. -/

/-- A program's part in a zone; `unsound` stands for bits that R16 does not admit. -/
inductive Claim where
  | none | granted | held | waiting | unsound
  deriving DecidableEq

def Program.claim (g : Program) (z : Zone) : Claim :=
  match g.requested.getLsbD z.val, g.granted.getLsbD z.val, g.held.getLsbD z.val, g.waiting.getLsbD z.val with
  | false, false, false, false => .none
  | true, true, false, false => .granted
  | true, false, true, false => .held
  | true, false, false, true => .waiting
  | _, _, _, _ => .unsound

theorem Program.bits_of_claim {g : Program} {z : Zone} (h : g.claim z ≠ .unsound) :
    g.requested.getLsbD z.val = decide (g.claim z ≠ .none) ∧ g.granted.getLsbD z.val = decide (g.claim z = .granted) ∧
    g.held.getLsbD z.val = decide (g.claim z = .held) ∧ g.waiting.getLsbD z.val = decide (g.claim z = .waiting) := by
  revert h
  unfold Program.claim
  cases g.requested.getLsbD z.val <;> cases g.granted.getLsbD z.val <;> cases g.held.getLsbD z.val <;>
    cases g.waiting.getLsbD z.val <;> simp

theorem Program.claim_congr {g k : Program} (hr : k.requested = g.requested) (hg : k.granted = g.granted) (hh : k.held = g.held)
    (hw : k.waiting = g.waiting) : k.claim = g.claim := by
  funext z; simp only [Program.claim, hr, hg, hh, hw]

theorem Program.claim_addGranted (g : Program) (z y : Zone) :
    (g.addGranted z).claim y = if z = y then .granted else g.claim y := by
  unfold Program.claim Program.addGranted
  by_cases h : z = y <;> simp [-BitVec.getLsbD_eq_getElem, h]

theorem Program.claim_without (g : Program) (zs : ZoneSet) (y : Zone) :
    (g.without zs).claim y = if zs.getLsbD y.val then .none else g.claim y := by
  unfold Program.claim Program.without
  cases h : zs.getLsbD y.val <;> simp [-BitVec.getLsbD_eq_getElem, h]

theorem Program.claim_suspend {g : Program} {z : Zone} (h : g.claim z = .granted) (y : Zone) :
    (g.suspend z).claim y = if z = y then .held else g.claim y := by
  by_cases e : z = y
  · subst e
    obtain ⟨hr, hg, hh, hw⟩ := Program.bits_of_claim (g := g) (z := z) (by simp [h])
    unfold Program.claim Program.suspend
    simp [-BitVec.getLsbD_eq_getElem, hr, hw, h]
  · unfold Program.claim Program.suspend
    simp [-BitVec.getLsbD_eq_getElem, e]

theorem Program.claim_addWaiting {g : Program} {z : Zone} (h : g.claim z = .none ∨ g.claim z = .waiting) (y : Zone) :
    (g.addWaiting z).claim y = if z = y then .waiting else g.claim y := by
  by_cases e : z = y
  · subst e
    obtain ⟨hr, hg, hh, hw⟩ := Program.bits_of_claim (g := g) (z := z) (by rcases h with h | h <;> simp [h])
    unfold Program.claim Program.addWaiting
    rcases h with h | h <;> simp [-BitVec.getLsbD_eq_getElem, hg, hh, h]
  · unfold Program.claim Program.addWaiting
    simp [-BitVec.getLsbD_eq_getElem, e]

theorem Program.claim_finished (g : Program) (why : EndReason) (y : Zone) : (g.finished why).claim y = .none := by
  simp [Program.claim, Program.finished]

/-! ### The claims on one zone

A zone's owner, hold stack and bed slot with every program's part in it, and the laws they keep (R16, R24, R27, R48). Each
operation of the claim manager is a change of one such cell. -/

@[ext] structure Cell where
  owner : Option ProgId
  stack : List ProgId
  bed : Option ProgId
  excluded : Bool
  claim : ProgId → Claim

/-- What a program's record says of it that the claims depend on. -/
structure Roles where
  kind : ProgId → ProgKind
  cls : ProgId → Nat
  isOpen : ProgId → Bool
  tail : ProgId → Bool

/-- TAIL is for LIVE programs, and class 0 for the two alarm programs (R18, R44, R77). -/
structure Roles.Lawful (r : Roles) : Prop where
  tail_live : ∀ p, r.tail p = true → r.kind p = .live
  class_zero : ∀ p, r.isOpen p = true → (r.cls p = 0 ↔ p.val < 2)
  alarm : ∀ p, p.val < 2 → r.isOpen p = true → r.kind p = .alarm

/-- The laws of one zone. `pend` says that the zone's turn in a release step is to come, until when it may stand without owner
though programs are held or wait there. -/
structure CellOk (r : Roles) (pend : Prop) (c : Cell) : Prop where
  sound : ∀ p, c.claim p ≠ .unsound
  granted : ∀ p, c.claim p = .granted ↔ if r.kind p = .bed then c.bed = some p else c.owner = some p
  held : ∀ p, c.claim p = .held ↔ p ∈ c.stack
  nodup : c.stack.Nodup
  depth : c.stack.length ≤ 3
  rising : (c.owner.toList ++ c.stack).Pairwise fun a b => r.cls a ≤ r.cls b
  ownerKind : ∀ o, c.owner = some o → r.kind o ≠ .bed
  stackKind : ∀ q ∈ c.stack, (r.kind q).resumable = true
  bedKind : ∀ b, c.bed = some b → r.kind b = .bed
  closed : ∀ p, c.claim p ≠ .none → r.isOpen p = true
  tail : ∀ p, r.tail p = true → c.claim p = .none ∨ c.claim p = .granted
  excluded : c.excluded = true → c.owner = none ∧ c.bed = none ∧ ∀ p, c.claim p = .none
  vacant : c.owner = none → c.stack = [] ∨ pend
  first : c.claim 0 ≠ .held ∧ c.claim 0 ≠ .waiting
  second : c.claim 1 = .waiting → c.owner = some 0 ∨ (c.owner = none ∧ pend)

section Cells
variable {r : Roles} {pend : Prop} {c : Cell} {p : ProgId}

theorem CellOk.claim_owner (h : CellOk r pend c) {o : ProgId} (ho : c.owner = some o) : c.claim o = .granted := by
  rw [h.granted, if_neg (h.ownerKind o ho)]; exact ho

theorem CellOk.owner_of_granted (h : CellOk r pend c) (hk : r.kind p ≠ .bed) (hp : c.claim p = .granted) : c.owner = some p := by
  rwa [h.granted, if_neg hk] at hp

theorem CellOk.stack_not_bed (h : CellOk r pend c) {q : ProgId} (hq : q ∈ c.stack) : r.kind q ≠ .bed := fun e => by
  simpa [e, ProgKind.resumable] using h.stackKind q hq

theorem CellOk.owner_not_held (h : CellOk r pend c) {o : ProgId} (ho : c.owner = some o) : o ∉ c.stack := fun hm => by
  have := (h.held o).mpr hm
  rw [h.claim_owner ho] at this
  cases this

theorem CellOk.owner_open (h : CellOk r pend c) {o : ProgId} (ho : c.owner = some o) : r.isOpen o = true :=
  h.closed o (by rw [h.claim_owner ho]; decide)

theorem CellOk.held_open (h : CellOk r pend c) {q : ProgId} (hq : q ∈ c.stack) : r.isOpen q = true :=
  h.closed q (by rw [(h.held q).mpr hq]; decide)

/-- Weakening: fewer zones of the release step are to come, or the zone has an owner. -/
theorem CellOk.of_pend {pend' : Prop} (h : CellOk r pend c) (hp : c.owner = none → pend → pend' ) : CellOk r pend' c :=
  { h with
    vacant := fun ho => (h.vacant ho).imp_right (hp ho)
    second := fun hw => (h.second hw).imp_right fun ⟨ho, he⟩ => ⟨ho, hp ho he⟩ }

/-- One program's part changed. -/
def Cell.set (c : Cell) (p : ProgId) (x : Claim) : Cell := { c with claim := fun q => if p = q then x else c.claim q }

/-- The program becomes the owner of a zone without one (R28, R34). -/
def Cell.own (c : Cell) (p : ProgId) : Cell := { c.set p .granted with owner := some p }

theorem CellOk.own (h : CellOk r pend c) (hk : r.kind p ≠ .bed) (hp : r.isOpen p = true) (hx : c.excluded = false)
    (ho : c.owner = none) (hh : p ∉ c.stack) (hs : ∀ t ∈ c.stack, r.cls p ≤ r.cls t) (hw : c.claim 1 = .waiting → p.val < 2)
    (pend' : Prop) : CellOk r pend' (c.own p) where
  sound q := by
    simp only [Cell.own, Cell.set]
    split
    · decide
    · exact h.sound q
  granted q := by
    simp only [Cell.own, Cell.set]
    by_cases e : p = q
    · subst e; simp [hk]
    · simp only [e, if_false, h.granted q, ho, Option.some.injEq]
      simp
  held q := by
    simp only [Cell.own, Cell.set]
    by_cases e : p = q
    · subst e; simp [hh]
    · simp [e, h.held q]
  nodup := h.nodup
  depth := h.depth
  rising := by
    have := h.rising
    simp only [ho, Option.toList_none, List.nil_append] at this
    simpa [Cell.own, Cell.set] using ⟨hs, this⟩
  ownerKind o e := by cases e; exact hk
  stackKind := h.stackKind
  bedKind := h.bedKind
  closed q := by
    simp only [Cell.own, Cell.set]
    split
    · next e => subst e; exact fun _ => hp
    · exact h.closed q
  tail q hq := by
    simp only [Cell.own, Cell.set]
    split
    · exact Or.inr rfl
    · exact h.tail q hq
  excluded e := by simp [Cell.own, Cell.set, hx] at e
  vacant e := by simp [Cell.own] at e
  first := by
    simp only [Cell.own, Cell.set]
    split
    · decide
    · exact h.first
  second := by
    simp only [Cell.own, Cell.set]
    split
    · intro e; cases e
    · next e =>
      intro hc
      have := hw hc
      exact Or.inl (congrArg some (Fin.ext (by have h1 : p.val ≠ 1 := fun h => e (Fin.ext h); simp; omega)))

/-- The top of the hold stack becomes the owner (R34). -/
def Cell.pop (c : Cell) (t : ProgId) (rest : List ProgId) : Cell := { c.set t .granted with owner := some t, stack := rest }

theorem CellOk.pop (h : CellOk r pend c) {t : ProgId} {rest : List ProgId} (ho : c.owner = none) (hs : c.stack = t :: rest)
    (hw : c.claim 1 ≠ .waiting) (pend' : Prop) : CellOk r pend' (c.pop t rest) := by
  have ht : t ∈ c.stack := by simp [hs]
  have hn : t ∉ rest ∧ rest.Nodup := by simpa [hs] using h.nodup
  have hr := h.rising
  simp only [ho, hs, Option.toList_none, List.nil_append] at hr
  refine
  { sound := fun q => ?_, granted := fun q => ?_, held := fun q => ?_, nodup := hn.2,
    depth := by have := h.depth; simp only [hs, List.length_cons] at this; simp only [Cell.pop]; omega
    rising := hr, ownerKind := fun o e => by cases e; exact h.stack_not_bed ht,
    stackKind := fun q hq => h.stackKind q (by rw [hs]; exact List.mem_cons_of_mem _ hq), bedKind := h.bedKind,
    closed := fun q => ?_, tail := fun q hq => ?_, excluded := fun e => ?_, vacant := fun e => ?_, first := ?_, second := ?_ }
  · simp only [Cell.pop, Cell.set]
    split
    · decide
    · exact h.sound q
  · simp only [Cell.pop, Cell.set]
    by_cases e : t = q
    · subst e; simp [h.stack_not_bed ht]
    · simp only [e, if_false, h.granted q, ho, Option.some.injEq]
      simp
  · simp only [Cell.pop, Cell.set]
    by_cases e : t = q
    · subst e; simp [hn.1]
    · have e' : q ≠ t := fun h => e h.symm
      simp [e, h.held q, hs, e']
  · simp only [Cell.pop, Cell.set]
    split
    · next e => subst e; exact fun _ => h.held_open ht
    · exact h.closed q
  · simp only [Cell.pop, Cell.set]
    split
    · exact Or.inr rfl
    · exact h.tail q hq
  · have := (h.excluded e).2.2 t
    rw [(h.held t).mpr ht] at this
    cases this
  · simp [Cell.pop] at e
  · simp only [Cell.pop, Cell.set]
    split
    · decide
    · exact h.first
  · simp only [Cell.pop, Cell.set]
    split
    · intro e; cases e
    · exact fun e => absurd e hw

/-- The program becomes the bed (R30). -/
def Cell.takeBed (c : Cell) (p : ProgId) : Cell := { c.set p .granted with bed := some p }

theorem CellOk.takeBed (h : CellOk r pend c) (hk : r.kind p = .bed) (hp : r.isOpen p = true)
    (hx : c.excluded = false) (hb : c.bed = none) : CellOk r pend (c.takeBed p) where
  sound q := by
    simp only [Cell.takeBed, Cell.set]
    split
    · decide
    · exact h.sound q
  granted q := by
    simp only [Cell.takeBed, Cell.set]
    by_cases e : p = q
    · subst e; simp [hk]
    · simp only [e, if_false, h.granted q, hb, Option.some.injEq]
      simp
  held q := by
    simp only [Cell.takeBed, Cell.set]
    by_cases e : p = q
    · subst e
      simp only [if_true, reduceCtorEq, false_iff]
      exact fun hm => h.stack_not_bed hm hk
    · simp [e, h.held q]
  nodup := h.nodup
  depth := h.depth
  rising := h.rising
  ownerKind := h.ownerKind
  stackKind := h.stackKind
  bedKind b e := by cases e; exact hk
  closed q := by
    simp only [Cell.takeBed, Cell.set]
    split
    · next e => subst e; exact fun _ => hp
    · exact h.closed q
  tail q hq := by
    simp only [Cell.takeBed, Cell.set]
    split
    · exact Or.inr rfl
    · exact h.tail q hq
  excluded e := by simp [Cell.takeBed, Cell.set, hx] at e
  vacant := h.vacant
  first := by
    simp only [Cell.takeBed, Cell.set]
    split
    · decide
    · exact h.first
  second := by
    simp only [Cell.takeBed, Cell.set]
    split
    · intro e; cases e
    · exact h.second

/-- The program waits for the zone (R26). -/
def Cell.wait (c : Cell) (p : ProgId) : Cell := c.set p .waiting

theorem CellOk.wait (h : CellOk r pend c) (hp : r.isOpen p = true) (ht : r.tail p = false) (hx : c.excluded = false)
    (hn : c.claim p = .none ∨ c.claim p = .waiting) (h0 : p ≠ 0) (h1 : p = 1 → c.owner = some 0) : CellOk r pend (c.wait p) := by
  have hg : c.claim p ≠ .granted ∧ c.claim p ≠ .held := by rcases hn with hn | hn <;> simp [hn]
  refine
  { h with
    sound := fun q => ?_, granted := fun q => ?_, held := fun q => ?_, closed := fun q => ?_, tail := fun q hq => ?_,
    excluded := fun e => ?_, first := ?_, second := ?_ }
  · simp only [Cell.wait, Cell.set]
    split
    · decide
    · exact h.sound q
  · refine Iff.trans ?_ (h.granted q)
    simp only [Cell.wait, Cell.set]
    by_cases e : p = q
    · subst e; simp [hg.1]
    · simp only [e, if_false]
  · rw [show (c.wait p).stack = c.stack from rfl, ← h.held q]
    simp only [Cell.wait, Cell.set]
    by_cases e : p = q
    · subst e; simp [hg.2]
    · simp only [e, if_false]
  · simp only [Cell.wait, Cell.set]
    split
    · next e => subst e; exact fun _ => hp
    · exact h.closed q
  · simp only [Cell.wait, Cell.set]
    split
    · next e => subst e; simp [ht] at hq
    · exact h.tail q hq
  · simp [Cell.wait, Cell.set, hx] at e
  · simp only [Cell.wait, Cell.set, h0, if_false]
    exact h.first
  · simp only [Cell.wait, Cell.set]
    split
    · next e => exact fun _ => Or.inl (h1 e)
    · exact h.second

/-- The bottom entry of the stack loses the zone (R29). -/
def Cell.evict (c : Cell) (b : ProgId) : Cell := { c.set b .none with stack := c.stack.dropLast }

theorem CellOk.evict (h : CellOk r pend c) {b : ProgId} (hb : c.stack.getLast? = some b) : CellOk r pend (c.evict b) := by
  obtain ⟨init, hinit⟩ : ∃ init, c.stack = init ++ [b] := List.getLast?_eq_some_iff.mp hb
  have hdrop : (c.evict b).stack = init := by simp [Cell.evict, hinit]
  have hmem (q : ProgId) : q ∈ c.stack ↔ q ∈ init ∨ q = b := by rw [hinit]; simp
  have hbs : b ∈ c.stack := (hmem b).mpr (Or.inr rfl)
  have hbi : b ∉ init ∧ init.Nodup := by
    have := h.nodup
    rw [hinit, List.nodup_append] at this
    exact ⟨fun hm => this.2.2 b hm b (by simp) rfl, this.1⟩
  have hsub : (c.evict b).stack.Sublist c.stack := by rw [hdrop, hinit]; exact List.sublist_append_left ..
  refine
  { h with
    sound := fun q => ?_, granted := fun q => ?_, held := fun q => ?_, nodup := h.nodup.sublist hsub
    depth := hsub.length_le.trans h.depth
    rising := h.rising.sublist ((List.Sublist.refl _).append hsub)
    stackKind := fun q hq => h.stackKind q (hsub.subset hq), closed := fun q => ?_, tail := fun q hq => ?_
    excluded := fun e => ?_, vacant := fun e => ?_, first := ?_, second := ?_ }
  · simp only [Cell.evict, Cell.set]
    split
    · decide
    · exact h.sound q
  · refine Iff.trans ?_ (h.granted q)
    simp only [Cell.evict, Cell.set]
    split
    · next e => subst e; simp [(h.held b).mpr hbs]
    · rfl
  · rw [hdrop]
    simp only [Cell.evict, Cell.set]
    by_cases e : b = q
    · subst e; simp [hbi.1]
    · have e' : q ≠ b := fun h => e h.symm
      simp [e, h.held q, hmem, e']
  · simp only [Cell.evict, Cell.set]
    split
    · exact fun e => absurd rfl e
    · exact h.closed q
  · simp only [Cell.evict, Cell.set]
    split
    · exact Or.inl rfl
    · exact h.tail q hq
  · have := (h.excluded e).2.2 b
    rw [(h.held b).mpr hbs] at this
    cases this
  · refine (h.vacant e).imp_left fun hs => ?_
    rw [hs] at hbs; cases hbs
  · simp only [Cell.evict, Cell.set]
    split
    · decide
    · exact h.first
  · simp only [Cell.evict, Cell.set]
    split
    · intro e; cases e
    · exact h.second

/-- The owner is suspended onto the stack (R28). -/
def Cell.push (c : Cell) (o : ProgId) : Cell := { c.set o .held with owner := none, stack := o :: c.stack }

theorem CellOk.push (h : CellOk r pend c) (hr : r.Lawful) {o : ProgId} (ho : c.owner = some o)
    (hk : (r.kind o).resumable = true) (hl : c.stack.length < 3) (h0 : o ≠ 0) : CellOk r True (c.push o) := by
  have hos := h.owner_not_held ho
  have hx : c.excluded = false := Bool.eq_false_iff.mpr fun e => by simp [(h.excluded e).1] at ho
  refine
  { sound := fun q => ?_, granted := fun q => ?_, held := fun q => ?_, nodup := List.nodup_cons.mpr ⟨hos, h.nodup⟩
    depth := hl, rising := by have := h.rising; rwa [ho] at this
    ownerKind := fun x e => by simp [Cell.push] at e
    stackKind := fun q hq => by
      rcases List.mem_cons.mp hq with e | hq
      · rw [e]; exact hk
      · exact h.stackKind q hq
    bedKind := h.bedKind, closed := fun q => ?_, tail := fun q hq => ?_, excluded := fun e => ?_
    vacant := fun _ => Or.inr trivial, first := ?_, second := ?_ }
  · simp only [Cell.push, Cell.set]
    split
    · decide
    · exact h.sound q
  · simp only [Cell.push, Cell.set]
    by_cases e : o = q
    · subst e; simp [h.ownerKind o ho]
    · simp [e, h.granted q, ho]
  · simp only [Cell.push, Cell.set]
    by_cases e : o = q
    · subst e; simp
    · have e' : q ≠ o := fun h => e h.symm
      simp [e, h.held q, e']
  · simp only [Cell.push, Cell.set]
    split
    · next e => subst e; exact fun _ => h.owner_open ho
    · exact h.closed q
  · simp only [Cell.push, Cell.set]
    split
    · next e => subst e; simp [hr.tail_live _ hq, ProgKind.resumable] at hk
    · exact h.tail q hq
  · simp [Cell.push, Cell.set, hx] at e
  · simp only [Cell.push, Cell.set, h0, if_false]
    exact h.first
  · simp only [Cell.push, Cell.set]
    split
    · intro e; cases e
    · exact fun _ => Or.inr (by simp)

/-- A program leaves the zone, its hold stack and its bed slot (R21, R43). -/
def Cell.strip (c : Cell) (p : ProgId) : Cell :=
  { c.set p .none with
    owner := if c.owner = some p then none else c.owner
    stack := c.stack.filter fun q => q != p
    bed := if c.bed = some p then none else c.bed }

/-- The record of a program that leaves may be closed with it. -/
theorem CellOk.strip (h : CellOk r pend c) (p : ProgId) {r' : Roles} (hk : r'.kind = r.kind) (hc : r'.cls = r.cls)
    (ho : ∀ q, q ≠ p → r'.isOpen q = r.isOpen q) (ht : ∀ q, r'.tail q = true → r.tail q = true) :
    CellOk r' (pend ∨ c.owner = some p) (c.strip p) := by
  have hsub : (c.stack.filter fun q => q != p).Sublist c.stack := List.filter_sublist
  have howner : (if c.owner = some p then none else c.owner).toList.Sublist c.owner.toList := by
    split
    · exact List.nil_sublist _
    · exact List.Sublist.refl _
  refine
  { sound := fun q => ?_, granted := fun q => ?_, held := fun q => ?_, nodup := h.nodup.filter _
    depth := hsub.length_le.trans h.depth, rising := ?_, ownerKind := fun o e => ?_
    stackKind := fun q hq => by rw [hk]; exact h.stackKind q (hsub.subset hq), bedKind := fun b e => ?_, closed := fun q => ?_
    tail := fun q hq => ?_, excluded := fun e => ?_, vacant := fun e => ?_, first := ?_, second := ?_ }
  · simp only [Cell.strip, Cell.set]
    split
    · decide
    · exact h.sound q
  · simp only [Cell.strip, Cell.set, hk]
    by_cases e : p = q
    · subst e
      simp only [if_true, reduceCtorEq, false_iff]
      split <;> split <;> simp_all
    · rw [if_neg e, h.granted q]
      split
      · split
        · next hb => simp [hb, e]
        · rfl
      · split
        · next hb => simp [hb, e]
        · rfl
  · simp only [Cell.strip, Cell.set]
    by_cases e : p = q
    · subst e; simp
    · have e' : q ≠ p := fun h => e h.symm
      simp [e, h.held q, e']
  · rw [hc]; exact h.rising.sublist (howner.append hsub)
  · rw [hk]
    simp only [Cell.strip] at e
    split at e
    · cases e
    · exact h.ownerKind o e
  · rw [hk]
    simp only [Cell.strip] at e
    split at e
    · cases e
    · exact h.bedKind b e
  · simp only [Cell.strip, Cell.set]
    split
    · exact fun e => absurd rfl e
    · next e => rw [ho q fun h => e h.symm]; exact h.closed q
  · simp only [Cell.strip, Cell.set]
    split
    · exact Or.inl rfl
    · exact h.tail q (ht q hq)
  · obtain ⟨h1, h2, h3⟩ := h.excluded e
    refine ⟨by simp [Cell.strip, h1], by simp [Cell.strip, h2], fun q => ?_⟩
    simp only [Cell.strip, Cell.set]
    split
    · rfl
    · exact h3 q
  · simp only [Cell.strip] at e ⊢
    split at e
    · next he => exact Or.inr (Or.inr he)
    · exact (h.vacant e).imp (fun hs => by simp [hs]) Or.inl
  · simp only [Cell.strip, Cell.set]
    split
    · decide
    · exact h.first
  · simp only [Cell.strip, Cell.set]
    split
    · intro e; cases e
    · intro e
      rcases h.second e with h0 | ⟨h0, hp⟩
      · by_cases hp : c.owner = some p
        · exact Or.inr ⟨by simp [hp], Or.inr hp⟩
        · exact Or.inl (by simp [h0]; rintro rfl; exact hp h0)
      · exact Or.inr ⟨by simp [h0], Or.inl hp⟩

/-- The owner of the zone gives way: it is pushed onto the stack, from which a fourth entry is evicted, or it loses the zone
(R28, R29). -/
def Cell.displace (c : Cell) (r : Roles) (o : ProgId) : Cell :=
  if (r.kind o).resumable then
    match (if 3 ≤ c.stack.length then c.stack.getLast? else none) with
    | none => c.push o
    | some b => (c.evict b).push o
  else { c.set o .none with owner := none }

theorem CellOk.displace (h : CellOk r pend c) (hr : r.Lawful) {o : ProgId} (ho : c.owner = some o) (h0 : o ≠ 0) :
    CellOk r True (c.displace r o) := by
  unfold Cell.displace
  split
  · next hk =>
    split
    · next hfull =>
      refine h.push hr ho hk (Nat.lt_of_not_le fun hge => ?_) h0
      rw [if_pos hge, List.getLast?_eq_none_iff] at hfull
      simp [hfull] at hge
    · next b hfull =>
      obtain ⟨hlen, hb⟩ : 3 ≤ c.stack.length ∧ c.stack.getLast? = some b := by
        split at hfull
        · exact ⟨‹_›, hfull⟩
        · cases hfull
      refine (h.evict hb).push hr ho hk ?_ h0
      have := h.depth
      simp only [Cell.evict, List.length_dropLast]
      omega
  · have hs : c.strip o = { c.set o .none with owner := none } := by
      have hf : (c.stack.filter fun q => q != o) = c.stack :=
        List.filter_eq_self.mpr fun q hq => by
          have : q ≠ o := fun e => h.owner_not_held ho (e ▸ hq)
          simpa using this
      have hb : c.bed ≠ some o := fun hb => h.ownerKind o ho (h.bedKind o hb)
      simp [Cell.strip, Cell.set, ho, hf, hb]
    rw [← hs]
    exact (h.strip o rfl rfl (fun _ _ => rfl) fun _ e => e).of_pend fun _ _ => trivial

theorem Cell.mem_displace_stack {r : Roles} {c : Cell} {o q : ProgId} (h : q ∈ (c.displace r o).stack) : q = o ∨ q ∈ c.stack := by
  unfold Cell.displace at h
  split at h
  · split at h
    · simpa [Cell.push] using h
    · rcases List.mem_cons.mp h with h | h
      · exact Or.inl h
      · exact Or.inr (List.dropLast_subset _ h)
  · exact Or.inr h

theorem Cell.displace_owner (c : Cell) (r : Roles) (o : ProgId) : (c.displace r o).owner = none := by
  unfold Cell.displace; (repeat' split) <;> rfl

theorem Cell.displace_claim (c : Cell) (r : Roles) (o q : ProgId) :
    (c.displace r o).claim q = c.claim q ∨ (c.displace r o).claim q = .none ∨ (c.displace r o).claim q = .held := by
  unfold Cell.displace
  split
  · split <;> simp only [Cell.push, Cell.evict, Cell.set] <;> (repeat' split) <;> simp
  · simp only [Cell.set]; split <;> simp

theorem Cell.displace_excluded (c : Cell) (r : Roles) (o : ProgId) : (c.displace r o).excluded = c.excluded := by
  unfold Cell.displace; (repeat' split) <;> rfl

/-- A passing program takes the zone from its owner (R28). -/
theorem CellOk.takeFrom (h : CellOk r pend c) (hr : r.Lawful) (hk : r.kind p ≠ .bed) (hp : r.isOpen p = true) {o : ProgId}
    (ho : c.owner = some o) (hh : p ∉ c.stack) (hpo : p ≠ o) (hc : r.cls p ≤ r.cls o) (h0 : o ≠ 0) (pend' : Prop) :
    CellOk r pend' ((c.displace r o).own p) := by
  have hx : c.excluded = false := Bool.eq_false_iff.mpr fun e => by simp [(h.excluded e).1] at ho
  have hrise : ∀ q ∈ c.stack, r.cls o ≤ r.cls q := by
    have := h.rising
    simp only [ho, Option.toList_some, List.singleton_append, List.pairwise_cons] at this
    exact this.1
  refine (h.displace hr ho h0).own hk hp ((c.displace_excluded r o).trans hx) (c.displace_owner r o) (fun hm => ?_)
    (fun t ht => ?_) (fun hw => ?_) pend'
  · rcases Cell.mem_displace_stack hm with e | hm
    · exact hpo e
    · exact hh hm
  · rcases Cell.mem_displace_stack ht with e | ht
    · rw [e]; exact hc
    · exact hc.trans (hrise t ht)
  · have h1 : c.claim 1 = .waiting := by
      rcases c.displace_claim r o 1 with e | e | e <;> rw [e] at hw
      · exact hw
      · cases hw
      · cases hw
    rcases h.second h1 with e | ⟨e, -⟩ <;> rw [ho] at e <;> cases e
    exact absurd rfl h0

end Cells

end Sys2Proof.Machine
end

section
namespace Sys2Proof

/-- A table read after one record has been changed, by the names of the records. -/
theorem getElem_adjust_fin {α : Type} {n : Nat} (v : Vector α n) (i j : Fin n) (f : α → α) :
    (adjust v i f)[j.val] = if i = j then f v[j.val] else v[j.val] := by
  rw [getElem_adjust]
  simp only [Fin.ext_iff]

theorem remap_adjust {α : Type} {n : Nat} (g : α → α) (v : Vector α n) (i : Fin n) {f : α → α} (h : ∀ a, g (f a) = g a) :
    remap (adjust v i f) (fun _ a => g a) = remap v fun _ a => g a := by
  apply table_ext
  intro j
  simp only [getElem_remap, getElem_adjust_fin]
  split
  · exact h _
  · rfl

theorem remap_remap {α : Type} {n : Nat} (g : α → α) (v : Vector α n) {f : Fin n → α → α} (h : ∀ i a, g (f i a) = g a) :
    remap (remap v f) (fun _ a => g a) = remap v fun _ a => g a := by
  apply table_ext
  intro j
  simp only [getElem_remap, h]

end Sys2Proof

namespace Sys2Proof.Machine

/-! ### What taking and releasing zones leaves alone

Taking a zone changes the zone sets of the programs, the zone's owner, hold stack and bed slot, and through a report to the cue
engine that engine's state and the show channels. The rest of the state stays. -/

/-- A channel's user and clip. -/
def Channel.binding (c : Channel) : Channel := { Channel.reset c.user with clip := c.clip }

/-- The cue engine without what a takeover changes in it (R181). -/
def CueEngine.unheld (c : CueEngine) : CueEngine := { c with state := .empty, ret := none, countdown := none, holdPending := false }

/-- A zone without the claims on it. -/
def ZoneRec.unclaimed (r : ZoneRec) : ZoneRec := { r with owner := none, stack := [], bed := none }

/-- The state without what taking and releasing zones changes. -/
def State.beyond (s : State) : State :=
  { s with ports := Vector.replicate 4 PortCtl.reset, progs := remap s.progs fun _ g => g.bare
           zones := remap s.zones fun _ r => r.unclaimed, chans := remap s.chans fun _ c => c.binding, cue := s.cue.unheld }

@[simp] theorem Channel.gatePause_binding (c : Channel) : c.gatePause.binding = c.binding := by
  unfold Channel.gatePause; split <;> rfl

@[simp] theorem Channel.gateContinue_binding (c : Channel) : c.gateContinue.binding = c.binding := by
  unfold Channel.gateContinue; (repeat' split) <;> rfl

theorem State.bare_of_beyond {s u : State} (h : u.beyond = s.beyond) : u.bare = s.bare := by
  funext p
  have := congrArg (fun v : State => v.progs[p]) h
  simpa [State.beyond, State.bare] using this

theorem State.binding_of_beyond {s u : State} (h : u.beyond = s.beyond) (ch : ChanId) :
    u.chans[ch].user = s.chans[ch].user ∧ u.chans[ch].clip = s.chans[ch].clip := by
  have := congrArg (fun v : State => v.chans[ch]) h
  simp only [State.beyond, Fin.getElem_fin, getElem_remap] at this
  have hu := congrArg Channel.user this
  have hc := congrArg Channel.clip this
  exact ⟨hu, hc⟩

theorem State.unclaimed_of_beyond {s u : State} (h : u.beyond = s.beyond) (z : Zone) :
    u.zones[z].unclaimed = s.zones[z].unclaimed := by
  have := congrArg (fun v : State => v.zones[z]) h
  simpa [State.beyond] using this

theorem State.onProg_beyond (s : State) (p : ProgId) {f : Program → Program} (h : ∀ g, (f g).bare = g.bare) :
    (s.onProg p f).beyond = s.beyond := by
  simp only [State.beyond, State.onProg, remap_adjust Program.bare _ _ h]

theorem State.onZone_beyond (s : State) (z : Zone) {f : ZoneRec → ZoneRec} (h : ∀ r, (f r).unclaimed = r.unclaimed) :
    (s.onZone z f).beyond = s.beyond := by
  simp only [State.beyond, State.onZone, remap_adjust ZoneRec.unclaimed _ _ h]

theorem State.onZones_beyond (s : State) (zs : ZoneSet) {f : ZoneRec → ZoneRec} (h : ∀ r, (f r).unclaimed = r.unclaimed) :
    (s.onZones zs f).beyond = s.beyond := by
  simp only [State.beyond, State.onZones]
  rw [remap_remap ZoneRec.unclaimed]
  intro z r
  split
  · exact h r
  · rfl

@[simp] theorem State.raiseCue_beyond (s : State) (quiet : Bool) : (s.raiseCue quiet).beyond = s.beyond := by
  cases quiet <;> rfl

@[simp] theorem State.gateShow_beyond (s : State) (pause : Bool) : (s.gateShow pause).beyond = s.beyond := by
  simp only [State.beyond, State.gateShow]
  rw [remap_remap Channel.binding]
  intro ch c
  repeat' split
  all_goals simp

theorem State.onCue_beyond (s : State) {f : CueEngine → CueEngine} (h : (f s.cue).unheld = s.cue.unheld) :
    (s.onCue f).beyond = s.beyond := by
  simp only [State.beyond, State.onCue, h]

@[simp] theorem State.reportTakeover_beyond (s : State) (quiet : Bool) : (s.reportTakeover quiet).beyond = s.beyond := by
  unfold State.reportTakeover State.enterHeld
  split
  all_goals try rfl
  all_goals try rw [State.raiseCue_beyond, State.gateShow_beyond]
  all_goals exact State.onCue_beyond _ rfl

/-! ### The change each operation makes of the program and of the zone it works on (R28, R29, R30, R34) -/

@[simp] theorem State.reportTakeover_progs (s : State) (quiet : Bool) : (s.reportTakeover quiet).progs = s.progs :=
  State.progs_of_claims (State.reportTakeover_claims ..)

@[simp] theorem State.reportTakeover_zones (s : State) (quiet : Bool) : (s.reportTakeover quiet).zones = s.zones := by
  unfold State.reportTakeover State.enterHeld; split <;> simp

theorem State.own_zones (s : State) (p : ProgId) (z : Zone) :
    (s.own p z).zones = adjust s.zones z fun r => { r with owner := some p } := rfl

theorem State.own_progs (s : State) (p : ProgId) (z : Zone) : (s.own p z).progs = adjust s.progs p fun g => g.addGranted z := rfl

theorem State.takeBed_zones (s : State) (p : ProgId) (z : Zone) :
    (s.takeBed p z).zones = adjust s.zones z fun r => { r with bed := some p } := rfl

theorem State.takeBed_progs (s : State) (p : ProgId) (z : Zone) :
    (s.takeBed p z).progs = adjust s.progs p fun g => g.addGranted z := rfl

theorem State.popStack_of_cons {s : State} {z : Zone} {t : ProgId} {rest : List ProgId} (h : s.zones[z].stack = t :: rest) :
    s.popStack z = (s.onZone z fun r => { r with owner := some t, stack := rest }).onProg t fun g => g.addGranted z := by
  unfold State.popStack; rw [h]

theorem ZoneRec.evicted_eq (r : ZoneRec) : r.evicted = if 3 ≤ r.stack.length then r.stack.getLast? else none := rfl

theorem ZoneRec.evicted_isSome (r : ZoneRec) : r.evicted.isSome = decide (3 ≤ r.stack.length) := by
  rw [ZoneRec.evicted_eq]
  split
  · next h => cases hs : r.stack <;> simp_all
  · next h => simp [h]

/-- A zone whose owner `o` has been displaced, before the taker's name stands in it. -/
def ZoneRec.displaced (r : ZoneRec) (resumes : Bool) (o : ProgId) : ZoneRec :=
  if resumes then { r with stack := o :: if 3 ≤ r.stack.length then r.stack.dropLast else r.stack } else r

theorem State.displace_zones (s : State) (o : ProgId) (z : Zone) :
    (s.displace o z).zones = adjust s.zones z fun r => r.displaced s.progs[o].kind.resumable o := by
  unfold State.displace ZoneRec.displaced
  cases hk : s.progs[o].kind.resumable
  · rw [if_neg (by simp)]
    exact (adjust_id _ _ _ rfl).symm
  · rw [if_pos rfl, ZoneRec.evicted_isSome]
    by_cases hl : 3 ≤ s.zones[z].stack.length
    · rw [if_pos (by simpa using hl)]
      unfold State.evict
      cases hb : s.zones[z].stack.getLast? with
      | none =>
        have he : s.zones[z.val].stack = [] := List.getLast?_eq_none_iff.mp hb
        simp [he] at hl
      | some b =>
        simp only [State.onProg_zones, State.onZone_zones, adjust_adjust]
        apply table_ext
        intro y
        simp only [getElem_adjust_fin]
        split
        · next e =>
          subst e
          rw [if_pos (show 3 ≤ s.zones[z.val].stack.length from hl)]
          rfl
        · rfl
    · rw [if_neg (by simpa using hl)]
      simp only [State.onProg_zones, State.onZone_zones]
      apply table_ext
      intro y
      simp only [getElem_adjust_fin]
      split
      · next e =>
        subst e
        rw [if_neg (show ¬3 ≤ s.zones[z.val].stack.length from hl)]
        rfl
      · rfl

/-- The record of program `q` once owner `o` of the zone has been displaced. -/
def State.ousted (s : State) (o : ProgId) (z : Zone) (q : ProgId) : Program :=
  if s.progs[o].kind.resumable then
    let g := if s.zones[z].evicted = some q then s.progs[q].without (zoneBit z) else s.progs[q]
    if o = q then g.suspend z else g
  else if o = q then s.progs[q].without (zoneBit z) else s.progs[q]

theorem State.displace_progs (s : State) (o : ProgId) (z : Zone) (q : ProgId) :
    (s.displace o z).progs[q.val] = s.ousted o z q := by
  unfold State.displace State.ousted
  cases hk : s.progs[o].kind.resumable
  · simp [getElem_adjust_fin]
  · rw [if_pos rfl, if_pos rfl, ZoneRec.evicted_isSome]
    by_cases hl : 3 ≤ s.zones[z].stack.length
    · rw [if_pos (by simpa using hl), ZoneRec.evicted_eq, if_pos hl]
      unfold State.evict
      cases hb : s.zones[z].stack.getLast? with
      | none =>
        have he : s.zones[z.val].stack = [] := List.getLast?_eq_none_iff.mp hb
        simp [he] at hl
      | some b => simp only [State.onProg_progs, State.onZone_progs, getElem_adjust_fin, Fin.getElem_fin, Option.some.injEq]
    · rw [if_neg (by simpa using hl), ZoneRec.evicted_eq, if_neg hl]
      simp [getElem_adjust_fin]

theorem State.takeForeground_of_unowned {s : State} {z : Zone} (h : s.zones[z].owner = none) (quiet : Bool) (p : ProgId) :
    s.takeForeground quiet p z = s.own p z := by
  unfold State.takeForeground; rw [h]

theorem State.takeForeground_zones {s : State} {z : Zone} {o : ProgId} (h : s.zones[z].owner = some o) (quiet : Bool) (p : ProgId) :
    (s.takeForeground quiet p z).zones =
      adjust s.zones z fun r => { r.displaced s.progs[o].kind.resumable o with owner := some p } := by
  have : (s.takeForeground quiet p z).zones = ((s.displace o z).own p z).zones := by
    unfold State.takeForeground
    rw [h]
    simp only
    split <;> simp
  rw [this, State.own_zones, State.displace_zones, adjust_adjust]

theorem State.takeForeground_progs {s : State} {z : Zone} {o : ProgId} (h : s.zones[z].owner = some o) (quiet : Bool)
    (p q : ProgId) :
    (s.takeForeground quiet p z).progs[q.val] = if p = q then (s.ousted o z q).addGranted z else s.ousted o z q := by
  have : (s.takeForeground quiet p z).progs = ((s.displace o z).own p z).progs := by
    unfold State.takeForeground
    rw [h]
    simp only
    split <;> simp
  rw [this, State.own_progs, getElem_adjust_fin, State.displace_progs]

@[simp] theorem State.own_beyond (s : State) (p : ProgId) (z : Zone) : (s.own p z).beyond = s.beyond := by
  rw [State.own, State.onProg_beyond, State.onZone_beyond] <;> exact fun _ => rfl

@[simp] theorem State.takeBed_beyond (s : State) (p : ProgId) (z : Zone) : (s.takeBed p z).beyond = s.beyond := by
  rw [State.takeBed, State.onProg_beyond, State.onZone_beyond] <;> exact fun _ => rfl

@[simp] theorem State.evict_beyond (s : State) (z : Zone) : (s.evict z).beyond = s.beyond := by
  unfold State.evict
  split
  · rfl
  · rw [State.onProg_beyond, State.onZone_beyond] <;> exact fun _ => rfl

@[simp] theorem State.displace_beyond (s : State) (o : ProgId) (z : Zone) : (s.displace o z).beyond = s.beyond := by
  unfold State.displace
  split
  · rw [State.onProg_beyond _ _ (f := fun g => g.suspend z) (fun _ => rfl),
      State.onZone_beyond _ _ (f := fun r => { r with stack := o :: r.stack }) (fun _ => rfl)]
    split <;> simp
  · rw [State.onProg_beyond]; exact fun _ => rfl

@[simp] theorem State.takeForeground_beyond (s : State) (quiet : Bool) (p : ProgId) (z : Zone) :
    (s.takeForeground quiet p z).beyond = s.beyond := by
  unfold State.takeForeground; simp only; (repeat' split) <;> simp

@[simp] theorem State.take_beyond (s : State) (quiet : Bool) (p : ProgId) (z : Zone) :
    (s.take quiet p z).beyond = s.beyond := by
  unfold State.take; split <;> simp

@[simp] theorem State.claimOne_beyond (s : State) (quiet : Bool) (p : ProgId) (z : Zone) :
    (s.claimOne quiet p z).beyond = s.beyond := by
  unfold State.claimOne
  repeat' split
  · rfl
  · simp
  · rw [State.onProg_beyond]; exact fun _ => rfl

@[simp] theorem State.claimEach_beyond (s : State) (quiet : Bool) (p : ProgId) (zs : ZoneSet) :
    (s.claimEach quiet p zs).beyond = s.beyond :=
  foldl_view State.beyond (fun s z => s.claimOne_beyond quiet p z) _ s

@[simp] theorem State.takeAll_beyond (s : State) (quiet : Bool) (p : ProgId) (zs : ZoneSet) :
    (s.takeAll quiet p zs).beyond = s.beyond := by
  rw [State.takeAll, foldl_view State.beyond (fun s z => s.take_beyond quiet p z), State.onProg_beyond]
  exact fun _ => rfl

@[simp] theorem State.claimTogether_beyond (s : State) (quiet : Bool) (p : ProgId) (zs : ZoneSet) :
    (s.claimTogether quiet p zs).beyond = s.beyond := by
  unfold State.claimTogether
  split
  · simp
  · rw [State.onProg_beyond]; exact fun _ => rfl

@[simp] theorem State.claimMore_beyond (s : State) (quiet : Bool) (p : ProgId) (zs : ZoneSet) :
    (s.claimMore quiet p zs).beyond = s.beyond := by
  unfold State.claimMore; simp only; split <;> simp

@[simp] theorem State.grantWaiter_beyond (s : State) (quiet : Bool) (w : ProgId) (z : Zone) :
    (s.grantWaiter quiet w z).beyond = s.beyond := by
  unfold State.grantWaiter; split <;> simp

@[simp] theorem State.popStack_beyond (s : State) (z : Zone) : (s.popStack z).beyond = s.beyond := by
  unfold State.popStack
  split
  · rfl
  · rw [State.onProg_beyond, State.onZone_beyond] <;> exact fun _ => rfl

@[simp] theorem State.succeed_beyond (s : State) (quiet : Bool) (rs : ZoneSet) (z : Zone) :
    (s.succeed quiet rs z).beyond = s.beyond := by
  unfold State.succeed; (repeat' split) <;> simp

@[simp] theorem State.fillBed_beyond (s : State) (quiet : Bool) (z : Zone) : (s.fillBed quiet z).beyond = s.beyond := by
  unfold State.fillBed; (repeat' split) <;> simp

@[simp] theorem State.releaseZone_beyond (s : State) (quiet : Bool) (rs beds : ZoneSet) (z : Zone) :
    (s.releaseZone quiet rs beds z).beyond = s.beyond := by
  unfold State.releaseZone; simp only; (repeat' split) <;> simp

@[simp] theorem State.releaseStep_beyond (s : State) (quiet : Bool) (fg beds : ZoneSet) :
    (s.releaseStep quiet fg beds).beyond = s.beyond :=
  foldl_view State.beyond (fun s z => s.releaseZone_beyond quiet _ beds z) _ s

/-! ### Steps at one zone -/

/-- Whether a zone is in each of the four sets of a program. -/
def Program.bitsAt (g : Program) (z : Zone) : Bool × Bool × Bool × Bool :=
  (g.requested.getLsbD z.val, g.granted.getLsbD z.val, g.held.getLsbD z.val, g.waiting.getLsbD z.val)

theorem Program.claim_of_bitsAt {g k : Program} {z : Zone} (h : k.bitsAt z = g.bitsAt z) : k.claim z = g.claim z := by
  simp only [Program.bitsAt, Prod.mk.injEq] at h
  obtain ⟨hr, hg, hh, hw⟩ := h
  unfold Program.claim
  rw [hr, hg, hh, hw]

/-- What the operations on zone `z` leave: every other zone and every program's part in it, what lies beyond the claims, and
which programs have had their whole request. -/
structure State.StepAt (z : Zone) (s u : State) : Prop where
  beyond : u.beyond = s.beyond
  zones : ∀ y : Zone, y ≠ z → u.zones[y] = s.zones[y]
  bits : ∀ (y : Zone) (p : ProgId), y ≠ z → u.progs[p].bitsAt y = s.progs[p].bitsAt y
  gotAll : ∀ p : ProgId, u.progs[p].gotAll = s.progs[p].gotAll

theorem State.StepAt.claim {z : Zone} {s u : State} (h : State.StepAt z s u) (y : Zone) (p : ProgId) (hy : y ≠ z) :
    u.progs[p].claim y = s.progs[p].claim y :=
  Program.claim_of_bitsAt (h.bits y p hy)

theorem State.StepAt.refl (z : Zone) (s : State) : State.StepAt z s s := ⟨rfl, fun _ _ => rfl, fun _ _ _ => rfl, fun _ => rfl⟩

theorem Program.bitsAt_suspend_ne (g : Program) {z y : Zone} (h : y ≠ z) : (g.suspend z).bitsAt y = g.bitsAt y := by
  have e : z ≠ y := fun e => h e.symm
  simp [-BitVec.getLsbD_eq_getElem, Program.bitsAt, Program.suspend, e]

theorem Program.bitsAt_addWaiting_ne (g : Program) {z y : Zone} (h : y ≠ z) : (g.addWaiting z).bitsAt y = g.bitsAt y := by
  have e : z ≠ y := fun e => h e.symm
  simp [-BitVec.getLsbD_eq_getElem, Program.bitsAt, Program.addWaiting, e]

theorem Program.bitsAt_addGranted_ne (g : Program) {z y : Zone} (h : y ≠ z) : (g.addGranted z).bitsAt y = g.bitsAt y := by
  have e : z ≠ y := fun e => h e.symm
  simp [-BitVec.getLsbD_eq_getElem, Program.bitsAt, Program.addGranted, e]

theorem Program.bitsAt_withoutBit_ne (g : Program) {z y : Zone} (h : y ≠ z) :
    (g.without (zoneBit z)).bitsAt y = g.bitsAt y := by
  have e : z ≠ y := fun e => h e.symm
  simp [-BitVec.getLsbD_eq_getElem, Program.bitsAt, Program.without, e]

theorem Program.claim_withoutBit (g : Program) (z y : Zone) :
    (g.without (zoneBit z)).claim y = if z = y then .none else g.claim y := by
  rw [Program.claim_without, zoneBit_getLsbD]
  simp

theorem State.bitsAt_ousted_ne (s : State) (o : ProgId) {z y : Zone} (h : y ≠ z) (q : ProgId) :
    (s.ousted o z q).bitsAt y = s.progs[q].bitsAt y := by
  unfold State.ousted
  simp only
  repeat' split
  all_goals simp only [Program.bitsAt_suspend_ne _ h, Program.bitsAt_withoutBit_ne _ h]

theorem State.gotAll_ousted (s : State) (o : ProgId) (z : Zone) (q : ProgId) : (s.ousted o z q).gotAll = s.progs[q].gotAll := by
  unfold State.ousted; simp only; (repeat' split) <;> rfl

theorem State.own_stepAt (s : State) (p : ProgId) (z : Zone) : State.StepAt z s (s.own p z) where
  beyond := State.own_beyond ..
  zones y h := by simp only [State.own_zones, Fin.getElem_fin, getElem_adjust_fin, if_neg (Ne.symm h)]
  bits y q h := by
    simp only [State.own_progs, Fin.getElem_fin, getElem_adjust_fin]
    split
    · exact Program.bitsAt_addGranted_ne _ h
    · rfl
  gotAll q := by simp only [State.own_progs, Fin.getElem_fin, getElem_adjust_fin]; split <;> rfl

theorem State.takeBed_stepAt (s : State) (p : ProgId) (z : Zone) : State.StepAt z s (s.takeBed p z) where
  beyond := State.takeBed_beyond ..
  zones y h := by simp only [State.takeBed_zones, Fin.getElem_fin, getElem_adjust_fin, if_neg (Ne.symm h)]
  bits y q h := by
    simp only [State.takeBed_progs, Fin.getElem_fin, getElem_adjust_fin]
    split
    · exact Program.bitsAt_addGranted_ne _ h
    · rfl
  gotAll q := by simp only [State.takeBed_progs, Fin.getElem_fin, getElem_adjust_fin]; split <;> rfl

theorem State.takeForeground_stepAt (s : State) (quiet : Bool) (p : ProgId) (z : Zone) :
    State.StepAt z s (s.takeForeground quiet p z) := by
  cases ho : s.zones[z].owner with
  | none => rw [State.takeForeground_of_unowned ho]; exact s.own_stepAt p z
  | some o =>
    refine ⟨State.takeForeground_beyond .., fun y h => ?_, fun y q h => ?_, fun q => ?_⟩
    · rw [State.takeForeground_zones ho]
      simp only [Fin.getElem_fin, getElem_adjust_fin, if_neg (Ne.symm h)]
    · have := State.takeForeground_progs ho quiet p q
      simp only [Fin.getElem_fin] at this ⊢
      rw [this]
      split
      · rw [Program.bitsAt_addGranted_ne _ h]; exact s.bitsAt_ousted_ne o h q
      · exact s.bitsAt_ousted_ne o h q
    · have := State.takeForeground_progs ho quiet p q
      simp only [Fin.getElem_fin] at this ⊢
      rw [this]
      split
      · exact s.gotAll_ousted o z q
      · exact s.gotAll_ousted o z q

theorem State.take_stepAt (s : State) (quiet : Bool) (p : ProgId) (z : Zone) : State.StepAt z s (s.take quiet p z) := by
  unfold State.take
  split
  · exact s.takeBed_stepAt p z
  · exact s.takeForeground_stepAt quiet p z

theorem State.popStack_stepAt (s : State) (z : Zone) : State.StepAt z s (s.popStack z) := by
  cases hs : s.zones[z].stack with
  | nil =>
    have : s.popStack z = s := by unfold State.popStack; rw [hs]
    rw [this]; exact .refl z s
  | cons t rest =>
    refine ⟨State.popStack_beyond .., fun y h => ?_, fun y q h => ?_, fun q => ?_⟩
    all_goals
      rw [State.popStack_of_cons hs]
      simp only [State.onProg_zones, State.onZone_zones, State.onProg_progs, State.onZone_progs, Fin.getElem_fin,
        getElem_adjust_fin]
    · rw [if_neg (Ne.symm h)]
    · split
      · exact Program.bitsAt_addGranted_ne _ h
      · rfl
    · split <;> rfl

theorem State.addWaiting_stepAt (s : State) (p : ProgId) (z : Zone) : State.StepAt z s (s.onProg p fun g => g.addWaiting z) where
  beyond := by rw [State.onProg_beyond]; exact fun _ => rfl
  zones _ _ := rfl
  bits y q h := by
    simp only [State.onProg_progs, Fin.getElem_fin, getElem_adjust_fin]
    split
    · exact Program.bitsAt_addWaiting_ne _ h
    · rfl
  gotAll q := by simp only [State.onProg_progs, Fin.getElem_fin, getElem_adjust_fin]; split <;> rfl

end Sys2Proof.Machine
end

section
namespace Sys2Proof.Machine

/-! ### The claim table, zone by zone -/

/-- The claims on one zone. -/
def State.cell (s : State) (z : Zone) : Cell where
  owner := s.zones[z].owner
  stack := s.zones[z].stack
  bed := s.zones[z].bed
  excluded := s.zones[z].excluded
  claim p := s.progs[p].claim z

def State.roles (s : State) : Roles where
  kind p := s.progs[p].kind
  cls p := s.progs[p].cls
  isOpen p := s.progs[p].isOpen
  tail p := s.progs[p].state == .tail

@[simp] theorem State.cell_owner (s : State) (z : Zone) : (s.cell z).owner = s.zones[z.val].owner := rfl
@[simp] theorem State.cell_stack (s : State) (z : Zone) : (s.cell z).stack = s.zones[z.val].stack := rfl
@[simp] theorem State.cell_bed (s : State) (z : Zone) : (s.cell z).bed = s.zones[z.val].bed := rfl
@[simp] theorem State.cell_excluded (s : State) (z : Zone) : (s.cell z).excluded = s.zones[z.val].excluded := rfl
@[simp] theorem State.cell_claim (s : State) (z : Zone) (p : ProgId) : (s.cell z).claim p = s.progs[p.val].claim z := rfl
@[simp] theorem State.roles_kind (s : State) (p : ProgId) : s.roles.kind p = s.progs[p.val].kind := rfl
@[simp] theorem State.roles_cls (s : State) (p : ProgId) : s.roles.cls p = s.progs[p.val].cls := rfl
@[simp] theorem State.roles_isOpen (s : State) (p : ProgId) : s.roles.isOpen p = s.progs[p.val].isOpen := rfl
@[simp] theorem State.roles_tail (s : State) (p : ProgId) : s.roles.tail p = (s.progs[p.val].state == .tail) := rfl

theorem State.bare_apply {s u : State} (h : u.bare = s.bare) (p : ProgId) : u.progs[p.val].bare = s.progs[p.val].bare :=
  congrFun h p

theorem State.roles_of_bare {s u : State} (h : u.bare = s.bare) : u.roles = s.roles := by
  have hb (p : ProgId) := State.bare_apply h p
  have hk (p : ProgId) : u.progs[p.val].kind = s.progs[p.val].kind := (congrArg Program.kind (hb p) :)
  have hc (p : ProgId) : u.progs[p.val].cls = s.progs[p.val].cls := (congrArg Program.cls (hb p) :)
  have hs (p : ProgId) : u.progs[p.val].state = s.progs[p.val].state := (congrArg Program.state (hb p) :)
  simp only [State.roles, Program.isOpen, Fin.getElem_fin, hk, hc, hs]

theorem State.StepAt.cell {z y : Zone} {s u : State} (h : State.StepAt z s u) (hy : y ≠ z) : u.cell y = s.cell y := by
  simp only [State.cell, h.zones y hy, h.claim y _ hy]

theorem State.StepAt.roles {z : Zone} {s u : State} (h : State.StepAt z s u) : u.roles = s.roles :=
  State.roles_of_bare (State.bare_of_beyond h.beyond)

theorem State.together_of_bare {s u : State} (h : u.bare = s.bare) {p : ProgId}
    (hg : u.progs[p.val].gotAll = s.progs[p.val].gotAll) : u.progs[p.val].together = s.progs[p.val].together := by
  have : u.progs[p.val].policy = s.progs[p.val].policy := (congrArg Program.policy (State.bare_apply h p) :)
  simp only [Program.together, this, hg]

theorem State.StepAt.together {z : Zone} {s u : State} (h : State.StepAt z s u) (p : ProgId) :
    u.progs[p.val].together = s.progs[p.val].together :=
  State.together_of_bare (State.bare_of_beyond h.beyond) (h.gotAll p)

theorem State.StepAt.trans {z : Zone} {s u v : State} (h : State.StepAt z s u) (k : State.StepAt z u v) : State.StepAt z s v where
  beyond := k.beyond.trans h.beyond
  zones y hy := (k.zones y hy).trans (h.zones y hy)
  bits y p hy := (k.bits y p hy).trans (h.bits y p hy)
  gotAll p := (k.gotAll p).trans (h.gotAll p)

/-! The cell each operation leaves at its own zone. -/

theorem State.own_cell (s : State) (p : ProgId) (z : Zone) : (s.own p z).cell z = (s.cell z).own p := by
  refine Cell.ext ?_ ?_ ?_ ?_ (funext fun q => ?_)
  iterate 4 simp [State.own_zones, Cell.own, Cell.set]
  simp only [Cell.own, Cell.set, State.cell_claim, State.own_progs, getElem_adjust_fin]
  split
  · rw [Program.claim_addGranted, if_pos rfl]
  · rfl

theorem State.takeBed_cell (s : State) (p : ProgId) (z : Zone) : (s.takeBed p z).cell z = (s.cell z).takeBed p := by
  refine Cell.ext ?_ ?_ ?_ ?_ (funext fun q => ?_)
  iterate 4 simp [State.takeBed_zones, Cell.takeBed, Cell.set]
  simp only [Cell.takeBed, Cell.set, State.cell_claim, State.takeBed_progs, getElem_adjust_fin]
  split
  · rw [Program.claim_addGranted, if_pos rfl]
  · rfl

theorem State.popStack_cell {s : State} {z : Zone} {t : ProgId} {rest : List ProgId} (h : s.zones[z].stack = t :: rest) :
    (s.popStack z).cell z = (s.cell z).pop t rest := by
  rw [State.popStack_of_cons h]
  refine Cell.ext ?_ ?_ ?_ ?_ (funext fun q => ?_)
  iterate 4 simp [Cell.pop, Cell.set]
  simp only [Cell.pop, Cell.set, State.cell_claim, State.onProg_progs, State.onZone_progs, getElem_adjust_fin]
  split
  · rw [Program.claim_addGranted, if_pos rfl]
  · rfl

theorem State.addWaiting_cell {s : State} {p : ProgId} {z : Zone}
    (h : s.progs[p].claim z = .none ∨ s.progs[p].claim z = .waiting) :
    (s.onProg p fun g => g.addWaiting z).cell z = (s.cell z).wait p := by
  refine Cell.ext rfl rfl rfl rfl (funext fun q => ?_)
  simp only [Cell.wait, Cell.set, State.cell_claim, State.onProg_progs, getElem_adjust_fin]
  split
  · next e => subst e; exact (Program.claim_addWaiting h z).trans (if_pos rfl)
  · rfl

theorem State.claim_ousted {s : State} {o : ProgId} {z : Zone} (ho : s.progs[o].claim z = .granted)
    (hn : s.zones[z].evicted ≠ some o) (q : ProgId) :
    (s.ousted o z q).claim z = ((s.cell z).displace s.roles o).claim q := by
  unfold State.ousted Cell.displace
  by_cases hk : s.progs[o].kind.resumable = true
  case neg =>
    rw [if_neg hk, if_neg (show ¬(s.roles.kind o).resumable = true from hk)]
    simp only [Cell.set, State.cell_claim, Fin.getElem_fin]
    split
    · rw [Program.claim_withoutBit, if_pos rfl]
    · rfl
  case pos =>
    rw [if_pos hk, if_pos (show (s.roles.kind o).resumable = true from hk)]
    simp only [Fin.getElem_fin]
    have he : s.zones[z.val].evicted = if 3 ≤ (s.cell z).stack.length then (s.cell z).stack.getLast? else none := rfl
    rw [← he]
    cases hb : s.zones[z.val].evicted with
    | none =>
      simp only [Cell.push, Cell.set, State.cell_claim, reduceCtorEq, if_false]
      split
      · next e => subst e; exact (Program.claim_suspend ho z).trans (if_pos rfl)
      · rfl
    | some b =>
      have hbo : b ≠ o := fun e => hn (by rw [← e]; exact hb)
      simp only [Cell.push, Cell.evict, Cell.set, State.cell_claim, Option.some.injEq]
      by_cases e : o = q
      · subst e
        rw [if_pos rfl, if_neg hbo, if_pos rfl]
        exact (Program.claim_suspend ho z).trans (if_pos rfl)
      · rw [if_neg e, if_neg e]
        split
        · rw [Program.claim_withoutBit, if_pos rfl]
        · rfl

theorem Cell.displace_stack (c : Cell) (r : Roles) (o : ProgId) : (c.displace r o).stack =
    if (r.kind o).resumable then o :: (if 3 ≤ c.stack.length then c.stack.dropLast else c.stack) else c.stack := by
  unfold Cell.displace
  split
  · by_cases hl : 3 ≤ c.stack.length
    · rw [if_pos hl, if_pos hl]
      cases hb : c.stack.getLast? with
      | none => simp [List.getLast?_eq_none_iff.mp hb] at hl
      | some b => rfl
    · rw [if_neg hl, if_neg hl]; rfl
  · rfl

theorem Cell.displace_bed (c : Cell) (r : Roles) (o : ProgId) : (c.displace r o).bed = c.bed := by
  unfold Cell.displace; (repeat' split) <;> rfl

theorem ZoneRec.displaced_stack (r : ZoneRec) (b : Bool) (o : ProgId) : (r.displaced b o).stack =
    if b then o :: (if 3 ≤ r.stack.length then r.stack.dropLast else r.stack) else r.stack := by
  cases b <;> rfl

@[simp] theorem ZoneRec.displaced_bed (r : ZoneRec) (b : Bool) (o : ProgId) : (r.displaced b o).bed = r.bed := by
  cases b <;> rfl

@[simp] theorem ZoneRec.displaced_excluded (r : ZoneRec) (b : Bool) (o : ProgId) :
    (r.displaced b o).excluded = r.excluded := by
  cases b <;> rfl

theorem State.takeForeground_cell {s : State} {z : Zone} {o : ProgId} (h : s.zones[z].owner = some o)
    (ho : s.progs[o].claim z = .granted) (hn : s.zones[z].evicted ≠ some o) (quiet : Bool) (p : ProgId) :
    (s.takeForeground quiet p z).cell z = ((s.cell z).displace s.roles o).own p := by
  ext1
  · simp [State.takeForeground_zones h, Cell.own]
  · rw [State.cell_stack, State.takeForeground_zones h, getElem_adjust_self]
    exact (ZoneRec.displaced_stack ..).trans (Cell.displace_stack (s.cell z) s.roles o).symm
  · simp [State.takeForeground_zones h, Cell.own, Cell.set, Cell.displace_bed]
  · simp [State.takeForeground_zones h, Cell.own, Cell.set, Cell.displace_excluded]
  · funext q
    simp only [Cell.own, Cell.set, State.cell_claim, State.takeForeground_progs h]
    split
    · rw [Program.claim_addGranted, if_pos rfl]
    · exact State.claim_ousted ho hn q

/-! ### The laws of the claim table in the course of an operation -/

/-- The laws of the claim table. `pend z` says that zone `z` waits for its turn in a release step. -/
structure State.Table (s : State) (pend : Zone → Prop) : Prop where
  cell : ∀ z, CellOk s.roles (pend z) (s.cell z)
  roles : s.roles.Lawful
  whole : ∀ (p : ProgId) (z : Zone), s.progs[p].together = true →
    s.progs[p].claim z ≠ .granted ∧ s.progs[p].claim z ≠ .held
  alone : ∀ p : ProgId, p.val < 2 → s.progs[p].isOpen = true → s.progs[p].together = false
  listed : ∀ p : ProgId, p ∈ s.openOrder ↔ s.progs[p].state ≠ .free

section Tables
variable {s u : State} {pend pend' : Zone → Prop} {p : ProgId} {z : Zone}

theorem State.Table.mono (h : s.Table pend) (hp : ∀ z : Zone, s.zones[z].owner = none → pend z → pend' z) : s.Table pend' :=
  { h with cell := fun z => (h.cell z).of_pend (hp z) }

theorem State.openOrder_of_beyond (h : u.beyond = s.beyond) : u.openOrder = s.openOrder := (congrArg State.openOrder h :)

theorem State.state_of_bare (h : u.bare = s.bare) (p : ProgId) : u.progs[p.val].state = s.progs[p.val].state :=
  (congrArg Program.state (State.bare_apply h p) :)

/-- An operation on one zone keeps the table when it keeps that zone's laws and gives no zone to a program that takes its zones
together. -/
theorem State.Table.step (h : s.Table pend) (hs : State.StepAt z s u) (hz : CellOk s.roles (pend' z) (u.cell z))
    (hp : ∀ y, y ≠ z → pend y → pend' y)
    (hw : ∀ q, ((u.cell z).claim q = .granted ∨ (u.cell z).claim q = .held) →
      (s.cell z).claim q = .granted ∨ (s.cell z).claim q = .held ∨ s.progs[q].together = false) : u.Table pend' where
  cell y := by
    rw [hs.roles]
    by_cases e : y = z
    · subst e; exact hz
    · rw [hs.cell e]; exact (h.cell y).of_pend fun _ => hp y e
  roles := by rw [hs.roles]; exact h.roles
  whole q y ht := by
    have ht' : s.progs[q.val].together = true := (hs.together q).symm.trans ht
    by_cases e : y = z
    · subst e
      have hold := h.whole q y ht'
      have key : ¬((u.cell y).claim q = .granted ∨ (u.cell y).claim q = .held) := fun hc => by
        rcases hw q hc with hc | hc | hc
        · exact hold.1 hc
        · exact hold.2 hc
        · rw [show s.progs[q].together = s.progs[q.val].together from rfl, ht'] at hc; cases hc
      exact not_or.mp key
    · rw [hs.claim y q e]; exact h.whole q y ht'
  alone q hq ho := by
    have hr : u.roles.isOpen q = s.roles.isOpen q := by rw [hs.roles]
    exact (hs.together q).trans (h.alone q hq (hr.symm.trans ho))
  listed q := by
    rw [State.openOrder_of_beyond hs.beyond, h.listed q]
    exact not_congr (by rw [show u.progs[q].state = s.progs[q].state from State.state_of_bare (State.bare_of_beyond hs.beyond) q])

/-- A program may take a zone: it is open, does not take its zones together, has no part in the zone but perhaps waits for it,
and passes there, or the zone is free to be given to it (R26, R27, R30, R34). -/
structure State.MayTake (s : State) (p : ProgId) (z : Zone) : Prop where
  isOpen : s.progs[p].isOpen = true
  single : s.progs[p].together = false
  admitted : s.zones[z].excluded = false
  unclaimed : s.progs[p].claim z = .none ∨ s.progs[p].claim z = .waiting
  bed : s.progs[p].kind = .bed → s.zones[z].bed = none
  unowned : s.progs[p].kind ≠ .bed → s.zones[z].owner = none →
    (∀ t ∈ s.zones[z].stack, s.progs[p].cls ≤ s.progs[t].cls) ∧ (s.progs[(1 : ProgId)].claim z = .waiting → p.val < 2)
  owned : s.progs[p].kind ≠ .bed → ∀ o, s.zones[z].owner = some o → s.beats p o s.zones[z].shield = true

theorem State.MayTake.step {y : Zone} (h : s.MayTake p y) (hs : State.StepAt z s u) (hy : y ≠ z) : u.MayTake p y := by
  have hr := hs.roles
  have hk (q : ProgId) : u.progs[q].kind = s.progs[q].kind := congrFun (congrArg Roles.kind hr) q
  have hc (q : ProgId) : u.progs[q].cls = s.progs[q].cls := congrFun (congrArg Roles.cls hr) q
  have ho (q : ProgId) : u.progs[q].isOpen = s.progs[q].isOpen := congrFun (congrArg Roles.isOpen hr) q
  refine ⟨(ho p).trans h.isOpen, (hs.together p).trans h.single, ?_, ?_, ?_, ?_, ?_⟩
  · rw [hs.zones y hy]; exact h.admitted
  · rw [hs.claim y p hy]; exact h.unclaimed
  · rw [hs.zones y hy, hk]; exact h.bed
  · rw [hs.zones y hy, hk, hs.claim y 1 hy]
    simp only [hc]
    exact h.unowned
  · rw [hs.zones y hy, hk]
    unfold State.beats
    simp only [hc]
    exact h.owned

theorem State.MayTake.not_held (h : s.Table pend) (hm : s.MayTake p z) : p ∉ s.zones[z].stack := fun hp => by
  have := ((h.cell z).held p).mpr hp
  rcases hm.unclaimed with e | e <;> rw [State.cell_claim] at this <;> exact absurd (e.symm.trans this) (by decide)

/-- A program that another one beats is of class 0 only as program 1 under program 0 (R26, R27). -/
theorem State.Table.beaten (h : s.Table pend) {o : ProgId} {n : Nat} (hb : s.beats p o n = true) (ho : s.progs[o].isOpen = true) :
    s.progs[p].cls ≤ s.progs[o].cls ∧ o ≠ 0 := by
  rcases (State.beats_iff s p o n).mp hb with ⟨hp, ho', -, h1⟩ | ⟨hlt, -⟩
  · exact ⟨by rw [hp]; exact Nat.zero_le _, by rw [h1]; decide⟩
  · refine ⟨hlt.le, fun e => ?_⟩
    subst e
    have hz : s.progs[(0 : ProgId)].cls = 0 := (h.roles.class_zero 0 ho).mpr (by decide)
    rw [hz] at hlt
    exact absurd hlt (Nat.not_lt_zero _)

theorem State.Table.not_evicted (h : s.Table pend) {o : ProgId} (ho : s.zones[z].owner = some o) : s.zones[z].evicted ≠ some o := fun he => by
  rw [ZoneRec.evicted_eq] at he
  split at he
  · exact (h.cell z).owner_not_held ho (List.mem_of_getLast? he)
  · cases he

theorem State.Table.claim_of_take (h : s.Table pend) (hm : s.MayTake p z) {c : Cell} (hc : (∃ o, c = (s.cell z).displace s.roles o ∧
    s.zones[z].owner = some o) ∨ c = s.cell z) (q : ProgId)
    (hq : (c.own p).claim q = .granted ∨ (c.own p).claim q = .held) :
    (s.cell z).claim q = .granted ∨ (s.cell z).claim q = .held ∨ s.progs[q].together = false := by
  by_cases e : p = q
  · subst e; exact Or.inr (Or.inr hm.single)
  · simp only [Cell.own, Cell.set, e, if_false] at hq
    rcases hc with ⟨o, rfl, ho⟩ | rfl
    · by_cases eo : q = o
      · subst eo; exact Or.inl ((h.cell z).claim_owner ho)
      · have hh := (h.cell z).held q
        unfold Cell.displace Cell.push Cell.evict Cell.set at hq
        have eo' : o ≠ q := fun e => eo e.symm
        split at hq
        · split at hq
          · simp only [eo', if_false] at hq
            tauto
          · simp only [eo', if_false] at hq
            split at hq
            · rcases hq with hq | hq <;> cases hq
            · tauto
        · simp only [eo', if_false] at hq
          tauto
    · tauto

/-- A program that may take a foreground zone takes it; the zone's turn in the release step is over with that. -/
theorem State.Table.takeForeground (h : s.Table pend) (hm : s.MayTake p z) (hk : s.progs[p].kind ≠ .bed) (quiet : Bool) :
    (s.takeForeground quiet p z).Table fun y => pend y ∧ y ≠ z := by
  have hst := s.takeForeground_stepAt quiet p z
  cases ho : s.zones[z].owner with
  | none =>
    rw [State.takeForeground_of_unowned ho] at hst ⊢
    refine h.step hst ?_ (fun y hy hp => ⟨hp, hy⟩) fun q hq => ?_
    · rw [State.own_cell]
      exact (h.cell z).own hk hm.isOpen hm.admitted ho (hm.not_held h) (hm.unowned hk ho).1 (hm.unowned hk ho).2 _
    · rw [State.own_cell] at hq
      exact h.claim_of_take hm (Or.inr rfl) q hq
  | some o =>
    have hg : s.progs[o].claim z = .granted := (h.cell z).claim_owner ho
    have hcell := State.takeForeground_cell ho hg (h.not_evicted ho) quiet p
    obtain ⟨hc, h0⟩ := h.beaten (hm.owned hk o ho) ((h.cell z).owner_open ho)
    refine h.step hst ?_ (fun y hy hp => ⟨hp, hy⟩) fun q hq => ?_
    · rw [hcell]
      refine (h.cell z).takeFrom h.roles hk hm.isOpen ho (hm.not_held h) (fun e => ?_) hc h0 _
      subst e
      rcases hm.unclaimed with e | e <;> rw [hg] at e <;> cases e
    · rw [hcell] at hq
      exact h.claim_of_take hm (Or.inl ⟨o, rfl, ho⟩) q hq

theorem State.Table.takeBed (h : s.Table pend) (hm : s.MayTake p z) (hk : s.progs[p].kind = .bed) : (s.takeBed p z).Table pend := by
  refine h.step (s.takeBed_stepAt p z) ?_ (fun y _ hp => hp) fun q hq => ?_
  · rw [State.takeBed_cell]
    exact (h.cell z).takeBed hk hm.isOpen hm.admitted (hm.bed hk)
  · rw [State.takeBed_cell] at hq
    by_cases e : p = q
    · subst e; exact Or.inr (Or.inr hm.single)
    · simp only [Cell.takeBed, Cell.set, e, if_false] at hq
      tauto

theorem State.Table.take (h : s.Table pend) (hm : s.MayTake p z) (quiet : Bool) : (s.take quiet p z).Table pend := by
  unfold State.take
  split
  · next hk => exact h.takeBed hm hk
  · next hk => exact (h.takeForeground hm hk quiet).mono fun _ _ hp => hp.1

/-- A release step that grants the zone to a program, whatever stands in it. -/
theorem State.Table.own (h : s.Table pend) (hm : s.MayTake p z) (hk : s.progs[p].kind ≠ .bed) (ho : s.zones[z].owner = none) :
    (s.own p z).Table fun y => pend y ∧ y ≠ z := by
  rw [← State.takeForeground_of_unowned ho false]
  exact h.takeForeground hm hk false

theorem State.Table.popStack (h : s.Table pend) {t : ProgId} {rest : List ProgId} (ho : s.zones[z].owner = none)
    (hs : s.zones[z].stack = t :: rest) (hw : s.progs[(1 : ProgId)].claim z ≠ .waiting) :
    (s.popStack z).Table fun y => pend y ∧ y ≠ z := by
  refine h.step (s.popStack_stepAt z) ?_ (fun y hy hp => ⟨hp, hy⟩) fun q hq => ?_
  · rw [State.popStack_cell hs]
    exact (h.cell z).pop ho hs hw _
  · rw [State.popStack_cell hs] at hq
    by_cases e : t = q
    · subst e
      exact Or.inr (Or.inl (((h.cell z).held t).mpr (by rw [State.cell_stack]; exact hs ▸ List.mem_cons_self)))
    · simp only [Cell.pop, Cell.set, e, if_false] at hq
      tauto

theorem State.Table.addWaiting (h : s.Table pend) (hp : s.progs[p].isOpen = true) (ht : s.progs[p].state ≠ .tail)
    (hx : s.zones[z].excluded = false) (hn : s.progs[p].claim z = .none ∨ s.progs[p].claim z = .waiting) (h0 : p ≠ 0)
    (h1 : p = 1 → s.zones[z].owner = some 0) : (s.onProg p fun g => g.addWaiting z).Table pend := by
  refine h.step (s.addWaiting_stepAt p z) ?_ (fun y _ hp => hp) fun q hq => ?_
  · rw [State.addWaiting_cell hn]
    exact (h.cell z).wait hp (by simpa using ht) hx hn h0 h1
  · rw [State.addWaiting_cell hn] at hq
    by_cases e : p = q
    · subst e
      simp only [Cell.wait, Cell.set, if_true] at hq
      rcases hq with hq | hq <;> cases hq
    · simp only [Cell.wait, Cell.set, e, if_false] at hq
      tauto

end Tables

end Sys2Proof.Machine
end

section
namespace Sys2Proof.Machine

/-! ### Several zones in turn -/

/-- What stays of zone `z` and of the programs' parts in it while other zones are worked on. -/
structure State.Spares (z : Zone) (s u : State) : Prop where
  beyond : u.beyond = s.beyond
  zone : u.zones[z] = s.zones[z]
  bits : ∀ p : ProgId, u.progs[p].bitsAt z = s.progs[p].bitsAt z
  gotAll : ∀ p : ProgId, u.progs[p].gotAll = s.progs[p].gotAll

theorem State.Spares.claim {z : Zone} {s u : State} (h : State.Spares z s u) (p : ProgId) :
    u.progs[p].claim z = s.progs[p].claim z :=
  Program.claim_of_bitsAt (h.bits p)

theorem State.Spares.refl (z : Zone) (s : State) : State.Spares z s s := ⟨rfl, rfl, fun _ => rfl, fun _ => rfl⟩

theorem State.Spares.trans {z : Zone} {s u v : State} (h : State.Spares z s u) (k : State.Spares z u v) : State.Spares z s v :=
  ⟨k.beyond.trans h.beyond, k.zone.trans h.zone, fun p => (k.bits p).trans (h.bits p), fun p => (k.gotAll p).trans (h.gotAll p)⟩

theorem State.StepAt.spares {z y : Zone} {s u : State} (h : State.StepAt z s u) (hy : y ≠ z) : State.Spares y s u :=
  ⟨h.beyond, h.zones y hy, fun p => h.bits y p hy, h.gotAll⟩

theorem State.Spares.cell {z : Zone} {s u : State} (h : State.Spares z s u) : u.cell z = s.cell z := by
  simp only [State.cell, h.zone, h.claim]

theorem State.Spares.roles {z : Zone} {s u : State} (h : State.Spares z s u) : u.roles = s.roles :=
  State.roles_of_bare (State.bare_of_beyond h.beyond)

section Folds
variable {f : State → Zone → State} (hf : ∀ s z, State.StepAt z s (f s z))
include hf

theorem foldl_spares {l : List Zone} {z : Zone} (hz : z ∉ l) (s : State) : State.Spares z s (l.foldl f s) := by
  induction l generalizing s with
  | nil => exact .refl z s
  | cons y l ih =>
    rw [List.mem_cons, not_or] at hz
    exact ((hf s y).spares hz.1).trans (ih hz.2 _)

/-- Each zone of the list has its turn on the zone as it stood at first, and keeps what its turn has made of it. -/
theorem foldl_turn {l : List Zone} (hl : l.Nodup) {z : Zone} (hz : z ∈ l) (s : State) :
    ∃ t, State.Spares z s t ∧ State.Spares z (f t z) (l.foldl f s) := by
  obtain ⟨a, b, rfl⟩ := List.append_of_mem hz
  have hn := List.nodup_middle.mp hl
  rw [List.nodup_cons, List.mem_append, not_or] at hn
  refine ⟨a.foldl f s, foldl_spares hf hn.1.1 s, ?_⟩
  rw [List.foldl_append, List.foldl_cons]
  exact foldl_spares hf hn.1.2 _

/-- An invariant of the turns, each of which may ask for something of its own zone. -/
theorem foldl_keeps {P : State → Prop} {Q : State → Zone → Prop} (hP : ∀ s z, P s → Q s z → P (f s z))
    (hQ : ∀ {s u : State} {z y : Zone}, State.StepAt z s u → y ≠ z → Q s y → Q u y) {l : List Zone} (hl : l.Nodup) {s : State}
    (hs : P s) (hq : ∀ z ∈ l, Q s z) : P (l.foldl f s) := by
  induction l generalizing s with
  | nil => exact hs
  | cons y l ih =>
    rw [List.nodup_cons] at hl
    refine ih hl.2 (hP s y hs (hq y List.mem_cons_self)) fun z hz => ?_
    exact hQ (hf s y) (fun e => hl.1 (e ▸ hz)) (hq z (List.mem_cons_of_mem _ hz))

end Folds

theorem State.claimOne_stepAt (s : State) (quiet : Bool) (p : ProgId) (z : Zone) : State.StepAt z s (s.claimOne quiet p z) := by
  unfold State.claimOne
  repeat' split
  · exact .refl z s
  · exact s.take_stepAt quiet p z
  · exact s.addWaiting_stepAt p z

/-! ### Claiming keeps the table (R26, R31, R32) -/

section Claiming
variable {s u : State} {pend : Zone → Prop} {p : ProgId} {z : Zone}

/-- No release step is under way. -/
abbrev noZone : Zone → Prop := fun _ => False

theorem State.Table.requested_iff (h : s.Table pend) (p : ProgId) (z : Zone) :
    s.progs[p].requested.getLsbD z.val = true ↔ s.progs[p].claim z ≠ .none := by
  rw [show s.progs[p].requested.getLsbD z.val = _ from (Program.bits_of_claim ((h.cell z).sound p)).1]
  exact decide_eq_true_iff

theorem State.Table.none_or_waiting (h : s.Table pend) (ht : s.progs[p].together = true) (z : Zone) :
    s.progs[p].claim z = .none ∨ s.progs[p].claim z = .waiting := by
  have h1 := h.whole p z ht
  have h2 : s.progs[p].claim z ≠ .unsound := (h.cell z).sound p
  revert h1 h2
  cases s.progs[p].claim z <;> simp

theorem State.Table.waiting_of_together (h : s.Table pend) (ht : s.progs[p].together = true)
    (hz : s.progs[p].requested.getLsbD z.val = true) : s.progs[p].claim z = .waiting :=
  (h.none_or_waiting ht z).resolve_left ((h.requested_iff p z).mp hz)

theorem State.Table.vacant (h : s.Table noZone) (ho : s.zones[z].owner = none) :
    s.zones[z].stack = [] ∧ s.progs[(1 : ProgId)].claim z ≠ .waiting := by
  refine ⟨((h.cell z).vacant ho).resolve_right id, fun hw => ?_⟩
  rcases (h.cell z).second hw with e | e
  · rw [State.cell_owner] at e
    exact absurd (ho.symm.trans e) (by simp)
  · exact e.2

/-- What passing the test lets a program do, outside a release step. -/
theorem State.Table.mayTake (h : s.Table noZone) (ho : s.progs[p].isOpen = true) (ht : s.progs[p].together = false)
    (hx : s.zones[z].excluded = false) (hc : s.progs[p].claim z = .none ∨ s.progs[p].claim z = .waiting)
    (hp : s.passes p z = true) : s.MayTake p z where
  isOpen := ho
  single := ht
  admitted := hx
  unclaimed := hc
  bed hk := (State.passes_of_bed hk z).mp hp
  unowned _ hn := ⟨by rw [(h.vacant hn).1]; simp, fun hw => absurd hw (h.vacant hn).2⟩
  owned hk := (State.passes_of_foreground hk z).mp hp

/-- A program that fails the test on a zone in which it has no part is not program 0, and is program 1 only under program 0. -/
theorem State.Table.fails (h : s.Table pend) (ho : s.progs[p].isOpen = true)
    (hc : s.progs[p].claim z = .none ∨ s.progs[p].claim z = .waiting) (hp : s.passes p z = false) :
    p ≠ 0 ∧ (p = 1 → s.zones[z].owner = some 0) := by
  have key : p.val < 2 → p = 1 ∧ s.zones[z].owner = some 0 := fun hp2 => by
    have hk : s.progs[p].kind ≠ .bed := by
      have := h.roles.alarm p hp2 ho
      rw [State.roles_kind] at this
      simp [this]
    have hcls : s.progs[p].cls = 0 := (h.roles.class_zero p ho).mpr hp2
    have hn : ¬∀ o : ProgId, s.zones[z].owner = some o → s.beats p o s.zones[z].shield = true := fun hall => by
      rw [(State.passes_of_foreground hk z).mpr hall] at hp; cases hp
    simp only [not_forall] at hn
    obtain ⟨o, hzo, hb⟩ := hn
    have hpo : p ≠ o := fun e => by
      subst e
      have := (h.cell z).claim_owner hzo
      rw [State.cell_claim] at this
      rcases hc with hc | hc <;> exact absurd (hc.symm.trans this) (by decide)
    have hoc : s.progs[o].cls = 0 := by
      by_contra hne
      exact hb ((State.beats_iff ..).mpr (Or.inr ⟨by omega, Or.inl (by omega)⟩))
    have ho2 : o.val < 2 := (h.roles.class_zero o ((h.cell z).owner_open hzo)).mp hoc
    have hb' : ¬(p = 0 ∧ o = 1) := fun e => hb ((State.beats_iff ..).mpr (Or.inl ⟨hcls, hoc, e⟩))
    have hv : p.val ≠ o.val := fun e => hpo (Fin.ext e)
    have h01 : ¬(p.val = 0 ∧ o.val = 1) := fun e => hb' ⟨Fin.ext e.1, Fin.ext e.2⟩
    exact ⟨Fin.ext (by simp; omega), by rw [hzo]; exact congrArg some (Fin.ext (by simp; omega))⟩
  refine ⟨fun e => ?_, fun e => (key (by rw [e]; decide)).2⟩
  have := (key (by rw [e]; decide)).1
  rw [e] at this
  cases this

/-- A program that claims a zone: open, not in TAIL, one that takes its zones one by one, and without a granted or held part in
the zone. -/
structure State.Claimant (s : State) (p : ProgId) (z : Zone) : Prop where
  isOpen : s.progs[p].isOpen = true
  notTail : s.progs[p].state ≠ .tail
  single : s.progs[p].together = false
  unclaimed : s.progs[p].claim z = .none ∨ s.progs[p].claim z = .waiting

theorem State.Claimant.step {y : Zone} (h : s.Claimant p y) (hs : State.StepAt z s u) (hy : y ≠ z) : u.Claimant p y where
  isOpen := (congrFun (congrArg Roles.isOpen hs.roles) p).trans h.isOpen
  notTail := fun e => h.notTail ((State.state_of_bare (State.bare_of_beyond hs.beyond) p).symm.trans e)
  single := (hs.together p).trans h.single
  unclaimed := by rw [hs.claim y p hy]; exact h.unclaimed

theorem State.Table.claimOne (h : s.Table noZone) (hc : s.Claimant p z) (quiet : Bool) : (s.claimOne quiet p z).Table noZone := by
  unfold State.claimOne
  split
  · exact h
  · next hx =>
    split
    · next hp => exact h.take (h.mayTake hc.isOpen hc.single (by simpa using hx) hc.unclaimed hp) quiet
    · next hp =>
      obtain ⟨h0, h1⟩ := h.fails hc.isOpen hc.unclaimed (by simpa using hp)
      exact h.addWaiting hc.isOpen hc.notTail (by simpa using hx) hc.unclaimed h0 h1

theorem State.Table.claimEach (h : s.Table noZone) {zs : ZoneSet} (hc : ∀ z : Zone, zs.getLsbD z.val = true → s.Claimant p z)
    (quiet : Bool) : (s.claimEach quiet p zs).Table noZone :=
  foldl_keeps (P := fun s => s.Table noZone) (Q := fun s z => s.Claimant p z) (fun s z => s.claimOne_stepAt quiet p z)
    (fun _ _ h hc => h.claimOne hc quiet) (fun hs hy hc => hc.step hs hy) (zonesOf_nodup zs) h
    fun z hz => hc z ((mem_zonesOf zs z).mp hz)

/-- A program that has had its whole request. -/
def State.allow (s : State) (p : ProgId) : State := s.onProg p fun g => { g with gotAll := true }

theorem State.allow_progs (s : State) (p q : ProgId) : (s.allow p).progs[q.val] =
    if p = q then { s.progs[q.val] with gotAll := true } else s.progs[q.val] := by
  simp only [State.allow, State.onProg_progs, getElem_adjust_fin]

theorem State.allow_beyond (s : State) (p : ProgId) : (s.allow p).beyond = s.beyond := by
  rw [State.allow, State.onProg_beyond]; exact fun _ => rfl

theorem State.allow_cell (s : State) (p : ProgId) (z : Zone) : (s.allow p).cell z = s.cell z := by
  refine Cell.ext rfl rfl rfl rfl (funext fun q => ?_)
  simp only [State.cell_claim, State.allow_progs]
  split <;> rfl

theorem State.allow_roles (s : State) (p : ProgId) : (s.allow p).roles = s.roles :=
  State.roles_of_bare (State.bare_of_beyond (s.allow_beyond p))

theorem State.allow_together (s : State) (p : ProgId) : (s.allow p).progs[p.val].together = false := by
  rw [State.allow_progs, if_pos rfl]
  simp [Program.together]

theorem State.Table.allow (h : s.Table pend) (p : ProgId) : (s.allow p).Table pend where
  cell z := by rw [State.allow_roles, State.allow_cell]; exact h.cell z
  roles := by rw [State.allow_roles]; exact h.roles
  whole q z ht := by
    simp only [Fin.getElem_fin, State.allow_progs] at ht ⊢
    split
    · next e => rw [if_pos e] at ht; simp [Program.together] at ht
    · next e => rw [if_neg e] at ht; exact h.whole q z ht
  alone q hq ho := by
    simp only [Fin.getElem_fin, State.allow_progs] at ho ⊢
    split
    · simp [Program.together]
    · next e => rw [if_neg e] at ho; exact h.alone q hq ho
  listed q := by
    have : (s.allow p).progs[q.val].state = s.progs[q.val].state := by rw [State.allow_progs]; split <;> rfl
    exact (h.listed q).trans (not_congr (by simp only [Fin.getElem_fin, this]))

theorem State.takeAll_eq (s : State) (quiet : Bool) (p : ProgId) (zs : ZoneSet) :
    s.takeAll quiet p zs = (zonesOf zs).foldl (fun s z => s.take quiet p z) (s.allow p) := rfl

theorem State.Table.takeAll (h : s.Table pend) {zs : ZoneSet} (hm : ∀ z : Zone, zs.getLsbD z.val = true → (s.allow p).MayTake p z)
    (quiet : Bool) : (s.takeAll quiet p zs).Table pend :=
  foldl_keeps (P := fun s => s.Table pend) (Q := fun s z => s.MayTake p z) (fun s z => s.take_stepAt quiet p z)
    (fun _ _ h hm => h.take hm quiet) (fun hs hy hm => hm.step hs hy) (zonesOf_nodup zs) (h.allow p)
    fun z hz => hm z ((mem_zonesOf zs z).mp hz)

/-- What `MayTake` asks, of a program that takes its zones together. -/
theorem State.mayTake_allow (ho : s.progs[p].isOpen = true) (hx : s.zones[z].excluded = false)
    (hc : s.progs[p].claim z = .none ∨ s.progs[p].claim z = .waiting) (hb : s.progs[p].kind = .bed → s.zones[z].bed = none)
    (hu : s.progs[p].kind ≠ .bed → s.zones[z].owner = none →
      (∀ t ∈ s.zones[z].stack, s.progs[p].cls ≤ s.progs[t].cls) ∧ (s.progs[(1 : ProgId)].claim z = .waiting → p.val < 2))
    (hw : s.progs[p].kind ≠ .bed → ∀ o, s.zones[z].owner = some o → s.beats p o s.zones[z].shield = true) :
    (s.allow p).MayTake p z := by
  have hr := s.allow_roles p
  have hk (q : ProgId) : (s.allow p).progs[q].kind = s.progs[q].kind := congrFun (congrArg Roles.kind hr) q
  have hcl (q : ProgId) : (s.allow p).progs[q].cls = s.progs[q].cls := congrFun (congrArg Roles.cls hr) q
  have hop (q : ProgId) : (s.allow p).progs[q].isOpen = s.progs[q].isOpen := congrFun (congrArg Roles.isOpen hr) q
  have hcm (q : ProgId) : (s.allow p).progs[q].claim z = s.progs[q].claim z := congrFun (congrArg Cell.claim (s.allow_cell p z)) q
  refine ⟨(hop p).trans ho, s.allow_together p, hx, by rw [hcm]; exact hc, by rw [hk]; exact hb, ?_, ?_⟩
  · rw [hk, hcm]
    simp only [hcl]
    exact hu
  · rw [hk]
    unfold State.beats
    simp only [hcl]
    exact hw

/-- A program that takes its zones together waits for its whole request (R32). -/
def State.waitTogether (s : State) (p : ProgId) (zs : ZoneSet) : State := s.onProg p fun g => { g with requested := zs, waiting := zs }

theorem State.claimTogether_eq (s : State) (quiet : Bool) (p : ProgId) (zs : ZoneSet) : s.claimTogether quiet p zs =
    if ∀ z : Zone, zs.getLsbD z.val = true → s.passes p z = true then s.takeAll quiet p zs else s.waitTogether p zs := by
  unfold State.claimTogether State.waitTogether
  simp only [List.all_eq_true, mem_zonesOf]

/-- A program without granted and held zones that waits for a set. -/
theorem Program.claim_waitTogether {g : Program} (zs : ZoneSet) {z : Zone} (hg : g.granted.getLsbD z.val = false)
    (hh : g.held.getLsbD z.val = false) :
    ({ g with requested := zs, waiting := zs } : Program).claim z = if zs.getLsbD z.val then .waiting else .none := by
  unfold Program.claim
  simp only [hg, hh]
  cases zs.getLsbD z.val <;> rfl

theorem State.Table.waitTogether (h : s.Table pend) (ho : s.progs[p].isOpen = true) (ht : s.progs[p].state ≠ .tail)
    (hg : s.progs[p].together = true) {zs : ZoneSet} (hz : ∀ z : Zone, zs.getLsbD z.val = true → s.zones[z].excluded = false)
    (hw : ∀ z : Zone, s.progs[p].claim z = .waiting → zs.getLsbD z.val = true) : (s.waitTogether p zs).Table pend := by
  have hp2 : ¬p.val < 2 := fun hp => by rw [h.alone p hp ho] at hg; cases hg
  have hbit (z : Zone) : s.progs[p].granted.getLsbD z.val = false ∧ s.progs[p].held.getLsbD z.val = false := by
    obtain ⟨-, h1, h2, -⟩ := Program.bits_of_claim ((h.cell z).sound p)
    obtain ⟨h3, h4⟩ := h.whole p z hg
    exact ⟨h1.trans (decide_eq_false h3), h2.trans (decide_eq_false h4)⟩
  have hprog (q : ProgId) : (s.waitTogether p zs).progs[q.val] =
      if p = q then { s.progs[q.val] with requested := zs, waiting := zs } else s.progs[q.val] := by
    simp only [State.waitTogether, State.onProg_progs, getElem_adjust_fin]
  have hbey : (s.waitTogether p zs).beyond = s.beyond := by
    rw [State.waitTogether, State.onProg_beyond]; exact fun _ => rfl
  have hroles := State.roles_of_bare (State.bare_of_beyond hbey)
  have htog (q : ProgId) : (s.waitTogether p zs).progs[q.val].together = s.progs[q.val].together := by
    rw [hprog]; split <;> rfl
  have hclaim (q : ProgId) (z : Zone) : (s.waitTogether p zs).progs[q.val].claim z =
      if p = q then (if zs.getLsbD z.val then .waiting else .none) else s.progs[q.val].claim z := by
    rw [hprog]
    split
    · next e => subst e; exact Program.claim_waitTogether zs (hbit z).1 (hbit z).2
    · rfl
  have hnone (z : Zone) := h.none_or_waiting hg z
  refine ⟨fun z => ?_, by rw [hroles]; exact h.roles, fun q z hq => ?_, fun q hq hqo => ?_, fun q => ?_⟩
  · rw [hroles]
    by_cases e : zs.getLsbD z.val = true
    · have : (s.waitTogether p zs).cell z = (s.cell z).wait p := by
        refine Cell.ext rfl rfl rfl rfl (funext fun q => ?_)
        rw [State.cell_claim, hclaim, if_pos e]
        rfl
      rw [this]
      exact (h.cell z).wait ho (by simpa using ht) (hz z e) (hnone z) (fun e => hp2 (by rw [e]; decide))
        fun e => absurd (by rw [e]; decide) hp2
    · have : (s.waitTogether p zs).cell z = s.cell z := by
        refine Cell.ext rfl rfl rfl rfl (funext fun q => ?_)
        rw [State.cell_claim, hclaim, if_neg e, State.cell_claim]
        split
        · next eq => subst eq; exact ((hnone z).resolve_right fun hc => e (hw z hc)).symm
        · rfl
      rw [this]
      exact h.cell z
  · have hq' : s.progs[q].together = true := (htog q).symm.trans hq
    simp only [Fin.getElem_fin, hclaim]
    split
    · split <;> decide
    · exact h.whole q z hq'
  · refine (htog q).trans (h.alone q hq ?_)
    exact (congrFun (congrArg Roles.isOpen hroles) q).symm.trans hqo
  · have hst : (s.waitTogether p zs).progs[q.val].state = s.progs[q.val].state := by rw [hprog]; split <;> rfl
    exact (h.listed q).trans (not_congr (by simp only [Fin.getElem_fin, hst]))

theorem State.Table.claimTogether (h : s.Table noZone) (ho : s.progs[p].isOpen = true) (ht : s.progs[p].state ≠ .tail)
    (hg : s.progs[p].together = true) {zs : ZoneSet} (hz : ∀ z : Zone, zs.getLsbD z.val = true → s.zones[z].excluded = false)
    (hw : ∀ z : Zone, s.progs[p].claim z = .waiting → zs.getLsbD z.val = true) (quiet : Bool) :
    (s.claimTogether quiet p zs).Table noZone := by
  rw [State.claimTogether_eq]
  split
  · next hp =>
    refine h.takeAll (fun z hzs => ?_) quiet
    refine State.mayTake_allow ho (hz z hzs) (h.none_or_waiting hg z) (fun hk => (State.passes_of_bed hk z).mp (hp z hzs)) (fun _ hn => ?_)
      fun hk => (State.passes_of_foreground hk z).mp (hp z hzs)
    exact ⟨by rw [(h.vacant hn).1]; simp, fun hw => absurd hw (h.vacant hn).2⟩
  · exact h.waitTogether ho ht hg hz hw

end Claiming

end Sys2Proof.Machine
end

section
namespace Sys2Proof.Machine

section More
variable {s u : State} {p : ProgId} {z : Zone}

@[simp] theorem State.getLsbD_excludedSet (s : State) (z : Zone) : s.excludedSet.getLsbD z.val = s.zones[z.val].excluded :=
  getLsbD_zonesWhere ..

/-- The zones newly named for a program: not excluded, and neither granted nor held (R42). -/
def State.fresh (s : State) (p : ProgId) (zs : ZoneSet) : ZoneSet :=
  zs &&& ~~~(s.excludedSet ||| s.progs[p].granted ||| s.progs[p].held)

theorem State.fresh_iff (s : State) (p : ProgId) (zs : ZoneSet) (z : Zone) : (s.fresh p zs).getLsbD z.val = true ↔
    zs.getLsbD z.val = true ∧ s.zones[z].excluded = false ∧ s.progs[p].granted.getLsbD z.val = false ∧
      s.progs[p].held.getLsbD z.val = false := by
  simp only [State.fresh, BitVec.getLsbD_and, getLsbD_compl, BitVec.getLsbD_or, State.getLsbD_excludedSet, Bool.and_eq_true,
    Bool.not_eq_true', Bool.or_eq_false_iff, Fin.getElem_fin, and_assoc]

theorem State.claimMore_eq (s : State) (quiet : Bool) (p : ProgId) (zs : ZoneSet) : s.claimMore quiet p zs =
    if s.progs[p].together then s.claimTogether quiet p (s.progs[p].requested ||| s.fresh p zs)
    else s.claimEach quiet p (s.fresh p zs) := rfl

/-- A program without granted and held part in a zone waits there or has no part in it. -/
theorem Program.claim_of_bits {g : Program} {z : Zone} (h : g.claim z ≠ .unsound) (hg : g.granted.getLsbD z.val = false)
    (hh : g.held.getLsbD z.val = false) : g.claim z = .none ∨ g.claim z = .waiting := by
  obtain ⟨-, h1, h2, -⟩ := Program.bits_of_claim h
  rw [hg] at h1
  rw [hh] at h2
  have h1 := of_decide_eq_false h1.symm
  have h2 := of_decide_eq_false h2.symm
  revert h h1 h2
  cases g.claim z <;> simp

theorem State.Table.claimMore (h : s.Table noZone) (ho : s.progs[p].isOpen = true) (ht : s.progs[p].state ≠ .tail) (zs : ZoneSet)
    (quiet : Bool) : (s.claimMore quiet p zs).Table noZone := by
  rw [State.claimMore_eq]
  split
  · next hg =>
    refine h.claimTogether ho ht hg (fun z hz => ?_) (fun z hw => ?_) quiet
    · rw [BitVec.getLsbD_or, Bool.or_eq_true] at hz
      rcases hz with hz | hz
      · cases hx : s.zones[z].excluded with
        | false => rfl
        | true =>
          exact absurd (((h.cell z).excluded hx).2.2 p) ((h.requested_iff p z).mp hz)
      · exact ((s.fresh_iff p zs z).mp hz).2.1
    · rw [BitVec.getLsbD_or, Bool.or_eq_true]
      exact Or.inl ((h.requested_iff p z).mpr (by rw [hw]; decide))
  · next hg =>
    refine h.claimEach (fun z hz => ?_) quiet
    obtain ⟨-, -, hgr, hh⟩ := (s.fresh_iff p zs z).mp hz
    exact ⟨ho, ht, by simpa using hg, Program.claim_of_bits ((h.cell z).sound p) hgr hh⟩

end More

/-! ### The release step keeps the table (R33 to R36) -/

section Releasing
variable {s u : State} {pend : Zone → Prop} {p w : ProgId} {z : Zone}

/-- A waiter chosen for a zone is on the wait list, waits for the zone with a foreground kind, and takes its zones one by one or
can have them all. -/
theorem State.waiterFor_some {rs : ZoneSet} (h : s.waiterFor rs z = some w) :
    w ∈ s.waitList ∧ s.progs[w].kind ≠ .bed ∧ s.progs[w].waiting.getLsbD z.val = true ∧
      (s.progs[w].together = true → s.grantableTogether rs w z = true) := by
  have hp := List.find?_some h
  simp only [Bool.and_eq_true, bne_iff_ne, Bool.or_eq_true, Bool.not_eq_true'] at hp
  exact ⟨List.mem_of_find?_eq_some h, hp.1.1, hp.1.2, fun ht => hp.2.resolve_left (by rw [ht]; decide)⟩

theorem State.bedWaiter_some (h : s.bedWaiter z = some w) :
    w ∈ s.waitList ∧ s.progs[w].kind = .bed ∧ s.progs[w].waiting.getLsbD z.val = true ∧
      (s.progs[w].together = true → ∀ y : Zone, s.progs[w].requested.getLsbD y.val = true → y ≠ z → s.zones[y].bed = none) := by
  have hp := List.find?_some h
  simp only [Bool.and_eq_true, beq_iff_eq, Bool.or_eq_true, Bool.not_eq_true', List.all_eq_true, mem_zonesOf,
    Option.isNone_iff_eq_none] at hp
  exact ⟨List.mem_of_find?_eq_some h, hp.1.1, hp.1.2, fun ht y hy hyz =>
    (hp.2.resolve_left (by rw [ht]; decide) y hy).resolve_left hyz⟩

/-- Along the wait list the classes never fall (R25). -/
theorem State.waitList_rising (s : State) : s.waitList.Pairwise fun a b => s.progs[a].cls ≤ s.progs[b].cls := by
  have hcls (c : Nat) {p : ProgId}
      (hp : p ∈ s.openOrder.filter fun p => s.progs[p].cls == c && s.progs[p].waiting != 0#64) : s.progs[p].cls = c := by
    simp only [List.mem_filter, Bool.and_eq_true, beq_iff_eq] at hp
    exact hp.2.1
  unfold State.waitList
  rw [List.pairwise_flatMap]
  refine ⟨fun c _ => ?_, List.pairwise_lt_range.imp fun {c d} hcd a ha b hb => ?_⟩
  · exact List.pairwise_of_forall_mem_list fun a ha b hb => by rw [hcls c ha, hcls c hb]
  · rw [hcls c ha, hcls d hb]; exact hcd.le

theorem State.Table.claim_of_waiting (h : s.Table pend) (hw : s.progs[w].waiting.getLsbD z.val = true) :
    s.progs[w].claim z = .waiting := by
  have := (Program.bits_of_claim ((h.cell z).sound w)).2.2.2
  exact of_decide_eq_true (this.symm.trans hw)

theorem State.Table.waiting_of_claim (h : s.Table pend) (hw : s.progs[w].claim z = .waiting) :
    s.progs[w].waiting.getLsbD z.val = true := by
  have := (Program.bits_of_claim ((h.cell z).sound w)).2.2.2
  exact this.trans (decide_eq_true hw)

theorem State.Table.open_of_waiting (h : s.Table pend) (hw : s.progs[w].claim z = .waiting) :
    s.progs[w].isOpen = true ∧ s.progs[w].state ≠ .tail ∧ s.zones[z].excluded = false := by
  refine ⟨(h.cell z).closed w (by rw [State.cell_claim, show s.progs[w.val].claim z = .waiting from hw]; decide), fun ht => ?_, ?_⟩
  · have := (h.cell z).tail w (by simpa using ht)
    rw [State.cell_claim, show s.progs[w.val].claim z = .waiting from hw] at this
    rcases this with e | e <;> cases e
  · cases hx : s.zones[z].excluded with
    | false => rfl
    | true =>
      have := ((h.cell z).excluded hx).2.2 w
      rw [State.cell_claim, show s.progs[w.val].claim z = .waiting from hw] at this
      cases this

/-- The LOCAL alarm, where it waits, is on the wait list before every program of another class (R25, R27). -/
theorem State.Table.alarm_waiter (h : s.Table pend) (hw : s.progs[(1 : ProgId)].claim z = .waiting) (rs : ZoneSet) :
    ∃ w, s.waiterFor rs z = some w ∧ w.val < 2 := by
  obtain ⟨ho, -, -⟩ := h.open_of_waiting hw
  have hcls : s.progs[(1 : ProgId)].cls = 0 := (h.roles.class_zero 1 ho).mpr (by decide)
  have hbit := h.waiting_of_claim hw
  have hmem : (1 : ProgId) ∈ s.waitList := by
    unfold State.waitList
    simp only [List.mem_flatMap, List.mem_range, List.mem_filter, Bool.and_eq_true, beq_iff_eq, bne_iff_ne]
    refine ⟨0, by decide, (h.listed 1).mpr fun e => ?_, hcls, fun e => ?_⟩
    · simp only [Program.isOpen, e] at ho
      cases ho
    · rw [e, BitVec.getLsbD_zero] at hbit; cases hbit
  have hkind : s.progs[(1 : ProgId)].kind = .alarm := h.roles.alarm 1 (by decide) ho
  have hfit : (s.progs[(1 : ProgId)].kind != .bed && s.progs[(1 : ProgId)].waiting.getLsbD z.val &&
      (!s.progs[(1 : ProgId)].together || s.grantableTogether rs 1 z)) = true := by
    rw [hkind, hbit, h.alone 1 (by decide) ho]; rfl
  cases hf : s.waiterFor rs z with
  | none => exact absurd hfit (by simpa using List.find?_eq_none.mp hf 1 hmem)
  | some w =>
    refine ⟨w, rfl, ?_⟩
    obtain ⟨hwm, -, hww, -⟩ := State.waiterFor_some hf
    obtain ⟨-, before, after, hsplit, hno⟩ := List.find?_eq_some_iff_append.mp hf
    have hwo := (h.open_of_waiting (h.claim_of_waiting hww)).1
    refine (h.roles.class_zero w hwo).mp ?_
    have hr := s.waitList_rising
    rw [hsplit, List.pairwise_append] at hr
    rw [hsplit, List.mem_append, List.mem_cons] at hmem
    rcases hmem with hm | hm | hm
    · have := hno 1 hm
      rw [hfit] at this
      cases this
    · rw [← hm]; exact hcls
    · have := (List.pairwise_cons.mp hr.2.1).1 1 hm
      exact Nat.le_zero.mp (hcls ▸ this)

/-- The stack of a zone without owner, from a top of higher class than the taker. -/
theorem State.Table.below_stack (h : s.Table pend) (ho : s.zones[z].owner = none) {n : Nat}
    (ht : ∀ t, s.zones[z].stack.head? = some t → n < s.progs[t].cls) : ∀ t ∈ s.zones[z].stack, n ≤ s.progs[t].cls := by
  intro t hm
  have hr := (h.cell z).rising
  simp only [State.cell_owner, State.cell_stack, show s.zones[z.val].owner = none from ho, Option.toList_none, List.nil_append,
    State.roles_cls] at hr
  cases hs : s.zones[z].stack with
  | nil => rw [hs] at hm; cases hm
  | cons a rest =>
    have ha := ht a (by rw [hs]; rfl)
    rw [show s.zones[z.val].stack = a :: rest from hs] at hr
    rw [hs] at hm
    rcases List.mem_cons.mp hm with e | hm
    · rw [e]; exact ha.le
    · exact ha.le.trans ((List.pairwise_cons.mp hr).1 t hm)

/-- A waiter whose whole request is grantable may take each zone of it (R35). -/
theorem State.Table.mayTake_together (h : s.Table pend) {rs : ZoneSet} (hrs : ∀ y, pend y → rs.getLsbD y.val = true)
    (ho : s.zones[z].owner = none) (hf : s.waiterFor rs z = some w) (ht : s.progs[w].together = true)
    (htop : ∀ t, s.zones[z].stack.head? = some t → s.progs[w].cls < s.progs[t].cls) {y : Zone}
    (hy : s.progs[w].requested.getLsbD y.val = true) : (s.allow w).MayTake w y := by
  obtain ⟨hwm, hk, hww, hgr⟩ := State.waiterFor_some hf
  have hall := hgr ht
  simp only [State.grantableTogether, List.all_eq_true, mem_zonesOf] at hall
  have hcl : s.progs[w].claim y = .waiting := h.waiting_of_together ht hy
  obtain ⟨hop, -, hx⟩ := h.open_of_waiting hcl
  refine State.mayTake_allow hop hx (Or.inr hcl) (fun e => absurd e hk) (fun _ hn => ?_) fun _ o hyo => ?_
  · by_cases e : y = z
    · subst e
      refine ⟨h.below_stack hn htop, fun h1 => ?_⟩
      obtain ⟨v, hv, hv2⟩ := h.alarm_waiter h1 rs
      rw [hf] at hv
      cases hv
      exact hv2
    · have := hall y hy
      rw [if_neg e] at this
      simp only [hn] at this
      have hone (hr : rs.getLsbD y.val = true) : s.progs[(1 : ProgId)].claim y ≠ .waiting := fun h1 => by
        rw [if_pos hr, Bool.and_eq_true, Bool.not_eq_true'] at this
        have hb := h.waiting_of_claim h1
        exact absurd (this.1.symm.trans hb) (by decide)
      refine ⟨?_, fun h1 => ?_⟩
      · rcases (h.cell y).vacant hn with hs | hp
        · rw [show s.zones[y].stack = [] from hs]; simp
        · refine h.below_stack hn fun t htt => ?_
          rw [if_pos (hrs y hp), Bool.and_eq_true] at this
          obtain ⟨rest, hst⟩ : ∃ rest, s.zones[y].stack = t :: rest := by
            cases hst : s.zones[y].stack with
            | nil => rw [hst] at htt; cases htt
            | cons a rest => rw [hst] at htt; cases htt; exact ⟨rest, rfl⟩
          rw [hst] at this
          exact of_decide_eq_true this.2
      · rcases (h.cell y).second h1 with e0 | ⟨-, hp⟩
        · rw [State.cell_owner] at e0
          exact absurd (hn.symm.trans e0) (by simp)
        · exact absurd h1 (hone (hrs y hp))
  · by_cases e : y = z
    · subst e
      rw [ho] at hyo; cases hyo
    · have := hall y hy
      rw [if_neg e] at this
      simp only [hyo] at this
      exact (State.passes_of_foreground hk y).mp this o hyo

theorem State.take_owner (s : State) (quiet : Bool) {p : ProgId} (hk : s.progs[p].kind ≠ .bed) (z : Zone) :
    (s.take quiet p z).zones[z].owner = some p := by
  unfold State.take
  rw [if_neg hk]
  cases ho : s.zones[z].owner with
  | none => rw [State.takeForeground_of_unowned ho]; simp [State.own_zones]
  | some o => simp [State.takeForeground_zones ho]

theorem State.kind_of_beyond (h : u.beyond = s.beyond) (p : ProgId) : u.progs[p].kind = s.progs[p].kind :=
  congrFun (congrArg Roles.kind (State.roles_of_bare (State.bare_of_beyond h))) p

/-- A program that takes its zones together owns each of them. -/
theorem State.takeAll_owner (s : State) (quiet : Bool) {p : ProgId} (hk : s.progs[p].kind ≠ .bed) {zs : ZoneSet} {z : Zone}
    (hz : zs.getLsbD z.val = true) : (s.takeAll quiet p zs).zones[z].owner = some p := by
  obtain ⟨t, hst, htu⟩ := foldl_turn (fun s z => s.take_stepAt quiet p z) (zonesOf_nodup zs) ((mem_zonesOf zs z).mpr hz) (s.allow p)
  rw [State.takeAll_eq, htu.zone]
  refine State.take_owner t quiet ?_ z
  rw [State.kind_of_beyond (hst.beyond.trans (s.allow_beyond p))]
  exact hk

theorem State.Table.grantWaiter (h : s.Table pend) {rs : ZoneSet} (hrs : ∀ y, pend y → rs.getLsbD y.val = true)
    (ho : s.zones[z].owner = none) (hf : s.waiterFor rs z = some w)
    (htop : ∀ t, s.zones[z].stack.head? = some t → s.progs[w].cls < s.progs[t].cls) (quiet : Bool) :
    (s.grantWaiter quiet w z).Table fun y => pend y ∧ y ≠ z := by
  obtain ⟨hwm, hk, hww, hgr⟩ := State.waiterFor_some hf
  have hcl := h.claim_of_waiting hww
  obtain ⟨hop, -, hx⟩ := h.open_of_waiting hcl
  unfold State.grantWaiter
  split
  · next ht =>
    refine (h.takeAll (fun y hy => h.mayTake_together hrs ho hf ht htop hy) quiet).mono fun y hn hp => ⟨hp, fun e => ?_⟩
    subst e
    rw [State.takeAll_owner s quiet hk ((h.requested_iff w y).mpr (by rw [hcl]; decide))] at hn
    cases hn
  · next ht =>
    refine h.own ⟨hop, by simpa using ht, hx, Or.inr hcl, fun e => absurd e hk, fun _ _ => ⟨h.below_stack ho htop, fun h1 => ?_⟩,
      fun _ o e => ?_⟩ hk ho
    · obtain ⟨v, hv, hv2⟩ := h.alarm_waiter h1 rs
      rw [hf] at hv
      cases hv
      exact hv2
    · rw [ho] at e; cases e

/-- A zone of the release step that nothing is held or waits in is done with. -/
theorem State.Table.leave (h : s.Table pend) (hs : s.zones[z].stack = []) (hw : s.progs[(1 : ProgId)].claim z ≠ .waiting) :
    s.Table fun y => pend y ∧ y ≠ z :=
  h.step (.refl z s)
    { h.cell z with vacant := fun _ => Or.inl hs, second := fun e => absurd e hw } (fun _ hy hp => ⟨hp, hy⟩) fun q hq => by tauto

/-- What becomes of a zone without owner: it stays so, its waiter takes it, or the top of its stack (R33). -/
theorem State.succeed_cases (s : State) (quiet : Bool) (rs : ZoneSet) (z : Zone) :
    (s.succeed quiet rs z = s ∧ s.zones[z].stack = [] ∧ s.waiterFor rs z = none) ∨
    (∃ w, s.succeed quiet rs z = s.grantWaiter quiet w z ∧ s.waiterFor rs z = some w ∧
      ∀ t, s.zones[z].stack.head? = some t → s.progs[w].cls < s.progs[t].cls) ∨
    ∃ t rest, s.succeed quiet rs z = s.popStack z ∧ s.zones[z].stack = t :: rest ∧
      ∀ w, s.waiterFor rs z = some w → s.progs[t].cls ≤ s.progs[w].cls := by
  unfold State.succeed
  split
  · next hs hw => exact Or.inl ⟨rfl, hs, hw⟩
  · next w hs hw => exact Or.inr (Or.inl ⟨w, rfl, hw, fun t e => by rw [hs] at e; cases e⟩)
  · next t rest hs hw => exact Or.inr (Or.inr ⟨t, rest, rfl, hs, fun w e => by rw [hw] at e; cases e⟩)
  · next t rest w hs hw =>
    split
    · next hlt => exact Or.inr (Or.inl ⟨w, rfl, hw, fun t' e => by rw [hs] at e; cases e; exact hlt⟩)
    · next hge => exact Or.inr (Or.inr ⟨t, rest, rfl, hs, fun w' e => by rw [hw] at e; cases e; exact Nat.le_of_not_lt hge⟩)

/-- The LOCAL alarm does not wait for a zone that goes to the top of its stack (R25, R27). -/
theorem State.Table.second_not_waiting (h : s.Table pend) {rs : ZoneSet} {t : ProgId} {rest : List ProgId}
    (hs : s.zones[z].stack = t :: rest) (hn : ∀ w, s.waiterFor rs z = some w → s.progs[t].cls ≤ s.progs[w].cls) :
    s.progs[(1 : ProgId)].claim z ≠ .waiting := by
  intro h1
  obtain ⟨w, hw, hw2⟩ := h.alarm_waiter h1 rs
  have hwo := (h.open_of_waiting (h.claim_of_waiting (State.waiterFor_some hw).2.2.1)).1
  have hw0 : s.progs[w].cls = 0 := (h.roles.class_zero w hwo).mpr hw2
  have htm : t ∈ (s.cell z).stack := by rw [State.cell_stack, show s.zones[z.val].stack = t :: rest from hs]; simp
  have ht0 : s.progs[t].cls = 0 := Nat.le_zero.mp (hw0 ▸ hn w hw)
  have ht2 : t.val < 2 := (h.roles.class_zero t ((h.cell z).held_open htm)).mp ht0
  have hheld := ((h.cell z).held t).mpr htm
  have ht01 : t = 0 ∨ t = 1 := by
    rcases Nat.lt_succ_iff_lt_or_eq.mp ht2 with e | e
    · exact Or.inl (Fin.ext (by simpa using e))
    · exact Or.inr (Fin.ext e)
  rcases ht01 with rfl | rfl
  · exact (h.cell z).first.1 hheld
  · exact absurd (hheld.symm.trans h1) (by decide)

theorem State.Table.succeed (h : s.Table pend) {rs : ZoneSet} (hrs : ∀ y, pend y → rs.getLsbD y.val = true)
    (ho : s.zones[z].owner = none) (quiet : Bool) : (s.succeed quiet rs z).Table fun y => pend y ∧ y ≠ z := by
  rcases s.succeed_cases quiet rs z with ⟨e, hs, hw⟩ | ⟨w, e, hw, htop⟩ | ⟨t, rest, e, hs, hn⟩
  all_goals rw [e]
  · refine h.leave hs fun h1 => ?_
    obtain ⟨w, hw', -⟩ := h.alarm_waiter h1 rs
    rw [hw] at hw'; cases hw'
  · exact h.grantWaiter hrs ho hw htop quiet
  · exact h.popStack ho hs (h.second_not_waiting hs hn)

theorem State.Table.fillBed (h : s.Table pend) (hb : s.zones[z].bed = none) (quiet : Bool) : (s.fillBed quiet z).Table pend := by
  unfold State.fillBed
  split
  · exact h
  · next w hw =>
    obtain ⟨hwm, hk, hww, hgr⟩ := State.bedWaiter_some hw
    split
    · next ht =>
      refine h.takeAll (fun y hy => ?_) quiet
      have hcl : s.progs[w].claim y = .waiting := h.waiting_of_together ht hy
      obtain ⟨hop, -, hx⟩ := h.open_of_waiting hcl
      refine State.mayTake_allow hop hx (Or.inr hcl) (fun _ => ?_) (fun e => absurd hk e) fun e => absurd hk e
      by_cases e : y = z
      · rw [e]; exact hb
      · exact hgr ht y hy e
    · next ht =>
      have hcl := h.claim_of_waiting hww
      obtain ⟨hop, -, hx⟩ := h.open_of_waiting hcl
      exact h.takeBed ⟨hop, by simpa using ht, hx, Or.inr hcl, fun _ => hb, fun e => absurd hk e, fun e => absurd hk e⟩ hk

theorem State.Table.fillFreeBed (h : s.Table pend) (b quiet : Bool) :
    (if b && s.zones[z].bed.isNone then s.fillBed quiet z else s).Table pend := by
  split
  · next hb =>
    rw [Bool.and_eq_true, Option.isNone_iff_eq_none] at hb
    exact h.fillBed hb.2 quiet
  · exact h

theorem State.Table.releaseZone (h : s.Table pend) {rs : ZoneSet} (hrs : ∀ y, pend y → rs.getLsbD y.val = true) (beds : ZoneSet)
    (quiet : Bool) : (s.releaseZone quiet rs beds z).Table fun y => pend y ∧ y ≠ z := by
  refine State.Table.fillFreeBed (s := if s.zones[z].owner.isNone then s.succeed quiet rs z else s) ?_ (beds.getLsbD z.val) quiet
  split
  · next ho => exact h.succeed hrs (Option.isNone_iff_eq_none.mp ho) quiet
  · next ho => exact h.mono fun y hn hp => ⟨hp, fun e => ho (by rw [← e, hn]; rfl)⟩

/-- After the release step no zone waits for its turn. -/
theorem State.Table.releaseStep {fg beds : ZoneSet} (h : s.Table fun z => (fg ||| beds).getLsbD z.val = true) (quiet : Bool) :
    (s.releaseStep quiet fg beds).Table noZone := by
  unfold State.releaseStep
  have key (l : List Zone) (hl : ∀ z ∈ l, (fg ||| beds).getLsbD z.val = true) (s : State) (h : s.Table (· ∈ l)) :
      (l.foldl (fun s z => s.releaseZone quiet (fg ||| beds) beds z) s).Table noZone := by
    induction l generalizing s with
    | nil => exact h.mono fun z _ hz => by cases hz
    | cons y l ih =>
      refine ih (fun z hz => hl z (List.mem_cons_of_mem _ hz)) _ ?_
      refine (h.releaseZone (z := y) (fun z hz => hl z hz) beds quiet).mono fun z _ hz => ?_
      exact (List.mem_cons.mp hz.1).resolve_left hz.2
  exact key _ (fun z hz => (mem_zonesOf _ z).mp hz) s (h.mono fun z _ hz => (mem_zonesOf _ z).mpr hz)

end Releasing

end Sys2Proof.Machine
end

section
namespace Sys2Proof.Machine

/-! ### What only touches the port controllers -/

/-- The state without its port controllers. -/
def State.silent (s : State) : State := { s with ports := Vector.replicate 4 PortCtl.reset }

/-- The controllers of `u` hold every notice and every changed program that those of `s` hold (R207). -/
def State.Louder (s u : State) : Prop :=
  ∀ q : Port, (∀ k, (s.port q).has k = true → (u.port q).has k = true) ∧
    ∀ p : ProgId, (s.port q).changed.getLsbD p.val = true → (u.port q).changed.getLsbD p.val = true

theorem State.Louder.refl (s : State) : State.Louder s s := fun _ => ⟨fun _ h => h, fun _ h => h⟩

theorem State.Louder.trans {s u v : State} (h : State.Louder s u) (k : State.Louder u v) : State.Louder s v :=
  fun q => ⟨fun n e => (k q).1 n ((h q).1 n e), fun p e => (k q).2 p ((h q).2 p e)⟩

theorem State.Louder.of_ports {s u : State} (h : u.ports = s.ports) : State.Louder s u := by
  have hp (q : Port) : u.port q = s.port q := congrArg (fun v : Vector PortCtl 4 => v[portIdx q]) h
  exact fun q => by rw [hp]; exact ⟨fun _ e => e, fun _ e => e⟩

theorem NoticeKind.has_or (a : BitVec 9) (k j : NoticeKind) :
    ((a ||| j.bit) &&& k.bit != 0#9) = (a &&& k.bit != 0#9 || decide (k = j)) := by
  have hbit : (j.bit &&& k.bit != 0#9) = decide (k = j) := by cases k <;> cases j <;> rfl
  have hdist : (a ||| j.bit) &&& k.bit = (a &&& k.bit) ||| (j.bit &&& k.bit) := by
    ext i; simp [Bool.and_or_distrib_right]
  rw [← hbit, hdist, Bool.eq_iff_iff]
  simp only [bne_iff_ne, ne_eq, Bool.or_eq_true, BitVec.or_eq_zero_iff, not_and_or]

theorem progBit_getLsbD (p q : ProgId) : (progBit p).getLsbD q.val = decide (p = q) := by
  revert p q
  decide +kernel

theorem PortCtl.has_or (c : PortCtl) (j k : NoticeKind) :
    ({ c with notices := c.notices ||| j.bit } : PortCtl).has k = (c.has k || decide (k = j)) :=
  NoticeKind.has_or c.notices k j

theorem State.raise_has (s : State) (k j : NoticeKind) (p q : Port) :
    ((s.raise j p).port q).has k = ((s.port q).has k || (decide (k = j) && decide (p = q))) := by
  rw [State.raise, State.port_onPort]
  split
  · next e => subst e; rw [PortCtl.has_or]; simp
  · next e => simp [e]

theorem State.raise_changed (s : State) (j : NoticeKind) (p q : Port) : ((s.raise j p).port q).changed = (s.port q).changed := by
  rw [State.raise, State.port_onPort]; split <;> rfl

theorem State.raise_louder (s : State) (j : NoticeKind) (p : Port) : State.Louder s (s.raise j p) := fun q =>
  ⟨fun k h => by rw [State.raise_has, h, Bool.true_or], fun r h => by rwa [State.raise_changed]⟩

theorem State.raiseProgram_has (s : State) (k : NoticeKind) (p q : Port) (r : ProgId) :
    ((s.raiseProgram p r).port q).has k = ((s.port q).has k || (decide (k = .program) && decide (p = q))) := by
  rw [State.raiseProgram, State.port_onPort]
  split
  · next e => subst e; simpa [PortCtl.has] using NoticeKind.has_or (s.port p).notices k .program
  · next e => simp [e]

theorem State.raiseProgram_changed (s : State) (p q : Port) (r x : ProgId) :
    ((s.raiseProgram p r).port q).changed.getLsbD x.val =
      ((s.port q).changed.getLsbD x.val || (decide (r = x) && decide (p = q))) := by
  rw [State.raiseProgram, State.port_onPort]
  split
  · next e =>
    subst e
    simp only [BitVec.getLsbD_or, progBit_getLsbD]
    simp
  · next e => simp [e]

theorem State.raiseProgram_louder (s : State) (p : Port) (r : ProgId) : State.Louder s (s.raiseProgram p r) := fun q =>
  ⟨fun k h => by rw [State.raiseProgram_has, h, Bool.true_or], fun x h => by rw [State.raiseProgram_changed, h, Bool.true_or]⟩

theorem foldl_louder {α : Type} {f : State → α → State} (h : ∀ s a, State.Louder s (f s a)) (l : List α) (s : State) :
    State.Louder s (l.foldl f s) := by
  induction l generalizing s with
  | nil => exact .refl s
  | cons a l ih => exact (h s a).trans (ih _)

theorem State.raiseSurvey_louder (s : State) (r : Requesters) (spare : Option Port) : State.Louder s (s.raiseSurvey r spare) :=
  foldl_louder (fun s p => by split <;> [exact .refl s; exact s.raise_louder _ p]) _ s

theorem State.raiseAlarm_louder (s : State) (named : Bool) : State.Louder s (s.raiseAlarm named) := by
  have h := ((s.raise_louder .alarm .ann).trans (State.raise_louder _ .alarm .icm)).trans (State.raise_louder _ .alarm .shw)
  cases named
  · exact h.trans (State.raise_louder _ .alarm .saf)
  · exact h

theorem State.raiseAlarm_has (s : State) (named : Bool) {q : Port} (h : named = false ∨ q ≠ .saf) :
    ((s.raiseAlarm named).port q).has .alarm = true := by
  cases named
  · simp only [State.raiseAlarm, Bool.false_eq_true, if_false, State.raise_has]
    cases q <;> simp
  · simp only [State.raiseAlarm, if_true, State.raise_has]
    cases q <;> simp_all

/-- The notice of one program at the end of an operation (R53). -/
def State.noticeOf (s0 s : State) (named : Option ProgId) (t : State) (p : ProgId) : State :=
  if named ≠ some p ∧ s0.progs[p].changed s.progs[p] = true then t.raiseProgram s.progs[p].owner p else t

theorem State.programNotices_eq (s0 s : State) (named : Option ProgId) :
    State.programNotices s0 s named = (List.finRange 32).foldl (State.noticeOf s0 s named) s := rfl

theorem State.noticeOf_louder (s0 s : State) (named : Option ProgId) (t : State) (p : ProgId) :
    State.Louder t (State.noticeOf s0 s named t p) := by
  unfold State.noticeOf
  split
  · exact t.raiseProgram_louder _ p
  · exact .refl t

theorem State.programNotices_louder (s0 s : State) (named : Option ProgId) : State.Louder s (State.programNotices s0 s named) :=
  foldl_louder (State.noticeOf_louder s0 s named) _ s

theorem State.programNotices_silent (s0 s : State) (named : Option ProgId) :
    (State.programNotices s0 s named).silent = s.silent :=
  foldl_view State.silent (fun t p => by split <;> rfl) _ s

/-- A program that changed, other than the named one, has its PROGRAM notice at its owning port (R53). -/
theorem State.programNotices_raised (s0 s : State) {named : Option ProgId} {p : ProgId} (hn : named ≠ some p)
    (hc : s0.progs[p].changed s.progs[p] = true) :
    ((State.programNotices s0 s named).port s.progs[p].owner).has .program = true ∧
      ((State.programNotices s0 s named).port s.progs[p].owner).changed.getLsbD p.val = true := by
  obtain ⟨a, b, hl, -, -⟩ := finRange_split p
  rw [State.programNotices_eq, hl, List.foldl_append, List.foldl_cons]
  have hlouder := foldl_louder (State.noticeOf_louder s0 s named) b
  refine ⟨(hlouder _ _).1 _ ?_, (hlouder _ _).2 _ ?_⟩
  · rw [State.noticeOf, if_pos ⟨hn, hc⟩, State.raiseProgram_has]; simp
  · rw [State.noticeOf, if_pos ⟨hn, hc⟩, State.raiseProgram_changed]; simp

theorem State.resumeCheck_silent (s0 s : State) (quiet : Bool) : (State.resumeCheck s0 s quiet).silent = s.silent := by
  unfold State.resumeCheck
  split
  · cases quiet <;> rfl
  · rfl

theorem State.raiseCue_louder (s : State) (quiet : Bool) : State.Louder s (s.raiseCue quiet) := by
  cases quiet
  · exact s.raise_louder _ _
  · exact .refl s

theorem State.resumeCheck_louder (s0 s : State) (quiet : Bool) : State.Louder s (State.resumeCheck s0 s quiet) := by
  unfold State.resumeCheck
  split
  · exact s.raiseCue_louder quiet
  · exact .refl s

/-! ### The end of an operation (R19, R52, R53) -/

/-- Every program takes its state, in ascending id (R19). -/
def State.settleAll (s : State) : State := (List.finRange 32).foldl (fun s p => s.settleProgram p) s

theorem State.finish_eq (s0 s : State) (c : Cause) : State.finish s0 s c =
    State.programNotices s0 (State.resumeCheck s0 (State.duckHandOff s0 s.settleAll).surveyCheck c.quiet) c.named := rfl

theorem State.finish_silent (s0 s : State) (c : Cause) :
    (State.finish s0 s c).silent = (State.duckHandOff s0 s.settleAll).surveyCheck.silent := by
  rw [State.finish_eq, State.programNotices_silent, State.resumeCheck_silent]

theorem State.progs_of_silent {s u : State} (h : u.silent = s.silent) : u.progs = s.progs := (congrArg State.progs h :)
theorem State.zones_of_silent {s u : State} (h : u.silent = s.silent) : u.zones = s.zones := (congrArg State.zones h :)

theorem State.finish_progs (s0 s : State) (c : Cause) : (State.finish s0 s c).progs = s.settleAll.progs :=
  State.progs_of_claims (State.finish_claims s0 s c)

theorem State.duckHandOff_of_owners {s0 s : State} (h : ∀ z : Zone, s.zones[z].owner = s0.zones[z].owner) :
    State.duckHandOff s0 s = s := by
  have hz : remap s.zones (fun z r => if s0.zones[z].owner = r.owner then r else r.duckFor (s.ownerClass z)) = s.zones :=
    remap_id _ _ fun z => if_pos (h z).symm
  unfold State.duckHandOff
  rw [hz]

theorem State.surveyCheck_of_clear {s : State} (h : s.surveyClear = true) : s.surveyCheck = s := by
  unfold State.surveyCheck
  unfold State.surveyClear at h
  split
  · rfl
  · next z hz =>
    rw [hz] at h
    split
    · next c hc =>
      have h' : (s.ownerClass z).all (fun c => decide (2 < c)) = true := h
      rw [hc] at h'
      exact if_neg (Nat.not_le.mpr (of_decide_eq_true h'))
    · rfl

/-- An operation that leaves every owner as it was hands nothing to the ramp engine, and aborts no survey. -/
theorem State.finish_of_owners {s0 s : State} (c : Cause) (ho : ∀ z : Zone, s.settleAll.zones[z].owner = s0.zones[z].owner)
    (hv : s.settleAll.surveyClear = true) : (State.finish s0 s c).silent = s.settleAll.silent := by
  rw [State.finish_silent, State.duckHandOff_of_owners ho, State.surveyCheck_of_clear hv]

/-- A program whose record the operation has changed has its notice (R53). -/
theorem State.finish_raised (s0 s : State) {c : Cause} {p : ProgId} (hn : c.named ≠ some p)
    (hc : s0.progs[p].changed s.settleAll.progs[p] = true) :
    ((State.finish s0 s c).port s.settleAll.progs[p].owner).has .program = true ∧
      ((State.finish s0 s c).port s.settleAll.progs[p].owner).changed.getLsbD p.val = true := by
  have hp : (State.resumeCheck s0 (State.duckHandOff s0 s.settleAll).surveyCheck c.quiet).progs = s.settleAll.progs :=
    State.progs_of_claims (by simp)
  have h := State.programNotices_raised s0 (State.resumeCheck s0 (State.duckHandOff s0 s.settleAll).surveyCheck c.quiet)
    (named := c.named) (p := p) hn (by rw [hp]; exact hc)
  rw [hp] at h
  exact h

/-! ### Settling a program -/

theorem State.onProg_self {s : State} {p : ProgId} {f : Program → Program} (h : f s.progs[p] = s.progs[p]) : s.onProg p f = s := by
  unfold State.onProg; rw [adjust_id _ _ _ h]

theorem Program.waitClock_of_running {g : Program} (h : g.waitTimer.isSome = g.waitLimit.isSome)
    (hs : g.state = .pending ∨ g.state = .held) : g.waitClock = g := by
  unfold Program.waitClock
  cases hw : g.waitTimer with
  | some n => rcases hs with hs | hs <;> simp only [hs] <;> rw [← hs, ← hw]
  | none =>
    have hl : g.waitLimit.map framesOfMs = none := by
      rw [hw] at h
      cases hl : g.waitLimit with
      | none => rfl
      | some n => rw [hl] at h; cases h
    rcases hs with hs | hs <;> simp only [hs, hl] <;> rw [← hs, ← hw]

theorem Program.waitClock_of_stopped {g : Program} (h : g.waitTimer = none) (hs : g.state = .preamble ∨ g.state = .active) :
    g.waitClock = g := by
  have key : g.waitClock = { g with waitTimer := none } := by
    unfold Program.waitClock
    rcases hs with hs | hs <;> simp only [hs]
  rw [key, ← h]

/-- A program that stands as its sets call for, with its wait timer, is left as it is. -/
theorem State.settleOpen_of_settled {s : State} {p : ProgId} (h : s.progs[p].settled = true)
    (hs : s.progs[p].state = .pending ∨ s.progs[p].state = .held ∨ s.progs[p].state = .preamble ∨ s.progs[p].state = .active) :
    s.settleOpen p = s := by
  have hstay (st : ProgState) (e : s.progs[p].state = st) : (s.onProg p fun g => { g with state := st }) = s :=
    State.onProg_self (by rw [← e])
  unfold Program.settled at h
  unfold State.settleOpen State.enterUngranted
  rcases hs with hs | hs | hs | hs <;> rw [hs] at h <;> simp only [Bool.and_eq_true, beq_iff_eq, bne_iff_ne, ne_eq,
    Option.isNone_iff_eq_none] at h
  · obtain ⟨⟨⟨hg, hh⟩, hw⟩, ht⟩ := h
    simp only [hg, hh, hw, hs, and_false, if_false, if_true, bne_self_eq_false, Bool.false_eq_true]
    rw [hstay .pending hs]
    exact State.onProg_self (Program.waitClock_of_running ht (Or.inl hs))
  · obtain ⟨⟨hg, hh⟩, ht⟩ := h
    simp only [hg, hh, hs, false_and, and_false, if_false, if_true, bne_iff_ne, ne_eq, not_false_eq_true]
    rw [hstay .held hs]
    exact State.onProg_self (Program.waitClock_of_running ht (Or.inr hs))
  · obtain ⟨hg, ht⟩ := h
    simp only [hg, hs, false_and, if_false, reduceCtorEq, or_self]
    exact State.onProg_self (Program.waitClock_of_stopped ht (Or.inl hs))
  · obtain ⟨hg, ht⟩ := h
    simp only [hg, hs, false_and, if_false, reduceCtorEq, or_self]
    exact State.onProg_self (Program.waitClock_of_stopped ht (Or.inr hs))

theorem State.settleProgram_of_settled {s : State} {p : ProgId} (h : s.progs[p].settled = true) : s.settleProgram p = s := by
  rw [State.settleProgram_eq]
  cases hst : s.progs[p].state
  case free | ended => rfl
  case tail =>
    refine if_neg fun hg => ?_
    unfold Program.settled at h
    rw [hst, hg] at h
    cases h
  all_goals exact State.settleOpen_of_settled h (by rw [hst]; decide)

theorem foldl_settle_of_settled {s : State} {l : List ProgId} (h : ∀ q ∈ l, s.progs[q].settled = true) :
    l.foldl (fun s p => s.settleProgram p) s = s := by
  induction l with
  | nil => rfl
  | cons q l ih =>
    rw [List.foldl_cons, State.settleProgram_of_settled (h q List.mem_cons_self)]
    exact ih fun r hr => h r (List.mem_cons_of_mem _ hr)

theorem State.settled_of_follow {s : State} (h : s.statesFollow = true) (p : ProgId) : s.progs[p].settled = true :=
  List.all_eq_true.mp h p (List.mem_finRange p)

theorem State.settleAll_of_settled {s : State} (h : ∀ p : ProgId, s.progs[p].settled = true) : s.settleAll = s :=
  foldl_settle_of_settled fun q _ => h q

/-- Where one program alone has a state to take, settling them all settles that one. -/
theorem State.settleAll_of_others {s : State} {p : ProgId} (h : ∀ q : ProgId, q ≠ p → s.progs[q].settled = true) :
    s.settleAll = s.settleProgram p := by
  obtain ⟨a, b, hl, ha, hb⟩ := finRange_split p
  unfold State.settleAll
  rw [hl, List.foldl_append, List.foldl_cons, foldl_settle_of_settled fun q hq => h q (ha q hq).ne]
  refine foldl_settle_of_settled fun q hq => ?_
  rw [(Leaves.settleProgram (hb q hq).ne s).prog]
  exact h q (hb q hq).ne'

end Sys2Proof.Machine
end

section
namespace Sys2Proof.Machine

/-! ### What an end of a program changes (R21, R52) -/

/-- The state without the ports and the blocks that hear of a program's end: voices, channels, stations, cue engine, alarm
slots. -/
def State.books (s : State) : State :=
  { s with
    ports := State.reset.ports, voices := State.reset.voices, chans := State.reset.chans, clips := State.reset.clips
    stations := State.reset.stations, cue := State.reset.cue, slots := State.reset.slots, tone := State.reset.tone }

theorem State.releaseVoice_books (s : State) (p : ProgId) : (s.releaseVoice p).books = s.books := by
  unfold State.releaseVoice; split <;> rfl

theorem State.releaseProgChan_books (s : State) (p : ProgId) : (s.releaseProgChan p).books = s.books := by
  unfold State.releaseProgChan; (repeat' split) <;> rfl

theorem State.releaseStation_books (s : State) (p : ProgId) : (s.releaseStation p).books = s.books := by
  unfold State.releaseStation; split <;> rfl

theorem State.dropRoute_books (s : State) (p : ProgId) : (s.dropRoute p).books = s.books := by
  unfold State.dropRoute; split <;> rfl

theorem State.raiseAlarm_books (s : State) (named : Bool) : (s.raiseAlarm named).books = s.books := by
  cases named <;> rfl

theorem State.closeWindow_books (s : State) (k : Fin 2) : (s.closeWindow k).books = s.books := by
  unfold State.closeWindow; simp only; (repeat' split) <;> rfl

theorem State.idleSlot_books (s : State) (k : Fin 2) (named : Bool) : (s.idleSlot k named).books = s.books := by
  rw [State.idleSlot, State.raiseAlarm_books]
  exact s.closeWindow_books k

theorem State.slotProgramEnded_books (s : State) (p : ProgId) : (s.slotProgramEnded p).books = s.books := by
  unfold State.slotProgramEnded
  repeat' split
  · rfl
  · rfl
  · exact s.idleSlot_books _ _

/-- A program's end as the program and zone tables see it. -/
def State.struck (s : State) (p : ProgId) (why : EndReason) : State :=
  ({ s with zones := remap s.zones fun _ r => r.strip p, endOrder := s.endOrder ++ [p] } : State).onProg p fun g => g.finished why

theorem State.endProgram_books (s : State) (p : ProgId) (why : EndReason) : (s.endProgram p why).books = (s.struck p why).books := by
  simp only [State.endProgram, State.slotProgramEnded_books, State.dropRoute_books, State.releaseStation_books,
    State.releaseProgChan_books, State.releaseVoice_books]
  rfl

theorem State.endProgram_zones (s : State) (p : ProgId) (why : EndReason) :
    (s.endProgram p why).zones = remap s.zones fun _ r => r.strip p :=
  (congrArg State.zones (s.endProgram_books p why) :)

theorem State.endProgram_progs (s : State) (p : ProgId) (why : EndReason) :
    (s.endProgram p why).progs = adjust s.progs p fun g => g.finished why :=
  (congrArg State.progs (s.endProgram_books p why) :)

theorem State.endProgram_openOrder (s : State) (p : ProgId) (why : EndReason) : (s.endProgram p why).openOrder = s.openOrder :=
  (congrArg State.openOrder (s.endProgram_books p why) :)

theorem State.endProgram_endOrder (s : State) (p : ProgId) (why : EndReason) :
    (s.endProgram p why).endOrder = s.endOrder ++ [p] :=
  (congrArg State.endOrder (s.endProgram_books p why) :)

theorem State.endProgram_survey (s : State) (p : ProgId) (why : EndReason) : (s.endProgram p why).survey = s.survey :=
  (congrArg State.survey (s.endProgram_books p why) :)

theorem State.endProgram_self (s : State) (p : ProgId) (why : EndReason) :
    (s.endProgram p why).progs[p] = s.progs[p].finished why := by
  rw [State.endProgram_progs]
  exact getElem_adjust_self ..

theorem State.endProgram_other (s : State) {p q : ProgId} (h : q ≠ p) (why : EndReason) :
    (s.endProgram p why).progs[q] = s.progs[q] := by
  rw [State.endProgram_progs]
  exact getElem_adjust_ne _ _ h.symm

theorem State.endProgram_zone (s : State) (p : ProgId) (why : EndReason) (z : Zone) :
    (s.endProgram p why).zones[z] = s.zones[z].strip p := by
  rw [State.endProgram_zones]
  exact getElem_remap ..

/-! ### What a program that takes its state changes (R19, R20, R37) -/

/-- A record without its state, return state, wait timer, and the marks of a chime skipped and a clip started. -/
def Program.steady (g : Program) : Program :=
  { g with state := .free, ret := none, waitTimer := none, chimeSkipped := false, clipStarted := false }

/-- The state without programs, chime voices and what the channels do. -/
def State.steady (s : State) : State :=
  { s with progs := State.reset.progs, voices := State.reset.voices, chans := remap s.chans fun _ c => c.binding }

/-- From `s` to `u` the program `p` has done no more than take another state. -/
structure State.Moves (p : ProgId) (s u : State) : Prop where
  steady : u.steady = s.steady
  other : ∀ q : ProgId, q ≠ p → u.progs[q] = s.progs[q]
  self : u.progs[p].steady = s.progs[p].steady

theorem State.Moves.refl (p : ProgId) (s : State) : State.Moves p s s := ⟨rfl, fun _ _ => rfl, rfl⟩

theorem State.Moves.trans {p : ProgId} {s u v : State} (h : State.Moves p s u) (k : State.Moves p u v) : State.Moves p s v :=
  ⟨k.steady.trans h.steady, fun q hq => (k.other q hq).trans (h.other q hq), k.self.trans h.self⟩

theorem State.Moves.onProg (p : ProgId) (s : State) {f : Program → Program} (h : ∀ g, (f g).steady = g.steady) :
    State.Moves p s (s.onProg p f) where
  steady := rfl
  other q hq := getElem_adjust_ne _ f hq.symm
  self := by
    have : (s.onProg p f).progs[p] = f s.progs[p] := getElem_adjust_self ..
    rw [this]
    exact h _

theorem State.Moves.onVoice (p : ProgId) (s : State) (v : Fin 4) (f : ChimeVoice → ChimeVoice) : State.Moves p s (s.onVoice v f) :=
  ⟨rfl, fun _ _ => rfl, rfl⟩

theorem State.Moves.onChan (p : ProgId) (s : State) (ch : ChanId) {f : Channel → Channel} (h : ∀ c, (f c).binding = c.binding) :
    State.Moves p s (s.onChan ch f) := by
  refine ⟨?_, fun _ _ => rfl, rfl⟩
  simp only [State.steady, State.onChan, remap_adjust Channel.binding _ _ h]

theorem State.Moves.onBoundVoice (p : ProgId) (s : State) (f : Player → Player) : State.Moves p s (s.onBoundVoice p f) := by
  unfold State.onBoundVoice
  split
  · exact .refl p s
  · exact .onVoice p s _ _

theorem State.Moves.gateProgram (p : ProgId) (s : State) (pause : Bool) : State.Moves p s (s.gateProgram p pause) := by
  unfold State.gateProgram
  repeat' split
  any_goals exact .refl p s
  all_goals exact .onChan p s _ fun c => by simp

theorem State.Moves.startClip (p : ProgId) (s : State) : State.Moves p s (s.startClip p) := by
  unfold State.startClip
  repeat' split
  any_goals exact .refl p s
  refine State.Moves.trans (u := s.startChan _ _ _) ?_ (.onProg p _ fun _ => rfl)
  exact .onChan p s _ fun _ => rfl

theorem State.Moves.firstActive (p : ProgId) (s : State) (skipped : Bool) : State.Moves p s (s.firstActive p skipped) := by
  refine State.Moves.trans ?_ (.startClip p _)
  exact .onProg p s fun _ => rfl

theorem State.bindVoice_eq {s u : State} {p : ProgId} {pat : PatId} (h : s.bindVoice p pat = some u) :
    s.patterns[pat].steps ≠ [] ∧ ∃ v : Fin 4, s.voices[v].bound = none ∧ (∀ w : Fin 4, w < v → s.voices[w].bound ≠ none) ∧
      u = s.onVoice v fun _ => ⟨Player.start pat s.patterns[pat], some p⟩ := by
  unfold State.bindVoice at h
  split at h
  · cases h
  · next hne =>
    refine ⟨fun e => hne (by rw [e]; rfl), ?_⟩
    split at h
    · cases h
    · next v hv =>
      cases h
      refine ⟨v, by simpa using List.find?_some hv, fun w hw hn => ?_, rfl⟩
      obtain ⟨-, a, b, hl, ha⟩ := List.find?_eq_some_iff_append.mp hv
      have hwl : w ∈ List.finRange 4 := List.mem_finRange w
      have hs : (a ++ v :: b).Pairwise (· < ·) := hl ▸ List.pairwise_lt_finRange 4
      rw [hl, List.mem_append, List.mem_cons] at hwl
      rcases hwl with hwa | hwv | hwb
      · have := ha w hwa
        rw [Bool.not_eq_true', decide_eq_false_iff_not] at this
        exact this hn
      · exact absurd hwv hw.ne
      · exact absurd hw (not_lt_of_gt ((List.pairwise_cons.mp (List.pairwise_append.mp hs).2.1).1 w hwb))

theorem State.Moves.enterGranted (p : ProgId) (s : State) : State.Moves p s (s.enterGranted p) := by
  unfold State.enterGranted
  simp only
  split
  · refine State.Moves.trans ?_ (.onBoundVoice p _ _)
    exact .onProg p s fun _ => rfl
  · refine State.Moves.trans ?_ (.gateProgram p _ _)
    exact .onProg p s fun _ => rfl
  · split
    case h_3 => exact .firstActive p s false
    all_goals
      split
      · next h =>
        obtain ⟨-, v, -, -, rfl⟩ := State.bindVoice_eq h
        exact (State.Moves.onVoice p s _ _).trans (.onProg p _ fun _ => rfl)
      · exact .firstActive p s true

theorem State.Moves.enterUngranted (p : ProgId) (s : State) : State.Moves p s (s.enterUngranted p) := by
  unfold State.enterUngranted
  simp only
  split
  · refine State.Moves.trans ?_ (.onBoundVoice p _ _)
    exact .onProg p s fun _ => rfl
  · refine State.Moves.trans ?_ (.gateProgram p _ _)
    exact .onProg p s fun _ => rfl
  all_goals exact State.Moves.onProg p s fun _ => rfl

theorem Program.waitClock_steady (g : Program) : g.waitClock.steady = g.steady := by
  unfold Program.waitClock; split <;> rfl

theorem State.Moves.waitClock (p : ProgId) (s : State) : State.Moves p s (s.onProg p Program.waitClock) :=
  .onProg p s Program.waitClock_steady

theorem Program.isOpen_iff (g : Program) : g.isOpen = true ↔ g.state ≠ .free ∧ g.state ≠ .ended := by
  simp only [Program.isOpen, Bool.and_eq_true, bne_iff_ne]

/-- Settling a program ends it where nothing is left to it, and otherwise no more than moves it to another state (R19). -/
theorem State.settleProgram_cases (s : State) (p : ProgId) :
    (s.settleProgram p = s.endProgram p .noZones ∧ s.progs[p].isOpen = true ∧ s.progs[p].granted = 0#64 ∧
      (s.progs[p].state = .tail ∨ (s.progs[p].held = 0#64 ∧ s.progs[p].waiting = 0#64))) ∨
    (State.Moves p s (s.settleProgram p) ∧ (s.progs[p].isOpen = true → s.progs[p].granted ≠ 0#64 ∨
      (s.progs[p].state ≠ .tail ∧ (s.progs[p].held ≠ 0#64 ∨ s.progs[p].waiting ≠ 0#64)))) := by
  rw [State.settleProgram_eq]
  cases hst : s.progs[p].state
  case free | ended => exact Or.inr ⟨.refl p s, fun h => absurd ((Program.isOpen_iff _).mp h) (by rw [hst]; decide)⟩
  case tail =>
    by_cases hg : s.progs[p].granted = 0#64
    · exact Or.inl ⟨if_pos hg, (Program.isOpen_iff _).mpr (by rw [hst]; decide), hg, Or.inl rfl⟩
    · right
      rw [show (if s.progs[p].granted = 0#64 then s.endProgram p .noZones else s) = s from if_neg hg]
      exact ⟨.refl p s, fun _ => Or.inl hg⟩
  all_goals
    show s.settleOpen p = _ ∧ _ ∨ State.Moves p s (s.settleOpen p) ∧ _
    unfold State.settleOpen
    simp only
    by_cases hz : s.progs[p].granted = 0#64 ∧ s.progs[p].held = 0#64 ∧ s.progs[p].waiting = 0#64
    · exact Or.inl ⟨if_pos hz, (Program.isOpen_iff _).mpr (by rw [hst]; decide), hz.1, Or.inr hz.2⟩
    · right
      rw [if_neg hz]
      refine ⟨State.Moves.trans (u := if _ then _ else _) ?_ (.waitClock p _), fun _ => ?_⟩
      · split
        · exact .enterUngranted p s
        · split
          · exact .enterGranted p s
          · exact .refl p s
      · by_cases hg : s.progs[p].granted = 0#64
        · refine Or.inr ⟨by decide, ?_⟩
          by_contra hno
          rw [not_or, not_not, not_not] at hno
          exact hz ⟨hg, hno⟩
        · exact Or.inl hg

theorem State.Moves.zones {p : ProgId} {s u : State} (h : State.Moves p s u) : u.zones = s.zones := (congrArg State.zones h.steady :)

end Sys2Proof.Machine
end

section
namespace Sys2Proof.Machine

/-! ### Holders and granted sets agree (R16, R18, R30)

What each operation of the claim manager keeps without any law of the stacks: a program's granted zones are those it holds as
owner or, for a BED program, as bed, and each place is held by a kind that fits it. -/

structure State.MatchedAt (s : State) (z : Zone) : Prop where
  granted : ∀ p : ProgId, s.progs[p].granted.getLsbD z.val = true ↔
    if s.progs[p].kind = .bed then s.zones[z].bed = some p else s.zones[z].owner = some p
  ownerKind : ∀ o : ProgId, s.zones[z].owner = some o → s.progs[o].kind ≠ .bed
  stackKind : ∀ q ∈ s.zones[z].stack, s.progs[q].kind.resumable = true
  bedKind : ∀ b : ProgId, s.zones[z].bed = some b → s.progs[b].kind = .bed

def State.Matched (s : State) : Prop := ∀ z : Zone, s.MatchedAt z

theorem State.programAgrees_of_agree {s : State} (h : s.claimsAgree = true) (p : ProgId) : s.programAgrees p = true :=
  List.all_eq_true.mp h p (List.mem_finRange p)

theorem State.granted_of_agree {s : State} (h : s.claimsAgree = true) (p : ProgId) (z : Zone) :
    s.progs[p].granted.getLsbD z.val = true ↔
      if s.progs[p].kind = .bed then s.zones[z].bed = some p else s.zones[z].owner = some p := by
  have hp := State.programAgrees_of_agree h p
  unfold State.programAgrees at hp
  simp only [Bool.and_eq_true] at hp
  have hz := List.all_eq_true.mp hp.2 z (List.mem_finRange z)
  simp only [Bool.and_eq_true, beq_iff_eq] at hz
  rw [show s.progs[p].granted.getLsbD z.val = _ from hz.1]
  split <;> exact beq_iff_eq

theorem State.held_of_agree {s : State} (h : s.claimsAgree = true) (p : ProgId) (z : Zone) :
    s.progs[p].held.getLsbD z.val = true ↔ p ∈ s.zones[z].stack := by
  have hp := State.programAgrees_of_agree h p
  unfold State.programAgrees at hp
  simp only [Bool.and_eq_true] at hp
  have hz := List.all_eq_true.mp hp.2 z (List.mem_finRange z)
  simp only [Bool.and_eq_true, beq_iff_eq] at hz
  rw [show s.progs[p].held.getLsbD z.val = _ from hz.2, List.contains_iff_mem]

theorem State.sets_of_closed {s : State} (h : s.claimsAgree = true) {p : ProgId} (hp : s.progs[p].isOpen = false) :
    s.progs[p].granted = 0#64 ∧ s.progs[p].held = 0#64 ∧ s.progs[p].waiting = 0#64 ∧ s.progs[p].requested = 0#64 := by
  have ha := State.programAgrees_of_agree h p
  unfold State.programAgrees at ha
  simp only [Bool.and_eq_true] at ha
  have h1 := ha.1
  rw [if_neg (by rw [hp]; decide)] at h1
  simp only [Bool.and_eq_true, beq_iff_eq] at h1
  obtain ⟨⟨⟨hg, hh⟩, hw⟩, hr⟩ := h1
  exact ⟨hg, hh, hw, hr⟩

theorem State.sets_of_open {s : State} (h : s.claimsAgree = true) {p : ProgId} (hp : s.progs[p].isOpen = true) :
    s.progs[p].granted &&& s.progs[p].held = 0#64 ∧ s.progs[p].granted &&& s.progs[p].waiting = 0#64 ∧
      s.progs[p].held &&& s.progs[p].waiting = 0#64 ∧
      s.progs[p].granted ||| s.progs[p].held ||| s.progs[p].waiting = s.progs[p].requested := by
  have ha := State.programAgrees_of_agree h p
  unfold State.programAgrees at ha
  simp only [Bool.and_eq_true] at ha
  have h1 := ha.1
  rw [if_pos hp] at h1
  simp only [Bool.and_eq_true, beq_iff_eq] at h1
  obtain ⟨⟨⟨hg, hh⟩, hw⟩, hr⟩ := h1
  exact ⟨hg, hh, hw, hr⟩

/-- R16 says that each program's part in each zone is one of the four it may have. -/
theorem State.claim_of_agree {s : State} (h : s.claimsAgree = true) (p : ProgId) (z : Zone) : s.progs[p].claim z ≠ .unsound := by
  have bits {a b : ZoneSet} (e : a = b) : a.getLsbD z.val = b.getLsbD z.val := by rw [e]
  unfold Program.claim
  cases hp : s.progs[p].isOpen with
  | false =>
    obtain ⟨hg, hh, hw, hr⟩ := State.sets_of_closed h hp
    rw [hg, hh, hw, hr, BitVec.getLsbD_zero]
    decide
  | true =>
    obtain ⟨h1, h2, h3, h4⟩ := State.sets_of_open h hp
    have h1 := bits h1
    have h2 := bits h2
    have h3 := bits h3
    have h4 := bits h4
    simp only [BitVec.getLsbD_and, BitVec.getLsbD_or, BitVec.getLsbD_zero] at h1 h2 h3 h4
    rw [← h4]
    revert h1 h2 h3
    cases s.progs[p].granted.getLsbD z.val <;> cases s.progs[p].held.getLsbD z.val <;>
      cases s.progs[p].waiting.getLsbD z.val <;> simp

theorem State.matched_of_agree {s : State} (h : s.claimsAgree = true) (hk : s.kindsLawful = true) : s.Matched := fun z => by
  have hz := List.all_eq_true.mp hk z (List.mem_finRange z)
  simp only [Bool.and_eq_true, Option.all_eq_true, List.all_eq_true, bne_iff_ne, beq_iff_eq] at hz
  obtain ⟨⟨ho, hst⟩, hb⟩ := hz
  exact ⟨fun p => State.granted_of_agree h p z, ho, hst, hb⟩

section Matching
variable {s u : State} {p : ProgId} {z : Zone}

theorem State.MatchedAt.not_holder (h : s.MatchedAt z) (hg : s.progs[p].granted.getLsbD z.val = false) :
    s.zones[z].owner ≠ some p ∧ s.zones[z].bed ≠ some p := by
  have hn : ¬(if s.progs[p].kind = .bed then s.zones[z].bed = some p else s.zones[z].owner = some p) := fun e => by
    rw [(h.granted p).mpr e] at hg; cases hg
  by_cases hk : s.progs[p].kind = .bed
  · rw [if_pos hk] at hn
    exact ⟨fun e => h.ownerKind p e hk, hn⟩
  · rw [if_neg hk] at hn
    exact ⟨hn, fun e => hk (h.bedKind p e)⟩

theorem State.Matched.not_holder (h : s.Matched) (hg : s.progs[p].granted = 0#64) (z : Zone) :
    s.zones[z].owner ≠ some p ∧ s.zones[z].bed ≠ some p :=
  (h z).not_holder (by rw [hg, BitVec.getLsbD_zero])

theorem State.Matched.ownedBy_eq (h : s.Matched) (hg : s.progs[p].granted = 0#64) : s.ownedBy p = 0#64 :=
  (zoneSet_eq_zero_iff _).mpr fun z => by
    rw [State.ownedBy, getLsbD_zonesWhere]
    exact beq_eq_false_iff_ne.mpr (h.not_holder hg z).1

theorem State.Matched.bedsOf_eq (h : s.Matched) (hg : s.progs[p].granted = 0#64) : s.bedsOf p = 0#64 :=
  (zoneSet_eq_zero_iff _).mpr fun z => by
    rw [State.bedsOf, getLsbD_zonesWhere]
    exact beq_eq_false_iff_ne.mpr (h.not_holder hg z).2

theorem ZoneRec.strip_stack (r : ZoneRec) (p : ProgId) : (r.strip p).stack = r.stack.filter (· ≠ p) := by
  refine List.filter_congr fun q _ => ?_
  by_cases e : q = p <;> simp [e]

/-- A program that holds nothing leaves owners and bed slots as they are. -/
theorem ZoneRec.strip_of_not_holder {r : ZoneRec} (ho : r.owner ≠ some p) (hb : r.bed ≠ some p) :
    r.strip p = { r with stack := r.stack.filter fun q => q != p } := by
  unfold ZoneRec.strip
  rw [if_neg ho, if_neg hb]

theorem State.matchedAt_endProgram (h : s.MatchedAt z) (why : EndReason) : (s.endProgram p why).MatchedAt z := by
  have hkind (q : ProgId) : (s.endProgram p why).progs[q].kind = s.progs[q].kind := by
    by_cases e : q = p
    · subst e; rw [State.endProgram_self]; rfl
    · rw [State.endProgram_other s e]
  refine ⟨fun q => ?_, fun o ho => ?_, fun q hq => ?_, fun b hb => ?_⟩
  · rw [hkind, State.endProgram_zone]
    by_cases e : q = p
    · subst e
      rw [State.endProgram_self]
      simp only [Program.finished, BitVec.getLsbD_zero, Bool.false_eq_true, ZoneRec.strip, false_iff]
      split <;> split <;> simp_all
    · rw [State.endProgram_other s e, h.granted q]
      simp only [ZoneRec.strip]
      have e' : p ≠ q := fun h => e h.symm
      split
      · split
        · next hb => rw [hb]; simp [e']
        · rfl
      · split
        · next hb => rw [hb]; simp [e']
        · rfl
  · rw [hkind]
    rw [State.endProgram_zone, ZoneRec.strip] at ho
    simp only at ho
    split at ho
    · cases ho
    · exact h.ownerKind o ho
  · rw [hkind]
    rw [State.endProgram_zone] at hq
    exact h.stackKind q (List.mem_of_mem_filter hq)
  · rw [hkind]
    rw [State.endProgram_zone, ZoneRec.strip] at hb
    simp only at hb
    split at hb
    · cases hb
    · exact h.bedKind b hb

/-- What the agreement speaks of: kinds, granted sets and the claims on the zone. -/
theorem State.MatchedAt.congr (h : s.MatchedAt z) (hk : ∀ q : ProgId, u.progs[q].kind = s.progs[q].kind)
    (hg : ∀ q : ProgId, u.progs[q].granted.getLsbD z.val = s.progs[q].granted.getLsbD z.val)
    (hz : u.zones[z].owner = s.zones[z].owner ∧ u.zones[z].stack = s.zones[z].stack ∧ u.zones[z].bed = s.zones[z].bed) :
    u.MatchedAt z := by
  obtain ⟨ho, hst, hb⟩ := hz
  refine ⟨fun q => ?_, fun o => ?_, fun q => ?_, fun b => ?_⟩
  · rw [hk, hg, ho, hb]; exact h.granted q
  · rw [hk, ho]; exact h.ownerKind o
  · rw [hk, hst]; exact h.stackKind q
  · rw [hk, hb]; exact h.bedKind b

theorem State.Moves.steady_prog (h : State.Moves p s u) (q : ProgId) : u.progs[q].steady = s.progs[q].steady := by
  by_cases e : q = p
  · rw [e]; exact h.self
  · rw [h.other q e]

theorem State.Moves.matched (h : State.Moves p s u) (hm : s.Matched) : u.Matched := fun z =>
  (hm z).congr (fun q => (congrArg Program.kind (h.steady_prog q) :))
    (fun q => by rw [show u.progs[q].granted = s.progs[q].granted from (congrArg Program.granted (h.steady_prog q) :)])
    (by rw [h.zones]; exact ⟨rfl, rfl, rfl⟩)

theorem State.matched_settleProgram (h : s.Matched) (p : ProgId) : (s.settleProgram p).Matched := by
  rcases s.settleProgram_cases p with ⟨e, -⟩ | ⟨hm, -⟩
  · rw [e]; exact fun z => State.matchedAt_endProgram (h z) _
  · exact hm.matched h

/-- Settling leaves owners and bed slots as they are, and takes from the stacks none but programs that end. -/
theorem State.settleProgram_holders (h : s.Matched) (p : ProgId) (z : Zone) :
    (s.settleProgram p).zones[z] = s.zones[z] ∨
      (s.settleProgram p).zones[z] = { s.zones[z] with stack := s.zones[z].stack.filter fun q => q != p } := by
  rcases s.settleProgram_cases p with ⟨e, -, hg, -⟩ | ⟨hm, -⟩
  · right
    obtain ⟨ho, hb⟩ := h.not_holder hg z
    rw [e, State.endProgram_zone, ZoneRec.strip_of_not_holder ho hb]
  · left
    rw [hm.zones]

/-- Everything of a zone but its stack stays at the settling (R19). -/
theorem State.settleAll_zone (h : s.Matched) (z : Zone) :
    s.settleAll.zones[z] = { s.zones[z] with stack := s.settleAll.zones[z].stack } := by
  have key (l : List ProgId) (s : State) (h : s.Matched) : (l.foldl (fun s p => s.settleProgram p) s).zones[z] =
      { s.zones[z] with stack := (l.foldl (fun s p => s.settleProgram p) s).zones[z].stack } := by
    induction l generalizing s with
    | nil => rfl
    | cons q l ih =>
      rw [List.foldl_cons, ih _ (State.matched_settleProgram h q)]
      rcases State.settleProgram_holders h q z with e | e <;> rw [e]
  exact key _ s h

theorem State.settleAll_owner (h : s.Matched) (z : Zone) : s.settleAll.zones[z].owner = s.zones[z].owner := by
  rw [State.settleAll_zone h z]

theorem State.settleAll_bed (h : s.Matched) (z : Zone) : s.settleAll.zones[z].bed = s.zones[z].bed := by
  rw [State.settleAll_zone h z]

theorem State.settleProgram_other (s : State) {p q : ProgId} (h : q ≠ p) : (s.settleProgram p).progs[q] = s.progs[q] :=
  (Leaves.settleProgram h.symm s).prog

/-- A program's turn at the settling comes with its record as it was, and stands as it is left. -/
theorem State.settleAll_turn (s : State) (p : ProgId) :
    ∃ t : State, t.progs[p] = s.progs[p] ∧ s.settleAll.progs[p] = (t.settleProgram p).progs[p] := by
  obtain ⟨a, b, hl, ha, hb⟩ := finRange_split p
  have stays (l : List ProgId) (hl : ∀ q ∈ l, q ≠ p) (s : State) :
      (l.foldl (fun s p => s.settleProgram p) s).progs[p] = s.progs[p] :=
    List.foldlRecOn (motive := fun u : State => u.progs[p] = s.progs[p]) l _ rfl fun u hu q hq =>
      (State.settleProgram_other u (hl q hq).symm).trans hu
  refine ⟨a.foldl (fun s p => s.settleProgram p) s, stays a (fun q hq => (ha q hq).ne) s, ?_⟩
  unfold State.settleAll
  rw [hl, List.foldl_append, List.foldl_cons, stays b fun q hq => (hb q hq).ne']

/-- What the settling does to one program's record. -/
theorem State.settleAll_prog (s : State) (p : ProgId) :
    (s.settleAll.progs[p] = s.progs[p].finished .noZones ∧ s.progs[p].isOpen = true ∧ s.progs[p].granted = 0#64 ∧
      (s.progs[p].state = .tail ∨ (s.progs[p].held = 0#64 ∧ s.progs[p].waiting = 0#64))) ∨
    (s.settleAll.progs[p].steady = s.progs[p].steady ∧ (s.progs[p].isOpen = true → s.progs[p].granted ≠ 0#64 ∨
      (s.progs[p].state ≠ .tail ∧ (s.progs[p].held ≠ 0#64 ∨ s.progs[p].waiting ≠ 0#64)))) := by
  obtain ⟨t, ht, hu⟩ := s.settleAll_turn p
  rw [hu, ← ht]
  rcases t.settleProgram_cases p with ⟨e, h⟩ | ⟨hm, h⟩
  · left
    rw [e, State.endProgram_self]
    exact ⟨rfl, h⟩
  · exact Or.inr ⟨hm.self, h⟩

end Matching

/-! ### WAIT_LIMIT_EXPIRY and JOIN_DEADLINE_EXPIRY (R37, R38) -/

section Expiries
variable {s u : State} {p : ProgId}

theorem State.releaseStep_none (s : State) (quiet : Bool) : s.releaseStep quiet 0#64 0#64 = s := by
  have : zonesOf (0#64 ||| 0#64) = [] := by
    rw [List.eq_nil_iff_forall_not_mem]
    intro z hz
    rw [mem_zonesOf] at hz
    simp at hz
  unfold State.releaseStep
  rw [this]
  rfl

/-- The end of a program that owns nothing leaves no zone to a successor (R21). -/
theorem State.endAndRelease_of_unowned (h : s.Matched) (hg : s.progs[p].granted = 0#64) (why : EndReason) (c : Cause) :
    s.endAndRelease p why c = State.finish s (s.endProgram p why) c := by
  unfold State.endAndRelease
  simp only [h.ownedBy_eq hg, h.bedsOf_eq hg, State.releaseStep_none]

theorem State.settled_endProgram (h : s.statesFollow = true) (p : ProgId) (why : EndReason) (q : ProgId) :
    (s.endProgram p why).progs[q].settled = true := by
  by_cases e : q = p
  · subst e
    rw [State.endProgram_self]
    rfl
  · rw [State.endProgram_other s e]
    exact State.settled_of_follow h q

/-- No survey is to be aborted where owners, their classes and the zone under survey stand (R198). -/
theorem State.surveyClear_congr (hv : u.survey.zone = s.survey.zone) (ho : ∀ z : Zone, u.ownerClass z = s.ownerClass z)
    (h : s.surveyClear = true) : u.surveyClear = true := by
  unfold State.surveyClear at h ⊢
  rw [hv]
  simp only [ho]
  exact h

theorem State.atRest_iff (s : State) : s.atRest = true ↔ s.statesFollow = true ∧ s.surveyClear = true ∧ s.served = true := by
  simp only [State.atRest, Bool.and_eq_true, and_assoc]

theorem State.arbitrate_port (s : State) (q : Port) : s.arbitrate.port q = s.port q := by
  unfold State.port; rw [State.arbitrate_ports]

/-- An operation that changes no owner and the record of no owner hands nothing on. -/
theorem State.finish_of_bystander {s0 s : State} (c : Cause) (hv : s0.surveyClear = true)
    (hsv : s.settleAll.survey = s0.survey) (ho : ∀ z : Zone, s.settleAll.zones[z].owner = s0.zones[z].owner)
    (hc : ∀ (z : Zone) (o : ProgId), s0.zones[z].owner = some o → s.settleAll.progs[o].cls = s0.progs[o].cls) :
    (State.finish s0 s c).silent = s.settleAll.silent := by
  refine State.finish_of_owners c ho (State.surveyClear_congr (by rw [hsv]) (fun z => ?_) hv)
  unfold State.ownerClass
  rw [ho]
  cases hz : s0.zones[z].owner with
  | none => rfl
  | some o => exact congrArg some (hc z o hz)

theorem Program.changed_of_state {a b : Program} (h : a.state ≠ b.state) : a.changed b = true := by
  simp [Program.changed, h]

theorem State.waitLimitExpiry_due (hr : s.atRest = true) (ha : s.claimsAgree = true) (hk : s.kindsLawful = true)
    (ht : s.progs[p].waitTimer = some 0) (hst : s.progs[p].state = .pending ∨ s.progs[p].state = .held) :
    ∃ u, exec (.waitLimitExpiry p) s = .next u ∧ u.progs[p].state = .ended ∧ u.progs[p].endReason = some .waitExpired ∧
      u.progs[p].waiting = 0#64 ∧ (∀ z : Zone, u.zones[z].owner = s.zones[z].owner ∧
        u.zones[z].stack = s.zones[z].stack.filter (· ≠ p)) ∧
      (∀ q : ProgId, q ≠ p → u.progs[q] = s.progs[q]) ∧
      (u.port s.progs[p].owner).has .program = true ∧ (u.port s.progs[p].owner).changed.getLsbD p.val = true := by
  obtain ⟨hf, hv, -⟩ := (State.atRest_iff s).mp hr
  have hm := State.matched_of_agree ha hk
  have hg : s.progs[p].granted = 0#64 := by
    have hset := State.settled_of_follow hf p
    unfold Program.settled at hset
    rcases hst with e | e <;> rw [e] at hset <;> simp only [Bool.and_eq_true, beq_iff_eq] at hset
    · exact hset.1.1.1
    · exact hset.1.1
  have hall : (s.endProgram p .waitExpired).settleAll = s.endProgram p .waitExpired :=
    State.settleAll_of_settled (State.settled_endProgram hf p _)
  have howner (z : Zone) : (s.endProgram p .waitExpired).zones[z].owner = s.zones[z].owner := by
    rw [State.endProgram_zone, ZoneRec.strip_of_not_holder (hm.not_holder hg z).1 (hm.not_holder hg z).2]
  have hsil := State.finish_of_bystander (s := s.endProgram p .waitExpired) Cause.event hv
    (by rw [hall, State.endProgram_survey]) (by rw [hall]; exact howner) fun z o ho => by
      rw [hall, State.endProgram_other s fun e => (hm.not_holder hg z).1 (by rw [ho, e])]
  rw [hall] at hsil
  have hraised := State.finish_raised s (s.endProgram p .waitExpired) (c := Cause.event) (p := p) (by simp [Cause.event])
    (by rw [hall, State.endProgram_self]; exact Program.changed_of_state (by rcases hst with e | e <;> rw [e] <;> simp [Program.finished]))
  rw [hall, State.endProgram_self] at hraised
  refine ⟨(State.finish s (s.endProgram p .waitExpired) Cause.event).arbitrate, ?_, ?_⟩
  · show partEvent (if s.progs[p].waitTimer = some 0 then s.endAndRelease p .waitExpired Cause.event else s) = _
    rw [if_pos ht, State.endAndRelease_of_unowned hm hg]
    rfl
  · simp only [State.arbitrate_progs, State.arbitrate_zones, State.arbitrate_port, State.progs_of_silent hsil,
      State.zones_of_silent hsil]
    refine ⟨by rw [State.endProgram_self]; rfl, by rw [State.endProgram_self]; rfl, by rw [State.endProgram_self]; rfl,
      fun z => ⟨howner z, ?_⟩, fun q hq => State.endProgram_other s hq _, hraised⟩
    rw [State.endProgram_zone, ZoneRec.strip_stack]

/-- Sets that do not meet. -/
theorem zoneSet_and_compl {a b : ZoneSet} (h : a &&& b = 0#64) : a &&& ~~~b = a := zoneSet_ext fun z => by
  have hz := congrArg (fun x : ZoneSet => x.getLsbD z.val) h
  simp only [BitVec.getLsbD_and, BitVec.getLsbD_zero] at hz
  rw [BitVec.getLsbD_and, getLsbD_compl]
  revert hz
  cases a.getLsbD z.val <;> cases b.getLsbD z.val <;> simp

/-- A program after its join deadline (R38). -/
def Program.joined (g : Program) : Program := { g.without g.waiting with joinTimer := none }

theorem Program.joined_eq {g : Program} (hg : g.granted &&& g.waiting = 0#64) (hh : g.held &&& g.waiting = 0#64) :
    g.joined = { g with requested := g.requested &&& ~~~g.waiting, waiting := 0#64, joinTimer := none } := by
  have hw : g.waiting &&& ~~~g.waiting = 0#64 := by simp
  simp only [Program.joined, Program.without, zoneSet_and_compl hg, zoneSet_and_compl hh, hw]

/-- A program that has something to go on with needs no settling after its join deadline. -/
theorem Program.settled_joined {g : Program} (hs : g.settled = true) (hg : g.granted &&& g.waiting = 0#64)
    (hh : g.held &&& g.waiting = 0#64) (ht : g.state ≠ .tail) (hsome : g.granted ≠ 0#64 ∨ g.held ≠ 0#64) :
    g.joined.settled = true := by
  rw [Program.joined_eq hg hh]
  unfold Program.settled at hs ⊢
  cases hst : g.state <;> simp only [hst] at hs ⊢
  case tail => exact absurd hst ht
  case pending =>
    simp only [Bool.and_eq_true, beq_iff_eq] at hs
    rcases hsome with h | h
    · exact absurd hs.1.1.1 h
    · exact absurd hs.1.1.2 h
  all_goals exact hs

theorem State.onProg_progs_self (s : State) (p : ProgId) (f : Program → Program) : (s.onProg p f).progs[p] = f s.progs[p] :=
  getElem_adjust_self ..

theorem State.onProg_progs_ne (s : State) {p q : ProgId} (h : q ≠ p) (f : Program → Program) :
    (s.onProg p f).progs[q] = s.progs[q] :=
  getElem_adjust_ne _ f h.symm

theorem State.joinDeadlineExpiry_due (hr : s.atRest = true) (ha : s.claimsAgree = true) (hk : s.kindsLawful = true)
    (ht : s.progs[p].joinTimer = some 0) (hop : s.progs[p].isOpen = true) (hst : s.progs[p].state ≠ .tail) :
    ∃ u, exec (.joinDeadlineExpiry p) s = .next u ∧
      (let g := s.progs[p]
       (g.granted = 0#64 → g.held = 0#64 → u.progs[p].state = .ended ∧ u.progs[p].endReason = some .noZones) ∧
       (g.granted ≠ 0#64 ∨ g.held ≠ 0#64 →
         u.progs[p] = { g with requested := g.requested &&& ~~~g.waiting, waiting := 0#64, joinTimer := none })) ∧
      (∀ q : ProgId, q ≠ p → u.progs[q] = s.progs[q]) ∧
      (∀ z : Zone, u.zones[z].owner = s.zones[z].owner ∧ u.zones[z].stack = s.zones[z].stack) := by
  obtain ⟨hf, hv, -⟩ := (State.atRest_iff s).mp hr
  have hm := State.matched_of_agree ha hk
  obtain ⟨-, hgw, hhw, -⟩ := State.sets_of_open ha hop
  have hexec : exec (.joinDeadlineExpiry p) s = .next (State.finish s (s.onProg p Program.joined) Cause.event).arbitrate := by
    show partEvent (if s.progs[p].joinTimer = some 0 then s.joinDone p else s) = _
    rw [if_pos ht]
    rfl
  have hother (q : ProgId) (hq : q ≠ p) : (s.onProg p Program.joined).progs[q].settled = true := by
    rw [State.onProg_progs_ne s hq]
    exact State.settled_of_follow hf q
  have hself : (s.onProg p Program.joined).progs[p] = s.progs[p].joined := s.onProg_progs_self p _
  refine ⟨_, hexec, ?_⟩
  simp only [State.arbitrate_progs, State.arbitrate_zones]
  by_cases hsome : s.progs[p].granted ≠ 0#64 ∨ s.progs[p].held ≠ 0#64
  · have hall : (s.onProg p Program.joined).settleAll = s.onProg p Program.joined := State.settleAll_of_settled fun q => by
      by_cases e : q = p
      · rw [e, hself]
        exact Program.settled_joined (State.settled_of_follow hf p) hgw hhw hst hsome
      · exact hother q e
    have hsil := State.finish_of_bystander (s := s.onProg p Program.joined) Cause.event hv (by rw [hall]; rfl)
      (fun z => by rw [hall]; rfl) fun z o _ => by
        rw [hall]
        by_cases e : o = p
        · rw [e, hself]; rfl
        · rw [State.onProg_progs_ne s e]
    rw [hall] at hsil
    simp only [State.progs_of_silent hsil, State.zones_of_silent hsil]
    refine ⟨⟨fun h1 h2 => ?_, fun _ => hself.trans (Program.joined_eq hgw hhw)⟩, fun q hq => State.onProg_progs_ne s hq _,
      fun z => ⟨rfl, rfl⟩⟩
    rcases hsome with h | h
    · exact absurd h1 h
    · exact absurd h2 h
  · rw [not_or, not_not, not_not] at hsome
    obtain ⟨hg, hh⟩ := hsome
    have hall : (s.onProg p Program.joined).settleAll = (s.onProg p Program.joined).endProgram p .noZones := by
      rw [State.settleAll_of_others hother]
      rcases (s.onProg p Program.joined).settleProgram_cases p with ⟨e, -⟩ | ⟨-, hcase⟩
      · exact e
      · rw [hself, Program.joined_eq hgw hhw] at hcase
        rcases hcase hop with h | ⟨-, h | h⟩
        · exact absurd hg h
        · exact absurd hh h
        · exact absurd rfl h
    have hzone (z : Zone) : ((s.onProg p Program.joined).endProgram p .noZones).zones[z] = s.zones[z] := by
      have hstack : s.zones[z].stack.filter (· ≠ p) = s.zones[z].stack := List.filter_eq_self.mpr fun q hq => by
        rw [decide_eq_true_iff]
        rintro rfl
        have := (State.held_of_agree ha q z).mpr hq
        rw [hh, BitVec.getLsbD_zero] at this
        cases this
      rw [State.endProgram_zone]
      refine Eq.trans (ZoneRec.strip_of_not_holder (r := s.zones[z]) (hm.not_holder hg z).1 (hm.not_holder hg z).2) ?_
      rw [show (s.zones[z].stack.filter fun q => q != p) = s.zones[z].stack from
        (ZoneRec.strip_stack s.zones[z] p).trans hstack]
    have hprog (q : ProgId) (hq : q ≠ p) : ((s.onProg p Program.joined).endProgram p .noZones).progs[q] = s.progs[q] := by
      rw [State.endProgram_other _ hq, State.onProg_progs_ne s hq]
    have hsil := State.finish_of_bystander (s := s.onProg p Program.joined) Cause.event hv
      (by rw [hall, State.endProgram_survey]; rfl) (fun z => by rw [hall, hzone]) fun z o ho => by
        rw [hall, hprog o fun e => (hm.not_holder hg z).1 (by rw [ho, e])]
    rw [hall] at hsil
    simp only [State.progs_of_silent hsil, State.zones_of_silent hsil]
    refine ⟨⟨fun _ _ => ?_, fun h => ?_⟩, hprog, fun z => by rw [hzone z]; exact ⟨rfl, rfl⟩⟩
    · rw [State.endProgram_self]
      exact ⟨rfl, rfl⟩
    · rcases h with h | h
      · exact absurd hg h
      · exact absurd hh h

end Expiries

/-- Settles O34: neither expiry leaves anything for a release step, so only the settling of the one program follows. -/
theorem waitsAndJoinsExpire : Obligations.WaitsAndJoinsExpire := by
  unfold Obligations.WaitsAndJoinsExpire
  exact ⟨fun s p hr ha hk ht hst => State.waitLimitExpiry_due hr ha hk ht hst,
    fun s p hr ha hk ht hop hst => State.joinDeadlineExpiry_due hr ha hk ht hop hst⟩

end Sys2Proof.Machine
end

section
namespace Sys2Proof.Machine

/-! ### The answer to a port command (R205, R206) -/

theorem idx?_of_toNat {n : Nat} {x : Byte} {i : Fin n} (h : x.toNat = i.val) : idx? n x = some i := by
  unfold idx?
  rw [dif_pos (h ▸ i.isLt)]
  exact congrArg some (Fin.ext h)

theorem idx?_of_large {n : Nat} {x : Byte} (h : n ≤ x.toNat) : idx? n x = none := dif_neg (Nat.not_lt.mpr h)

/-- The state a command leaves, once its response is pending and the arbiter has acted. -/
def State.replied (s : State) (t : Txn) (code : Byte) (st : Status) (results : List Byte) : State :=
  (s.respond t.port code st results).arbitrate

/-- A frame that is taken: the command works on the state with its transaction clocked through, which keeps the notices, and the
arbiter acts on what the response is added to. -/
theorem portCommand_quiet {s : State} {t : Txn} (h : s.listens t = true) (code : Byte) (n : Nat) (body : State → Reply) :
    ∃ f : PortCtl → PortCtl, (∀ c, (f c).notices = c.notices) ∧ portCommand s t code n body = .next
      ((body (s.onPort t.port f)).1.replied t code (body (s.onPort t.port f)).2.1 (body (s.onPort t.port f)).2.2) := by
  refine ⟨fun c => { c with rx := [], response := none, dataOut := shiftedOut c.response (n + 3 + t.extra) }, fun _ => rfl, ?_⟩
  unfold portCommand State.replied
  rw [State.transact_of_listens h, s.clockThrough_pos t.port (by omega)]

theorem portCommand_next {s : State} {t : Txn} (h : s.listens t = true) (code : Byte) (n : Nat) (body : State → Reply) :
    ∃ f, portCommand s t code n body = .next
      ((body (s.onPort t.port f)).1.replied t code (body (s.onPort t.port f)).2.1 (body (s.onPort t.port f)).2.2) := by
  obtain ⟨f, -, hf⟩ := portCommand_quiet h code n body
  exact ⟨f, hf⟩

section Replies
variable {s : State} {t : Txn} {code : Byte} {st : Status} {results : List Byte}

theorem State.replied_answered : (s.replied t code st results).answered t code st results := by
  unfold State.answered State.replied
  rw [State.arbitrate_port, State.respond, State.port_onPort, if_pos rfl]

@[simp] theorem State.replied_progs : (s.replied t code st results).progs = s.progs := by simp [State.replied, State.respond]
@[simp] theorem State.replied_zones : (s.replied t code st results).zones = s.zones := by simp [State.replied, State.respond]
@[simp] theorem State.replied_stations : (s.replied t code st results).stations = s.stations := by
  simp [State.replied, State.respond]
@[simp] theorem State.replied_voices : (s.replied t code st results).voices = s.voices := by simp [State.replied, State.respond]
@[simp] theorem State.replied_slots : (s.replied t code st results).slots = s.slots := by simp [State.replied, State.respond]
@[simp] theorem State.replied_tone : (s.replied t code st results).tone = s.tone := by simp [State.replied, State.respond]
@[simp] theorem State.replied_chans : (s.replied t code st results).chans = s.chans := by simp [State.replied, State.respond]
@[simp] theorem State.replied_arrivals : (s.replied t code st results).arrivals = s.arrivals := by
  simp [State.replied, State.respond]

theorem State.replied_has (q : Port) (k : NoticeKind) : ((s.replied t code st results).port q).has k = (s.port q).has k := by
  unfold State.replied
  rw [State.arbitrate_port, State.respond, State.port_onPort]
  split
  · next e => subst e; rfl
  · rfl

theorem State.replied_changed (q : Port) : ((s.replied t code st results).port q).changed = (s.port q).changed := by
  unfold State.replied
  rw [State.arbitrate_port, State.respond, State.port_onPort]
  split
  · next e => subst e; rfl
  · rfl

end Replies

/-- A program named by the port that owns it, not an alarm's and not a route slot's, is accepted (R42 to R44). -/
theorem State.ownedProgram_of_mine {s : State} {port : Port} {prog : Byte} {p : ProgId} {bad : Bool} (hp : prog.toNat = p.val)
    (hb : bad = false) (h2 : 2 ≤ p.val) (ho : s.progs[p].owner = port) (hr : s.progs[p].routeSlot = none)
    (hs : s.progs[p].state ≠ .free) : s.ownedProgram port prog bad = .ok p := by
  unfold State.ownedProgram
  rw [idx?_of_toNat hp]
  simp only [hb, ho, hr, hs, Bool.false_eq_true, if_false, ne_eq, not_true_eq_false, false_or, Option.isSome_none, or_false,
    if_neg (Nat.not_lt.mpr h2)]

theorem State.ownedProgram_of_bad {s : State} {port : Port} {prog : Byte} {bad : Bool} (h : 31 < prog.toNat ∨ bad = true) :
    s.ownedProgram port prog bad = .error .param := by
  unfold State.ownedProgram
  rcases h with h | h
  · rw [idx?_of_large h]
  · split
    · rfl
    · simp [h]

theorem State.ownedProgram_of_free {s : State} {port : Port} {prog : Byte} {p : ProgId} {bad : Bool} (hp : prog.toNat = p.val)
    (hb : bad = false) (hs : s.progs[p].state = .free) : s.ownedProgram port prog bad = .error .notFound := by
  unfold State.ownedProgram
  rw [idx?_of_toNat hp]
  simp only [hb, hs, Bool.false_eq_true, if_false, if_true]

theorem State.ownedProgram_of_other {s : State} {port : Port} {prog : Byte} {p : ProgId} {bad : Bool} (hp : prog.toNat = p.val)
    (hb : bad = false) (hs : s.progs[p].state ≠ .free)
    (ho : ¬(s.progs[p].owner = port ∧ 2 ≤ p.val ∧ s.progs[p].routeSlot = none)) :
    s.ownedProgram port prog bad = .error .privilege := by
  unfold State.ownedProgram
  rw [idx?_of_toNat hp]
  simp only [hb, hs, Bool.false_eq_true, if_false]
  refine if_pos ?_
  by_contra hno
  simp only [not_or, not_not, Nat.not_lt, Option.not_isSome_iff_eq_none] at hno
  exact ho hno

/-! ### A program without part in a zone gets none (R33 to R36) -/

/-- The zone is in none of the program's sets, and the program does not stand in its stack and would not get there if it were
taken from it. -/
structure State.Apart (s : State) (p : ProgId) (z : Zone) : Prop where
  bits : s.progs[p].bitsAt z = (false, false, false, false)
  owner : s.zones[z].owner = some p → s.progs[p].kind.resumable = false
  stack : p ∉ s.zones[z].stack

/-- From `s` to `u` a program without part in the zone stays so, and becomes neither its owner nor its bed. -/
def State.Skips (p : ProgId) (z : Zone) (s u : State) : Prop :=
  s.Apart p z → u.Apart p z ∧ (u.zones[z].owner = some p → s.zones[z].owner = some p) ∧
    (u.zones[z].bed = some p → s.zones[z].bed = some p)

section Skipping
variable {s u v : State} {p w : ProgId} {y z : Zone}

theorem State.Skips.refl (p : ProgId) (z : Zone) (s : State) : State.Skips p z s s := fun h => ⟨h, id, id⟩

theorem State.Skips.trans (h : State.Skips p z s u) (k : State.Skips p z u v) : State.Skips p z s v := fun ha =>
  have hu := h ha
  have hv := k hu.1
  ⟨hv.1, fun e => hu.2.1 (hv.2.1 e), fun e => hu.2.2 (hv.2.2 e)⟩

theorem State.Skips.of_step (h : State.StepAt y s u) (hy : z ≠ y) : State.Skips p z s u := fun ha =>
  have hz := h.zones z hy
  have hk : u.progs[p].kind = s.progs[p].kind := (congrArg Program.kind (State.bare_apply (State.bare_of_beyond h.beyond) p) :)
  ⟨⟨(h.bits z p hy).trans ha.bits, by rw [hz, hk]; exact ha.owner, by rw [hz]; exact ha.stack⟩, by rw [hz]; exact id,
    by rw [hz]; exact id⟩

theorem State.Skips.of_same (hg : u.progs[p].bitsAt z = s.progs[p].bitsAt z) (hk : u.progs[p].kind = s.progs[p].kind)
    (hz : u.zones[z].owner = s.zones[z].owner ∧ u.zones[z].stack = s.zones[z].stack ∧ u.zones[z].bed = s.zones[z].bed) :
    State.Skips p z s u := fun ha =>
  have ⟨ho, hst, hb⟩ := hz
  ⟨⟨hg.trans ha.bits, by rw [ho, hk]; exact ha.owner, by rw [hst]; exact ha.stack⟩, by rw [ho]; exact id, by rw [hb]; exact id⟩

/-- A zone whose record, and no record of `p`, is changed: no place in it goes to `p`. -/
theorem State.Skips.of_zone (hg : u.progs[p] = s.progs[p]) (ho : u.zones[z].owner = some p → s.zones[z].owner = some p)
    (hst : p ∈ u.zones[z].stack → p ∈ s.zones[z].stack) (hb : u.zones[z].bed = some p → s.zones[z].bed = some p) :
    State.Skips p z s u := fun ha =>
  ⟨⟨by rw [hg]; exact ha.bits, fun e => by rw [hg]; exact ha.owner (ho e), fun e => ha.stack (hst e)⟩, ho, hb⟩

theorem State.Skips.own (hw : w ≠ p) (z : Zone) (s : State) : State.Skips p z s (s.own w z) := by
  refine .of_zone ?_ (fun e => ?_) (fun e => ?_) fun e => ?_
  · exact State.onProg_progs_ne _ hw.symm _
  all_goals rw [State.own_zones] at e; simp only [Fin.getElem_fin, getElem_adjust_self] at e
  · exact absurd (Option.some.inj e) hw
  · exact e
  · exact e

theorem State.Skips.takeBed (hw : w ≠ p) (z : Zone) (s : State) : State.Skips p z s (s.takeBed w z) := by
  refine .of_zone ?_ (fun e => ?_) (fun e => ?_) fun e => ?_
  · exact State.onProg_progs_ne _ hw.symm _
  all_goals rw [State.takeBed_zones] at e; simp only [Fin.getElem_fin, getElem_adjust_self] at e
  · exact e
  · exact e
  · exact absurd (Option.some.inj e) hw

theorem State.ousted_of_absent {o : ProgId} (ho : p ≠ o) (hp : p ∉ s.zones[z].stack) : s.ousted o z p = s.progs[p] := by
  have he : s.zones[z].evicted ≠ some p := fun e => by
    rw [ZoneRec.evicted_eq] at e
    split at e
    · exact hp (List.mem_of_getLast? e)
    · cases e
  have ho' : o ≠ p := fun e => ho e.symm
  unfold State.ousted
  simp only [he, ho', if_false, ite_self]

theorem State.Skips.takeForeground (hw : w ≠ p) (quiet : Bool) (z : Zone) (s : State) :
    State.Skips p z s (s.takeForeground quiet w z) := fun ha => by
  rcases Option.eq_none_or_eq_some s.zones[z].owner with ho | ⟨o, ho⟩
  · rw [State.takeForeground_of_unowned ho]; exact State.Skips.own hw z s ha
  · have hz := State.takeForeground_zones ho quiet w
    have hprog : (s.takeForeground quiet w z).progs[p] = s.ousted o z p := by
      refine (State.takeForeground_progs ho quiet w p).trans ?_
      rw [if_neg hw]
    by_cases hpo : p = o
    · subst hpo
      have hres := ha.owner ho
      have hous : (s.takeForeground quiet w z).progs[p] = s.progs[p].without (zoneBit z) := by
        rw [hprog]
        unfold State.ousted
        rw [hres]
        exact if_pos rfl
      have hzone : (s.takeForeground quiet w z).zones[z] = { s.zones[z] with owner := some w } := by
        rw [hz]
        refine (getElem_adjust_self ..).trans ?_
        rw [hres]
        rfl
      have hb := ha.bits
      simp only [Program.bitsAt, Prod.mk.injEq] at hb
      obtain ⟨h1, h2, h3, h4⟩ := hb
      refine ⟨⟨?_, fun _ => by rw [hous]; exact hres, by rw [hzone]; exact ha.stack⟩, fun _ => ho, by rw [hzone]; exact id⟩
      rw [hous]
      simp only [Program.bitsAt, Program.without, BitVec.getLsbD_and, h1, h2, h3, h4, Bool.false_and]
    · refine State.Skips.of_zone ?_ (fun e => ?_) (fun e => ?_) (fun e => ?_) ha
      · rw [hprog]
        exact State.ousted_of_absent hpo ha.stack
      all_goals rw [hz] at e; simp only [Fin.getElem_fin, getElem_adjust_self] at e
      · exact absurd (Option.some.inj e) hw
      · rw [ZoneRec.displaced_stack] at e
        split at e
        · rcases List.mem_cons.mp e with e | e
          · exact absurd e hpo
          · split at e
            · exact List.dropLast_subset _ e
            · exact e
        · exact e
      · rwa [ZoneRec.displaced_bed] at e

theorem State.Skips.take (h : w ≠ p ∨ y ≠ z) (quiet : Bool) (s : State) : State.Skips p z s (s.take quiet w y) := by
  by_cases e : z = y
  · subst e
    have hw := h.resolve_right (not_not_intro rfl)
    unfold State.take
    split
    · exact .takeBed hw z s
    · exact .takeForeground hw quiet z s
  · exact .of_step (s.take_stepAt quiet w y) e

theorem foldl_skips {α : Type} {f : State → α → State} {l : List α} (h : ∀ s, ∀ a ∈ l, State.Skips p z s (f s a)) (s : State) :
    State.Skips p z s (l.foldl f s) := by
  induction l generalizing s with
  | nil => exact .refl p z s
  | cons a l ih => exact (h s a List.mem_cons_self).trans (ih (fun s b hb => h s b (List.mem_cons_of_mem _ hb)) _)

theorem State.Skips.takeAll {zs : ZoneSet} (h : w ≠ p ∨ zs.getLsbD z.val = false) (quiet : Bool) (s : State) :
    State.Skips p z s (s.takeAll quiet w zs) := by
  rw [State.takeAll_eq]
  refine State.Skips.trans (u := s.allow w) (.of_same ?_ ?_ ⟨rfl, rfl, rfl⟩) (foldl_skips (fun s y hy => .take (h.imp_right fun hz e => ?_) quiet s) _)
  · rw [show (s.allow w).progs[p] = _ from s.allow_progs w p]
    split <;> rfl
  · rw [show (s.allow w).progs[p] = _ from s.allow_progs w p]
    split <;> rfl
  · subst e
    rw [mem_zonesOf, hz] at hy
    cases hy

theorem State.Apart.requested (h : s.Apart p z) : s.progs[p].requested.getLsbD z.val = false := congrArg (·.1) h.bits

theorem State.Apart.waiting (h : s.Apart p z) : s.progs[p].waiting.getLsbD z.val = false := congrArg (·.2.2.2) h.bits

/-- A program that takes zones by name takes none in which `p` has no part for `p`. -/
theorem State.Skips.takeRequest (w : ProgId) (quiet : Bool) (s : State) :
    State.Skips p z s (s.takeAll quiet w s.progs[w].requested) := fun ha => by
  refine State.Skips.takeAll ?_ quiet s ha
  by_cases e : w = p
  · exact Or.inr (by rw [e]; exact ha.requested)
  · exact Or.inl e

theorem State.Skips.popStack (y : Zone) (s : State) : State.Skips p z s (s.popStack y) := fun ha => by
  by_cases e : z = y
  · subst e
    cases hs : s.zones[z].stack with
    | nil =>
      have : s.popStack z = s := by unfold State.popStack; rw [hs]
      rw [this]
      exact ⟨ha, id, id⟩
    | cons t rest =>
      have hp := ha.stack
      rw [hs, List.mem_cons, not_or] at hp
      rw [State.popStack_of_cons hs]
      refine State.Skips.of_zone ?_ (fun e => ?_) (fun e => ?_) (fun e => ?_) ha
      · exact State.onProg_progs_ne _ hp.1 _
      all_goals simp only [State.onProg_zones, State.onZone_zones, Fin.getElem_fin, getElem_adjust_self] at e
      · exact absurd (Option.some.inj e).symm hp.1
      · exact absurd e hp.2
      · exact e
  · exact State.Skips.of_step (s.popStack_stepAt y) e ha

theorem State.Skips.grantWaiter {rs : ZoneSet} (hw : s.waiterFor rs y = some w) (quiet : Bool) :
    State.Skips p z s (s.grantWaiter quiet w y) := fun ha => by
  unfold State.grantWaiter
  split
  · exact State.Skips.takeRequest w quiet s ha
  · by_cases e : z = y
    · subst e
      refine State.Skips.own (fun e => ?_) z s ha
      subst e
      exact absurd ((State.waiterFor_some hw).2.2.1.symm.trans ha.waiting) (by decide)
    · exact State.Skips.of_step (s.own_stepAt w y) e ha

theorem State.Skips.succeed (quiet : Bool) (rs : ZoneSet) (y : Zone) (s : State) : State.Skips p z s (s.succeed quiet rs y) := by
  unfold State.succeed
  split
  · exact .refl p z s
  · next h => exact .grantWaiter h quiet
  · exact .popStack y s
  · next h =>
    split
    · exact .grantWaiter h quiet
    · exact .popStack y s

theorem State.Skips.fillBed (quiet : Bool) (y : Zone) (s : State) : State.Skips p z s (s.fillBed quiet y) := fun ha => by
  unfold State.fillBed
  split
  · exact ⟨ha, id, id⟩
  · next w hw =>
    split
    · exact State.Skips.takeRequest w quiet s ha
    · by_cases e : z = y
      · subst e
        refine State.Skips.takeBed (fun e => ?_) z s ha
        subst e
        exact absurd ((State.bedWaiter_some hw).2.2.1.symm.trans ha.waiting) (by decide)
      · exact State.Skips.of_step (s.takeBed_stepAt w y) e ha

theorem State.Skips.fillFreeBed (b quiet : Bool) (y : Zone) (s : State) :
    State.Skips p z s (if b && s.zones[y].bed.isNone then s.fillBed quiet y else s) := by
  split
  · exact .fillBed quiet y s
  · exact .refl p z s

theorem State.Skips.releaseZone (quiet : Bool) (rs beds : ZoneSet) (y : Zone) (s : State) :
    State.Skips p z s (s.releaseZone quiet rs beds y) := by
  refine State.Skips.trans (u := if s.zones[y].owner.isNone then s.succeed quiet rs y else s) ?_
    (.fillFreeBed (beds.getLsbD y.val) quiet y _)
  split
  · exact .succeed quiet rs y s
  · exact .refl p z s

theorem State.Skips.releaseStep (quiet : Bool) (fg beds : ZoneSet) (s : State) : State.Skips p z s (s.releaseStep quiet fg beds) :=
  foldl_skips (fun s y _ => .releaseZone quiet _ beds y s) s

theorem Program.bitsAt_of_steady {g k : Program} (h : k.steady = g.steady) (z : Zone) : k.bitsAt z = g.bitsAt z := by
  have hr : k.requested = g.requested := (congrArg Program.requested h :)
  have hg : k.granted = g.granted := (congrArg Program.granted h :)
  have hh : k.held = g.held := (congrArg Program.held h :)
  have hw : k.waiting = g.waiting := (congrArg Program.waiting h :)
  rw [Program.bitsAt, hr, hg, hh, hw]
  rfl

theorem Program.bitsAt_finished (g : Program) (why : EndReason) (z : Zone) :
    (g.finished why).bitsAt z = (false, false, false, false) := by
  simp [Program.bitsAt, Program.finished]

theorem ZoneRec.strip_owner_imp {r : ZoneRec} (h : (r.strip w).owner = some p) : r.owner = some p := by
  simp only [ZoneRec.strip] at h
  split at h
  · cases h
  · exact h

theorem ZoneRec.strip_bed_imp {r : ZoneRec} (h : (r.strip w).bed = some p) : r.bed = some p := by
  simp only [ZoneRec.strip] at h
  split at h
  · cases h
  · exact h

theorem State.Skips.endProgram (w : ProgId) (why : EndReason) (s : State) : State.Skips p z s (s.endProgram w why) := fun ha => by
  have hz := s.endProgram_zone w why z
  have hk : (s.endProgram w why).progs[p].kind = s.progs[p].kind := by
    by_cases e : p = w
    · subst e; rw [State.endProgram_self]; rfl
    · rw [State.endProgram_other s e]
  refine ⟨⟨?_, fun e => ?_, fun e => ?_⟩, fun e => ?_, fun e => ?_⟩
  · by_cases e : p = w
    · subst e; rw [State.endProgram_self]; exact Program.bitsAt_finished ..
    · rw [State.endProgram_other s e]; exact ha.bits
  · rw [hz] at e; rw [hk]; exact ha.owner (ZoneRec.strip_owner_imp e)
  · rw [hz] at e; exact ha.stack (List.mem_of_mem_filter e)
  · rw [hz] at e; exact ZoneRec.strip_owner_imp e
  · rw [hz] at e; exact ZoneRec.strip_bed_imp e

theorem State.Skips.settleProgram (w : ProgId) (s : State) : State.Skips p z s (s.settleProgram w) := by
  rcases s.settleProgram_cases w with ⟨e, -⟩ | ⟨hm, -⟩
  · rw [e]; exact .endProgram w _ s
  · exact .of_same (Program.bitsAt_of_steady (hm.steady_prog p) z) (congrArg Program.kind (hm.steady_prog p) :) (by rw [hm.zones]; exact ⟨rfl, rfl, rfl⟩)

theorem State.bed_of_claims {s u : State} (h : u.claims = s.claims) (z : Zone) : u.zones[z].bed = s.zones[z].bed :=
  congrFun (congrArg Claims.bed h) z

theorem State.Skips.of_claims (h : u.claims = s.claims) : State.Skips p z s u :=
  .of_same (by rw [State.progs_of_claims h]) (by rw [State.progs_of_claims h]) ⟨State.owner_of_claims h z, State.stack_of_claims h z, State.bed_of_claims h z⟩

theorem State.Skips.finish (s0 s : State) (c : Cause) : State.Skips p z s (State.finish s0 s c) :=
  State.Skips.trans (u := s.settleAll) (foldl_skips (fun s w _ => .settleProgram w s) s) (.of_claims (State.finish_claims s0 s c))

/-- A program whose places in the zone are gone has no part in it. -/
theorem State.apart_of_none (hb : s.progs[p].bitsAt z = (false, false, false, false)) (ho : s.zones[z].owner ≠ some p)
    (hs : p ∉ s.zones[z].stack) : s.Apart p z := ⟨hb, fun e => absurd e ho, hs⟩

theorem ZoneRec.strip_places (r : ZoneRec) (p : ProgId) :
    (r.strip p).owner ≠ some p ∧ p ∉ (r.strip p).stack ∧ (r.strip p).bed ≠ some p := by
  refine ⟨?_, by simp [ZoneRec.strip], ?_⟩
  all_goals
    simp only [ZoneRec.strip]
    split
    · simp
    · assumption

/-- A program that has ended with its release step has no part in any zone (R21). -/
theorem State.apart_endAndRelease (s : State) (p : ProgId) (why : EndReason) (c : Cause) (z : Zone) :
    (s.endAndRelease p why c).Apart p z ∧ (s.endAndRelease p why c).zones[z].owner ≠ some p ∧
      (s.endAndRelease p why c).zones[z].bed ≠ some p := by
  obtain ⟨ho, hs, hb⟩ := s.zones[z].strip_places p
  rw [← s.endProgram_zone p why z] at ho hs hb
  have ha : (s.endProgram p why).Apart p z :=
    State.apart_of_none (by rw [State.endProgram_self]; exact Program.bitsAt_finished ..) ho hs
  obtain ⟨hu, hou, hbu⟩ := State.Skips.trans (.releaseStep c.quiet (s.ownedBy p) (s.bedsOf p) (s.endProgram p why)) (.finish s _ c) ha
  exact ⟨hu, fun e => ho (hou e), fun e => hb (hbu e)⟩

/-- The program has ended for the reason given, its request is empty, and it has no place in any zone (R21, R22). -/
structure State.Out (s : State) (p : ProgId) (why : EndReason) : Prop where
  state : s.progs[p].state = .ended
  reason : s.progs[p].endReason = some why
  requested : s.progs[p].requested = 0#64
  places : ∀ z : Zone, s.zones[z].owner ≠ some p ∧ p ∉ s.zones[z].stack ∧ s.zones[z].bed ≠ some p

theorem State.out_endAndRelease (s : State) (p : ProgId) (why : EndReason) (c : Cause) : (s.endAndRelease p why c).Out p why where
  state := (s.gone_endAndRelease_self p why c).state
  reason := (s.gone_endAndRelease_self p why c).reason
  requested := (zoneSet_eq_zero_iff _).mpr fun z => (s.apart_endAndRelease p why c z).1.requested
  places z :=
    have ⟨ha, ho, hb⟩ := s.apart_endAndRelease p why c z
    ⟨ho, ha.stack, hb⟩

end Skipping

/-! ### What an operation's end leaves of everything but programs, claims, duck factors and the survey -/

/-- A zone without what the hand-off to the ramp engine and the survey engine changes (R52). -/
def ZoneRec.lasting (r : ZoneRec) : ZoneRec := { r with duck := Ramp.still 0, lastResult := none, underSurvey := false }

/-- The state without what the end of an operation changes after the settling. -/
def State.lasting (s : State) : State :=
  { s with ports := State.reset.ports, zones := remap s.zones fun _ r => r.lasting, survey := State.reset.survey }

theorem State.onZone_lasting (s : State) (z : Zone) {f : ZoneRec → ZoneRec} (h : ∀ r, (f r).lasting = r.lasting) :
    (s.onZone z f).lasting = s.lasting := by
  simp only [State.lasting, State.onZone, remap_adjust ZoneRec.lasting _ _ h]

theorem State.raiseSurvey_lasting (s : State) (r : Requesters) (spare : Option Port) :
    (s.raiseSurvey r spare).lasting = s.lasting :=
  foldl_view State.lasting (fun s p => by split <;> rfl) _ s

theorem State.beginSurvey_lasting (s : State) (e : QueueEntry) : (s.beginSurvey e).lasting = s.lasting := by
  rw [State.beginSurvey, State.onZone_lasting]
  · rfl
  · exact fun _ => rfl

theorem State.takeHeads_lasting (s : State) (q : List QueueEntry) : (s.takeHeads q).lasting = s.lasting := by
  induction q generalizing s with
  | nil => rfl
  | cons e q ih =>
    unfold State.takeHeads
    split
    · split
      · rw [ih, State.raiseSurvey_lasting, State.onZone_lasting]
        exact fun _ => rfl
      · rw [State.beginSurvey_lasting]; rfl
    · rw [State.beginSurvey_lasting]; rfl

theorem State.takeHead_lasting (s : State) : s.takeHead.lasting = s.lasting := by
  unfold State.takeHead
  split
  · exact s.takeHeads_lasting _
  · rfl

theorem State.abortSurvey_lasting (s : State) (spare : Option Port) : (s.abortSurvey spare).lasting = s.lasting := by
  unfold State.abortSurvey
  split
  · rfl
  · simp only [State.takeHead_lasting, State.raiseSurvey_lasting]
    refine Eq.trans (b := State.lasting (s.onZone _ _)) rfl (State.onZone_lasting s _ fun _ => rfl)

theorem State.surveyCheck_lasting (s : State) : s.surveyCheck.lasting = s.lasting := by
  unfold State.surveyCheck
  repeat' split
  any_goals rfl
  exact s.abortSurvey_lasting none

theorem State.duckHandOff_lasting (s0 s : State) : (State.duckHandOff s0 s).lasting = s.lasting := by
  simp only [State.lasting, State.duckHandOff]
  rw [remap_remap ZoneRec.lasting]
  intro z r
  split <;> rfl

theorem State.lasting_of_silent {s u : State} (h : u.silent = s.silent) : u.lasting = s.lasting := (congrArg State.lasting h :)

/-- What follows the settling at the end of an operation touches only the ports, the duck factors and the survey (R52, R53). -/
theorem State.finish_lasting (s0 s : State) (c : Cause) : (State.finish s0 s c).lasting = s.settleAll.lasting := by
  rw [State.lasting_of_silent (State.finish_silent s0 s c), State.surveyCheck_lasting, State.duckHandOff_lasting]

end Sys2Proof.Machine
end

section
namespace Sys2Proof.Machine

/-! ### Stations of programs that end (R52, R116) -/

section Stations
variable {s : State} {p : ProgId} {a : StationId}

theorem State.closeWindow_stations (s : State) (k : Fin 2) : (s.closeWindow k).stations = s.stations := by
  unfold State.closeWindow; simp only; (repeat' split) <;> rfl

theorem State.idleSlot_stations (s : State) (k : Fin 2) (named : Bool) : (s.idleSlot k named).stations = s.stations := by
  rw [State.idleSlot, State.raiseAlarm_stations]
  exact s.closeWindow_stations k

theorem State.slotProgramEnded_stations (s : State) (p : ProgId) : (s.slotProgramEnded p).stations = s.stations := by
  unfold State.slotProgramEnded
  repeat' split
  · rfl
  · rfl
  · exact s.idleSlot_stations _ _

theorem State.dropRoute_stations (s : State) (p : ProgId) : (s.dropRoute p).stations = s.stations := by
  unfold State.dropRoute; split <;> rfl

theorem State.releaseProgChan_stations (s : State) (p : ProgId) : (s.releaseProgChan p).stations = s.stations := by
  unfold State.releaseProgChan; (repeat' split) <;> rfl

theorem State.releaseVoice_stations (s : State) (p : ProgId) : (s.releaseVoice p).stations = s.stations := by
  unfold State.releaseVoice; split <;> rfl

theorem State.releaseStation_station (s : State) (p : ProgId) (a : StationId) :
    (s.releaseStation p).stations[a] =
      if s.progs[p].station = some a ∧ s.stations[a].state = .talkout then { s.stations[a] with state := .idle }
      else s.stations[a] := by
  unfold State.releaseStation
  cases hst : s.progs[p].station with
  | none => rfl
  | some b =>
    simp only [State.onStation_stations, Fin.getElem_fin, getElem_adjust_fin, Option.some.injEq]
    by_cases e : b = a
    · subst e; simp
    · simp [e]

theorem State.progs_of_books {s u : State} (h : u.books = s.books) : u.progs = s.progs := (congrArg State.progs h :)

theorem State.endProgram_station (s : State) (p : ProgId) (why : EndReason) (a : StationId) :
    (s.endProgram p why).stations[a] =
      if s.progs[p].station = some a ∧ s.stations[a].state = .talkout then { s.stations[a] with state := .idle }
      else s.stations[a] := by
  have hprog : (((s.struck p why).releaseVoice p).releaseProgChan p).progs[p].station = s.progs[p].station := by
    rw [State.progs_of_books ((State.releaseProgChan_books _ p).trans (State.releaseVoice_books _ p))]
    rw [show (s.struck p why).progs[p] = s.progs[p].finished why from State.onProg_progs_self ..]
    rfl
  show (State.slotProgramEnded (State.dropRoute (State.releaseStation
    (((s.struck p why).releaseVoice p).releaseProgChan p) p) p) p).stations[a] = _
  rw [State.slotProgramEnded_stations, State.dropRoute_stations, State.releaseStation_station, hprog,
    State.releaseProgChan_stations, State.releaseVoice_stations]
  rfl

theorem State.Moves.stations {u : State} (h : State.Moves p s u) : u.stations = s.stations := (congrArg State.stations h.steady :)

/-- A station that is not in TALKOUT is left as it is by every settling. -/
theorem State.settleAll_station (h : s.stations[a].state ≠ .talkout) : s.settleAll.stations[a] = s.stations[a] := by
  refine List.foldlRecOn (motive := fun u : State => u.stations[a] = s.stations[a]) _ _ rfl fun u hu q _ => ?_
  rcases u.settleProgram_cases q with ⟨e, -⟩ | ⟨hm, -⟩
  · rw [e, State.endProgram_station, if_neg, hu]
    rw [hu]
    exact fun e => h e.2
  · rw [hm.stations, hu]

theorem State.stations_of_lasting {s u : State} (h : u.lasting = s.lasting) : u.stations = s.stations :=
  (congrArg State.stations h :)

theorem State.stations_of_beyond {s u : State} (h : u.beyond = s.beyond) : u.stations = s.stations :=
  (congrArg State.stations h :)

/-- The end of a CALL_OUT with its release step leaves its station IDLE (R116, R147). -/
theorem State.endAndRelease_station (hst : s.progs[p].station = some a) (ht : s.stations[a].state = .talkout) (why : EndReason)
    (c : Cause) : (s.endAndRelease p why c).stations[a] = { s.stations[a] with state := .idle } := by
  have he : (s.endProgram p why).stations[a] = { s.stations[a] with state := .idle } := by
    rw [State.endProgram_station, if_pos ⟨hst, ht⟩]
  have hr : ((s.endProgram p why).releaseStep c.quiet (s.ownedBy p) (s.bedsOf p)).stations[a] =
      { s.stations[a] with state := .idle } := by
    rw [State.stations_of_beyond (State.releaseStep_beyond ..), he]
  show (State.finish s _ c).stations[a] = _
  rw [State.stations_of_lasting (State.finish_lasting ..), State.settleAll_station (by rw [hr]; simp), hr]

theorem Program.station_of_callOut {g : Program} (hk : g.kind = .callOut) (hs : g.source = some (16 + a.val)) :
    g.station = some a := by
  unfold Program.station
  rw [hk, hs]
  have : 16 ≤ 16 + a.val ∧ 16 + a.val < 48 := by omega
  simp [this]

end Stations

/-! ### CLOSE_PROGRAM and FORCE_CLOSE (R44, R45) -/

section Closing
variable {s : State} {p : ProgId}

theorem Program.steady_owner {g k : Program} (h : k.steady = g.steady) : k.owner = g.owner := (congrArg Program.owner h :)

theorem State.settleAll_progOwner (s : State) (p : ProgId) : s.settleAll.progs[p].owner = s.progs[p].owner := by
  rcases s.settleAll_prog p with ⟨e, -⟩ | ⟨e, -⟩
  · rw [e]; rfl
  · exact Program.steady_owner e

/-- The end of a program that no response reports raises PROGRAM at its owning port (R53). -/
theorem State.endAndRelease_raised (ho : s.progs[p].isOpen = true) (why : EndReason) {c : Cause} (hc : c.named ≠ some p) :
    ((s.endAndRelease p why c).port s.progs[p].owner).has .program = true ∧
      ((s.endAndRelease p why c).port s.progs[p].owner).changed.getLsbD p.val = true := by
  have hb := State.bare_apply (State.releaseStep_bare (s.endProgram p why) c.quiet (s.ownedBy p) (s.bedsOf p)) p
  have howner : ((s.endProgram p why).releaseStep c.quiet (s.ownedBy p) (s.bedsOf p)).progs[p].owner = s.progs[p].owner := by
    have he : ((s.endProgram p why).releaseStep c.quiet (s.ownedBy p) (s.bedsOf p)).progs[p].owner =
        (s.endProgram p why).progs[p].owner := (congrArg Program.owner hb :)
    rw [he, State.endProgram_self]
    rfl
  have hend := (s.gone_endAndRelease_self p why c).state
  have h := State.finish_raised s ((s.endProgram p why).releaseStep c.quiet (s.ownedBy p) (s.bedsOf p)) (c := c) hc
    (Program.changed_of_state fun e => by
      rw [← State.finish_progs s _ c] at e
      exact absurd (e.trans hend) ((Program.isOpen_iff _).mp ho).2)
  rw [State.settleAll_progOwner, howner] at h
  exact h

theorem State.closeProg_of_end (h : s.progs[p].kind ≠ .live ∨ s.progs[p].granted = 0#64 ∨ s.progs[p].state = .tail) (c : Cause) :
    s.closeProg p c = s.endAndRelease p .closed c :=
  if_neg fun e => by
    rcases h with h | h | h
    · exact h e.1
    · exact e.2.1 h
    · exact e.2.2 h

/-- The gain of a program whose tail is over at once comes to rest in the step (R65, R109). -/
theorem Program.intoTail_rests {g : Program} (h : g.tail = some 0 ∨ g.gain.current = 0) : g.intoTail.gain.running = false := by
  unfold Program.intoTail Ramp.cut Ramp.setUp
  simp only
  rw [if_pos]
  rcases h with h | h
  · left; simp [h]
  · right; simp [h, clampGain]

theorem State.closeProg_of_rest (h : s.progs[p].tail = some 0 ∨ s.progs[p].gain.current = 0) (c : Cause) :
    ∃ u : State, s.closeProg p c = u.endAndRelease p .closed c := by
  by_cases hc : s.progs[p].kind = .live ∧ s.progs[p].granted ≠ 0#64 ∧ s.progs[p].state ≠ .tail
  · refine ⟨(s.onProg p Program.intoTail).releaseVoice p, (if_pos hc).trans (if_neg ?_)⟩
    rw [State.progs_of_books (State.releaseVoice_books _ p), State.onProg_progs_self, Program.intoTail_rests h]
    decide
  · exact ⟨s, if_neg hc⟩

/-- What CLOSE_PROGRAM answers to the owning port. -/
theorem exec_closeProgram {t : Txn} {prog : Byte} (hl : s.listens t = true) (hp : prog.toNat = p.val) (h2 : 2 ≤ p.val)
    (ho : s.progs[p].owner = t.port) (hr : s.progs[p].routeSlot = none) (hop : s.progs[p].isOpen = true) :
    ∃ f, let u := (s.onPort t.port f).closeProg p ⟨some p, false⟩
      exec (.closeProgram t prog) s = .next (u.replied t 0x13#8 .ok (out8 (progStateCode u.progs[p].state))) := by
  obtain ⟨hfree, hend⟩ := (Program.isOpen_iff _).mp hop
  obtain ⟨f, hf⟩ := portCommand_next hl 0x13#8 1 fun s =>
    match s.ownedProgram t.port prog false with
    | .error e => refuse s e
    | .ok r =>
      if s.progs[r].state = .ended then refuse s .state
      else
        let s1 := s.closeProg r ⟨some r, false⟩
        okWith s1 (out8 (progStateCode s1.progs[r].state))
  refine ⟨f, ?_⟩
  have hmine : (s.onPort t.port f).ownedProgram t.port prog false = .ok p := State.ownedProgram_of_mine hp rfl h2 ho hr hfree
  refine Eq.trans hf ?_
  simp only [hmine, if_neg (show ¬(s.onPort t.port f).progs[p].state = .ended from hend)]
  rfl

theorem exec_forceClose {t : Txn} {prog : Byte} (hl : s.listens t = true) (hp : prog.toNat = p.val) (h2 : 2 ≤ p.val)
    (hsaf : t.port = .saf) (hop : s.progs[p].isOpen = true) :
    ∃ f, exec (.forceClose t prog) s = .next
      (((s.onPort t.port f).endAndRelease p .forced ⟨if s.progs[p].owner = .saf then some p else none, false⟩).replied
        t 0x14#8 .ok []) := by
  obtain ⟨hfree, hend⟩ := (Program.isOpen_iff _).mp hop
  obtain ⟨f, hf⟩ := portCommand_next hl 0x14#8 1 fun s =>
    if t.port != .saf || decide (prog.toNat < 2) then refuse s .privilege
    else
      match idx? 32 prog with
      | none => refuse s .param
      | some r =>
        let g := s.progs[r]
        if g.state = .free then refuse s .notFound
        else if g.state = .ended then refuse s .state
        else okWith (s.endAndRelease r .forced ⟨if g.owner = .saf then some r else none, false⟩) []
  refine ⟨f, Eq.trans hf ?_⟩
  have hn : ¬prog.toNat < 2 := by omega
  simp only [hsaf, bne_self_eq_false, hn, decide_false, Bool.or_self, Bool.false_eq_true, if_false, idx?_of_toNat hp]
  simp only [if_neg (show ¬(s.onPort Port.saf f).progs[p].state = .free from hfree),
    if_neg (show ¬(s.onPort Port.saf f).progs[p].state = .ended from hend)]
  rfl

theorem State.releaseVoice_voices {u : State} (h : u.voices = s.voices) (p : ProgId) :
    (u.releaseVoice p).voices = (s.releaseVoice p).voices := by
  have hv : u.voiceOf p = s.voiceOf p := by unfold State.voiceOf; rw [h]
  unfold State.releaseVoice
  rw [hv]
  cases s.voiceOf p with
  | none => exact h
  | some v => simp only [State.onVoice_voices, h]

/-- The bound voice that a release leaves bound is bound above the one released (R102). -/
theorem State.releaseVoice_bound (s : State) (p : ProgId) (v : Fin 4) :
    (s.releaseVoice p).voices[v].bound ≠ some p ∨ ∃ w : Fin 4, w < v ∧ s.voices[w].bound = some p := by
  unfold State.releaseVoice State.voiceOf
  cases hf : (List.finRange 4).find? fun v => s.voices[v].bound = some p with
  | none =>
    left
    have := List.find?_eq_none.mp hf v (List.mem_finRange v)
    simpa using this
  | some w =>
    have hw : s.voices[w].bound = some p := by simpa using List.find?_some hf
    by_cases e : w = v
    · subst e
      left
      simp [ChimeVoice.released]
    · simp only [State.onVoice_voices, Fin.getElem_fin, getElem_adjust_fin, if_neg e]
      by_cases hlt : w < v
      · exact Or.inr ⟨w, hlt, hw⟩
      · left
        obtain ⟨-, a, b, hl, ha⟩ := List.find?_eq_some_iff_append.mp hf
        have hs : (a ++ w :: b).Pairwise (· < ·) := hl ▸ List.pairwise_lt_finRange 4
        have hv : v ∈ a ++ w :: b := hl ▸ List.mem_finRange v
        rw [List.mem_append, List.mem_cons] at hv
        rcases hv with hv | hv | hv
        · simpa using ha v hv
        · exact absurd hv.symm e
        · exact absurd ((List.pairwise_cons.mp (List.pairwise_append.mp hs).2.1).1 v hv) hlt

/-- A LIVE program with zones, a gain and a tail time enters TAIL in a part at rest (R44, R109). -/
theorem State.closeProg_tail {tail : Nat} (hr : s.atRest = true) (hk : s.progs[p].kind = .live)
    (hst : s.progs[p].state = .preamble ∨ s.progs[p].state = .active) (ht : s.progs[p].tail = some tail) (hpos : 0 < tail)
    (hgain : 0 < s.progs[p].gain.current) (c : Cause) :
    (s.closeProg p c).progs[p] = s.progs[p].intoTail ∧ s.progs[p].intoTail.gain.running = true ∧
      (∀ q : ProgId, q ≠ p → (s.closeProg p c).progs[q] = s.progs[q]) ∧ (s.closeProg p c).zones = s.zones ∧
      (s.closeProg p c).voices = (s.releaseVoice p).voices := by
  obtain ⟨hf, hv, -⟩ := (State.atRest_iff s).mp hr
  have hset := State.settled_of_follow hf p
  have hg : s.progs[p].granted ≠ 0#64 := by
    unfold Program.settled at hset
    rcases hst with e | e <;> rw [e] at hset <;> simp only [Bool.and_eq_true, bne_iff_ne] at hset <;> exact hset.1
  have hrun : s.progs[p].intoTail.gain.running = true := by
    unfold Program.intoTail Ramp.cut Ramp.setUp
    simp only
    rw [if_neg]
    rw [ht, not_or]
    refine ⟨?_, ?_⟩
    · simp [Config.maxRampMs]; omega
    · simp only [clampGain]; omega
  have hbooks := State.releaseVoice_books (s.onProg p Program.intoTail) p
  have hprogs := State.progs_of_books hbooks
  have hself : ((s.onProg p Program.intoTail).releaseVoice p).progs[p] = s.progs[p].intoTail := by
    rw [hprogs, State.onProg_progs_self]
  have hother (q : ProgId) (hq : q ≠ p) : ((s.onProg p Program.intoTail).releaseVoice p).progs[q] = s.progs[q] := by
    rw [hprogs, State.onProg_progs_ne s hq]
  have hzones : ((s.onProg p Program.intoTail).releaseVoice p).zones = s.zones := (congrArg State.zones hbooks :)
  have hclose : s.closeProg p c = State.finish s ((s.onProg p Program.intoTail).releaseVoice p) c := by
    refine (if_pos ⟨hk, hg, by rcases hst with e | e <;> rw [e] <;> decide⟩).trans (if_pos ?_)
    rw [hself]
    exact hrun
  have hall : ((s.onProg p Program.intoTail).releaseVoice p).settleAll = (s.onProg p Program.intoTail).releaseVoice p :=
    State.settleAll_of_settled fun q => by
      by_cases e : q = p
      · rw [e, hself]
        exact bne_iff_ne.mpr hg
      · rw [hother q e]
        exact State.settled_of_follow hf q
  have hsil := State.finish_of_bystander (s := (s.onProg p Program.intoTail).releaseVoice p) c hv
    (by rw [hall]; exact (congrArg State.survey hbooks :)) (fun z => by rw [hall, hzones]) fun z o _ => by
      rw [hall]
      by_cases e : o = p
      · rw [e, hself]; rfl
      · rw [hother o e]
  rw [hall] at hsil
  rw [hclose]
  simp only [State.progs_of_silent hsil, State.zones_of_silent hsil]
  refine ⟨hself, hrun, hother, hzones, (congrArg State.voices hsil :).trans ?_⟩
  exact State.releaseVoice_voices (s := s) (u := s.onProg p Program.intoTail) rfl p

theorem State.closeProg_out (h : (s.progs[p].kind ≠ .live ∨ s.progs[p].granted = 0#64 ∨ s.progs[p].state = .tail) ∨
    s.progs[p].tail = some 0 ∨ s.progs[p].gain.current = 0) (c : Cause) : (s.closeProg p c).Out p .closed := by
  rcases h with h | h
  · rw [State.closeProg_of_end h]
    exact s.out_endAndRelease p _ c
  · obtain ⟨u, hu⟩ := State.closeProg_of_rest h c
    rw [hu]
    exact u.out_endAndRelease p _ c

theorem State.Out.replied {u : State} {why : EndReason} (h : u.Out p why) (t : Txn) (code : Byte) (st : Status)
    (res : List Byte) : (u.replied t code st res).progs[p].state = .ended ∧
      (u.replied t code st res).progs[p].endReason = some why ∧ (u.replied t code st res).progs[p].requested = 0#64 ∧
      ∀ z : Zone, (u.replied t code st res).zones[z].owner ≠ some p ∧ p ∉ (u.replied t code st res).zones[z].stack ∧
        (u.replied t code st res).zones[z].bed ≠ some p := by
  simp only [State.replied_progs, State.replied_zones]
  exact ⟨h.state, h.reason, h.requested, h.places⟩

/-- What CLOSE_PROGRAM refuses without effect (R44). -/
theorem closeProgram_refused {t : Txn} {prog : Byte} (hl : s.listens t = true) (hs : s.served = true) {e : Status}
    (he : s.ownedProgram t.port prog false = .error e) : exec (.closeProgram t prog) s = .next (s.replying t 1 0x13#8 e []) := by
  show portCommand s t _ _ _ = _
  refine portCommand_of_listens hl hs _ _ _ s _ _ ?_ rfl rfl rfl
  have hown : (s.clockThrough t.port (1 + 3 + t.extra)).ownedProgram t.port prog false = s.ownedProgram t.port prog false := by
    rw [s.clockThrough_pos _ (by omega)]; rfl
  simp only [hown, he, refuse]

theorem closeProgram_ended {t : Txn} {prog : Byte} (hl : s.listens t = true) (hs : s.served = true)
    (hp : s.ownedProgram t.port prog false = .ok p) (hst : s.progs[p].state = .ended) :
    exec (.closeProgram t prog) s = .next (s.replying t 1 0x13#8 .state []) := by
  show portCommand s t _ _ _ = _
  refine portCommand_of_listens hl hs _ _ _ s _ _ ?_ rfl rfl rfl
  have hown : (s.clockThrough t.port (1 + 3 + t.extra)).ownedProgram t.port prog false = s.ownedProgram t.port prog false := by
    rw [s.clockThrough_pos _ (by omega)]; rfl
  simp only [hown, hp, State.clockThrough_progs, if_pos hst, refuse]

/-- What FORCE_CLOSE refuses without effect (R45). -/
theorem forceClose_refused {t : Txn} {prog : Byte} (hl : s.listens t = true) (hs : s.served = true) :
    (t.port ≠ .saf ∨ prog.toNat < 2 → exec (.forceClose t prog) s = .next (s.replying t 1 0x14#8 .privilege [])) ∧
    (t.port = .saf → 31 < prog.toNat → exec (.forceClose t prog) s = .next (s.replying t 1 0x14#8 .param [])) ∧
    (∀ p : ProgId, t.port = .saf → prog.toNat = p.val → 2 ≤ p.val →
      (s.progs[p].state = .free → exec (.forceClose t prog) s = .next (s.replying t 1 0x14#8 .notFound [])) ∧
      (s.progs[p].state = .ended → exec (.forceClose t prog) s = .next (s.replying t 1 0x14#8 .state []))) := by
  refine ⟨fun h => ?_, fun hsaf h => ?_, fun p hsaf hp h2 => ⟨fun h => ?_, fun h => ?_⟩⟩
  all_goals
    show portCommand s t _ _ _ = _
    refine portCommand_of_listens hl hs _ _ _ s _ _ ?_ rfl rfl rfl
  · refine if_pos ?_
    rw [Bool.or_eq_true, bne_iff_ne, decide_eq_true_iff]
    exact h
  · have hn : ¬prog.toNat < 2 := by omega
    simp only [hsaf, bne_self_eq_false, hn, decide_false, Bool.or_self, Bool.false_eq_true, if_false,
      idx?_of_large (show 32 ≤ prog.toNat from h), refuse]
  · have hn : ¬prog.toNat < 2 := by omega
    simp only [hsaf, bne_self_eq_false, hn, decide_false, Bool.or_self, Bool.false_eq_true, if_false, idx?_of_toNat hp,
      State.clockThrough_progs, if_pos h, refuse]
  · have hn : ¬prog.toNat < 2 := by omega
    simp only [hsaf, bne_self_eq_false, hn, decide_false, Bool.or_self, Bool.false_eq_true, if_false, idx?_of_toNat hp,
      State.clockThrough_progs, h, reduceCtorEq, if_true, refuse]

end Closing

/-- Settles O31: a close is a TAIL in a part at rest or an end with its release step; an ended program has no place anywhere,
and its station was set IDLE at the end. -/
theorem programsAreClosed : Obligations.ProgramsAreClosed := by
  unfold Obligations.ProgramsAreClosed
  refine ⟨fun t prog s p tail hl hr hp h2 ho hrs hk hst ht hpos hgain => ?_, fun t prog s p hl hp h2 hop => ?_,
    fun s p st hk hsrc hst => ?_, fun t prog s hl hs => ?_⟩
  · have hop : s.progs[p].isOpen = true := (Program.isOpen_iff _).mpr (by rcases hst with e | e <;> rw [e] <;> decide)
    obtain ⟨f, hf⟩ := exec_closeProgram hl hp h2 ho hrs hop
    obtain ⟨hself, hrun, hother, hzones, hvoices⟩ :=
      State.closeProg_tail (s := s.onPort t.port f) hr hk hst ht hpos hgain ⟨some p, false⟩
    refine ⟨_, hf, ?_, ?_, ?_, ?_, ?_, ?_⟩
    · rw [hself]
      exact State.replied_answered
    · simp only [State.replied_progs, hself]
      simp only [Program.intoTail, State.onPort_progs, ht, Ramp.retarget, Option.getD_some]
      rfl
    · simp only [State.replied_progs, hself]
      exact hrun
    · intro v
      simp only [State.replied_voices, hvoices]
      exact State.releaseVoice_bound (s.onPort t.port f) p v
    · intro z
      simp only [State.replied_zones, hzones]
      rfl
    · intro q hq
      simp only [State.replied_progs, hother q hq]
      rfl
  · have closed (ho : s.progs[p].owner = t.port) (hrs : s.progs[p].routeSlot = none)
        (hc : (s.progs[p].kind ≠ .live ∨ s.progs[p].granted = 0#64 ∨ s.progs[p].state = .tail) ∨
          s.progs[p].tail = some 0 ∨ s.progs[p].gain.current = 0) :
        ∃ u, exec (.closeProgram t prog) s = .next u ∧ u.answered t 0x13#8 .ok [6#8] ∧
          u.progs[p].state = .ended ∧ u.progs[p].endReason = some .closed ∧ u.progs[p].requested = 0#64 ∧
          ∀ z : Zone, u.zones[z].owner ≠ some p ∧ p ∉ u.zones[z].stack ∧ u.zones[z].bed ≠ some p := by
      obtain ⟨f, hf⟩ := exec_closeProgram hl hp h2 ho hrs hop
      have hout := State.closeProg_out (s := s.onPort t.port f) hc ⟨some p, false⟩
      refine ⟨_, hf, ?_, hout.replied ..⟩
      rw [hout.state]
      exact State.replied_answered
    refine ⟨fun ho hrs hc => closed ho hrs (Or.inl hc), fun ho hrs _ _ hc => closed ho hrs (Or.inr hc), fun hsaf => ?_⟩
    obtain ⟨f, hf⟩ := exec_forceClose hl hp h2 hsaf hop
    have hout := (s.onPort t.port f).out_endAndRelease p .forced ⟨if s.progs[p].owner = .saf then some p else none, false⟩
    refine ⟨_, hf, State.replied_answered, hout.replied .., fun hne => ?_⟩
    rw [State.replied_has, State.replied_changed]
    exact State.endAndRelease_raised (s := s.onPort t.port f) hop .forced (by rw [if_neg hne]; simp)
  · have hstation : s.progs[p].station = some st := Program.station_of_callOut hk hsrc
    refine ⟨fun why => ?_, fun t prog hl hp h2 hop => ⟨fun ho hrs => ?_, fun hsaf => ?_⟩⟩
    · rw [State.endProgram_station, if_pos ⟨hstation, hst⟩]
    · obtain ⟨f, hf⟩ := exec_closeProgram hl hp h2 ho hrs hop
      refine ⟨_, hf, ?_⟩
      rw [State.replied_stations, State.closeProg_of_end (Or.inl (by rw [show (s.onPort t.port f).progs[p].kind = _ from hk]; decide))]
      exact State.endAndRelease_station (s := s.onPort t.port f) hstation hst ..
    · obtain ⟨f, hf⟩ := exec_forceClose hl hp h2 hsaf hop
      refine ⟨_, hf, ?_⟩
      rw [State.replied_stations]
      exact State.endAndRelease_station (s := s.onPort t.port f) hstation hst ..
  · obtain ⟨hpriv, hparam, hprog⟩ := forceClose_refused (prog := prog) hl hs
    refine ⟨hpriv, fun h => ⟨closeProgram_refused hl hs (State.ownedProgram_of_bad (Or.inl h)), fun hsaf => hparam hsaf h⟩,
      fun p hp => ⟨fun h => ⟨closeProgram_refused hl hs (State.ownedProgram_of_free hp rfl h), fun hsaf h2 => (hprog p hsaf hp h2).1 h⟩,
        fun h hn => closeProgram_refused hl hs (State.ownedProgram_of_other hp rfl h hn),
        fun h => ⟨fun ⟨ho, h2, hrs⟩ => ?_, fun hsaf h2 => (hprog p hsaf hp h2).2 h⟩⟩⟩
    exact closeProgram_ended hl hs (State.ownedProgram_of_mine hp rfl h2 ho hrs (by rw [h]; decide)) h

end Sys2Proof.Machine
end

section
namespace Sys2Proof.Machine

/-! ### The laws of the claim table, as the statements give them (R16, R18, R24, R27, R34, R48) -/

theorem neverFalling_iff (l : List Nat) : neverFalling l = true ↔ l.Pairwise (· ≤ ·) := by
  induction l with
  | nil => simp [neverFalling]
  | cons a l ih =>
    cases l with
    | nil => simp [neverFalling]
    | cons b l =>
      simp only [neverFalling, Bool.and_eq_true, decide_eq_true_eq, ih]
      constructor
      · rintro ⟨hab, hl⟩
        refine List.pairwise_cons.mpr ⟨fun x hx => ?_, hl⟩
        rcases List.mem_cons.mp hx with e | hx
        · rw [e]; exact hab
        · exact hab.trans ((List.pairwise_cons.mp hl).1 x hx)
      · intro h
        exact ⟨(List.pairwise_cons.mp h).1 b List.mem_cons_self, (List.pairwise_cons.mp h).2⟩

/-- The laws the claim table rests on. -/
structure State.ClaimLaws (s : State) : Prop where
  agree : s.claimsAgree = true
  zones : s.zonesLawful = true
  kinds : s.kindsLawful = true
  tails : s.tailsLawful = true
  classes : s.classesLawful = true
  holdStacks : s.stacksLawful = true
  orders : s.ordersLawful = true
  slots : ∀ k, s.slotLawful k = true
  alarms : ∀ k, s.alarmHolds k = true

section Laws
variable {s : State} {p : ProgId} {z : Zone}

theorem State.requested_of_agree (h : s.claimsAgree = true) : s.progs[p].requested.getLsbD z.val = true ↔ s.progs[p].claim z ≠ .none := by
  rw [(Program.bits_of_claim (State.claim_of_agree h p z)).1]
  exact decide_eq_true_iff

theorem State.claim_granted_iff (h : s.claimsAgree = true) :
    s.progs[p].claim z = .granted ↔ s.progs[p].granted.getLsbD z.val = true := by
  rw [(Program.bits_of_claim (State.claim_of_agree h p z)).2.1]
  exact decide_eq_true_iff.symm

theorem State.claim_held_iff (h : s.claimsAgree = true) :
    s.progs[p].claim z = .held ↔ s.progs[p].held.getLsbD z.val = true := by
  rw [(Program.bits_of_claim (State.claim_of_agree h p z)).2.2.1]
  exact decide_eq_true_iff.symm

theorem State.claim_waiting_iff (h : s.claimsAgree = true) :
    s.progs[p].claim z = .waiting ↔ s.progs[p].waiting.getLsbD z.val = true := by
  rw [(Program.bits_of_claim (State.claim_of_agree h p z)).2.2.2]
  exact decide_eq_true_iff.symm

theorem State.claim_of_closed (h : s.claimsAgree = true) (ho : s.progs[p].isOpen = false) : s.progs[p].claim z = .none := by
  obtain ⟨hg, hh, hw, hr⟩ := State.sets_of_closed h ho
  unfold Program.claim
  rw [hg, hh, hw, hr, BitVec.getLsbD_zero]

theorem State.zoneLawful_iff (s : State) (z : Zone) : s.zoneLawful z = true ↔
    (s.zones[z].owner = none → s.zones[z].stack = []) ∧
    (s.zones[z].excluded = true → s.zones[z].owner = none ∧ s.zones[z].bed = none ∧
      ∀ p : ProgId, s.progs[p].requested.getLsbD z.val = false) := by
  have h1 (a : Option ProgId) (b : List ProgId) : (a.isSome || b.isEmpty) = true ↔ (a = none → b = []) := by
    cases a <;> simp
  have h2 (x : Bool) (P : Prop) (c : Bool) (hc : c = true ↔ P) : (!x || c) = true ↔ (x = true → P) := by
    cases x <;> simp [hc]
  unfold State.zoneLawful
  rw [Bool.and_eq_true, h1, h2 _ _ _ ?_]
  simp only [Bool.and_eq_true, Option.isNone_iff_eq_none, List.all_eq_true, List.mem_finRange, true_implies, Bool.not_eq_true',
    and_assoc]

theorem State.ClaimLaws.zone (h : s.ClaimLaws) (z : Zone) : s.zoneLawful z = true := by
  have := h.zones
  unfold State.zonesLawful at this
  rw [Bool.and_eq_true] at this
  exact List.all_eq_true.mp this.2 z (List.mem_finRange z)

theorem State.ClaimLaws.claim (h : s.ClaimLaws) (p : ProgId) : s.progs[p].claimsLawful = true := by
  have := h.zones
  unfold State.zonesLawful at this
  rw [Bool.and_eq_true] at this
  exact List.all_eq_true.mp this.1 p (List.mem_finRange p)

theorem State.stackLawful_iff (s : State) (z : Zone) : s.stackLawful z = true ↔
    (s.zones[z].owner.toList ++ s.zones[z].stack).Nodup ∧ s.zones[z].stack.length ≤ 3 ∧
      (s.zones[z].owner.toList ++ s.zones[z].stack).Pairwise fun a b => s.progs[a].cls ≤ s.progs[b].cls := by
  unfold State.stackLawful
  simp only [Bool.and_eq_true, decide_eq_true_eq, neverFalling_iff, List.pairwise_map, and_assoc]
  rfl

theorem State.ClaimLaws.stack (h : s.ClaimLaws) (z : Zone) : s.stackLawful z = true :=
  List.all_eq_true.mp h.holdStacks z (List.mem_finRange z)

theorem State.class_of_lawful (h : s.classesLawful = true) (ho : s.progs[p].isOpen = true) : s.progs[p].cls = 0 ↔ p.val < 2 := by
  have := List.all_eq_true.mp h p (List.mem_finRange p)
  rw [ho] at this
  simp only [Bool.not_true, Bool.false_or, beq_iff_eq] at this
  rw [← decide_eq_true_iff (p := p.val < 2), ← this]
  exact beq_iff_eq.symm

theorem State.alarm_of_lawful {k : Fin 2} (h : s.slotLawful k = true) (ho : s.progs[progOfSlot k].isOpen = true) :
    s.progs[progOfSlot k].kind = .alarm ∧ s.progs[progOfSlot k].policy = .takeAvailable := by
  unfold State.slotLawful at h
  simp only [Bool.and_eq_true] at h
  have h1 := h.1
  rw [ho] at h1
  simpa using h1

theorem exists_progOfSlot (hp : p.val < 2) : ∃ k, progOfSlot k = p := ⟨⟨p.val, hp⟩, Fin.ext rfl⟩

theorem State.ClaimLaws.alarmRole (h : s.ClaimLaws) (hp : p.val < 2) (ho : s.progs[p].isOpen = true) :
    s.progs[p].kind = .alarm ∧ s.progs[p].policy = .takeAvailable := by
  obtain ⟨k, rfl⟩ := exists_progOfSlot hp
  exact State.alarm_of_lawful (h.slots k) ho

theorem State.ClaimLaws.roles (h : s.ClaimLaws) : s.roles.Lawful where
  tail_live p ht := (State.tail_is_live h.tails (by simpa using ht)).1
  class_zero _ ho := State.class_of_lawful h.classes ho
  alarm _ hp ho := (h.alarmRole hp ho).1

/-- A zone of an open alarm program's request is owned by it or by program 0 (R27). -/
theorem State.alarmHolds_zone {k : Fin 2} (h : s.alarmHolds k = true) (ho : s.progs[progOfSlot k].isOpen = true)
    (hr : s.progs[progOfSlot k].requested.getLsbD z.val = true) :
    s.zones[z].owner = some (progOfSlot k) ∨ s.zones[z].owner = some 0 := by
  unfold State.alarmHolds at h
  simp only at h
  split at h
  · rw [ho] at h; cases h
  · rw [Bool.and_eq_true] at h
    have := List.all_eq_true.mp h.2 z ((mem_zonesOf _ z).mpr hr)
    simpa only [Bool.or_eq_true, beq_iff_eq] using this

theorem State.ClaimLaws.alarm_owner (h : s.ClaimLaws) (hp : p.val < 2) (hc : s.progs[p].claim z ≠ .none) :
    s.zones[z].owner = some p ∨ s.zones[z].owner = some 0 := by
  have ho : s.progs[p].isOpen = true := by
    by_contra hno
    exact hc (State.claim_of_closed h.agree (Bool.eq_false_iff.mpr hno))
  obtain ⟨k, rfl⟩ := exists_progOfSlot hp
  exact State.alarmHolds_zone (h.alarms k) ho ((State.requested_of_agree h.agree).mpr hc)

theorem State.ClaimLaws.granted_of_owner (h : s.ClaimLaws) (ho : s.zones[z].owner = some p) : s.progs[p].claim z = .granted := by
  have hm := State.matched_of_agree h.agree h.kinds z
  rw [State.claim_granted_iff h.agree, hm.granted, if_neg (hm.ownerKind p ho)]
  exact ho

theorem State.ClaimLaws.cell (h : s.ClaimLaws) (z : Zone) : CellOk s.roles (noZone z) (s.cell z) := by
  have hm := State.matched_of_agree h.agree h.kinds z
  obtain ⟨hvac, hexc⟩ := (s.zoneLawful_iff z).mp (h.zone z)
  obtain ⟨hnodup, hdepth, hrise⟩ := (s.stackLawful_iff z).mp (h.stack z)
  have halarm {p : ProgId} (hp : p.val < 2) (hc : s.progs[p].claim z ≠ .none) (hng : s.progs[p].claim z ≠ .granted) :
      p ≠ 0 ∧ s.zones[z].owner = some 0 := by
    rcases h.alarm_owner hp hc with e | e
    · exact absurd (h.granted_of_owner e) hng
    · refine ⟨fun e0 => ?_, e⟩
      subst e0
      exact hng (h.granted_of_owner e)
  refine
  { sound := fun p => State.claim_of_agree h.agree p z, granted := fun p => ?_, held := fun p => ?_
    nodup := (List.nodup_append.mp hnodup).2.1, depth := hdepth, rising := hrise, ownerKind := hm.ownerKind
    stackKind := hm.stackKind, bedKind := hm.bedKind, closed := fun p hc => ?_, tail := fun p ht => ?_
    excluded := fun hx => ?_, vacant := fun ho => Or.inl (hvac ho), first := ?_, second := fun hw => ?_ }
  · exact (State.claim_granted_iff h.agree).trans (hm.granted p)
  · exact (State.claim_held_iff h.agree).trans (State.held_of_agree h.agree p z)
  · by_contra hno
    exact hc (State.claim_of_closed h.agree (Bool.eq_false_iff.mpr hno))
  · obtain ⟨-, hh, hw⟩ := State.tail_is_live h.tails (p := p) (by simpa using ht)
    have hs := State.claim_of_agree h.agree p z
    have h1 : s.progs[p].claim z ≠ .held := fun e => by
      rw [State.claim_held_iff h.agree, hh, BitVec.getLsbD_zero] at e; cases e
    have h2 : s.progs[p].claim z ≠ .waiting := fun e => by
      rw [State.claim_waiting_iff h.agree, hw, BitVec.getLsbD_zero] at e; cases e
    show s.progs[p].claim z = .none ∨ s.progs[p].claim z = .granted
    revert hs h1 h2
    cases s.progs[p].claim z <;> simp
  · obtain ⟨ho, hb, hr⟩ := hexc hx
    refine ⟨ho, hb, fun p => ?_⟩
    by_contra hc
    exact absurd ((State.requested_of_agree h.agree).mpr hc) (by rw [hr p]; decide)
  · have hno (x : Claim) (hx : x ≠ .none) (hg : x ≠ .granted) : s.progs[(0 : ProgId)].claim z ≠ x := fun e =>
      (halarm (p := 0) (by decide) (by rw [e]; exact hx) (by rw [e]; exact hg)).1 rfl
    exact ⟨hno .held (by decide) (by decide), hno .waiting (by decide) (by decide)⟩
  · have hw' : s.progs[(1 : ProgId)].claim z = .waiting := hw
    exact Or.inl (halarm (p := 1) (by decide) (by rw [hw']; decide) (by rw [hw']; decide)).2

theorem State.listed_of_lawful (h : s.ordersLawful = true) (p : ProgId) :
    (p ∈ s.openOrder ↔ s.progs[p].state ≠ .free) ∧ (p ∈ s.endOrder ↔ s.progs[p].state = .ended) := by
  unfold State.ordersLawful at h
  simp only [Bool.and_eq_true] at h
  have hp := List.all_eq_true.mp h.1.2 p (List.mem_finRange p)
  simp only [Bool.and_eq_true, beq_iff_eq] at hp
  refine ⟨?_, ?_⟩
  · rw [← List.contains_iff_mem, hp.1]
    exact bne_iff_ne
  · rw [← List.contains_iff_mem, hp.2]
    exact beq_iff_eq

theorem State.sets_of_together (h : s.ClaimLaws) (ht : s.progs[p].together = true) :
    s.progs[p].granted = 0#64 ∧ s.progs[p].held = 0#64 := by
  by_cases ho : s.progs[p].isOpen = true
  · have hc := h.claim p
    unfold Program.claimsLawful at hc
    simp only [Bool.and_eq_true] at hc
    have h2 := hc.2
    rw [ho, ht] at h2
    simpa using h2
  · obtain ⟨hg, hh, -, -⟩ := State.sets_of_closed h.agree (Bool.eq_false_iff.mpr ho)
    exact ⟨hg, hh⟩

/-- The laws of the part, zone by zone. -/
theorem State.ClaimLaws.table (h : s.ClaimLaws) : s.Table noZone where
  cell := h.cell
  roles := h.roles
  whole p z ht := by
    obtain ⟨hg, hh⟩ := State.sets_of_together h ht
    refine ⟨fun e => ?_, fun e => ?_⟩
    · rw [State.claim_granted_iff h.agree, hg, BitVec.getLsbD_zero] at e; cases e
    · rw [State.claim_held_iff h.agree, hh, BitVec.getLsbD_zero] at e; cases e
  alone p hp ho := by
    unfold Program.together
    rw [(h.alarmRole hp ho).2]
    rfl
  listed p := (State.listed_of_lawful h.orders p).1

/-! And back: the laws the statements give, from the table. -/

theorem Program.sets_of_sound {g : Program} (h : ∀ z : Zone, g.claim z ≠ .unsound) :
    g.granted &&& g.held = 0#64 ∧ g.granted &&& g.waiting = 0#64 ∧ g.held &&& g.waiting = 0#64 ∧
      g.granted ||| g.held ||| g.waiting = g.requested := by
  refine ⟨?_, ?_, ?_, ?_⟩
  all_goals
    refine zoneSet_ext fun z => ?_
    obtain ⟨hr, hg, hh, hw⟩ := Program.bits_of_claim (h z)
    have hs := h z
    simp only [BitVec.getLsbD_and, BitVec.getLsbD_or, BitVec.getLsbD_zero, hr, hg, hh, hw]
    revert hs
    cases g.claim z <;> simp

theorem Program.sets_of_none {g : Program} (h : ∀ z : Zone, g.claim z = .none) :
    g.granted = 0#64 ∧ g.held = 0#64 ∧ g.waiting = 0#64 ∧ g.requested = 0#64 := by
  refine ⟨?_, ?_, ?_, ?_⟩
  all_goals
    refine (zoneSet_eq_zero_iff _).mpr fun z => ?_
    obtain ⟨hr, hg, hh, hw⟩ := Program.bits_of_claim (g := g) (z := z) (by rw [h z]; decide)
    simp only [hr, hg, hh, hw, h z]
    decide

theorem State.Table.agree (h : s.Table noZone) : s.claimsAgree = true := by
  refine List.all_eq_true.mpr fun p _ => ?_
  have bits (z : Zone) := Program.bits_of_claim ((h.cell z).sound p)
  unfold State.programAgrees
  simp only [Bool.and_eq_true, List.all_eq_true, beq_iff_eq]
  refine ⟨?_, fun z _ => ⟨?_, ?_⟩⟩
  · split
    · obtain ⟨h1, h2, h3, h4⟩ := Program.sets_of_sound (g := s.progs[p]) fun z => (h.cell z).sound p
      simp only [Bool.and_eq_true, beq_iff_eq]
      exact ⟨⟨⟨h1, h2⟩, h3⟩, h4⟩
    · next ho =>
      obtain ⟨h1, h2, h3, h4⟩ := Program.sets_of_none (g := s.progs[p]) fun z => by
        by_contra hc
        exact ho ((h.cell z).closed p hc)
      simp only [Bool.and_eq_true, beq_iff_eq]
      exact ⟨⟨⟨h1, h2⟩, h3⟩, h4⟩
  · have hg := (bits z).2.1
    rw [show s.progs[p].granted.getLsbD z.val = _ from hg, Bool.eq_iff_iff, decide_eq_true_iff]
    refine ((h.cell z).granted p).trans ?_
    by_cases hk : s.progs[p].kind = .bed
    · rw [if_pos hk, if_pos (show s.roles.kind p = .bed from hk)]; exact beq_iff_eq.symm
    · rw [if_neg hk, if_neg (show ¬s.roles.kind p = .bed from hk)]; exact beq_iff_eq.symm
  · have hh := (bits z).2.2.1
    rw [show s.progs[p].held.getLsbD z.val = _ from hh, Bool.eq_iff_iff, decide_eq_true_iff, List.contains_iff_mem]
    exact (h.cell z).held p

theorem State.Table.kinds (h : s.Table noZone) : s.kindsLawful = true := by
  refine List.all_eq_true.mpr fun z _ => ?_
  simp only [Bool.and_eq_true, Option.all_eq_true, List.all_eq_true, bne_iff_ne, beq_iff_eq]
  exact ⟨⟨(h.cell z).ownerKind, (h.cell z).stackKind⟩, (h.cell z).bedKind⟩

theorem State.Table.matched (h : s.Table noZone) : s.Matched := State.matched_of_agree h.agree h.kinds

theorem State.Table.stacks (h : s.Table noZone) : s.stacksLawful = true := by
  refine List.all_eq_true.mpr fun z _ => (s.stackLawful_iff z).mpr ⟨?_, (h.cell z).depth, (h.cell z).rising⟩
  refine List.nodup_append.mpr ⟨by cases s.zones[z].owner <;> simp, (h.cell z).nodup, fun a ha b hb e => ?_⟩
  subst e
  exact (h.cell z).owner_not_held (by simpa using ha) hb

theorem State.Table.classes (h : s.Table noZone) : s.classesLawful = true := by
  refine List.all_eq_true.mpr fun p _ => ?_
  cases ho : s.progs[p].isOpen with
  | false => rfl
  | true =>
    simp only [Bool.not_true, Bool.false_or, beq_iff_eq]
    rw [Bool.eq_iff_iff, decide_eq_true_iff]
    exact beq_iff_eq.trans (h.roles.class_zero p ho)

theorem State.Table.tails (h : s.Table noZone) : s.tailsLawful = true := by
  refine List.all_eq_true.mpr fun p _ => ?_
  cases ht : s.progs[p].state == .tail with
  | false => simp only [bne, ht, Bool.not_false, Bool.true_or]
  | true =>
    have hz (z : Zone) := (h.cell z).tail p ht
    have hset (f : Program → ZoneSet) (x : Claim) (hx : x = .held ∨ x = .waiting)
        (hf : ∀ z : Zone, (f s.progs[p]).getLsbD z.val = decide (s.progs[p].claim z = x)) : f s.progs[p] = 0#64 :=
      (zoneSet_eq_zero_iff _).mpr fun z => by
        rw [hf z]
        refine decide_eq_false fun e => ?_
        have := hz z
        rw [State.cell_claim, show s.progs[p.val].claim z = x from e] at this
        rcases hx with rfl | rfl <;> rcases this with e | e <;> cases e
    simp only [bne, ht, Bool.not_true, Bool.false_or, Bool.and_eq_true, beq_iff_eq]
    exact ⟨⟨h.roles.tail_live p ht,
      hset Program.held .held (Or.inl rfl) fun z => (Program.bits_of_claim ((h.cell z).sound p)).2.2.1⟩,
      hset Program.waiting .waiting (Or.inr rfl) fun z => (Program.bits_of_claim ((h.cell z).sound p)).2.2.2⟩

theorem State.Table.zone (h : s.Table noZone) (z : Zone) : s.zoneLawful z = true := by
  refine (s.zoneLawful_iff z).mpr ⟨fun ho => (h.vacant ho).1, fun hx => ?_⟩
  obtain ⟨ho, hb, hc⟩ := (h.cell z).excluded hx
  refine ⟨ho, hb, fun p => Bool.eq_false_iff.mpr fun hr => ?_⟩
  exact (h.requested_iff p z).mp hr (hc p)

end Laws

end Sys2Proof.Machine
end

section
namespace Sys2Proof.Machine

/-! ### Taking an owned zone (R28, R29) -/

section Taking
variable {s : State} {p o q w : ProgId} {z : Zone} {quiet : Bool}

theorem State.takeForeground_zone (h : s.zones[z].owner = some o) (quiet : Bool) (p : ProgId) :
    (s.takeForeground quiet p z).zones[z] = { s.zones[z].displaced s.progs[o].kind.resumable o with owner := some p } := by
  rw [State.takeForeground_zones h]
  exact getElem_adjust_self ..

theorem State.takeForeground_prog (h : s.zones[z].owner = some o) (quiet : Bool) (p q : ProgId) :
    (s.takeForeground quiet p z).progs[q] = if p = q then (s.ousted o z q).addGranted z else s.ousted o z q :=
  State.takeForeground_progs h quiet p q

theorem take_two_of_le {l : List ProgId} (h : l.length ≤ 3) : (if 3 ≤ l.length then l.dropLast else l) = l.take 2 := by
  split
  · next h3 =>
    rw [List.dropLast_eq_take, show l.length - 1 = 2 by omega]
  · exact (List.take_of_length_le (by omega)).symm

/-- Where taker, owner and stack entries are distinct, each of them meets what R28 and R29 give. -/
theorem State.takeForeground_effect (ho : s.zones[z].owner = some o) (hn : (p :: o :: s.zones[z].stack).Nodup)
    (hl : s.zones[z].stack.length ≤ 3) (quiet : Bool) :
    (s.progs[o].kind.resumable = true →
      (s.takeForeground quiet p z).progs[o] = s.progs[o].suspend z ∧
      (∀ b : ProgId, s.zones[z].stack.length = 3 → s.zones[z].stack.getLast? = some b →
        (s.takeForeground quiet p z).progs[b] = s.progs[b].without (zoneBit z))) ∧
    (s.progs[o].kind.resumable = false → (s.takeForeground quiet p z).progs[o] = s.progs[o].without (zoneBit z)) ∧
    (s.takeForeground quiet p z).progs[p] = s.progs[p].addGranted z ∧
    (∀ q : ProgId, q ≠ p → q ≠ o → q ∉ s.zones[z].stack.drop 2 → (s.takeForeground quiet p z).progs[q] = s.progs[q]) := by
  simp only [List.nodup_cons, List.mem_cons, not_or] at hn
  obtain ⟨⟨hpo, hps⟩, hos, -⟩ := hn
  have hev : s.zones[z].evicted ≠ some o := fun e => by
    rw [ZoneRec.evicted_eq] at e
    split at e
    · exact hos (List.mem_of_getLast? e)
    · cases e
  refine ⟨fun hk => ⟨?_, fun b h3 hb => ?_⟩, fun hk => ?_, ?_, fun q hqp hqo hq => ?_⟩
  all_goals rw [State.takeForeground_prog ho]
  · rw [if_neg hpo]
    unfold State.ousted
    simp only [hk, hev, if_true, if_false]
  · have hbs := List.mem_of_getLast? hb
    have hpb : p ≠ b := fun e => hps (e ▸ hbs)
    have hob : o ≠ b := fun e => hos (e ▸ hbs)
    have hevb : s.zones[z].evicted = some b := by rw [ZoneRec.evicted_eq, if_pos h3.ge, hb]
    rw [if_neg hpb]
    unfold State.ousted
    simp only [hk, hevb, hob, if_true, if_false]
  · rw [if_neg hpo]
    unfold State.ousted
    simp only [hk, Bool.false_eq_true, if_true, if_false]
  · rw [if_pos rfl, State.ousted_of_absent hpo hps]
  · rw [if_neg (Ne.symm hqp)]
    have hevq : s.zones[z].evicted ≠ some q := fun e => by
      rw [ZoneRec.evicted_eq] at e
      split at e
      · next h3 =>
        refine hq ?_
        obtain ⟨init, hinit⟩ := List.getLast?_eq_some_iff.mp e
        rw [hinit] at hl h3 ⊢
        simp only [List.length_append, List.length_singleton] at hl h3
        rw [List.drop_append_of_le_length (by omega)]
        simp
      · cases e
    have hoq : o ≠ q := Ne.symm hqo
    unfold State.ousted
    simp only [hevq, hoq, if_false, ite_self]

/-! ### The successor of a released zone (R34, R35, R36) -/

theorem Program.together_iff (g : Program) : g.together = true ↔ g.policy = .allOrWait ∧ g.gotAll = false := by
  simp [Program.together]

theorem State.grantableTogether_iff (s : State) (rs : ZoneSet) (w : ProgId) (z : Zone) : s.grantableTogether rs w z = true ↔
    ∀ y : Zone, s.progs[w].requested.getLsbD y.val = true → y ≠ z →
      (s.zones[y].owner ≠ none → s.passes w y = true) ∧
      (s.zones[y].owner = none → rs.getLsbD y.val = true → s.progs[(1 : ProgId)].waiting.getLsbD y.val = false ∧
        ∀ t, s.zones[y].stack.head? = some t → s.progs[w].cls < s.progs[t].cls) := by
  unfold State.grantableTogether
  simp only [List.all_eq_true, mem_zonesOf]
  refine forall_congr' fun y => imp_congr_right fun _ => ?_
  by_cases e : y = z
  · simp [e]
  · rw [if_neg e]
    simp only [ne_eq, e, not_false_eq_true, true_implies]
    cases ho : s.zones[y].owner with
    | some o => simp
    | none =>
      cases hr : rs.getLsbD y.val with
      | false => simp
      | true =>
        simp only [if_true, State.alarmWaits, Bool.and_eq_true, Bool.not_eq_true']
        cases hs : s.zones[y].stack with
        | nil => simp
        | cons t rest => simp

theorem find?_eq_some_split {l : List ProgId} {f : ProgId → Bool} {P : ProgId → Prop} (hf : ∀ q, f q = true ↔ P q) (w : ProgId) :
    l.find? f = some w ↔ ∃ before after, l = before ++ w :: after ∧ P w ∧ ∀ q ∈ before, ¬P q := by
  rw [List.find?_eq_some_iff_append]
  simp only [Bool.not_eq_true', ← hf, Bool.not_eq_true]
  constructor
  · rintro ⟨hw, a, b, hl, ha⟩
    exact ⟨a, b, hl, hw, ha⟩
  · rintro ⟨a, b, hl, hw, ha⟩
    exact ⟨hw, a, b, hl, ha⟩

theorem find?_eq_none_split {l : List ProgId} {f : ProgId → Bool} {P : ProgId → Prop} (hf : ∀ q, f q = true ↔ P q) :
    l.find? f = none ↔ ∀ q ∈ l, ¬P q := by
  rw [List.find?_eq_none]
  simp only [hf]

/-- The waiting candidate's conditions (R34, R35). -/
theorem State.waiterFit_iff (s : State) (rs : ZoneSet) (z : Zone) (w : ProgId) :
    (s.progs[w].kind != .bed && s.progs[w].waiting.getLsbD z.val && (!s.progs[w].together || s.grantableTogether rs w z)) = true ↔
      s.progs[w].kind ≠ .bed ∧ s.progs[w].waiting.getLsbD z.val = true ∧
        (s.progs[w].policy = .allOrWait ∧ s.progs[w].gotAll = false → s.grantableTogether rs w z = true) := by
  rw [← Program.together_iff, Bool.and_eq_true, Bool.and_eq_true, bne_iff_ne, and_assoc, Bool.or_eq_true, Bool.not_eq_true']
  refine and_congr_right fun _ => and_congr_right fun _ => ?_
  cases s.progs[w].together <;> simp

theorem State.bedFit_iff (s : State) (z : Zone) (w : ProgId) :
    (s.progs[w].kind == .bed && s.progs[w].waiting.getLsbD z.val &&
      (!s.progs[w].together || (zonesOf s.progs[w].requested).all fun y => y == z || s.zones[y].bed.isNone)) = true ↔
      s.progs[w].kind = .bed ∧ s.progs[w].waiting.getLsbD z.val = true ∧
        (s.progs[w].policy = .allOrWait ∧ s.progs[w].gotAll = false →
          ∀ y : Zone, s.progs[w].requested.getLsbD y.val = true → y ≠ z → s.zones[y].bed = none) := by
  have hall : ((zonesOf s.progs[w].requested).all fun y => y == z || s.zones[y].bed.isNone) = true ↔
      ∀ y : Zone, s.progs[w].requested.getLsbD y.val = true → y ≠ z → s.zones[y].bed = none := by
    simp only [List.all_eq_true, mem_zonesOf, Bool.or_eq_true, beq_iff_eq, Option.isNone_iff_eq_none]
    exact forall_congr' fun y => imp_congr_right fun _ => or_iff_not_imp_left
  rw [← Program.together_iff, Bool.and_eq_true, Bool.and_eq_true, beq_iff_eq, and_assoc, Bool.or_eq_true, Bool.not_eq_true', hall]
  refine and_congr_right fun _ => and_congr_right fun _ => ?_
  cases s.progs[w].together <;> simp

/-! ### A program that takes its zones together (R32, R35) -/

/-- Zones granted one after the other. -/
def Program.grantAll (g : Program) (l : List Zone) : Program := l.foldl Program.addGranted g

theorem Program.grantAll_eq (g : Program) (zs : ZoneSet) : g.grantAll (zonesOf zs) =
    { g with granted := g.granted ||| zs, requested := g.requested ||| zs, waiting := g.waiting &&& ~~~zs,
             held := g.held &&& ~~~zs } := by
  have key (l : List Zone) (g : Program) : ∃ a : ZoneSet, (∀ z : Zone, a.getLsbD z.val = decide (z ∈ l)) ∧
      g.grantAll l = { g with granted := g.granted ||| a, requested := g.requested ||| a, waiting := g.waiting &&& ~~~a,
                              held := g.held &&& ~~~a } := by
    induction l generalizing g with
    | nil => exact ⟨0#64, by simp, by simp only [zoneSet_and_compl BitVec.and_zero, BitVec.or_zero]; rfl⟩
    | cons y l ih =>
      obtain ⟨a, ha, he⟩ := ih (g.addGranted y)
      refine ⟨zoneBit y ||| a, fun z => ?_, ?_⟩
      · rw [BitVec.getLsbD_or, zoneBit_getLsbD, ha]
        by_cases e : y = z
        · simp [e]
        · simp [e, Ne.symm e]
      · rw [show g.grantAll (y :: l) = (g.addGranted y).grantAll l from rfl, he]
        simp only [Program.addGranted, BitVec.or_assoc, BitVec.and_assoc, BitVec.not_or]
  obtain ⟨a, ha, he⟩ := key (zonesOf zs) g
  have hz : a = zs := zoneSet_ext fun z => by
    rw [ha]
    cases h : zs.getLsbD z.val <;> simp [-BitVec.getLsbD_eq_getElem, h]
  rw [he, hz]

/-- A take of a zone by a BED program, or by one that has no place in it. -/
theorem State.take_self (h : s.progs[p].kind = .bed ∨ (p ∉ s.zones[z].stack ∧ s.zones[z].owner ≠ some p)) (quiet : Bool) :
    (s.take quiet p z).progs[p] = s.progs[p].addGranted z := by
  unfold State.take
  split
  · exact State.onProg_progs_self ..
  · next hk =>
    obtain ⟨hs, ho⟩ := h.resolve_left hk
    cases hz : s.zones[z].owner with
    | none => rw [State.takeForeground_of_unowned hz]; exact State.onProg_progs_self ..
    | some o =>
      have hpo : p ≠ o := fun e => ho (by rw [hz, e])
      rw [State.takeForeground_prog hz, if_pos rfl, State.ousted_of_absent hpo hs]

theorem State.takeAll_self {zs : ZoneSet} (h : s.progs[p].kind = .bed ∨
    ∀ z : Zone, zs.getLsbD z.val = true → p ∉ s.zones[z].stack ∧ s.zones[z].owner ≠ some p) (quiet : Bool) :
    (s.takeAll quiet p zs).progs[p] = { s.progs[p] with gotAll := true }.grantAll (zonesOf zs) := by
  have key (l : List Zone) (hl : l.Nodup) (s : State)
      (h : s.progs[p].kind = .bed ∨ ∀ z ∈ l, p ∉ s.zones[z].stack ∧ s.zones[z].owner ≠ some p) :
      (l.foldl (fun s z => s.take quiet p z) s).progs[p] = s.progs[p].grantAll l := by
    induction l generalizing s with
    | nil => rfl
    | cons y l ih =>
      rw [List.nodup_cons] at hl
      rw [List.foldl_cons, ih hl.2]
      · rw [State.take_self (h.imp_right fun h => h y List.mem_cons_self)]
        rfl
      · refine h.imp (fun hk => ?_) fun h z hz => ?_
        · rw [State.kind_of_beyond (State.take_beyond ..)]; exact hk
        · have hzy : z ≠ y := fun e => hl.1 (e ▸ hz)
          rw [(s.take_stepAt quiet p y).zones z hzy]
          exact h z (List.mem_cons_of_mem _ hz)
  refine (key _ (zonesOf_nodup zs) (s.allow p) (h.imp (fun hk => ?_) fun h z hz => h z ((mem_zonesOf zs z).mp hz))).trans ?_
  · rw [State.kind_of_beyond (s.allow_beyond p)]; exact hk
  · rw [show (s.allow p).progs[p] = _ from s.allow_progs p p, if_pos rfl]
    rfl

/-- A BED program's take of several slots changes no other record. -/
theorem State.takeAll_bed_other {zs : ZoneSet} (hk : s.progs[p].kind = .bed) (hq : q ≠ p) (quiet : Bool) :
    (s.takeAll quiet p zs).progs[q] = s.progs[q] := by
  have key (l : List Zone) (s : State) (hk : s.progs[p].kind = .bed) :
      (l.foldl (fun s z => s.take quiet p z) s).progs[q] = s.progs[q] := by
    induction l generalizing s with
    | nil => rfl
    | cons y l ih =>
      rw [List.foldl_cons, ih _ (by rw [State.kind_of_beyond (State.take_beyond ..)]; exact hk), State.take, if_pos hk]
      exact State.onProg_progs_ne _ hq _
  refine (key _ (s.allow p) (by rw [State.kind_of_beyond (s.allow_beyond p)]; exact hk)).trans ?_
  exact State.onProg_progs_ne _ hq _

theorem State.allow_progs_ne (hq : q ≠ p) : (s.allow p).progs[q] = s.progs[q] :=
  (s.allow_progs p q).trans (if_neg hq.symm)

/-- A zone in a take of several is as the one take leaves it. -/
theorem State.takeAll_zone {zs : ZoneSet} (quiet : Bool) (p : ProgId) (z : Zone) :
    (zs.getLsbD z.val = false → (s.takeAll quiet p zs).zones[z] = s.zones[z]) ∧
    (zs.getLsbD z.val = true → s.progs[p].kind = .bed → (s.takeAll quiet p zs).zones[z] = { s.zones[z] with bed := some p }) ∧
    (zs.getLsbD z.val = true → s.progs[p].kind ≠ .bed → s.zones[z].owner = none →
      (s.takeAll quiet p zs).zones[z] = { s.zones[z] with owner := some p }) ∧
    (∀ o, zs.getLsbD z.val = true → s.progs[p].kind ≠ .bed → s.zones[z].owner = some o →
      (s.takeAll quiet p zs).zones[z] = { s.zones[z].displaced s.progs[o].kind.resumable o with owner := some p }) := by
  rw [State.takeAll_eq]
  have hf := fun s z => State.take_stepAt s quiet p z
  have hturn (hz : zs.getLsbD z.val = true) : ∃ t : State, t.beyond = s.beyond ∧ t.zones[z] = s.zones[z] ∧
      ((zonesOf zs).foldl (fun s z => s.take quiet p z) (s.allow p)).zones[z] = (t.take quiet p z).zones[z] := by
    obtain ⟨t, hst, htu⟩ := foldl_turn hf (zonesOf_nodup zs) ((mem_zonesOf zs z).mpr hz) (s.allow p)
    exact ⟨t, hst.beyond.trans (s.allow_beyond p), hst.zone, htu.zone⟩
  refine ⟨fun hz => ?_, fun hz hk => ?_, fun hz hk ho => ?_, fun o hz hk ho => ?_⟩
  · exact (foldl_spares hf (z := z) (by rw [mem_zonesOf, hz]; decide) (s.allow p)).zone
  all_goals
    obtain ⟨t, htb, htz, hu⟩ := hturn hz
    have hkt : t.progs[p].kind = s.progs[p].kind := State.kind_of_beyond htb p
    rw [hu, State.take, hkt]
  · rw [if_pos hk, State.takeBed_zones]
    exact (getElem_adjust_self ..).trans (congrArg (fun r : ZoneRec => { r with bed := some p }) htz)
  · rw [if_neg hk, State.takeForeground_of_unowned (by rw [htz]; exact ho), State.own_zones]
    exact (getElem_adjust_self ..).trans (congrArg (fun r : ZoneRec => { r with owner := some p }) htz)
  · rw [if_neg hk, State.takeForeground_zone (o := o) (by rw [htz]; exact ho), htz, State.kind_of_beyond htb o]

end Taking

end Sys2Proof.Machine
end

section
namespace Sys2Proof.Machine

/-! ### Ending, dropping and settling keep the table (R19, R21, R43) -/

section Leaving
variable {s u : State} {pend : Zone → Prop} {p q : ProgId} {z : Zone}

/-- A program leaves the zones of a set. Where its record is closed with that, it leaves them all. -/
theorem State.Table.strip (h : s.Table pend) {zs : ZoneSet}
    (hcell : ∀ z : Zone, u.cell z = if zs.getLsbD z.val then (s.cell z).strip p else s.cell z)
    (hkind : u.roles.kind = s.roles.kind) (hcls : u.roles.cls = s.roles.cls)
    (hopen : ∀ q, q ≠ p → u.roles.isOpen q = s.roles.isOpen q)
    (hself : u.roles = s.roles ∨ ((∀ z : Zone, zs.getLsbD z.val = true) ∧ u.roles.isOpen p = false))
    (htail : ∀ q, u.roles.tail q = true → s.roles.tail q = true)
    (htog : ∀ q : ProgId, u.progs[q].together = s.progs[q].together)
    (hlist : ∀ q : ProgId, q ∈ u.openOrder ↔ u.progs[q].state ≠ .free) :
    u.Table fun z => pend z ∨ (zs.getLsbD z.val = true ∧ s.zones[z].owner = some p) where
  cell z := by
    rw [hcell]
    split
    · next hz =>
      refine ((h.cell z).strip p hkind hcls hopen htail).of_pend fun _ => Or.imp_right fun ho => ⟨hz, ho⟩
    · next hz =>
      rcases hself with e | ⟨hall, -⟩
      · rw [e]; exact (h.cell z).of_pend fun _ => Or.inl
      · exact absurd (hall z) hz
  roles := by
    have hop (q : ProgId) (ho : u.roles.isOpen q = true) : s.roles.isOpen q = true := by
      by_cases e : q = p
      · rcases hself with hs | ⟨-, hs⟩
        · rw [← hs]; exact ho
        · rw [e, hs] at ho; cases ho
      · rw [← hopen q e]; exact ho
    refine ⟨fun q hq => ?_, fun q hq => ?_, fun q hq2 hq => ?_⟩
    · rw [hkind]; exact h.roles.tail_live q (htail q hq)
    · rw [hcls]; exact h.roles.class_zero q (hop q hq)
    · rw [hkind]; exact h.roles.alarm q hq2 (hop q hq)
  whole q z ht := by
    rw [htog] at ht
    have hc : u.progs[q].claim z = (u.cell z).claim q := rfl
    rw [hc, hcell]
    have hw := h.whole q z ht
    split
    · simp only [Cell.strip, Cell.set]
      split
      · decide
      · exact hw
    · exact hw
  alone q hq ho := by
    rw [htog]
    refine h.alone q hq ?_
    by_cases e : q = p
    · rcases hself with hs | ⟨-, hs⟩
      · exact (congrFun (congrArg Roles.isOpen hs) q).symm.trans ho
      · subst e
        exact absurd (hs.symm.trans ho) (by decide)
    · exact (hopen q e).symm.trans ho
  listed := hlist

theorem State.endProgram_cell (s : State) (p : ProgId) (why : EndReason) (z : Zone) :
    (s.endProgram p why).cell z = (s.cell z).strip p := by
  have hz := s.endProgram_zone p why z
  refine Cell.ext (x := (s.endProgram p why).cell z) (y := (s.cell z).strip p) (congrArg ZoneRec.owner hz)
    (congrArg ZoneRec.stack hz) (congrArg ZoneRec.bed hz) (congrArg ZoneRec.excluded hz :) (funext fun q => ?_)
  · simp only [Cell.strip, Cell.set]
    by_cases e : p = q
    · subst e
      rw [if_pos rfl]
      exact (congrArg (fun g : Program => g.claim z) (s.endProgram_self p why)).trans (Program.claim_finished ..)
    · rw [if_neg e]
      exact congrArg (fun g : Program => g.claim z) (s.endProgram_other (Ne.symm e) why)

/-- The end of a program that is not FREE. -/
theorem State.Table.endProgram (h : s.Table pend) (hp : s.progs[p].state ≠ .free) (why : EndReason) :
    (s.endProgram p why).Table fun z => pend z ∨ s.zones[z].owner = some p := by
  have hprog (q : ProgId) : (s.endProgram p why).progs[q] = if q = p then s.progs[p].finished why else s.progs[q] := by
    by_cases e : q = p
    · subst e; rw [if_pos rfl, State.endProgram_self]
    · rw [if_neg e, State.endProgram_other s e]
  refine (h.strip (zs := ~~~0#64) (u := s.endProgram p why) (p := p) (fun z => ?_) (funext fun q => ?_) (funext fun q => ?_)
    (fun q hq => ?_) (Or.inr ⟨fun z => ?_, ?_⟩) (fun q hq => ?_) (fun q => ?_) fun q => ?_).mono fun z _ => Or.imp_right And.right
  · rw [getLsbD_compl, BitVec.getLsbD_zero, State.endProgram_cell]; rfl
  · show (s.endProgram p why).progs[q].kind = s.progs[q].kind
    rw [hprog]; split
    · next e => subst e; rfl
    · rfl
  · show (s.endProgram p why).progs[q].cls = s.progs[q].cls
    rw [hprog]; split
    · next e => subst e; rfl
    · rfl
  · show (s.endProgram p why).progs[q].isOpen = s.progs[q].isOpen
    rw [State.endProgram_other s hq]
  · rw [getLsbD_compl, BitVec.getLsbD_zero]; rfl
  · show (s.endProgram p why).progs[p].isOpen = false
    rw [State.endProgram_self]; rfl
  · have : ((s.endProgram p why).progs[q].state == .tail) = true := hq
    rw [hprog] at this
    split at this
    · cases this
    · exact this
  · rw [hprog]; split
    · next e => subst e; rfl
    · rfl
  · rw [State.endProgram_openOrder, h.listed q, hprog]
    split
    · next e => subst e; exact iff_of_true hp fun hc => ProgState.noConfusion hc
    · rfl

/-- Zones of a program's request dropped (R43). -/
def State.dropped (s : State) (p : ProgId) (zs : ZoneSet) : State :=
  (s.onZones zs fun r => r.strip p).onProg p fun g => g.without zs

theorem State.dropped_zone (s : State) (p : ProgId) (zs : ZoneSet) (z : Zone) :
    (s.dropped p zs).zones[z] = if zs.getLsbD z.val then s.zones[z].strip p else s.zones[z] :=
  getElem_remap ..

theorem State.dropped_self (s : State) (p : ProgId) (zs : ZoneSet) : (s.dropped p zs).progs[p] = s.progs[p].without zs :=
  State.onProg_progs_self ..

theorem State.dropped_other (s : State) {p q : ProgId} (h : q ≠ p) (zs : ZoneSet) : (s.dropped p zs).progs[q] = s.progs[q] :=
  State.onProg_progs_ne _ h _

theorem State.dropped_bare (s : State) (p : ProgId) (zs : ZoneSet) : (s.dropped p zs).bare = s.bare :=
  State.onProg_bare _ p fun _ => rfl

theorem State.Table.dropped (h : s.Table pend) (p : ProgId) (zs : ZoneSet) :
    (s.dropped p zs).Table fun z => pend z ∨ (zs.getLsbD z.val = true ∧ s.zones[z].owner = some p) := by
  have hr := State.roles_of_bare (s.dropped_bare p zs)
  refine h.strip (u := s.dropped p zs) (p := p) (fun z => ?_) (by rw [hr]) (by rw [hr]) (fun q _ => by rw [hr]) (Or.inl hr)
    (fun q => by rw [hr]; exact id) (fun q => ?_) fun q => ?_
  · have hz := s.dropped_zone p zs z
    have hcl (q : ProgId) : (s.dropped p zs).progs[q].claim z =
        if p = q ∧ zs.getLsbD z.val = true then .none else s.progs[q].claim z := by
      by_cases e : p = q
      · subst e
        rw [State.dropped_self, Program.claim_without]
        simp only [true_and]
      · rw [State.dropped_other s (Ne.symm e), if_neg fun h => e h.1]
    split
    · next hzs =>
      rw [if_pos hzs] at hz
      refine Cell.ext (x := (s.dropped p zs).cell z) (y := (s.cell z).strip p) (congrArg ZoneRec.owner hz)
        (congrArg ZoneRec.stack hz) (congrArg ZoneRec.bed hz) (congrArg ZoneRec.excluded hz :) (funext fun q => ?_)
      exact (hcl q).trans (by simp only [hzs, and_true]; rfl)
    · next hzs =>
      rw [if_neg hzs] at hz
      refine Cell.ext (x := (s.dropped p zs).cell z) (y := s.cell z) (congrArg ZoneRec.owner hz)
        (congrArg ZoneRec.stack hz) (congrArg ZoneRec.bed hz) (congrArg ZoneRec.excluded hz) (funext fun q => ?_)
      exact (hcl q).trans (if_neg fun h => hzs h.2)
  · refine State.together_of_bare (s.dropped_bare p zs) ?_
    by_cases e : q = p
    · subst e; exact (congrArg Program.gotAll (s.dropped_self q zs) :)
    · exact congrArg Program.gotAll (s.dropped_other e zs)
  · rw [show (s.dropped p zs).openOrder = s.openOrder from rfl, h.listed q]
    exact not_congr (by rw [show (s.dropped p zs).progs[q].state = s.progs[q].state from State.state_of_bare (s.dropped_bare p zs) q])

/-! The state a program takes. -/

theorem State.onBoundVoice_progs (s : State) (p : ProgId) (f : Player → Player) : (s.onBoundVoice p f).progs = s.progs :=
  State.progs_of_claims (State.onBoundVoice_claims ..)

theorem State.gateProgram_progs (s : State) (p : ProgId) (b : Bool) : (s.gateProgram p b).progs = s.progs :=
  State.progs_of_claims (State.gateProgram_claims ..)

theorem State.startClip_state (s : State) (p : ProgId) : (s.startClip p).progs[p].state = s.progs[p].state := by
  unfold State.startClip
  repeat' split
  any_goals rfl
  rw [State.onProg_progs_self]
  rfl

theorem State.firstActive_state (s : State) (p : ProgId) (skipped : Bool) : (s.firstActive p skipped).progs[p].state = .active := by
  rw [State.firstActive, State.startClip_state, State.onProg_progs_self]

/-- A program that is granted a zone goes on in PREAMBLE or ACTIVE (R20). -/
theorem State.enterGranted_state (s : State) (p : ProgId) :
    (s.enterGranted p).progs[p].state = .preamble ∨ (s.enterGranted p).progs[p].state = .active := by
  unfold State.enterGranted
  simp only
  split
  · rw [State.onBoundVoice_progs, State.onProg_progs_self]; exact Or.inl rfl
  · rw [State.gateProgram_progs, State.onProg_progs_self]; exact Or.inr rfl
  · split
    case h_3 => exact Or.inr (s.firstActive_state p false)
    all_goals
      split
      · rw [State.onProg_progs_self]; exact Or.inl rfl
      · exact Or.inr (s.firstActive_state p true)

/-- A program without granted zone is HELD where it has held zones, and PENDING otherwise (R19). -/
theorem State.enterUngranted_state (s : State) (p : ProgId) :
    (s.enterUngranted p).progs[p].state = if s.progs[p].held = 0#64 then .pending else .held := by
  have hst : (if s.progs[p].held != 0#64 then ProgState.held else .pending) = if s.progs[p].held = 0#64 then .pending else .held := by
    by_cases e : s.progs[p].held = 0#64
    · rw [if_pos e, e]; rfl
    · rw [if_neg e, if_pos (bne_iff_ne.mpr e)]
  rw [← hst]
  unfold State.enterUngranted
  simp only
  split
  · rw [State.onBoundVoice_progs, State.onProg_progs_self]
  · rw [State.gateProgram_progs, State.onProg_progs_self]
  all_goals rw [State.onProg_progs_self]

theorem Program.waitClock_state (g : Program) : g.waitClock.state = g.state := by
  unfold Program.waitClock; split <;> rfl

/-- An open program that does not end at its settling is open after it, and in TAIL only where it was. -/
theorem State.settleProgram_state (s : State) (p : ProgId) (hm : s.settleProgram p ≠ s.endProgram p .noZones) :
    (s.settleProgram p).progs[p].state = s.progs[p].state ∨
      (s.progs[p].isOpen = true ∧ s.progs[p].state ≠ .tail ∧
        ((s.settleProgram p).progs[p].state = .pending ∨ (s.settleProgram p).progs[p].state = .held ∨
          (s.settleProgram p).progs[p].state = .preamble ∨ (s.settleProgram p).progs[p].state = .active)) := by
  rw [State.settleProgram_eq] at hm ⊢
  cases hst : s.progs[p].state
  case free | ended => exact Or.inl hst
  case tail =>
    left
    by_cases hg : s.progs[p].granted = 0#64
    · rw [hst] at hm; exact absurd (if_pos hg) hm
    · rw [show (if s.progs[p].granted = 0#64 then s.endProgram p .noZones else s) = s from if_neg hg]
      exact hst
  all_goals
    right
    refine ⟨(Program.isOpen_iff _).mpr (by rw [hst]; decide), by decide, ?_⟩
    rw [hst] at hm
    replace hm : s.settleOpen p ≠ s.endProgram p .noZones := hm
    show (s.settleOpen p).progs[p].state = _ ∨ (s.settleOpen p).progs[p].state = _ ∨ (s.settleOpen p).progs[p].state = _ ∨
      (s.settleOpen p).progs[p].state = _
    unfold State.settleOpen at hm ⊢
    simp only at hm ⊢
    by_cases hz : s.progs[p].granted = 0#64 ∧ s.progs[p].held = 0#64 ∧ s.progs[p].waiting = 0#64
    · exact absurd (if_pos hz) hm
    · rw [if_neg hz, State.onProg_progs_self, Program.waitClock_state]
      by_cases hg : s.progs[p].granted = 0#64
      · rw [if_pos hg, State.enterUngranted_state]
        split
        · exact Or.inl rfl
        · exact Or.inr (Or.inl rfl)
      · rw [if_neg hg]
        split
        · exact Or.inr (Or.inr (s.enterGranted_state p))
        · rw [hst]; decide

end Leaving

end Sys2Proof.Machine
end

section
namespace Sys2Proof.Machine

/-! ### Settling keeps the table and the zones (R19) -/

section Settling
variable {s u : State} {pend : Zone → Prop} {p q : ProgId} {z : Zone}

theorem ZoneRec.strip_of_absent {r : ZoneRec} (ho : r.owner ≠ some p) (hs : p ∉ r.stack) (hb : r.bed ≠ some p) : r.strip p = r := by
  rw [ZoneRec.strip_of_not_holder ho hb, List.filter_eq_self.mpr]
  intro q hq
  exact bne_iff_ne.mpr fun e => hs (e ▸ hq)

/-- A program that ends at its settling holds no zone and no slot and stands on no stack. -/
theorem State.Table.absent_of_ending (h : s.Table pend) (hg : s.progs[p].granted = 0#64)
    (hh : s.progs[p].state = .tail ∨ s.progs[p].held = 0#64) (z : Zone) :
    s.zones[z].owner ≠ some p ∧ p ∉ s.zones[z].stack ∧ s.zones[z].bed ≠ some p := by
  have hng : s.progs[p].claim z ≠ .granted := fun hc => by
    obtain ⟨-, h2, -, -⟩ := Program.bits_of_claim (g := s.progs[p]) (z := z) (by rw [hc]; decide)
    rw [hg, hc, BitVec.getLsbD_zero] at h2
    exact absurd h2 (by decide)
  have hnh : s.progs[p].claim z ≠ .held := fun hc => by
    rcases hh with ht | hz
    · rcases (h.cell z).tail p (beq_iff_eq.mpr ht) with e | e
      · exact absurd (hc.symm.trans e) (by decide)
      · exact absurd (hc.symm.trans e) (by decide)
    · obtain ⟨-, -, h3, -⟩ := Program.bits_of_claim (g := s.progs[p]) (z := z) (by rw [hc]; decide)
      rw [hz, hc, BitVec.getLsbD_zero] at h3
      exact absurd h3 (by decide)
  refine ⟨fun ho => hng ((h.cell z).claim_owner ho), fun hs => hnh (((h.cell z).held p).mpr hs), fun hb => hng ?_⟩
  exact ((h.cell z).granted p).mpr ((if_pos ((h.cell z).bedKind p hb)).symm ▸ hb)

theorem State.Moves.kind (h : State.Moves p s u) (q : ProgId) : u.progs[q].kind = s.progs[q].kind :=
  (congrArg Program.kind (h.steady_prog q) :)

/-- A step that sets the state of one program from its sets, where an open program stays open. -/
theorem State.Table.moves (h : s.Table pend) (hm : State.Moves p s u)
    (hs : u.progs[p].state = s.progs[p].state ∨
      (s.progs[p].isOpen = true ∧ s.progs[p].state ≠ .tail ∧ u.progs[p].isOpen = true ∧ u.progs[p].state ≠ .tail)) :
    u.Table pend := by
  have hprog := hm.steady_prog
  have hopen : u.roles.isOpen = s.roles.isOpen := funext fun q => by
    show u.progs[q].isOpen = s.progs[q].isOpen
    by_cases e : q = p
    · subst e
      rcases hs with e | ⟨h1, -, h2, -⟩
      · exact congrArg (fun st : ProgState => st != .free && st != .ended) e
      · exact h2.trans h1.symm
    · rw [hm.other q e]
  have htail : u.roles.tail = s.roles.tail := funext fun q => by
    show (u.progs[q].state == .tail) = (s.progs[q].state == .tail)
    by_cases e : q = p
    · subst e
      rcases hs with e | ⟨-, h1, -, h2⟩
      · rw [e]
      · exact (beq_eq_false_iff_ne.mpr h2).trans (beq_eq_false_iff_ne.mpr h1).symm
    · rw [hm.other q e]
  have hroles : u.roles = s.roles :=
    (Roles.mk.injEq ..).mpr ⟨funext fun q => (congrArg Program.kind (hprog q) :), funext fun q => (congrArg Program.cls (hprog q) :), hopen, htail⟩
  have hclaim (q : ProgId) (z : Zone) : u.progs[q].claim z = s.progs[q].claim z :=
    Program.claim_of_bitsAt (Program.bitsAt_of_steady (hprog q) z)
  have hcell (z : Zone) : u.cell z = s.cell z := by
    have hz : u.zones = s.zones := hm.zones
    refine Cell.ext ?_ ?_ ?_ ?_ (funext fun q => hclaim q z)
    all_goals simp only [State.cell, hz]
  have htog (q : ProgId) : u.progs[q].together = s.progs[q].together := (congrArg Program.together (hprog q) :)
  refine ⟨fun z => ?_, ?_, fun q z ht => ?_, fun q hq ho => ?_, fun q => ?_⟩
  · rw [hroles, hcell]; exact h.cell z
  · rw [hroles]; exact h.roles
  · rw [hclaim]; exact h.whole q z (htog q ▸ ht)
  · rw [htog]; exact h.alone q hq ((congrFun hopen q).symm.trans ho)
  · have ho : u.openOrder = s.openOrder := (congrArg State.openOrder hm.steady :)
    rw [ho, h.listed q]
    by_cases e : q = p
    · subst e
      rcases hs with e | ⟨h1, -, h2, -⟩
      · exact not_congr (by rw [e])
      · exact iff_of_true ((Program.isOpen_iff _).mp h1).1 ((Program.isOpen_iff _).mp h2).1
    · rw [hm.other q e]

theorem Program.isOpen_of_state {g : Program}
    (h : g.state = .pending ∨ g.state = .held ∨ g.state = .preamble ∨ g.state = .active) :
    g.isOpen = true ∧ g.state ≠ .tail := by
  rcases h with e | e | e | e
  all_goals exact ⟨(Program.isOpen_iff g).mpr (by rw [e]; decide), by rw [e]; decide⟩

theorem State.Table.settleProgram (h : s.Table noZone) (p : ProgId) :
    (s.settleProgram p).Table noZone ∧ (s.settleProgram p).zones = s.zones := by
  rcases s.settleProgram_cases p with ⟨he, hop, hg, hh⟩ | ⟨hm, hkeep⟩
  · have habs := h.absent_of_ending hg (hh.imp_right And.left)
    rw [he]
    refine ⟨(h.endProgram ((Program.isOpen_iff _).mp hop).1 _).mono fun z _ hz => ?_, Vector.ext fun i hi => ?_⟩
    · exact hz.elim id fun ho => (habs z).1 ho
    · obtain ⟨h1, h2, h3⟩ := habs ⟨i, hi⟩
      exact (s.endProgram_zone p _ ⟨i, hi⟩).trans (ZoneRec.strip_of_absent h1 h2 h3)
  · refine ⟨h.moves hm ?_, hm.zones⟩
    by_cases hop : s.progs[p].isOpen = true
    · refine (s.settleProgram_state p fun e => ?_).imp_right fun ⟨h1, h2, h3⟩ => ⟨h1, h2, Program.isOpen_of_state h3⟩
      have hcontra : (s.settleProgram p).progs[p].granted = 0#64 ∧ (s.settleProgram p).progs[p].held = 0#64 ∧
          (s.settleProgram p).progs[p].waiting = 0#64 := by
        rw [e, State.endProgram_self]; exact ⟨rfl, rfl, rfl⟩
      have hst := hm.self
      obtain ⟨h1, h2, h3⟩ := hcontra
      replace h1 := (congrArg Program.granted hst :).symm.trans h1
      replace h2 := (congrArg Program.held hst :).symm.trans h2
      replace h3 := (congrArg Program.waiting hst :).symm.trans h3
      rcases hkeep hop with hk | ⟨-, hk | hk⟩
      · exact hk h1
      · exact hk h2
      · exact hk h3
    · left
      have : s.settleProgram p = s := by
        rw [State.settleProgram_eq]
        cases hst : s.progs[p].state
        case free | ended => rfl
        all_goals exact absurd ((Program.isOpen_iff _).mpr (by rw [hst]; decide)) hop
      rw [this]

theorem foldl_settle_table {l : List ProgId} (h : s.Table noZone) :
    (l.foldl (fun s p => s.settleProgram p) s).Table noZone ∧ (l.foldl (fun s p => s.settleProgram p) s).zones = s.zones := by
  induction l generalizing s with
  | nil => exact ⟨h, rfl⟩
  | cons p l ih =>
    obtain ⟨h1, h2⟩ := h.settleProgram p
    obtain ⟨h3, h4⟩ := ih h1
    exact ⟨h3, h4.trans h2⟩

/-- The settling at the end of an operation leaves every zone as the operation left it. -/
theorem State.Table.settleAll (h : s.Table noZone) : s.settleAll.Table noZone ∧ s.settleAll.zones = s.zones :=
  foldl_settle_table h

end Settling

theorem State.claimLaws_of_safe {s : State} (h : s.safe = true) : s.ClaimLaws := by
  simp only [State.safe, Bool.and_eq_true, List.all_eq_true] at h
  obtain ⟨⟨⟨⟨⟨⟨⟨⟨⟨⟨⟨⟨⟨⟨⟨⟨⟨⟨⟨⟨⟨⟨-, agree⟩, zones⟩, kinds⟩, tails⟩, classes⟩, stacksOk⟩, orders⟩, slots⟩, -⟩, -⟩, -⟩, -⟩, -⟩, -⟩, -⟩, -⟩, -⟩, -⟩, -⟩, -⟩, -⟩, -⟩ := h
  exact ⟨agree, zones, kinds, tails, classes, stacksOk, orders, fun k => (slots k (List.mem_finRange k)).1.1.1,
    fun k => (slots k (List.mem_finRange k)).1.1.2⟩

theorem State.atRest_of_safe {s : State} (h : s.safe = true) : s.atRest = true := by
  simp only [State.safe, Bool.and_eq_true] at h
  obtain ⟨⟨⟨⟨⟨⟨⟨⟨⟨⟨⟨⟨⟨⟨⟨⟨⟨⟨⟨⟨⟨⟨rest, -⟩, -⟩, -⟩, -⟩, -⟩, -⟩, -⟩, -⟩, -⟩, -⟩, -⟩, -⟩, -⟩, -⟩, -⟩, -⟩, -⟩, -⟩, -⟩, -⟩, -⟩, -⟩ := h
  exact rest

end Sys2Proof.Machine
end

section
namespace Sys2Proof.Machine

/-! ### Zones change hands (R28 to R36) -/

section Succession
variable {s u : State} {p q w t : ProgId} {y z : Zone} {quiet : Bool} {rs : ZoneSet}

theorem State.succeed_of_none (hs : s.zones[z].stack = []) (hw : s.waiterFor rs z = none) : s.succeed quiet rs z = s := by
  unfold State.succeed
  rw [hs, hw]

theorem State.succeed_of_top {rest : List ProgId} (hs : s.zones[z].stack = t :: rest)
    (hw : ∀ w, s.waiterFor rs z = some w → s.progs[t].cls ≤ s.progs[w].cls) : s.succeed quiet rs z = s.popStack z := by
  unfold State.succeed
  cases hf : s.waiterFor rs z with
  | none => rw [hs]
  | some w => rw [hs]; exact if_neg (Nat.not_lt.mpr (hw w hf))

theorem State.succeed_of_waiter (hw : s.waiterFor rs z = some w)
    (ht : ∀ t, s.zones[z].stack.head? = some t → s.progs[w].cls < s.progs[t].cls) :
    s.succeed quiet rs z = s.grantWaiter quiet w z := by
  unfold State.succeed
  rw [hw]
  cases hs : s.zones[z].stack with
  | nil => rfl
  | cons t rest => exact if_pos (ht t (by rw [hs]; rfl))

theorem State.grantWaiter_single (h : s.progs[w].together = false) : s.grantWaiter quiet w z = s.own w z :=
  if_neg (by rw [h]; decide)

theorem State.grantWaiter_together (h : s.progs[w].together = true) :
    s.grantWaiter quiet w z = s.takeAll quiet w s.progs[w].requested := if_pos h

theorem State.own_zone_self (s : State) (p : ProgId) (z : Zone) : (s.own p z).zones[z] = { s.zones[z] with owner := some p } := by
  have := getElem_adjust_fin s.zones z z fun r => { r with owner := some p }
  rw [if_pos rfl] at this
  simp only [State.own_zones]
  exact this

theorem State.own_prog (s : State) (p q : ProgId) (z : Zone) :
    (s.own p z).progs[q] = if p = q then s.progs[q].addGranted z else s.progs[q] := by
  simp only [State.own_progs]
  exact getElem_adjust_fin ..

theorem State.takeBed_prog (s : State) (p q : ProgId) (z : Zone) :
    (s.takeBed p z).progs[q] = if p = q then s.progs[q].addGranted z else s.progs[q] := by
  simp only [State.takeBed_progs]
  exact getElem_adjust_fin ..

theorem State.takeBed_zone (s : State) (p : ProgId) (y z : Zone) :
    (s.takeBed p z).zones[y] = if z = y then { s.zones[y] with bed := some p } else s.zones[y] := by
  simp only [State.takeBed_zones]
  exact getElem_adjust_fin ..

/-- The stack top returns: it owns the zone, and no other program changes. -/
theorem State.popStack_effect {rest : List ProgId} (hs : s.zones[z].stack = t :: rest) :
    (s.popStack z).zones[z].owner = some t ∧ (s.popStack z).zones[z].stack = rest ∧
      (s.popStack z).progs[t] = s.progs[t].addGranted z ∧ ∀ q : ProgId, q ≠ t → (s.popStack z).progs[q] = s.progs[q] := by
  rw [State.popStack_of_cons hs]
  have hz : ((s.onZone z fun r => { r with owner := some t, stack := rest }).onProg t fun g => g.addGranted z).zones[z] =
      { s.zones[z] with owner := some t, stack := rest } :=
    (getElem_adjust_fin s.zones z z _).trans (if_pos rfl)
  exact ⟨congrArg ZoneRec.owner hz, congrArg ZoneRec.stack hz, State.onProg_progs_self .., fun q hq => State.onProg_progs_ne _ hq _⟩

/-- Where no waiter takes its zones together, the succession in a zone touches no other zone. -/
theorem State.succeed_stepAt (h : ∀ w, s.waiterFor rs z = some w → s.progs[w].together = false) :
    State.StepAt z s (s.succeed quiet rs z) := by
  have hgrant (w) (hw : s.waiterFor rs z = some w) : State.StepAt z s (s.grantWaiter quiet w z) := by
    rw [State.grantWaiter_single (h w hw)]; exact s.own_stepAt w z
  unfold State.succeed
  cases hs : s.zones[z].stack with
  | nil =>
    cases hw : s.waiterFor rs z with
    | none => exact .refl z s
    | some w => exact hgrant w hw
  | cons t rest =>
    cases hw : s.waiterFor rs z with
    | none => exact s.popStack_stepAt z
    | some w =>
      show State.StepAt z s (if s.progs[w].cls < s.progs[t].cls then s.grantWaiter quiet w z else s.popStack z)
      split
      · exact hgrant w hw
      · exact s.popStack_stepAt z

/-- What a program is left with that had no zone and takes its whole request. -/
theorem Program.grantAll_request {g : Program} (h : g.granted ||| g.held ||| g.waiting = g.requested) (hg : g.granted = 0#64)
    (hh : g.held = 0#64) :
    ({ g with gotAll := true } : Program).grantAll (zonesOf g.requested) =
      { g with granted := g.requested, waiting := 0#64, gotAll := true } := by
  have hw : g.waiting = g.requested := by rw [← h, hg, hh]; simp
  rw [Program.grantAll_eq]
  simp only [hg, hh, hw, BitVec.zero_or, BitVec.or_self, BitVec.zero_and, BitVec.and_not_self]
  rfl

theorem State.takeAll_whole (ha : s.claimsAgree = true) (ho : s.progs[w].isOpen = true) (hg : s.progs[w].granted = 0#64)
    (hh : s.progs[w].held = 0#64) :
    (s.takeAll quiet w s.progs[w].requested).progs[w] =
      { s.progs[w] with granted := s.progs[w].requested, waiting := 0#64, gotAll := true } := by
  obtain ⟨-, -, -, hu⟩ := State.sets_of_open ha ho
  rw [State.takeAll_self, Program.grantAll_request hu hg hh]
  by_cases hk : s.progs[w].kind = .bed
  · exact Or.inl hk
  · refine Or.inr fun z _ => ⟨fun hs => ?_, fun hs => ?_⟩
    · have := (State.held_of_agree ha w z).mpr hs
      rw [hh, BitVec.getLsbD_zero] at this
      cases this
    · have := (State.granted_of_agree ha w z).mpr ((if_neg hk).symm ▸ hs)
      rw [hg, BitVec.getLsbD_zero] at this
      cases this

/-- A program that waits for a zone is open. -/
theorem State.open_of_waits (ha : s.claimsAgree = true) (hw : s.progs[w].waiting.getLsbD z.val = true) :
    s.progs[w].isOpen = true := by
  cases ho : s.progs[w].isOpen
  · obtain ⟨-, -, h, -⟩ := State.sets_of_closed ha ho
    rw [h, BitVec.getLsbD_zero] at hw
    cases hw
  · rfl

theorem State.takeAll_owned (hk : s.progs[w].kind ≠ .bed) {zs : ZoneSet} (hz : zs.getLsbD y.val = true) :
    (s.takeAll quiet w zs).zones[y].owner = some w ∧
      (s.zones[y].owner = none → (s.takeAll quiet w zs).zones[y].stack = s.zones[y].stack) ∧
      ∀ o, s.zones[y].owner = some o → s.zones[y].stack.length ≤ 3 → (s.takeAll quiet w zs).zones[y].stack =
        if s.progs[o].kind.resumable then o :: s.zones[y].stack.take 2 else s.zones[y].stack := by
  obtain ⟨-, -, hfree, howned⟩ := s.takeAll_zone (zs := zs) quiet w y
  refine ⟨s.takeAll_owner quiet hk hz, fun ho => (congrArg ZoneRec.stack (hfree hz hk ho) :), fun o ho hl => ?_⟩
  refine (congrArg ZoneRec.stack (howned o hz hk ho)).trans ?_
  rw [ZoneRec.displaced_stack, take_two_of_le hl]

theorem State.fillBed_of_none (h : s.bedWaiter z = none) : s.fillBed quiet z = s := by
  unfold State.fillBed
  rw [h]

theorem State.fillBed_of_waiter (h : s.bedWaiter z = some w) : s.fillBed quiet z =
    if s.progs[w].together then s.takeAll quiet w s.progs[w].requested else s.takeBed w z := by
  unfold State.fillBed
  rw [h]

/-- A bed slot that is filled leaves every owner and every stack as they were. -/
theorem State.fillBed_foreground (s : State) (quiet : Bool) (z y : Zone) :
    (s.fillBed quiet z).zones[y].owner = s.zones[y].owner ∧ (s.fillBed quiet z).zones[y].stack = s.zones[y].stack := by
  cases hw : s.bedWaiter z with
  | none => rw [State.fillBed_of_none hw]; exact ⟨rfl, rfl⟩
  | some w =>
    obtain ⟨-, hk, -, -⟩ := State.bedWaiter_some hw
    have key : ∃ b, (s.fillBed quiet z).zones[y] = { s.zones[y] with bed := b } := by
      rw [State.fillBed_of_waiter hw]
      split
      · obtain ⟨hout, hbed, -, -⟩ := s.takeAll_zone (zs := s.progs[w].requested) quiet w y
        cases hz : s.progs[w].requested.getLsbD y.val
        · exact ⟨s.zones[y].bed, hout hz⟩
        · exact ⟨some w, hbed hz hk⟩
      · rw [State.takeBed_zone]
        split
        · exact ⟨some w, rfl⟩
        · exact ⟨s.zones[y].bed, rfl⟩
    obtain ⟨b, hb⟩ := key
    exact ⟨(congrArg ZoneRec.owner hb :), (congrArg ZoneRec.stack hb :)⟩

/-- A BED program that wins a released slot takes it, or its whole request of them. -/
theorem State.fillBed_effect (ha : s.claimsAgree = true) (hw : s.bedWaiter z = some w) :
    (s.progs[w].together = false →
      (s.fillBed quiet z).zones[z] = { s.zones[z] with bed := some w } ∧ (s.fillBed quiet z).progs[w] = s.progs[w].addGranted z ∧
      ∀ y : Zone, y ≠ z → (s.fillBed quiet z).zones[y] = s.zones[y]) ∧
    (s.progs[w].together = true → s.progs[w].granted = 0#64 → s.progs[w].held = 0#64 →
      (s.fillBed quiet z).progs[w] =
        { s.progs[w] with granted := s.progs[w].requested, waiting := 0#64, gotAll := true } ∧
      ∀ y : Zone, (s.fillBed quiet z).zones[y] =
        if s.progs[w].requested.getLsbD y.val then { s.zones[y] with bed := some w } else s.zones[y]) ∧
    ∀ q : ProgId, q ≠ w → (s.fillBed quiet z).progs[q] = s.progs[q] := by
  obtain ⟨-, hk, hwait, -⟩ := State.bedWaiter_some hw
  have heq := State.fillBed_of_waiter (quiet := quiet) hw
  refine ⟨fun ht => ?_, fun ht hg hh => ?_, fun q hq => ?_⟩
  · rw [heq, if_neg (by rw [ht]; decide)]
    refine ⟨(State.takeBed_zone ..).trans (if_pos rfl), (State.takeBed_prog ..).trans (if_pos rfl), fun y hy => ?_⟩
    exact (State.takeBed_zone ..).trans (if_neg (Ne.symm hy))
  · rw [heq, if_pos ht]
    refine ⟨State.takeAll_whole ha (State.open_of_waits ha hwait) hg hh, fun y => ?_⟩
    obtain ⟨hout, hbed, -, -⟩ := s.takeAll_zone (zs := s.progs[w].requested) quiet w y
    cases hz : s.progs[w].requested.getLsbD y.val
    · exact hout hz
    · exact hbed hz hk
  · rw [heq]
    split
    · exact State.takeAll_bed_other hk hq quiet
    · exact (State.takeBed_prog ..).trans (if_neg (Ne.symm hq))

end Succession

end Sys2Proof.Machine
end

section
namespace Sys2Proof.Machine

/-! ### A program leaves its zones and slots: CLOSE_PROGRAM, and DROP_ZONES of its whole request (R43, R44) -/

section Leaving
variable {s u v : State} {pend : Zone → Prop} {p q w : ProgId} {y z : Zone} {c : Cause}

theorem exec_dropZones {t : Txn} {prog : Byte} {zs : ZoneSet} (hl : s.listens t = true) (hp : prog.toNat = p.val)
    (h2 : 2 ≤ p.val) (ho : s.progs[p].owner = t.port) (hr : s.progs[p].routeSlot = none) (hop : s.progs[p].isOpen = true)
    (ht : s.progs[p].state ≠ .tail) (hz : zs ≠ 0#64) :
    ∃ f, let u := (s.onPort t.port f).dropZonesOf p zs ⟨some p, false⟩
      exec (.dropZones t prog zs) s = .next (u.replied t 0x12#8 .ok (out8 (progStateCode u.progs[p].state))) := by
  obtain ⟨hfree, hend⟩ := (Program.isOpen_iff _).mp hop
  obtain ⟨f, hf⟩ := portCommand_next hl 0x12#8 9 fun s =>
    match s.ownedProgram t.port prog (zs == 0#64) with
    | .error e => refuse s e
    | .ok r =>
      if s.progs[r].state = .tail ∨ s.progs[r].state = .ended then refuse s .state
      else
        let s1 := s.dropZonesOf r zs ⟨some r, false⟩
        okWith s1 (out8 (progStateCode s1.progs[r].state))
  refine ⟨f, ?_⟩
  have hmine : (s.onPort t.port f).ownedProgram t.port prog (zs == 0#64) = .ok p :=
    State.ownedProgram_of_mine hp (beq_eq_false_iff_ne.mpr hz) h2 ho hr hfree
  refine Eq.trans hf ?_
  simp only [hmine, if_neg (show ¬((s.onPort t.port f).progs[p].state = .tail ∨ (s.onPort t.port f).progs[p].state = .ended)
    from not_or.mpr ⟨ht, hend⟩)]
  rfl

/-- The program `p` has left every zone, and nothing else has changed in the claim table. -/
structure State.Left (p : ProgId) (s v : State) : Prop where
  table : v.Table noZone
  zone : ∀ z : Zone, v.zones[z] = s.zones[z].strip p
  other : ∀ q : ProgId, q ≠ p → v.progs[q] = s.progs[q]
  sets : v.progs[p].requested = 0#64
  state : v.progs[p].state = .ended ∨ v.progs[p].isOpen = true
  order : v.openOrder = s.openOrder

theorem State.Table.not_owner_of_bed (h : s.Table noZone) (hk : s.progs[p].kind = .bed) (z : Zone) :
    s.zones[z].owner ≠ some p := fun ho => (h.cell z).ownerKind p ho hk

theorem State.Table.left_endProgram (h : s.Table noZone) (hk : s.progs[p].kind = .bed) (hp : s.progs[p].state ≠ .free)
    (why : EndReason) : State.Left p s (s.endProgram p why) where
  table := (h.endProgram hp why).mono fun z _ => Or.rec id fun ho => h.not_owner_of_bed hk z ho
  zone := s.endProgram_zone p why
  other _ hq := s.endProgram_other hq why
  sets := by rw [State.endProgram_self]; rfl
  state := by rw [State.endProgram_self]; exact Or.inl rfl
  order := s.endProgram_openOrder p why

/-- A program stands in no zone outside its request. -/
theorem State.Table.strip_of_unclaimed (h : s.Table pend) (hr : s.progs[p].requested.getLsbD z.val = false) :
    s.zones[z].strip p = s.zones[z] := by
  have hc : s.progs[p].claim z = .none := by
    by_contra hne
    rw [(h.requested_iff p z).mpr hne] at hr
    cases hr
  refine ZoneRec.strip_of_absent (fun ho => ?_) (fun hs => ?_) fun hb => ?_
  · exact absurd (((h.cell z).claim_owner ho).symm.trans hc) (by decide)
  · exact absurd ((((h.cell z).held p).mpr hs).symm.trans hc) (by decide)
  · have := ((h.cell z).granted p).mpr ((if_pos ((h.cell z).bedKind p hb)).symm ▸ hb)
    exact absurd (this.symm.trans hc) (by decide)

theorem State.Table.left_dropped (h : s.Table noZone) (hk : s.progs[p].kind = .bed) (ho : s.progs[p].isOpen = true) :
    State.Left p s (s.dropped p s.progs[p].requested) where
  table := (h.dropped p _).mono fun z _ => Or.rec id fun ho => h.not_owner_of_bed hk z ho.2
  zone z := by
    rw [State.dropped_zone]
    split
    · rfl
    · next hz => exact (h.strip_of_unclaimed (eq_false_of_ne_true hz)).symm
  other _ hq := s.dropped_other hq _
  sets := by rw [State.dropped_self]; exact BitVec.and_not_self _
  state := by
    refine Or.inr ?_
    rw [State.dropped_self]
    exact ho
  order := rfl

/-- A program that is not open takes no part in the settling. -/
theorem State.settleProgram_of_closed (h : s.progs[p].isOpen = false) : s.settleProgram p = s := by
  rw [State.settleProgram_eq]
  cases hst : s.progs[p].state
  case free | ended => rfl
  all_goals
    rw [(Program.isOpen_iff _).mpr (by rw [hst]; decide)] at h
    cases h

theorem State.settleAll_of_closed (h : s.progs[p].isOpen = false) : s.settleAll.progs[p] = s.progs[p] := by
  obtain ⟨t, ht, hset⟩ := s.settleAll_turn p
  rw [hset, State.settleProgram_of_closed (by rw [ht]; exact h), ht]

theorem Program.isOpen_of_ended {g : Program} (h : g.state = .ended) : g.isOpen = false := by
  unfold Program.isOpen
  rw [h]
  decide

/-- A program without zones that is open or has ended has ended after the settling. -/
theorem State.settleAll_ended (h : s.progs[p].state = .ended ∨ s.progs[p].isOpen = true) (hg : s.progs[p].granted = 0#64)
    (hh : s.progs[p].held = 0#64) (hw : s.progs[p].waiting = 0#64) : s.settleAll.progs[p].state = .ended := by
  rcases h with h | h
  · rw [State.settleAll_of_closed (Program.isOpen_of_ended h)]
    exact h
  · rcases s.settleAll_prog p with ⟨e, -⟩ | ⟨-, hk⟩
    · rw [e]; rfl
    · rcases hk h with hk | ⟨-, hk | hk⟩
      · exact absurd hg hk
      · exact absurd hh hk
      · exact absurd hw hk

theorem State.finish_state (s0 s : State) (c : Cause) (p : ProgId) :
    (State.finish s0 s c).progs[p] = s.settleAll.progs[p] := by rw [State.finish_progs]

/-- A lawful state keeps its owners, stacks and bed slots through the end of an operation. -/
theorem State.Table.finish_zone (h : s.Table noZone) (s0 : State) (c : Cause) (z : Zone) :
    (State.finish s0 s c).zones[z].owner = s.zones[z].owner ∧ (State.finish s0 s c).zones[z].stack = s.zones[z].stack ∧
      (State.finish s0 s c).zones[z].bed = s.zones[z].bed := by
  have hc := State.finish_claims s0 s c
  obtain ⟨-, hz⟩ := h.settleAll
  refine ⟨?_, ?_, ?_⟩
  · rw [State.owner_of_claims hc]; simp only [State.settleAll] at hz; rw [hz]
  · rw [State.stack_of_claims hc]; simp only [State.settleAll] at hz; rw [hz]
  · rw [State.bed_of_claims hc]; simp only [State.settleAll] at hz; rw [hz]

theorem State.Left.apart (h : State.Left p s v) (z : Zone) : v.Apart p z ∧ v.zones[z].bed ≠ some p := by
  have hr : v.progs[p].requested.getLsbD z.val = false := by rw [h.sets]; exact BitVec.getLsbD_zero
  have hc : v.progs[p].claim z = .none := by
    by_contra hne
    rw [(h.table.requested_iff p z).mpr hne] at hr
    cases hr
  have hb := Program.bits_of_claim (g := v.progs[p]) (z := z) (by rw [hc]; decide)
  have hz := h.table.strip_of_unclaimed hr
  refine ⟨State.apart_of_none ?_ (fun ho => ?_) fun hs => ?_, fun hb => ?_⟩
  · obtain ⟨h1, h2, h3, h4⟩ := hb
    rw [hc] at h1 h2 h3 h4
    exact Prod.ext h1 (Prod.ext h2 (Prod.ext h3 h4))
  · exact absurd (((h.table.cell z).claim_owner ho).symm.trans hc) (by decide)
  · exact absurd ((((h.table.cell z).held p).mpr hs).symm.trans hc) (by decide)
  · have := ((h.table.cell z).granted p).mpr ((if_pos ((h.table.cell z).bedKind p hb)).symm ▸ hb)
    exact absurd (this.symm.trans hc) (by decide)

/-- However the zones left are filled, the program has ended and holds no slot. -/
theorem State.Left.ended (h : State.Left p s v) (s0 : State) (c : Cause) (fg beds : ZoneSet) :
    (State.finish s0 (v.releaseStep c.quiet fg beds) c).progs[p].state = .ended ∧
      ∀ z : Zone, (State.finish s0 (v.releaseStep c.quiet fg beds) c).zones[z].bed ≠ some p := by
  have hskip (z : Zone) := State.Skips.releaseStep c.quiet fg beds v (h.apart z).1
  have hbits (z : Zone) := (hskip z).1.bits
  have hb := State.bare_of_beyond (v.releaseStep_beyond c.quiet fg beds)
  have hst := State.state_of_bare hb p
  refine ⟨?_, fun z hz => ?_⟩
  · rw [State.finish_state]
    refine State.settleAll_ended ?_ ?_ ?_ ?_
    · refine h.state.imp (fun e => hst.trans e) fun e => ?_
      exact (congrArg (fun st : ProgState => st != .free && st != .ended) hst).trans e
    · exact (zoneSet_eq_zero_iff _).mpr fun z => congrArg (fun b => b.2.1) (hbits z)
    · exact (zoneSet_eq_zero_iff _).mpr fun z => congrArg (fun b => b.2.2.1) (hbits z)
    · exact (zoneSet_eq_zero_iff _).mpr fun z => congrArg (fun b => b.2.2.2) (hbits z)
  · have hf := State.Skips.finish s0 (v.releaseStep c.quiet fg beds) c (hskip z).1
    exact (h.apart z).2 ((hskip z).2.2 (hf.2.2 hz))

/-- Slots released in zones that keep their owners change no owner and no stack. -/
theorem State.releaseStep_of_owned {beds : ZoneSet} {quiet : Bool}
    (h : ∀ z : Zone, beds.getLsbD z.val = true → s.zones[z].owner ≠ none) (y : Zone) :
    (s.releaseStep quiet 0#64 beds).zones[y].owner = s.zones[y].owner ∧
      (s.releaseStep quiet 0#64 beds).zones[y].stack = s.zones[y].stack := by
  refine List.foldlRecOn (motive := fun u : State => ∀ y : Zone, u.zones[y].owner = s.zones[y].owner ∧
    u.zones[y].stack = s.zones[y].stack) (zonesOf (0#64 ||| beds)) _ (fun y => ⟨rfl, rfl⟩) (fun u hu z hz => ?_) y
  have hz' : beds.getLsbD z.val = true := by
    rw [mem_zonesOf, BitVec.zero_or] at hz
    exact hz
  have ho : u.zones[z].owner.isNone = false := by
    rw [(hu z).1]
    cases hzo : s.zones[z].owner with
    | none => exact absurd hzo (h z hz')
    | some o => rfl
  have heq : u.releaseZone quiet (0#64 ||| beds) beds z =
      if beds.getLsbD z.val && u.zones[z].bed.isNone then u.fillBed quiet z else u := by
    unfold State.releaseZone
    rw [ho]; rfl
  intro y
  rw [heq]
  split
  · obtain ⟨h1, h2⟩ := u.fillBed_foreground quiet z y
    exact ⟨h1.trans (hu y).1, h2.trans (hu y).2⟩
  · exact hu y

end Leaving

end Sys2Proof.Machine
end

section
namespace Sys2Proof.Machine

/-! ### The lone waiter for a released bed slot's zone (R34, R35, R43) -/

section LoneWaiter
variable {s u v : State} {p q w : ProgId} {y z : Zone} {c : Cause} {quiet : Bool}

theorem zonesOf_zoneBit (z : Zone) : zonesOf (zoneBit z) = [z] := by
  refine List.perm_singleton.mp ((List.perm_ext_iff_of_nodup (zonesOf_nodup _) (List.nodup_singleton z)).mpr fun y => ?_)
  rw [mem_zonesOf, zoneBit_getLsbD, List.mem_singleton, decide_eq_true_iff]
  exact eq_comm

/-- No program waits for a zone of the second state that it did not wait for in the first. -/
def State.FewerWait (s u : State) : Prop :=
  ∀ (q : ProgId) (y : Zone), u.progs[q].waiting.getLsbD y.val = true → s.progs[q].waiting.getLsbD y.val = true

theorem Program.waiting_addGranted {g : Program} (h : (g.addGranted z).waiting.getLsbD y.val = true) :
    g.waiting.getLsbD y.val = true := by
  simp only [Program.addGranted, BitVec.getLsbD_and, Bool.and_eq_true] at h
  exact h.1

theorem State.waiting_ousted {o : ProgId} (h : (s.ousted o z q).waiting.getLsbD y.val = true) :
    s.progs[q].waiting.getLsbD y.val = true := by
  have hw (g : Program) (hg : (g.without (zoneBit z)).waiting.getLsbD y.val = true) : g.waiting.getLsbD y.val = true := by
    simp only [Program.without, BitVec.getLsbD_and, Bool.and_eq_true] at hg
    exact hg.1
  have hev (b : Bool) (g : Program) (hg : (if b then g.without (zoneBit z) else g).waiting.getLsbD y.val = true) :
      g.waiting.getLsbD y.val = true := by
    cases b
    · exact hg
    · exact hw g hg
  unfold State.ousted at h
  split at h
  · refine hev (decide (s.zones[z].evicted = some q)) _ ?_
    by_cases e : s.zones[z].evicted = some q
    · by_cases eo : o = q
      · simp only [if_pos e, if_pos eo] at h; simp only [e, decide_true, if_true]; exact h
      · simp only [if_pos e, if_neg eo] at h; simp only [e, decide_true, if_true]; exact h
    · by_cases eo : o = q
      · simp only [if_neg e, if_pos eo] at h; simp only [e, decide_false]; exact h
      · simp only [if_neg e, if_neg eo] at h; simp only [e, decide_false]; exact h
  · split at h
    · exact hw _ h
    · exact h

theorem State.FewerWait.take (s : State) (quiet : Bool) (w : ProgId) (z : Zone) : State.FewerWait s (s.take quiet w z) := by
  intro q y h
  unfold State.take at h
  split at h
  · rw [State.takeBed_prog] at h
    split at h
    · exact Program.waiting_addGranted h
    · exact h
  · cases ho : s.zones[z].owner with
    | none =>
      rw [State.takeForeground_of_unowned ho, State.own_prog] at h
      split at h
      · exact Program.waiting_addGranted h
      · exact h
    | some o =>
      rw [State.takeForeground_prog ho] at h
      split at h
      · exact State.waiting_ousted (Program.waiting_addGranted h)
      · exact State.waiting_ousted h

theorem State.FewerWait.takeAll (s : State) (quiet : Bool) (w : ProgId) (zs : ZoneSet) :
    State.FewerWait s (s.takeAll quiet w zs) := by
  rw [State.takeAll_eq]
  refine List.foldlRecOn (motive := fun u => State.FewerWait s u) (zonesOf zs) _ (fun q y h => ?_)
    fun u hu z _ q y h => hu q y (State.FewerWait.take u quiet w z q y h)
  by_cases e : q = w
  · subst e
    have ha := s.allow_progs q q
    rw [if_pos rfl] at ha
    exact (congrArg (fun g : Program => g.waiting.getLsbD y.val) ha).symm.trans h
  · rw [State.allow_progs_ne e] at h
    exact h

/-- Every entry of the wait list is an open-ordered program that waits for some zone. -/
theorem State.mem_waitList_iff (s : State) (p : ProgId) :
    p ∈ s.waitList ↔ p ∈ s.openOrder ∧ s.progs[p].waiting ≠ 0#64 ∧ s.progs[p].cls < 7 := by
  simp only [State.waitList, List.mem_flatMap, List.mem_range, List.mem_filter, Bool.and_eq_true, beq_iff_eq, bne_iff_ne]
  constructor
  · rintro ⟨c, hc, ho, rfl, hw⟩
    exact ⟨ho, hw, hc⟩
  · rintro ⟨ho, hw, hc⟩
    exact ⟨_, hc, ho, rfl, hw⟩

/-- Where one program alone waits, it is the one a search of the wait list finds. -/
theorem find?_of_lone {l : List ProgId} {f : ProgId → Bool} (hm : w ∈ l) (hl : ∀ q ∈ l, q = w) (hf : f w = true) :
    l.find? f = some w := by
  cases h : l.find? f with
  | none => exact absurd hf (List.find?_eq_none.mp h w hm)
  | some q => rw [hl q (List.mem_of_find?_eq_some h)]

/-- A program in PENDING or HELD that has been granted a zone goes on in PREAMBLE or ACTIVE at its settling (R20). -/
theorem State.settleProgram_grants (hs : s.progs[p].state = .pending ∨ s.progs[p].state = .held)
    (hg : s.progs[p].granted ≠ 0#64) :
    (s.settleProgram p).progs[p].state = .preamble ∨ (s.settleProgram p).progs[p].state = .active := by
  have heq : s.settleProgram p = s.settleOpen p := by
    rw [State.settleProgram_eq]
    rcases hs with e | e
    · rw [e]
    · rw [e]
  rw [heq]
  unfold State.settleOpen
  simp only
  rw [if_neg fun h => hg h.1, State.onProg_progs_self, Program.waitClock_state, if_neg hg, if_pos hs]
  exact s.enterGranted_state p

theorem State.settleAll_grants (hs : s.progs[p].state = .pending ∨ s.progs[p].state = .held)
    (hg : s.progs[p].granted ≠ 0#64) :
    s.settleAll.progs[p].state = .preamble ∨ s.settleAll.progs[p].state = .active := by
  obtain ⟨t, ht, hset⟩ := s.settleAll_turn p
  rw [hset]
  exact State.settleProgram_grants (by rw [ht]; exact hs) (by rw [ht]; exact hg)

/-- A settled program that waits to take its zones together is PENDING. -/
theorem Program.pending_of_settled {g : Program} (h : g.settled = true) (ho : g.isOpen = true) (hg : g.granted = 0#64)
    (hh : g.held = 0#64) : g.state = .pending := by
  obtain ⟨h1, h2⟩ := (Program.isOpen_iff g).mp ho
  unfold Program.settled at h
  cases hst : g.state with
  | free => exact absurd hst h1
  | ended => exact absurd hst h2
  | pending => rfl
  | tail => rw [hst] at h; exact absurd hg (bne_iff_ne.mp h)
  | held =>
    rw [hst] at h
    simp only [Bool.and_eq_true, bne_iff_ne] at h
    exact absurd hh h.1.2
  | preamble | active =>
    rw [hst] at h
    simp only [Bool.and_eq_true, bne_iff_ne] at h
    exact absurd hg h.1

/-- `w` waits to take its whole request, passes in every zone of it, and waits for zone `z`, which has no owner. -/
structure State.Lone (s : State) (w : ProgId) (z : Zone) : Prop where
  unowned : s.zones[z].owner = none
  kind : s.progs[w].kind ≠ .bed
  cls : s.progs[w].cls ≤ 6
  together : s.progs[w].together = true
  waits : s.progs[w].waiting.getLsbD z.val = true
  alone : ∀ q : ProgId, q ≠ w → s.progs[q].waiting = 0#64
  passes : ∀ y : Zone, s.progs[w].requested.getLsbD y.val = true → s.passes w y = true

theorem ne_zero_of_bit {zs : ZoneSet} (h : zs.getLsbD z.val = true) : zs ≠ 0#64 := fun e => by
  rw [e, BitVec.getLsbD_zero] at h
  cases h

theorem State.Lone.mem (h : s.Lone w z) (ht : s.Table noZone) : ∀ q, q ∈ s.waitList ↔ q = w := by
  intro q
  rw [State.mem_waitList_iff]
  constructor
  · rintro ⟨-, hw, -⟩
    by_contra hne
    exact hw (h.alone q hne)
  · rintro rfl
    have ho := (ht.open_of_waiting (ht.claim_of_waiting h.waits)).1
    exact ⟨(ht.listed q).mpr ((Program.isOpen_iff _).mp ho).1, ne_zero_of_bit h.waits, Nat.lt_succ_of_le h.cls⟩

theorem State.Lone.waiterFor (h : s.Lone w z) (ht : s.Table noZone) : s.waiterFor (zoneBit z) z = some w := by
  refine find?_of_lone (((h.mem ht) w).mpr rfl) (fun q hq => ((h.mem ht) q).mp hq) ?_
  refine (State.waiterFit_iff s (zoneBit z) z w).mpr ⟨h.kind, h.waits, fun _ => ?_⟩
  refine (State.grantableTogether_iff ..).mpr fun y hy hne => ⟨fun _ => h.passes y hy, fun _ hb => ?_⟩
  rw [zoneBit_getLsbD, decide_eq_true_iff] at hb
  exact absurd hb.symm hne

/-- Nobody waits for the slot of the zone once the program has taken its request. -/
theorem State.Lone.no_bedWaiter (h : s.Lone w z) : (s.takeAll quiet w s.progs[w].requested).bedWaiter z = none := by
  cases hb : (s.takeAll quiet w s.progs[w].requested).bedWaiter z with
  | none => rfl
  | some q =>
    obtain ⟨-, hk, hw, -⟩ := State.bedWaiter_some hb
    rw [State.kind_of_beyond (s.takeAll_beyond quiet w _)] at hk
    have hq : q ≠ w := fun e => h.kind (e ▸ hk)
    have := State.FewerWait.takeAll s quiet w s.progs[w].requested q z hw
    rw [h.alone q hq, BitVec.getLsbD_zero] at this
    cases this

theorem State.Lone.releaseStep (h : s.Lone w z) (ht : s.Table noZone) :
    s.releaseStep quiet 0#64 (zoneBit z) = s.takeAll quiet w s.progs[w].requested := by
  have hset : (0#64 ||| zoneBit z) = zoneBit z := BitVec.zero_or
  unfold State.releaseStep
  rw [hset, zonesOf_zoneBit, List.foldl_cons, List.foldl_nil]
  have hsucc : s.succeed quiet (zoneBit z) z = s.takeAll quiet w s.progs[w].requested := by
    rw [State.succeed_of_waiter (h.waiterFor ht) fun t hs => ?_, State.grantWaiter_together h.together]
    rw [(ht.vacant h.unowned).1] at hs
    cases hs
  unfold State.releaseZone
  simp only [h.unowned, Option.isNone_none, if_true, hsucc]
  rw [State.fillBed_of_none h.no_bedWaiter, ite_self]

theorem Program.sets_of_steady {g k : Program} (h : k.steady = g.steady) : k.granted = g.granted ∧ k.waiting = g.waiting :=
  ⟨(congrArg Program.granted h :), (congrArg Program.waiting h :)⟩

/-- The claim laws do not look at the ports. -/
theorem State.ClaimLaws.onPort (h : s.ClaimLaws) (x : Port) (f : PortCtl → PortCtl) : (s.onPort x f).ClaimLaws :=
  ⟨h.agree, h.zones, h.kinds, h.tails, h.classes, h.holdStacks, h.orders, h.slots, h.alarms⟩

/-- The lone waiter has its whole request after the operation, and its port is told. -/
theorem State.Lone.granted (h : s.Lone w z) (ht : s.Table noZone) (hb : s.zones[z].bed = none)
    (hset : s.progs[w].settled = true) (s0 : State) (h0 : s0.progs[w] = s.progs[w]) (hc : c.named ≠ some w) :
    let u := State.finish s0 (s.releaseStep c.quiet 0#64 (zoneBit z)) c
    u.zones[z].bed = none ∧ u.progs[w].granted = s.progs[w].requested ∧ u.progs[w].waiting = 0#64 ∧
      (u.progs[w].state = .active ∨ u.progs[w].state = .preamble) ∧
      (∀ y : Zone, u.zones[y].owner = if s.progs[w].requested.getLsbD y.val then some w else s.zones[y].owner) ∧
      (u.port s.progs[w].owner).has .program = true ∧ (u.port s.progs[w].owner).changed.getLsbD w.val = true := by
  intro u
  have hop := (ht.open_of_waiting (ht.claim_of_waiting h.waits)).1
  have hnone : s.progs[w].granted = 0#64 ∧ s.progs[w].held = 0#64 := by
    have key (y : Zone) := Program.bits_of_claim ((ht.cell y).sound w)
    refine ⟨(zoneSet_eq_zero_iff _).mpr fun y => ?_, (zoneSet_eq_zero_iff _).mpr fun y => ?_⟩
    · exact (key y).2.1.trans (decide_eq_false (ht.whole w y h.together).1)
    · exact (key y).2.2.1.trans (decide_eq_false (ht.whole w y h.together).2)
  obtain ⟨hg, hh⟩ := hnone
  have hpend := Program.pending_of_settled hset hop hg hh
  have hreq : s.progs[w].requested.getLsbD z.val = true := by
    rw [ht.requested_iff, ht.claim_of_waiting h.waits]; decide
  have hstep := h.releaseStep (quiet := c.quiet) ht
  let r := s.releaseStep c.quiet 0#64 (zoneBit z)
  have hrt : r.Table noZone := (ht.mono fun _ _ hf => hf.elim).releaseStep c.quiet
  have hrw : r.progs[w] = { s.progs[w] with granted := s.progs[w].requested, waiting := 0#64, gotAll := true } := by
    show (s.releaseStep c.quiet 0#64 (zoneBit z)).progs[w] = _
    rw [hstep]
    exact State.takeAll_whole ht.agree hop hg hh
  have hrs : r.progs[w].state = .pending := (congrArg Program.state hrw).trans hpend
  have hrg : r.progs[w].granted = s.progs[w].requested := (congrArg Program.granted hrw :)
  have hrne : r.progs[w].granted ≠ 0#64 := by rw [hrg]; exact ne_zero_of_bit hreq
  have hstate := State.settleAll_grants (Or.inl hrs) hrne
  have hsteady : r.settleAll.progs[w].steady = r.progs[w].steady := by
    rcases r.settleAll_prog w with ⟨-, -, e, -⟩ | ⟨e, -⟩
    · exact absurd e hrne
    · exact e
  have hu : u.progs[w] = r.settleAll.progs[w] := State.finish_state ..
  have hzone (y : Zone) := hrt.finish_zone s0 c y
  have htake (y : Zone) := s.takeAll_zone (zs := s.progs[w].requested) c.quiet w y
  have hrz (y : Zone) : r.zones[y] = (s.takeAll c.quiet w s.progs[w].requested).zones[y] := by
    show (s.releaseStep c.quiet 0#64 (zoneBit z)).zones[y] = _
    rw [hstep]
  have hchg : s0.progs[w].changed r.settleAll.progs[w] = true := by
    refine Program.changed_of_state ?_
    rw [h0, hpend]
    rcases hstate with e | e
    · rw [e]; decide
    · rw [e]; decide
  have hnote := State.finish_raised s0 r hc hchg
  have hown : r.settleAll.progs[w].owner = s.progs[w].owner :=
    (r.settleAll_progOwner w).trans (congrArg Program.owner hrw :)
  rw [hown] at hnote
  refine ⟨?_, ?_, ?_, ?_, fun y => ?_, hnote⟩
  · refine (hzone z).2.2.trans ((congrArg ZoneRec.bed (hrz z)).trans ?_)
    exact (congrArg ZoneRec.bed ((htake z).2.2.1 hreq h.kind h.unowned)).trans hb
  · rw [hu]
    exact (Program.sets_of_steady hsteady).1.trans hrg
  · rw [hu]
    exact (Program.sets_of_steady hsteady).2.trans (congrArg Program.waiting hrw :)
  · rw [hu]; exact hstate.symm
  · refine (hzone y).1.trans ((congrArg ZoneRec.owner (hrz y)).trans ?_)
    split
    · next hy => exact s.takeAll_owner c.quiet h.kind hy
    · next hy => exact congrArg ZoneRec.owner ((htake y).1 (eq_false_of_ne_true hy))

/-- An open program that has taken its state has a zone in its request. -/
theorem Program.requested_ne {g : Program} (hc : ∀ z : Zone, g.claim z ≠ .unsound) (hs : g.settled = true)
    (ho : g.isOpen = true) : g.requested ≠ 0#64 := by
  intro h0
  obtain ⟨-, -, -, hu⟩ := Program.sets_of_sound hc
  rw [h0, BitVec.or_eq_zero_iff, BitVec.or_eq_zero_iff] at hu
  obtain ⟨⟨hg, hh⟩, hw⟩ := hu
  have hpend := Program.pending_of_settled hs ho hg hh
  unfold Program.settled at hs
  rw [hpend] at hs
  simp only [Bool.and_eq_true, bne_iff_ne] at hs
  exact hs.1.2 hw

/-- A closed BED program, or one that has dropped its whole request, has left its slots, and the slots are released. -/
theorem exec_leaving {t : Txn} {prog : Byte} {i : Instr} (hl : s.listens t = true) (hs : s.ClaimLaws) (hp : prog.toNat = p.val)
    (h2 : 2 ≤ p.val) (ho : s.progs[p].owner = t.port) (hr : s.progs[p].routeSlot = none) (hop : s.progs[p].isOpen = true)
    (hk : s.progs[p].kind = .bed) (hset : s.progs[p].settled = true)
    (hi : i = .closeProgram t prog ∨ i = .dropZones t prog s.progs[p].requested) :
    ∃ (f : PortCtl → PortCtl) (v : State) (code : Byte) (res : List Byte), State.Left p (s.onPort t.port f) v ∧
      exec i s = .next ((State.finish (s.onPort t.port f) (v.releaseStep false 0#64 s.progs[p].granted)
        ⟨some p, false⟩).replied t code .ok res) := by
  have hbeds (f : PortCtl → PortCtl) : (s.onPort t.port f).bedsOf p = s.progs[p].granted := by
    refine zoneSet_ext fun z => ?_
    have hg := State.granted_of_agree hs.agree p z
    rw [if_pos hk] at hg
    rw [State.bedsOf, getLsbD_zonesWhere]
    exact Bool.eq_iff_iff.mpr (beq_iff_eq.trans hg.symm)
  have hfg (f : PortCtl → PortCtl) : (s.onPort t.port f).ownedBy p = 0#64 := by
    refine zoneSet_ext fun z => ?_
    rw [State.ownedBy, getLsbD_zonesWhere, BitVec.getLsbD_zero]
    exact beq_eq_false_iff_ne.mpr (hs.table.not_owner_of_bed hk z)
  have hfree := ((Program.isOpen_iff _).mp hop).1
  have htable (f : PortCtl → PortCtl) : (s.onPort t.port f).Table noZone := (hs.onPort t.port f).table
  rcases hi with rfl | rfl
  · obtain ⟨f, hf⟩ := exec_closeProgram hl hp h2 ho hr hop
    have hclose : (s.onPort t.port f).closeProg p ⟨some p, false⟩ = State.finish (s.onPort t.port f)
        (((s.onPort t.port f).endProgram p .closed).releaseStep false 0#64 s.progs[p].granted) ⟨some p, false⟩ := by
      have hnot : (s.onPort t.port f).progs[p].kind ≠ .live := fun e => absurd (hk.symm.trans e) (by decide)
      rw [State.closeProg_of_end (Or.inl hnot), State.endAndRelease, hbeds, hfg]
    simp only [hclose] at hf
    exact ⟨f, _, _, _, (htable f).left_endProgram hk hfree .closed, hf⟩
  · have htail : s.progs[p].state ≠ .tail := fun hst => by
      have := hs.table.roles.tail_live p (beq_iff_eq.mpr hst)
      exact absurd (this.symm.trans hk) (by decide)
    have hne := Program.requested_ne (fun z => (hs.table.cell z).sound p) hset hop
    obtain ⟨f, hf⟩ := exec_dropZones hl hp h2 ho hr hop htail hne
    have hsub : s.progs[p].granted &&& s.progs[p].requested = s.progs[p].granted := by
      refine zoneSet_ext fun z => ?_
      rw [BitVec.getLsbD_and]
      cases hg : s.progs[p].granted.getLsbD z.val
      · rfl
      · have hc := (State.claim_granted_iff hs.agree).mpr hg
        rw [(hs.table.requested_iff p z).mpr (by rw [hc]; decide)]
        rfl
    have hdrop : (s.onPort t.port f).dropZonesOf p s.progs[p].requested ⟨some p, false⟩ = State.finish (s.onPort t.port f)
        (((s.onPort t.port f).dropped p s.progs[p].requested).releaseStep false 0#64 s.progs[p].granted) ⟨some p, false⟩ := by
      rw [State.dropZonesOf, hbeds, hfg, hsub, BitVec.zero_and]
      rfl
    simp only [hdrop] at hf
    exact ⟨f, _, _, _, (htable f).left_dropped hk hop, hf⟩

theorem State.settled_of_safe (h : s.safe = true) (p : ProgId) : s.progs[p].settled = true :=
  State.settled_of_follow ((State.atRest_iff s).mp (State.atRest_of_safe h)).1 p

/-- A BED program's slots in owned zones: the zones keep their owners and stacks (R33). -/
theorem bedProgram_leaves_owned {t : Txn} {prog : Byte} {i : Instr} (hl : s.listens t = true) (hs : s.safe = true)
    (hp : prog.toNat = p.val) (h2 : 2 ≤ p.val) (ho : s.progs[p].owner = t.port) (hr : s.progs[p].routeSlot = none)
    (hop : s.progs[p].isOpen = true) (hk : s.progs[p].kind = .bed)
    (hi : i = .closeProgram t prog ∨ i = .dropZones t prog s.progs[p].requested)
    (hown : ∀ z : Zone, s.zones[z].bed = some p → s.zones[z].owner ≠ none) :
    ∃ u, exec i s = .next u ∧ u.progs[p].state = .ended ∧
      ∀ z : Zone, u.zones[z].bed ≠ some p ∧ u.zones[z].owner = s.zones[z].owner ∧ u.zones[z].stack = s.zones[z].stack := by
  have hlaws := State.claimLaws_of_safe hs
  obtain ⟨f, v, code, res, hv, hexec⟩ := exec_leaving hl hlaws hp h2 ho hr hop hk (State.settled_of_safe hs p) hi
  refine ⟨_, hexec, ?_⟩
  rw [State.replied_progs, State.replied_zones]
  obtain ⟨hend, hbed⟩ := hv.ended (s.onPort t.port f) ⟨some p, false⟩ 0#64 s.progs[p].granted
  refine ⟨hend, fun z => ⟨hbed z, ?_⟩⟩
  have hvz (z : Zone) : v.zones[z].owner = s.zones[z].owner ∧ v.zones[z].stack = s.zones[z].stack := by
    have hno := hlaws.table.not_owner_of_bed hk z
    have hst : p ∉ s.zones[z].stack := fun h => (hlaws.table.cell z).stack_not_bed h hk
    have hz : v.zones[z] = s.zones[z].strip p := hv.zone z
    rw [hz]
    refine ⟨if_neg hno, ?_⟩
    exact List.filter_eq_self.mpr fun q hq => bne_iff_ne.mpr fun e => hst (e ▸ hq)
  have hrt : (v.releaseStep false 0#64 s.progs[p].granted).Table noZone :=
    (hv.table.mono fun _ _ h => h.elim).releaseStep false
  obtain ⟨h1, h2, -⟩ := hrt.finish_zone (s.onPort t.port f) ⟨some p, false⟩ z
  obtain ⟨h3, h4⟩ := State.releaseStep_of_owned (s := v) (quiet := false) (beds := s.progs[p].granted) (fun z hz => by
    rw [(hvz z).1]
    have hg := (State.granted_of_agree hlaws.agree p z).mp hz
    rw [if_pos hk] at hg
    exact hown z hg) z
  exact ⟨h1.trans (h3.trans (hvz z).1), h2.trans (h4.trans (hvz z).2)⟩

/-- A BED program's one slot in a zone without owner: the ALL_OR_WAIT program that waits there takes its request (R34). -/
theorem bedProgram_leaves_to_waiter {t : Txn} {prog : Byte} {i : Instr} (hl : s.listens t = true) (hs : s.safe = true)
    (hp : prog.toNat = p.val) (h2 : 2 ≤ p.val) (ho : s.progs[p].owner = t.port) (hr : s.progs[p].routeSlot = none)
    (hop : s.progs[p].isOpen = true) (hk : s.progs[p].kind = .bed)
    (hi : i = .closeProgram t prog ∨ i = .dropZones t prog s.progs[p].requested)
    (hg : s.progs[p].granted = zoneBit z) (hz : s.zones[z].owner = none) (hkw : s.progs[w].kind ≠ .bed)
    (hcw : s.progs[w].cls ≤ 6) (htw : s.progs[w].together = true) (hww : s.progs[w].waiting.getLsbD z.val = true)
    (hlone : ∀ q : ProgId, q ≠ w → q ≠ p → s.progs[q].waiting = 0#64)
    (hpass : ∀ y : Zone, s.progs[w].requested.getLsbD y.val = true → s.passes w y = true) :
    ∃ u, exec i s = .next u ∧ u.progs[p].state = .ended ∧ u.zones[z].bed = none ∧
      u.progs[w].granted = s.progs[w].requested ∧ u.progs[w].waiting = 0#64 ∧
      (u.progs[w].state = .active ∨ u.progs[w].state = .preamble) ∧
      (∀ y : Zone, u.zones[y].owner = if s.progs[w].requested.getLsbD y.val then some w else s.zones[y].owner) ∧
      (u.port s.progs[w].owner).has .program = true ∧ (u.port s.progs[w].owner).changed.getLsbD w.val = true := by
  have hlaws := State.claimLaws_of_safe hs
  have hne : w ≠ p := fun e => hkw (e ▸ hk)
  obtain ⟨f, v, code, res, hv, hexec⟩ := exec_leaving hl hlaws hp h2 ho hr hop hk (State.settled_of_safe hs p) hi
  rw [hg] at hexec
  refine ⟨_, hexec, ?_⟩
  simp only [State.replied_progs, State.replied_zones, State.replied_has, State.replied_changed]
  obtain ⟨hend, -⟩ := hv.ended (s.onPort t.port f) ⟨some p, false⟩ 0#64 (zoneBit z)
  have hvw : v.progs[w] = s.progs[w] := hv.other w hne
  have hvz (y : Zone) : v.zones[y] = s.zones[y].strip p := hv.zone y
  have howner (y : Zone) : v.zones[y].owner = s.zones[y].owner := by
    rw [hvz]; exact if_neg (hlaws.table.not_owner_of_bed hk y)
  have hbed : v.zones[z].bed = none := by
    have := (State.granted_of_agree hlaws.agree p z).mp (by rw [hg, zoneBit_getLsbD]; exact decide_eq_true rfl)
    rw [if_pos hk] at this
    rw [hvz]
    exact if_pos this
  have hvlone : v.Lone w z := by
    refine ⟨(howner z).trans hz, by rw [hvw]; exact hkw, by rw [hvw]; exact hcw, by rw [hvw]; exact htw, by rw [hvw]; exact hww,
      fun q hq => ?_, fun y hy => ?_⟩
    · by_cases e : q = p
      · subst e
        exact (zoneSet_eq_zero_iff _).mpr fun y => (hv.apart y).1.waiting
      · rw [show v.progs[q] = s.progs[q] from hv.other q e]
        exact hlone q hq e
    · rw [hvw] at hy
      have hkv : v.progs[w].kind ≠ .bed := by rw [hvw]; exact hkw
      refine (State.passes_of_foreground hkv y).mpr fun o hoo => ?_
      rw [howner] at hoo
      have hb := (State.passes_of_foreground hkw y).mp (hpass y hy) o hoo
      have hop' : o ≠ p := fun e => hlaws.table.not_owner_of_bed hk y (e ▸ hoo)
      rw [State.beats_iff] at hb ⊢
      rw [hvw, show v.progs[o] = s.progs[o] from hv.other o hop', hvz]
      exact hb
  have key := hvlone.granted (c := ⟨some p, false⟩) hv.table hbed (by rw [hvw]; exact State.settled_of_safe hs w)
    (s.onPort t.port f) hvw.symm (fun e => hne (Option.some.inj e).symm)
  simp only [hvw, howner] at key
  exact ⟨hend, key⟩

end LoneWaiter

end Sys2Proof.Machine
end

section
namespace Sys2Proof.Machine

/-! ### O26: zones change hands -/

/-- Settles O26. -/
theorem zonesChangeHands : Obligations.ZonesChangeHands := by
  unfold Obligations.ZonesChangeHands
  refine ⟨?_, ?_, ?_, ?_, ?_, ?_, ?_⟩
  · intro s quiet p o z r ho hn hl u
    have hz : u.zones[z] = { s.zones[z].displaced s.progs[o].kind.resumable o with owner := some p } :=
      State.takeForeground_zone ho quiet p
    have hstack : u.zones[z].stack = if s.progs[o].kind.resumable then o :: r.stack.take 2 else r.stack := by
      rw [hz, ← take_two_of_le hl]
      exact ZoneRec.displaced_stack ..
    obtain ⟨hres, hnot, hself, hother⟩ := State.takeForeground_effect ho hn hl quiet
    refine ⟨by rw [hz], (s.takeForeground_stepAt quiet p z).zones, fun hr => ?_, fun hr => ?_, hself, hother⟩
    · obtain ⟨h1, h2⟩ := hres hr
      rw [if_pos hr] at hstack
      refine ⟨hstack, fun hlt => ?_, h1, h2⟩
      rw [hstack, List.take_of_length_le (Nat.le_of_lt_succ hlt)]
    · rw [hr] at hstack
      exact ⟨hstack, hnot hr⟩
  · intro s p why u
    refine ⟨fun z => ?_, s.endProgram_self p why, fun q hq => s.endProgram_other hq why, s.endProgram_endOrder p why,
      s.endProgram_openOrder p why⟩
    rw [← ZoneRec.strip_stack]
    exact s.endProgram_zone p why z
  · intro s quiet rs z hz u
    refine ⟨State.succeed_of_none, fun t rest hs hw => ?_, fun w hw ht htop => ?_, fun y hy hw => ?_⟩
    · have hu : u = s.popStack z := State.succeed_of_top hs hw
      rw [hu]
      exact State.popStack_effect hs
    · have hu : u = s.own w z := (State.succeed_of_waiter hw htop).trans (State.grantWaiter_single ht)
      have hown := s.own_zone_self w z
      rw [hu]
      refine ⟨by rw [hown], by rw [hown], (s.own_prog w w z).trans (if_pos rfl), fun q hq => ?_⟩
      exact (s.own_prog w q z).trans (if_neg (Ne.symm hq))
    · exact (State.succeed_stepAt hw).zones y hy
  · intro s rs z able fit bedFit
    have hfit (w : ProgId) := (State.waiterFit_iff s rs z w).trans
      (and_congr_right fun _ => and_congr_right fun _ => imp_congr_right fun _ => s.grantableTogether_iff rs w z)
    have hbed (w : ProgId) := State.bedFit_iff s z w
    exact ⟨find?_eq_some_split hfit, find?_eq_none_split hfit, find?_eq_some_split hbed, find?_eq_none_split hbed⟩
  · intro s quiet rs z w ha ho hw ht hg hh htop g u
    obtain ⟨-, hk, hwait, -⟩ := State.waiterFor_some hw
    have hu : u = s.takeAll quiet w s.progs[w].requested :=
      (State.succeed_of_waiter hw htop).trans (State.grantWaiter_together ht)
    rw [hu]
    exact ⟨State.takeAll_whole ha (State.open_of_waits ha hwait) hg hh, fun y hy => State.takeAll_owned hk hy,
      fun y hy => (s.takeAll_zone quiet w y).1 hy⟩
  · intro s quiet z ha hz u
    exact ⟨State.fillBed_of_none, fun w hw => State.fillBed_effect ha hw⟩
  · intro t prog s p i hl hs hp h2 ho hr hop hk hi
    refine ⟨bedProgram_leaves_owned hl hs hp h2 ho hr hop hk hi, ?_⟩
    intro w z hg hz hkw hcw hpol hgot hww hlone hpass
    exact bedProgram_leaves_to_waiter hl hs hp h2 ho hr hop hk hi hg hz hkw hcw
      ((Program.together_iff _).mpr ⟨hpol, hgot⟩) hww hlone hpass

end Sys2Proof.Machine
end

section
namespace Sys2Proof.Machine

/-! ### What the alarm slots, their generators and the channels hear of a program's end (R52, R84, R135) -/

section Hearing
variable {s u v : State} {p q : ProgId} {j k : Fin 2} {ch : ChanId} {why : EndReason}

/-- A program's end before its alarm slot hears of it. -/
def State.unbound (s : State) (p : ProgId) (why : EndReason) : State :=
  ((((s.struck p why).releaseVoice p).releaseProgChan p).releaseStation p).dropRoute p

theorem State.endProgram_eq (s : State) (p : ProgId) (why : EndReason) :
    s.endProgram p why = (s.unbound p why).slotProgramEnded p := rfl

/-- The blocks that a program's end changes only through an alarm slot. -/
def State.bench (s : State) : Vector PortCtl 4 × Vector AlarmSlot 2 × Vector Player 2 := (s.ports, s.slots, s.tone)

theorem State.unbound_bench (s : State) (p : ProgId) (why : EndReason) : (s.unbound p why).bench = s.bench := by
  have h1 (s : State) : (s.releaseVoice p).bench = s.bench := by unfold State.releaseVoice; split <;> rfl
  have h2 (s : State) : (s.releaseProgChan p).bench = s.bench := by unfold State.releaseProgChan; (repeat' split) <;> rfl
  have h3 (s : State) : (s.releaseStation p).bench = s.bench := by unfold State.releaseStation; split <;> rfl
  have h4 (s : State) : (s.dropRoute p).bench = s.bench := by unfold State.dropRoute; split <;> rfl
  rw [State.unbound, h4, h3, h2, h1]
  rfl

theorem State.unbound_slots (s : State) (p : ProgId) (why : EndReason) : (s.unbound p why).slots = s.slots :=
  congrArg (fun b => b.2.1) (s.unbound_bench p why)

theorem State.unbound_tone (s : State) (p : ProgId) (why : EndReason) : (s.unbound p why).tone = s.tone :=
  congrArg (fun b => b.2.2) (s.unbound_bench p why)

theorem State.unbound_ports (s : State) (p : ProgId) (why : EndReason) : (s.unbound p why).ports = s.ports :=
  congrArg (fun b => b.1) (s.unbound_bench p why)

theorem State.releaseChan_chan (s : State) (c ch : ChanId) : (s.releaseChan c).chans[ch] =
    if c = ch then { s.chans[ch].stopped with user := none, clip := none } else s.chans[ch] := by
  simp only [State.releaseChan, State.stopChan, State.onChan, State.onClips, Fin.getElem_fin, getElem_adjust_fin]
  split <;> rfl

/-- A program's end leaves every channel that does not serve it. -/
theorem State.unbound_chan (h : s.chans[ch].user ≠ some (.prog p)) (why : EndReason) :
    (s.unbound p why).chans[ch] = s.chans[ch] := by
  have h1 (s : State) : (s.releaseVoice p).chans = s.chans := by unfold State.releaseVoice; split <;> rfl
  have h3 (s : State) : (s.releaseStation p).chans = s.chans := by unfold State.releaseStation; split <;> rfl
  have h4 (s : State) : (s.dropRoute p).chans = s.chans := by unfold State.dropRoute; split <;> rfl
  have h2 (s : State) (h : s.chans[ch].user ≠ some (.prog p)) : (s.releaseProgChan p).chans[ch] = s.chans[ch] := by
    unfold State.releaseProgChan
    split
    · rfl
    · split
      · next c hc =>
        rw [State.releaseChan_chan, if_neg]
        rintro rfl
        exact h hc
      · rfl
  simp only [State.unbound, h4, h3]
  rw [h2]
  · rw [h1]; rfl
  · rw [h1]; exact h

/-! The slot becomes IDLE. -/

theorem State.raiseAlarm_bench (s : State) (named : Bool) :
    (s.raiseAlarm named).slots = s.slots ∧ (s.raiseAlarm named).tone = s.tone ∧ (s.raiseAlarm named).chans = s.chans := by
  cases named <;> exact ⟨rfl, rfl, rfl⟩

theorem State.closeWindow_tone (s : State) (k : Fin 2) : (s.closeWindow k).tone = s.tone := by
  unfold State.closeWindow; simp only; (repeat' split) <;> rfl

theorem State.closeWindow_ports (s : State) (k : Fin 2) : (s.closeWindow k).ports = s.ports := by
  unfold State.closeWindow; simp only; (repeat' split) <;> rfl

theorem State.onSlot_slot (s : State) (k j : Fin 2) (f : AlarmSlot → AlarmSlot) :
    (s.onSlot k f).slots[j] = if k = j then f s.slots[j] else s.slots[j] := getElem_adjust_fin ..

theorem State.onTone_player (s : State) (k j : Fin 2) (f : Player → Player) :
    (s.onTone k f).tone[j] = if k = j then f s.tone[j] else s.tone[j] := getElem_adjust_fin ..

theorem State.closeWindow_slot (s : State) (k j : Fin 2) : (s.closeWindow k).slots[j] =
    if k = j then { s.slots[j] with window := none } else s.slots[j] := by
  have hnone (hw : s.slots[k].window = none) : s.slots[j] =
      if k = j then { s.slots[j] with window := none } else s.slots[j] := by
    by_cases e : k = j
    · subst e
      rw [if_pos rfl, ← hw]
    · rw [if_neg e]
  unfold State.closeWindow
  cases hw : s.slots[k].window with
  | none => exact hnone hw
  | some w =>
    cases hc : w.source.channel with
    | none => simp only [hc]; exact s.onSlot_slot k j _
    | some c => simp only [hc]; exact s.onSlot_slot k j _

theorem State.closeWindow_chan (s : State) (k : Fin 2) (ch : ChanId) : (s.closeWindow k).chans[ch] =
    if (s.slots[k].window.bind fun w => w.source.channel) = some ch
    then { s.chans[ch].stopped with user := none, clip := none } else s.chans[ch] := by
  unfold State.closeWindow
  cases hw : s.slots[k].window with
  | none => rfl
  | some w =>
    cases hc : w.source.channel with
    | none => simp only [hc, Option.bind_some, reduceCtorEq, if_false]; rfl
    | some c =>
      simp only [hc, Option.bind_some, Option.some.injEq]
      exact State.releaseChan_chan _ c ch

theorem State.idleSlot_slot (s : State) (k j : Fin 2) (named : Bool) :
    (s.idleSlot k named).slots[j] = if k = j then AlarmSlot.idle else s.slots[j] := by
  rw [State.idleSlot]
  simp only [(State.raiseAlarm_bench _ named).1]
  refine (State.onSlot_slot _ k j _).trans ?_
  split
  · rfl
  · next h =>
    show (s.closeWindow k).slots[j] = s.slots[j]
    rw [State.closeWindow_slot, if_neg h]

theorem State.idleSlot_tone (s : State) (k j : Fin 2) (named : Bool) :
    (s.idleSlot k named).tone[j] = if k = j then Player.stopped else s.tone[j] := by
  rw [State.idleSlot]
  simp only [(State.raiseAlarm_bench _ named).2.1]
  refine (State.onTone_player (s.closeWindow k) k j _).trans ?_
  rw [State.closeWindow_tone]

theorem State.idleSlot_chan (s : State) (k : Fin 2) (named : Bool) (ch : ChanId) : (s.idleSlot k named).chans[ch] =
    if (s.slots[k].window.bind fun w => w.source.channel) = some ch
    then { s.chans[ch].stopped with user := none, clip := none } else s.chans[ch] := by
  rw [State.idleSlot]
  simp only [(State.raiseAlarm_bench _ named).2.2]
  exact s.closeWindow_chan k ch

theorem State.idleSlot_louder (s : State) (k : Fin 2) (named : Bool) : State.Louder s (s.idleSlot k named) := by
  rw [State.idleSlot]
  refine State.Louder.trans (State.Louder.of_ports ?_) (State.raiseAlarm_louder _ named)
  exact s.closeWindow_ports k

theorem State.idleSlot_has (s : State) (k : Fin 2) (q : Port) : ((s.idleSlot k false).port q).has .alarm = true :=
  State.raiseAlarm_has _ false (Or.inl rfl)

/-! The end of a program. -/

theorem progOfSlot_injective (h : progOfSlot j = progOfSlot k) : j = k := Fin.ext (congrArg Fin.val h :)

theorem State.slotProgramEnded_of_ne (h : ∀ k, p ≠ progOfSlot k) : s.slotProgramEnded p = s := by
  have hp : 2 ≤ p.val := by
    by_contra hlt
    exact h ⟨p.val, by omega⟩ (Fin.ext rfl)
  rw [State.slotProgramEnded, slotOfProg_of_le hp]

theorem State.slotProgramEnded_slot (s : State) (k : Fin 2) : s.slotProgramEnded (progOfSlot k) =
    if s.slots[k].state = .idle then s else s.idleSlot k false := by
  rw [State.slotProgramEnded, slotOfProg_progOfSlot]

/-- The end of the program of a slot that sounds makes that slot IDLE (R84). -/
theorem State.endProgram_of_slot (h : s.slots[k].state ≠ .idle) (why : EndReason) :
    s.endProgram (progOfSlot k) why = (s.unbound (progOfSlot k) why).idleSlot k false := by
  rw [State.endProgram_eq, State.slotProgramEnded_slot, if_neg]
  rw [State.unbound_slots]
  exact h

/-- The end of a program that is not a slot's leaves the slot and its generator, and its channel. -/
theorem State.endProgram_aside (h : p ≠ progOfSlot k) (why : EndReason) :
    (s.endProgram p why).slots[k] = s.slots[k] ∧ (s.endProgram p why).tone[k] = s.tone[k] := by
  rw [State.endProgram_eq]
  by_cases hp : ∃ j, p = progOfSlot j
  · obtain ⟨j, rfl⟩ := hp
    rw [State.slotProgramEnded_slot]
    have hjk : j ≠ k := fun e => h (e ▸ rfl)
    have hidle : (s.unbound (progOfSlot j) why).slots[k] = s.slots[k] ∧ (s.unbound (progOfSlot j) why).tone[k] = s.tone[k] := by
      simp only [State.unbound_slots, State.unbound_tone, and_self]
    split
    · exact hidle
    · rw [State.idleSlot_slot, State.idleSlot_tone, if_neg hjk, if_neg hjk]
      exact hidle
  · rw [State.slotProgramEnded_of_ne fun j e => hp ⟨j, e⟩, State.unbound_slots, State.unbound_tone]
    exact ⟨rfl, rfl⟩

theorem State.endProgram_chan (h : s.chans[ch].user ≠ some (.prog p))
    (hw : ∀ j, p = progOfSlot j → s.slots[j].state ≠ .idle → (s.slots[j].window.bind fun w => w.source.channel) ≠ some ch)
    (why : EndReason) : (s.endProgram p why).chans[ch] = s.chans[ch] := by
  rw [State.endProgram_eq]
  by_cases hp : ∃ j, p = progOfSlot j
  · obtain ⟨j, rfl⟩ := hp
    rw [State.slotProgramEnded_slot]
    split
    · exact State.unbound_chan h why
    · next hidle =>
      rw [State.idleSlot_chan, State.unbound_slots, if_neg (hw j rfl (by rwa [State.unbound_slots] at hidle))]
      exact State.unbound_chan h why
  · rw [State.slotProgramEnded_of_ne fun j e => hp ⟨j, e⟩]
    exact State.unbound_chan h why

theorem State.endProgram_louder (s : State) (p : ProgId) (why : EndReason) : State.Louder s (s.endProgram p why) := by
  rw [State.endProgram_eq]
  refine State.Louder.trans (State.Louder.of_ports (s.unbound_ports p why)) ?_
  unfold State.slotProgramEnded
  repeat' split
  · exact .refl _
  · exact .refl _
  · exact State.idleSlot_louder _ _ _

/-! The settling. -/

theorem State.Moves.slots (h : State.Moves p s u) : u.slots = s.slots := (congrArg State.slots h.steady :)

theorem State.Moves.tone (h : State.Moves p s u) : u.tone = s.tone := (congrArg State.tone h.steady :)

theorem State.Moves.ports (h : State.Moves p s u) : u.ports = s.ports := (congrArg State.ports h.steady :)

theorem State.Moves.binding (h : State.Moves p s u) (ch : ChanId) :
    u.chans[ch].user = s.chans[ch].user ∧ u.chans[ch].clip = s.chans[ch].clip := by
  have hc := congrArg (fun v : State => v.chans[ch]) h.steady
  simp only [State.steady, Fin.getElem_fin, getElem_remap] at hc
  exact ⟨(congrArg Channel.user hc :), (congrArg Channel.clip hc :)⟩

theorem State.settleProgram_louder (s : State) (p : ProgId) : State.Louder s (s.settleProgram p) := by
  rcases s.settleProgram_cases p with ⟨e, -⟩ | ⟨hm, -⟩
  · rw [e]; exact s.endProgram_louder p _
  · exact .of_ports hm.ports

theorem State.settleAll_louder (s : State) : State.Louder s s.settleAll := foldl_louder State.settleProgram_louder _ s

/-- The settling of a program leaves every slot that is not its own. -/
theorem State.settleProgram_aside (h : p ≠ progOfSlot k) :
    (s.settleProgram p).slots[k] = s.slots[k] ∧ (s.settleProgram p).tone[k] = s.tone[k] := by
  rcases s.settleProgram_cases p with ⟨e, -⟩ | ⟨hm, -⟩
  · rw [e]; exact State.endProgram_aside h _
  · rw [hm.slots, hm.tone]; exact ⟨rfl, rfl⟩

end Hearing

end Sys2Proof.Machine
end

section
namespace Sys2Proof.Machine

/-! ### Channels through the settling (R106, R111, R112) -/

section SettledChannels
variable {s u v : State} {p q : ProgId} {j k : Fin 2} {ch : ChanId}

/-- The channel of a program's clip part. -/
def Program.chan (g : Program) : Option ChanId := g.clipPart.bind fun c => c.channel

theorem State.onChan_chan_ne (s : State) {c : ChanId} (h : c ≠ ch) (f : Channel → Channel) : (s.onChan c f).chans[ch] = s.chans[ch] :=
  getElem_adjust_ne _ _ h

theorem State.gateProgram_chan (h : s.progs[p].chan ≠ some ch) (pause : Bool) : (s.gateProgram p pause).chans[ch] = s.chans[ch] := by
  unfold State.gateProgram
  split
  · rfl
  · next part hp =>
    split
    · rfl
    · next c hc =>
      split
      · exact s.onChan_chan_ne (fun e => h (by rw [Program.chan, hp, Option.bind_some, hc, e])) _
      · rfl

theorem State.startClip_chan (h : s.progs[p].chan ≠ some ch) : (s.startClip p).chans[ch] = s.chans[ch] := by
  unfold State.startClip
  split
  · rfl
  · next part hp =>
    split
    · rfl
    · next c hc =>
      split
      · rfl
      · exact s.onChan_chan_ne (fun e => h (by rw [Program.chan, hp, Option.bind_some, hc, e])) _

theorem State.onBoundVoice_chans (s : State) (p : ProgId) (f : Player → Player) : (s.onBoundVoice p f).chans = s.chans := by
  unfold State.onBoundVoice
  split <;> rfl

theorem State.onProg_chan (h : s.progs[p].chan ≠ some ch) {f : Program → Program} (hf : ∀ g, (f g).clipPart = g.clipPart) :
    (s.onProg p f).progs[p].chan ≠ some ch := by
  rw [State.onProg_progs_self, Program.chan, hf]
  exact h

theorem State.firstActive_chan (h : s.progs[p].chan ≠ some ch) (skipped : Bool) :
    (s.firstActive p skipped).chans[ch] = s.chans[ch] := by
  refine (State.startClip_chan ?_).trans rfl
  exact State.onProg_chan h fun _ => rfl

theorem State.enterGranted_chan (h : s.progs[p].chan ≠ some ch) : (s.enterGranted p).chans[ch] = s.chans[ch] := by
  have hbind (pat : PatId) : (match s.bindVoice p pat with
      | some s1 => s1.onProg p fun g => { g with state := .preamble }
      | none => s.firstActive p true).chans[ch] = s.chans[ch] := by
    cases hb : s.bindVoice p pat with
    | none => exact State.firstActive_chan h true
    | some s1 =>
      obtain ⟨-, v, -, -, rfl⟩ := State.bindVoice_eq hb
      rfl
  unfold State.enterGranted
  simp only
  split
  · rw [State.onBoundVoice_chans]; rfl
  · refine (State.gateProgram_chan ?_ _).trans rfl
    exact State.onProg_chan h fun _ => rfl
  · split
    · exact hbind _
    · exact hbind _
    · exact State.firstActive_chan h false

theorem State.enterUngranted_chan (h : s.progs[p].chan ≠ some ch) : (s.enterUngranted p).chans[ch] = s.chans[ch] := by
  unfold State.enterUngranted
  simp only
  split
  · rw [State.onBoundVoice_chans]; rfl
  · refine (State.gateProgram_chan ?_ _).trans rfl
    exact State.onProg_chan h fun _ => rfl
  all_goals rfl

/-- The settling of a program leaves every channel that it does not name, that does not serve it, and that is not its slot's
window's. -/
theorem State.settleProgram_chan (hp : s.progs[p].isOpen = true → s.progs[p].chan ≠ some ch)
    (hu : s.chans[ch].user ≠ some (.prog p))
    (hw : ∀ j, p = progOfSlot j → s.slots[j].state ≠ .idle → (s.slots[j].window.bind fun w => w.source.channel) ≠ some ch) :
    (s.settleProgram p).chans[ch] = s.chans[ch] := by
  cases hop : s.progs[p].isOpen
  · rw [State.settleProgram_of_closed hop]
  replace hp := hp hop
  rw [State.settleProgram_eq]
  have hend := State.endProgram_chan hu hw .noZones
  have hsettle : (s.settleOpen p).chans[ch] = s.chans[ch] := by
    unfold State.settleOpen
    simp only
    split
    · exact hend
    · show (if s.progs[p].granted = 0#64 then s.enterUngranted p
        else if s.progs[p].state = .pending ∨ s.progs[p].state = .held then s.enterGranted p else s).chans[ch] = _
      split
      · exact State.enterUngranted_chan hp
      · split
        · exact State.enterGranted_chan hp
        · rfl
  cases hst : s.progs[p].state
  case free | ended => rfl
  case tail =>
    by_cases hg : s.progs[p].granted = 0#64
    · simp only [if_pos hg]; exact hend
    · simp only [if_neg hg]
  all_goals exact hsettle

/-- A program that is in TAIL after its settling was so before. -/
theorem State.tail_of_settleProgram (h : (s.settleProgram p).progs[p].state = .tail) : s.progs[p].state = .tail := by
  by_cases e : s.settleProgram p = s.endProgram p .noZones
  · rw [e, State.endProgram_self] at h
    cases h
  · rcases s.settleProgram_state p e with hs | ⟨-, -, hs⟩
    · exact hs.symm.trans h
    · rw [h] at hs
      exact absurd hs (by decide)

theorem State.isOpen_of_settleProgram (h : (s.settleProgram p).progs[p].isOpen = true) : s.progs[p].isOpen = true := by
  cases hop : s.progs[p].isOpen
  · rw [State.settleProgram_of_closed hop, hop] at h
    cases h
  · rfl

/-- Whatever settles, the clip part of a record stays. -/
theorem State.settleProgram_clipPart (s : State) (p q : ProgId) : (s.settleProgram p).progs[q].chan = s.progs[q].chan := by
  by_cases e : q = p
  · subst e
    rcases s.settleProgram_cases q with ⟨he, -⟩ | ⟨hm, -⟩
    · rw [he, State.endProgram_self]; rfl
    · exact (congrArg Program.chan hm.self :)
  · rw [State.settleProgram_other s e]

/-- A window that is not on a channel does not come onto it when a program ends or settles. -/
theorem State.endProgram_window (h : (s.slots[j].window.bind fun w => w.source.channel) ≠ some ch) (p : ProgId) (why : EndReason) :
    ((s.endProgram p why).slots[j].window.bind fun w => w.source.channel) ≠ some ch := by
  by_cases hp : p = progOfSlot j
  · subst hp
    rw [State.endProgram_eq, State.slotProgramEnded_slot]
    split
    · simp only [State.unbound_slots]; exact h
    · rw [State.idleSlot_slot, if_pos rfl]
      exact fun e => by cases e
  · rw [(State.endProgram_aside hp why).1]; exact h

theorem State.settleProgram_window (h : (s.slots[j].window.bind fun w => w.source.channel) ≠ some ch) (p : ProgId) :
    ((s.settleProgram p).slots[j].window.bind fun w => w.source.channel) ≠ some ch := by
  rcases s.settleProgram_cases p with ⟨he, -⟩ | ⟨hm, -⟩
  · rw [he]; exact State.endProgram_window h p _
  · simp only [hm.slots]; exact h

/-- A slot's channel in use by its window: no other window and no open program has it. -/
structure State.Reserved (s : State) (k : Fin 2) (ch : ChanId) : Prop where
  progs : ∀ q : ProgId, s.progs[q].isOpen = true → s.progs[q].chan ≠ some ch
  user : ∀ q, s.chans[ch].user ≠ some (.prog q)
  windows : ∀ j : Fin 2, j ≠ k → (s.slots[j].window.bind fun w => w.source.channel) ≠ some ch

theorem State.Reserved.chan (h : s.Reserved k ch) (hp : p ≠ progOfSlot k) : (s.settleProgram p).chans[ch] = s.chans[ch] :=
  State.settleProgram_chan (h.progs p) (h.user p) fun j hj _ => h.windows j fun e => hp (e ▸ hj)

theorem State.Reserved.settle (h : s.Reserved k ch) (p : ProgId) : (s.settleProgram p).Reserved k ch where
  progs q hq := by
    rw [State.settleProgram_clipPart]
    refine h.progs q ?_
    by_cases e : q = p
    · subst e; exact State.isOpen_of_settleProgram hq
    · rwa [State.settleProgram_other s e] at hq
  user q := by
    by_cases hp : p = progOfSlot k
    · subst hp
      rcases s.settleProgram_cases (progOfSlot k) with ⟨he, -⟩ | ⟨hm, -⟩
      · rw [he, State.endProgram_eq, State.slotProgramEnded_slot]
        have hch := State.unbound_chan (h.user (progOfSlot k)) .noZones
        split
        · rw [hch]; exact h.user q
        · rw [State.idleSlot_chan]
          split
          · exact fun e => by cases e
          · rw [hch]; exact h.user q
      · rw [(hm.binding ch).1]; exact h.user q
    · rw [h.chan hp]; exact h.user q
  windows j hj := State.settleProgram_window (h.windows j hj) p

/-- A slot that sounds becomes IDLE where its program ends at the settling; its window's channel is free then (R84). -/
theorem State.settleAll_slot_ends (hs : s.slots[k].state ≠ .idle) (hop : s.progs[progOfSlot k].isOpen = true)
    (hg : s.progs[progOfSlot k].granted = 0#64) (hh : s.progs[progOfSlot k].held = 0#64)
    (hw : s.progs[progOfSlot k].waiting = 0#64) :
    s.settleAll.slots[k] = AlarmSlot.idle ∧ s.settleAll.tone[k] = Player.stopped ∧
      (∀ q : Port, (s.settleAll.port q).has .alarm = true) ∧
      ∀ ch, s.Reserved k ch → (s.slots[k].window.bind fun w => w.source.channel) = some ch →
        s.settleAll.chans[ch] = { s.chans[ch].stopped with user := none, clip := none } := by
  let was (u : State) : Prop := u.progs[progOfSlot k] = s.progs[progOfSlot k] ∧ u.slots[k] = s.slots[k] ∧
    ∀ ch, s.Reserved k ch → u.Reserved k ch ∧ u.chans[ch] = s.chans[ch]
  let gone (u : State) : Prop := u.progs[progOfSlot k].isOpen = false ∧ u.slots[k] = AlarmSlot.idle ∧ u.tone[k] = Player.stopped ∧
    (∀ q : Port, (u.port q).has .alarm = true) ∧
    ∀ ch, s.Reserved k ch → (s.slots[k].window.bind fun w => w.source.channel) = some ch →
      u.Reserved k ch ∧ u.chans[ch] = { s.chans[ch].stopped with user := none, clip := none }
  have key : was s.settleAll ∨ gone s.settleAll := by
    refine List.foldlRecOn (motive := fun u => was u ∨ gone u) _ _ (Or.inl ⟨rfl, rfl, fun ch h => ⟨h, rfl⟩⟩) fun u hu p _ => ?_
    by_cases hp : p = progOfSlot k
    · subst hp
      rcases hu with ⟨h1, h2, h3⟩ | hgone
      · rcases u.settleProgram_cases (progOfSlot k) with ⟨he, -⟩ | ⟨-, hkeep⟩
        · right
          have hidle := State.endProgram_of_slot (s := u) (k := k) (by rw [h2]; exact hs) .noZones
          refine ⟨by rw [he, State.endProgram_self]; rfl, ?_, ?_, fun q => ?_, fun ch hr hc => ⟨(h3 ch hr).1.settle _, ?_⟩⟩
          · rw [he, hidle, State.idleSlot_slot, if_pos rfl]
          · rw [he, hidle, State.idleSlot_tone, if_pos rfl]
          · rw [he, hidle]; exact State.idleSlot_has _ k q
          · rw [he, hidle, State.idleSlot_chan, State.unbound_slots, h2, if_pos hc, State.unbound_chan ((h3 ch hr).1.user _),
              (h3 ch hr).2]
        · rcases hkeep (by rw [h1]; exact hop) with hk | ⟨-, hk | hk⟩
          · exact absurd hg (h1 ▸ hk)
          · exact absurd hh (h1 ▸ hk)
          · exact absurd hw (h1 ▸ hk)
      · right
        rw [State.settleProgram_of_closed hgone.1]; exact hgone
    · obtain ⟨a1, a2⟩ := State.settleProgram_aside (s := u) hp
      have hother := State.settleProgram_other u (Ne.symm hp)
      rcases hu with ⟨h1, h2, h3⟩ | ⟨h1, h2, h3, h4, h5⟩
      · left
        refine ⟨by rw [hother]; exact h1, a1.trans h2, fun ch hr => ⟨(h3 ch hr).1.settle _, ?_⟩⟩
        exact ((h3 ch hr).1.chan hp).trans (h3 ch hr).2
      · right
        refine ⟨by rw [hother]; exact h1, a1.trans h2, a2.trans h3, fun q => (u.settleProgram_louder p q).1 _ (h4 q),
          fun ch hr hw => ⟨(h5 ch hr hw).1.settle _, ?_⟩⟩
        exact ((h5 ch hr hw).1.chan hp).trans (h5 ch hr hw).2
  rcases key with ⟨h1, -⟩ | ⟨-, h2, h3, h4, h5⟩
  · have hend := s.settleAll_ended (Or.inr hop) hg hh hw
    rw [h1] at hend
    rw [Program.isOpen_of_ended hend] at hop
    cases hop
  · exact ⟨h2, h3, h4, fun ch hr hw => (h5 ch hr hw).2⟩

/-- The program, if open, keeps a zone of its request and is not in TAIL: it does not end when it settles. -/
def State.Staying (s : State) (p : ProgId) : Prop :=
  s.progs[p].isOpen = true → s.progs[p].state ≠ .tail ∧
    (s.progs[p].granted ≠ 0#64 ∨ s.progs[p].held ≠ 0#64 ∨ s.progs[p].waiting ≠ 0#64)

theorem State.Staying.not_ended (h : s.Staying p) : State.Moves p s (s.settleProgram p) := by
  rcases s.settleProgram_cases p with ⟨-, hop, hg, hh⟩ | ⟨hm, -⟩
  · obtain ⟨ht, hsome⟩ := h hop
    rcases hh with hh | ⟨hh, hw⟩
    · exact absurd hh ht
    · rcases hsome with e | e | e
      · exact absurd hg e
      · exact absurd hh e
      · exact absurd hw e
  · exact hm

theorem State.Staying.settle (h : s.Staying p) (q : ProgId) : (s.settleProgram q).Staying p := by
  by_cases hp : q = p
  · subst hp
    intro hop
    obtain ⟨ht, hsome⟩ := h (State.isOpen_of_settleProgram hop)
    have hm := h.not_ended
    refine ⟨fun e => ht (State.tail_of_settleProgram e), ?_⟩
    have hg : (s.settleProgram q).progs[q].granted = s.progs[q].granted := (congrArg Program.granted hm.self :)
    have hh : (s.settleProgram q).progs[q].held = s.progs[q].held := (congrArg Program.held hm.self :)
    have hw : (s.settleProgram q).progs[q].waiting = s.progs[q].waiting := (congrArg Program.waiting hm.self :)
    rw [hg, hh, hw]
    exact hsome
  · unfold State.Staying
    rw [State.settleProgram_other s (Ne.symm hp)]
    exact h

/-- A slot whose program does not end at the settling stays as it is. -/
theorem State.settleAll_slot_stays (h : s.Staying (progOfSlot j)) :
    s.settleAll.slots[j] = s.slots[j] ∧ s.settleAll.tone[j] = s.tone[j] := by
  have key : s.settleAll.Staying (progOfSlot j) ∧ s.settleAll.slots[j] = s.slots[j] ∧ s.settleAll.tone[j] = s.tone[j] := by
    refine List.foldlRecOn (motive := fun u : State => u.Staying (progOfSlot j) ∧ u.slots[j] = s.slots[j] ∧ u.tone[j] = s.tone[j])
      _ _ ⟨h, rfl, rfl⟩ fun u hu p _ => ?_
    obtain ⟨h1, h2, h3⟩ := hu
    refine ⟨h1.settle p, ?_⟩
    by_cases hp : p = progOfSlot j
    · subst hp
      exact ⟨by rw [h1.not_ended.slots]; exact h2, by rw [h1.not_ended.tone]; exact h3⟩
    · obtain ⟨a1, a2⟩ := State.settleProgram_aside (s := u) hp
      exact ⟨a1.trans h2, a2.trans h3⟩
  exact key.2

/-- Where no slot's program ends, the settling raises no notice. -/
theorem State.settleAll_ports (h : ∀ j, s.Staying (progOfSlot j)) : s.settleAll.ports = s.ports := by
  have key : (∀ j, s.settleAll.Staying (progOfSlot j)) ∧ s.settleAll.ports = s.ports := by
    refine List.foldlRecOn (motive := fun u : State => (∀ j, u.Staying (progOfSlot j)) ∧ u.ports = s.ports) _ _ ⟨h, rfl⟩ fun u hu p _ => ?_
    obtain ⟨h1, h2⟩ := hu
    refine ⟨fun j => (h1 j).settle p, Eq.trans ?_ h2⟩
    by_cases hp : ∃ j, p = progOfSlot j
    · obtain ⟨j, rfl⟩ := hp
      exact (h1 j).not_ended.ports
    · rcases u.settleProgram_cases p with ⟨e, -⟩ | ⟨hm, -⟩
      · rw [e, State.endProgram_eq, State.slotProgramEnded_of_ne fun k e => hp ⟨k, e⟩]
        exact u.unbound_ports p .noZones
      · exact hm.ports
  exact key.2

/-- A channel that is nobody's keeps its state through the settling. -/
theorem State.settleAll_chan_of_reserved (h : ∀ k, s.Reserved k ch) : s.settleAll.chans[ch] = s.chans[ch] := by
  have key : (∀ k, s.settleAll.Reserved k ch) ∧ s.settleAll.chans[ch] = s.chans[ch] := by
    refine List.foldlRecOn (motive := fun u : State => (∀ k, u.Reserved k ch) ∧ u.chans[ch] = s.chans[ch]) _ _ ⟨h, rfl⟩
      fun u hu p _ => ?_
    obtain ⟨h1, h2⟩ := hu
    refine ⟨fun k => (h1 k).settle p, Eq.trans ?_ h2⟩
    by_cases hp : p = progOfSlot 0
    · exact (h1 1).chan fun e => by rw [hp] at e; exact absurd (progOfSlot_injective e) (by decide)
    · exact (h1 0).chan hp
  exact key.2

end SettledChannels

/-! ### Notices through the end of an operation -/

section FinishLouder
variable {s u : State}

theorem State.takeHeads_louder (s : State) (q : List QueueEntry) : State.Louder s (s.takeHeads q) := by
  induction q generalizing s with
  | nil => exact .of_ports rfl
  | cons e rest ih =>
    unfold State.takeHeads
    split
    · split
      · refine State.Louder.trans ?_ (ih _)
        refine State.Louder.trans ?_ (State.raiseSurvey_louder _ _ _)
        exact .of_ports rfl
      · exact .of_ports rfl
    · exact .of_ports rfl

theorem State.takeHead_louder (s : State) : State.Louder s s.takeHead := by
  unfold State.takeHead
  split
  · exact s.takeHeads_louder _
  · exact .refl s

theorem State.abortSurvey_louder (s : State) (spare : Option Port) : State.Louder s (s.abortSurvey spare) := by
  unfold State.abortSurvey
  split
  · exact .refl s
  · refine State.Louder.trans ?_ (State.takeHead_louder _)
    refine State.Louder.trans ?_ (State.raiseSurvey_louder _ _ _)
    exact .of_ports rfl

theorem State.surveyCheck_louder (s : State) : State.Louder s s.surveyCheck := by
  unfold State.surveyCheck
  split
  · exact .refl s
  · split
    · split
      · exact s.abortSurvey_louder none
      · exact .refl s
    · exact .refl s

theorem State.duckHandOff_louder (s0 s : State) : State.Louder s (State.duckHandOff s0 s) := .of_ports rfl

/-- The end of an operation takes no notice back. -/
theorem State.finish_louder (s0 s : State) (c : Cause) : State.Louder s (State.finish s0 s c) := by
  rw [State.finish_eq]
  refine State.Louder.trans ?_ (State.programNotices_louder _ _ _)
  refine State.Louder.trans ?_ (State.resumeCheck_louder _ _ _)
  refine State.Louder.trans ?_ (State.surveyCheck_louder _)
  exact State.Louder.trans s.settleAll_louder (State.duckHandOff_louder _ _)

theorem State.settleAll_finish_louder (s0 s : State) (c : Cause) : State.Louder s.settleAll (State.finish s0 s c) := by
  rw [State.finish_eq]
  refine State.Louder.trans ?_ (State.programNotices_louder _ _ _)
  refine State.Louder.trans ?_ (State.resumeCheck_louder _ _ _)
  exact State.Louder.trans (State.duckHandOff_louder _ _) (State.surveyCheck_louder _)

end FinishLouder

end Sys2Proof.Machine
end

section
namespace Sys2Proof.Machine

/-! ### Settling of a state whose hold stacks and held sets agree (R16, R19) -/

section Keeping
variable {s u : State} {p q : ProgId} {z : Zone}

/-- Granted and held sets agree with the zone table, and a program in TAIL holds nothing. -/
structure State.Kept (s : State) : Prop where
  matched : s.Matched
  held : ∀ (p : ProgId) (z : Zone), s.progs[p].held.getLsbD z.val = true ↔ p ∈ s.zones[z].stack
  tails : ∀ p : ProgId, s.progs[p].state = .tail → s.progs[p].held = 0#64

theorem State.tails_of_lawful (h : s.tailsLawful = true) (ht : s.progs[p].state = .tail) :
    s.progs[p].kind = .live ∧ s.progs[p].held = 0#64 ∧ s.progs[p].waiting = 0#64 := by
  have hp := List.all_eq_true.mp h p (List.mem_finRange p)
  simp only [Bool.or_eq_true, bne_iff_ne, Bool.and_eq_true, beq_iff_eq] at hp
  rcases hp with h | ⟨⟨h1, h2⟩, h3⟩
  · exact absurd ht h
  · exact ⟨h1, h2, h3⟩

theorem State.kept_of_laws (ha : s.claimsAgree = true) (hk : s.kindsLawful = true) (ht : s.tailsLawful = true) : s.Kept :=
  ⟨State.matched_of_agree ha hk, State.held_of_agree ha, fun _ h => (State.tails_of_lawful ht h).2.1⟩

theorem State.Kept.settleProgram (h : s.Kept) (p : ProgId) : (s.settleProgram p).Kept ∧ (s.settleProgram p).zones = s.zones := by
  have hm := State.matched_settleProgram h.matched p
  rcases s.settleProgram_cases p with ⟨he, -, hg, hh⟩ | ⟨hmv, -⟩
  · have hheld : s.progs[p].held = 0#64 := hh.elim (h.tails p) And.left
    have hstack (z : Zone) : p ∉ s.zones[z].stack := fun hs => by
      have := (h.held p z).mpr hs
      rw [hheld, BitVec.getLsbD_zero] at this
      cases this
    have hz : (s.settleProgram p).zones = s.zones := by
      rw [he]
      refine Vector.ext fun i hi => ?_
      obtain ⟨h1, h2⟩ := h.matched.not_holder hg ⟨i, hi⟩
      exact (s.endProgram_zone p _ ⟨i, hi⟩).trans (ZoneRec.strip_of_absent h1 (hstack ⟨i, hi⟩) h2)
    have hq (q : ProgId) : (s.settleProgram p).progs[q].held = s.progs[q].held ∧
        ((s.settleProgram p).progs[q].state = .tail → s.progs[q].state = .tail) := by
      rw [he]
      by_cases e : q = p
      · subst e
        rw [State.endProgram_self, hheld]
        exact ⟨rfl, fun h => by cases h⟩
      · rw [State.endProgram_other s e]
        exact ⟨rfl, id⟩
    refine ⟨⟨hm, fun q z => ?_, fun q ht => ?_⟩, hz⟩
    · rw [(hq q).1]; simp only [hz]; exact h.held q z
    · rw [(hq q).1]; exact h.tails q ((hq q).2 ht)
  · refine ⟨⟨hm, fun q z => ?_, fun q ht => ?_⟩, hmv.zones⟩
    · have hq : (s.settleProgram p).progs[q].held = s.progs[q].held := (congrArg Program.held (hmv.steady_prog q) :)
      rw [hq]; simp only [hmv.zones]; exact h.held q z
    · have hq : (s.settleProgram p).progs[q].held = s.progs[q].held := (congrArg Program.held (hmv.steady_prog q) :)
      rw [hq]
      refine h.tails q ?_
      by_cases e : q = p
      · subst e; exact State.tail_of_settleProgram ht
      · rwa [State.settleProgram_other s e] at ht

theorem State.Kept.settleAll (h : s.Kept) : s.settleAll.zones = s.zones := by
  have key : s.settleAll.Kept ∧ s.settleAll.zones = s.zones :=
    List.foldlRecOn (motive := fun u : State => u.Kept ∧ u.zones = s.zones) _ _ ⟨h, rfl⟩ fun u hu p _ =>
      ⟨(hu.1.settleProgram p).1, (hu.1.settleProgram p).2.trans hu.2⟩
  exact key.2

theorem State.zone_of_lasting (h : u.lasting = s.lasting) (z : Zone) : u.zones[z].lasting = s.zones[z].lasting := by
  have hz := congrArg (fun v : State => v.zones[z]) h
  simp only [State.lasting, Fin.getElem_fin, getElem_remap] at hz
  exact hz

theorem State.Kept.finish_zone (h : s.Kept) (s0 : State) (c : Cause) (z : Zone) :
    (State.finish s0 s c).zones[z].lasting = s.zones[z].lasting := by
  rw [State.zone_of_lasting (State.finish_lasting s0 s c)]
  simp only [h.settleAll]

end Keeping

/-! ### EXCLUDE_ZONES (R48) -/

section Excluding
variable {s u : State} {p q : ProgId} {z : Zone} {zs : ZoneSet}

/-- Zones newly excluded, before the programs take their states. -/
def State.barred (s : State) (zs : ZoneSet) : State :=
  let fresh := zs &&& ~~~s.excludedSet
  let s1 := s.onZones fresh ZoneRec.exclude
  { s1 with progs := remap s1.progs fun _ g => g.without fresh }

theorem State.exclude_eq (s : State) (zs : ZoneSet) : s.exclude zs = State.finish s (s.barred zs) Cause.event := rfl

theorem State.barred_prog (s : State) (zs : ZoneSet) (p : ProgId) :
    (s.barred zs).progs[p] = s.progs[p].without (zs &&& ~~~s.excludedSet) := getElem_remap ..

theorem State.barred_zone (s : State) (zs : ZoneSet) (z : Zone) : (s.barred zs).zones[z] =
    if (zs &&& ~~~s.excludedSet).getLsbD z.val then s.zones[z].exclude else s.zones[z] := getElem_remap ..

theorem State.freshly_iff (s : State) (zs : ZoneSet) (z : Zone) :
    (zs &&& ~~~s.excludedSet).getLsbD z.val = true ↔ zs.getLsbD z.val = true ∧ s.zones[z].excluded = false := by
  rw [BitVec.getLsbD_and, getLsbD_compl, State.getLsbD_excludedSet, Bool.and_eq_true, Bool.not_eq_true']
  rfl

theorem getLsbD_and_compl (a b : ZoneSet) (z : Zone) : (a &&& ~~~b).getLsbD z.val = (a.getLsbD z.val && !b.getLsbD z.val) := by
  rw [BitVec.getLsbD_and, getLsbD_compl]

theorem State.Kept.barred (h : s.Kept) (zs : ZoneSet) : (s.barred zs).Kept where
  matched z := by
    obtain ⟨hg, ho, hst, hb⟩ := h.matched z
    have hkind (q : ProgId) : (s.barred zs).progs[q].kind = s.progs[q].kind := by rw [State.barred_prog]; rfl
    have hgr (q : ProgId) : (s.barred zs).progs[q].granted.getLsbD z.val =
        (s.progs[q].granted.getLsbD z.val && !(zs &&& ~~~s.excludedSet).getLsbD z.val) := by
      rw [State.barred_prog]; exact getLsbD_and_compl ..
    cases hf : (zs &&& ~~~s.excludedSet).getLsbD z.val
    · have hz : (s.barred zs).zones[z] = s.zones[z] := by rw [State.barred_zone, hf]; rfl
      refine State.MatchedAt.congr (h.matched z) hkind (fun q => ?_) (by rw [hz]; exact ⟨rfl, rfl, rfl⟩)
      rw [hgr, hf, Bool.not_false, Bool.and_true]
    · have hz : (s.barred zs).zones[z] = s.zones[z].exclude := by rw [State.barred_zone, hf]; rfl
      refine ⟨fun q => ?_, fun o h => ?_, fun q h => ?_, fun b h => ?_⟩
      · rw [hgr, hf, hz, Bool.not_true, Bool.and_false]
        refine iff_of_false (by decide) ?_
        split
        · exact fun e => by cases e
        · exact fun e => by cases e
      · rw [hz] at h; cases h
      · rw [hz] at h; cases h
      · rw [hz] at h; cases h
  held q z := by
    have hh : (s.barred zs).progs[q].held.getLsbD z.val =
        (s.progs[q].held.getLsbD z.val && !(zs &&& ~~~s.excludedSet).getLsbD z.val) := by
      rw [State.barred_prog]; exact getLsbD_and_compl ..
    rw [hh, State.barred_zone]
    cases hf : (zs &&& ~~~s.excludedSet).getLsbD z.val
    · rw [Bool.not_false, Bool.and_true]; exact h.held q z
    · rw [Bool.not_true, Bool.and_false]
      exact iff_of_false (by decide) (List.not_mem_nil)
  tails q ht := by
    rw [State.barred_prog] at ht ⊢
    show s.progs[q].held &&& _ = _
    rw [h.tails q ht]
    exact BitVec.zero_and

theorem Program.request_of_steady {g k : Program} (h : k.steady = g.steady) :
    k.requested = g.requested ∧ k.waiting = g.waiting :=
  ⟨(congrArg Program.requested h :), (congrArg Program.waiting h :)⟩

/-- After the settling a program has no more than it had before. -/
theorem State.settleAll_requested (s : State) (p : ProgId) :
    (s.settleAll.progs[p].requested = s.progs[p].requested ∧ s.settleAll.progs[p].waiting = s.progs[p].waiting) ∨
      (s.settleAll.progs[p].requested = 0#64 ∧ s.settleAll.progs[p].waiting = 0#64) := by
  rcases s.settleAll_prog p with ⟨e, -⟩ | ⟨e, -⟩
  · rw [e]; exact Or.inr ⟨rfl, rfl⟩
  · exact Or.inl (Program.request_of_steady e)

theorem exec_excludeZones {t : Txn} (hl : s.listens t = true) (hp : t.port = .saf) (hz : zs ≠ 0#64) :
    ∃ f, exec (.excludeZones t zs) s = .next (((s.onPort t.port f).exclude zs).replied t 0x19#8 .ok []) := by
  obtain ⟨f, hf⟩ := portCommand_next hl 0x19#8 8 fun s =>
    if t.port != .saf then refuse s .privilege
    else if zs == 0#64 then refuse s .param
    else okWith (s.exclude zs) []
  refine ⟨f, Eq.trans hf ?_⟩
  simp only [hp, bne_self_eq_false, Bool.false_eq_true, if_false, beq_eq_false_iff_ne.mpr hz]
  rfl

theorem exclude_zone (ha : s.claimsAgree = true) (hk : s.kindsLawful = true) (ht : s.tailsLawful = true)
    (hx : ∀ z : Zone, s.zones[z].excluded = true → s.zones[z].owner = none ∧ s.zones[z].stack = [] ∧ s.zones[z].bed = none)
    (zs : ZoneSet) :
    (∀ z : Zone, zs.getLsbD z.val = true → (s.exclude zs).zones[z].excluded = true ∧ (s.exclude zs).zones[z].owner = none ∧
      (s.exclude zs).zones[z].stack = [] ∧ (s.exclude zs).zones[z].bed = none) ∧
    (∀ (z : Zone) (p : ProgId), zs.getLsbD z.val = true → s.zones[z].excluded = false →
      (s.exclude zs).progs[p].requested.getLsbD z.val = false ∧ (s.exclude zs).progs[p].waiting.getLsbD z.val = false) ∧
    (∀ z : Zone, zs.getLsbD z.val = false → (s.exclude zs).zones[z].excluded = s.zones[z].excluded ∧
      (s.exclude zs).zones[z].owner = s.zones[z].owner ∧ (s.exclude zs).zones[z].stack = s.zones[z].stack ∧
      (s.exclude zs).zones[z].bed = s.zones[z].bed) := by
  have hzone (z : Zone) : (s.exclude zs).zones[z].lasting = ((s.barred zs).zones[z]).lasting :=
    ((State.kept_of_laws ha hk ht).barred zs).finish_zone s Cause.event z
  have hfour (z : Zone) (r : ZoneRec) (hr : (s.barred zs).zones[z] = r) : (s.exclude zs).zones[z].excluded = r.excluded ∧
      (s.exclude zs).zones[z].owner = r.owner ∧ (s.exclude zs).zones[z].stack = r.stack ∧ (s.exclude zs).zones[z].bed = r.bed := by
    have h := hzone z
    rw [hr] at h
    exact ⟨(congrArg ZoneRec.excluded h :), (congrArg ZoneRec.owner h :), (congrArg ZoneRec.stack h :), (congrArg ZoneRec.bed h :)⟩
  refine ⟨fun z hz => ?_, fun z p hz hex => ?_, fun z hz => ?_⟩
  · cases hex : s.zones[z].excluded
    · refine hfour z s.zones[z].exclude ?_
      rw [State.barred_zone, if_pos ((s.freshly_iff zs z).mpr ⟨hz, hex⟩)]
    · have h := hfour z s.zones[z] (by
        rw [State.barred_zone, if_neg fun h => ?_]
        rw [((s.freshly_iff zs z).mp h).2] at hex
        cases hex)
      obtain ⟨h1, h2, h3⟩ := hx z hex
      rw [hex, h1, h2, h3] at h
      exact h
  · have hf := (s.freshly_iff zs z).mpr ⟨hz, hex⟩
    have hprog : (s.exclude zs).progs[p] = (s.barred zs).settleAll.progs[p] := State.finish_state ..
    rw [hprog]
    have hb := s.barred_prog zs p
    rcases (s.barred zs).settleAll_requested p with ⟨h1, h2⟩ | ⟨h1, h2⟩
    · rw [h1, h2, hb]
      have hno (a : ZoneSet) : (a &&& ~~~(zs &&& ~~~s.excludedSet)).getLsbD z.val = false := by
        rw [getLsbD_and_compl, hf, Bool.not_true, Bool.and_false]
      exact ⟨hno _, hno _⟩
    · rw [h1, h2, BitVec.getLsbD_zero]
      exact ⟨rfl, rfl⟩
  · refine hfour z s.zones[z] ?_
    rw [State.barred_zone, if_neg fun h => ?_]
    rw [((s.freshly_iff zs z).mp h).1] at hz
    cases hz

end Excluding

end Sys2Proof.Machine
end

section
namespace Sys2Proof.Machine

/-! ### O32: shields, exclusions and readmissions -/

section SlotExcluded
variable {s u : State} {p q : ProgId} {z : Zone} {zs : ZoneSet} {j k : Fin 2} {ch : ChanId}

/-- A lawful window's channel is its own (R87, R134). -/
theorem State.reserved_of_users (h : s.usersLawful = true)
    (hw : (s.slots[k].window.bind fun w => w.source.channel) = some ch) : s.Reserved k ch := by
  simp only [State.usersLawful, Bool.and_eq_true, List.all_eq_true, List.mem_finRange, true_implies] at h
  obtain ⟨⟨hprog, hwin⟩, -⟩ := h
  have huser : s.chans[ch].user = some (.window k) := by
    have := hwin k
    rw [hw] at this
    exact beq_iff_eq.mp this
  refine ⟨fun q hq hc => ?_, fun q e => ?_, fun j hj hc => ?_⟩
  · have h := hprog q
    rw [hq, Bool.not_true, Bool.false_or] at h
    have hc' : (s.progs[q].clipPart.bind fun c => c.channel) = some ch := hc
    rw [hc'] at h
    simp only [Option.all_some, Bool.and_eq_true, beq_iff_eq] at h
    exact absurd (huser.symm.trans h.2) (by simp)
  · exact absurd (huser.symm.trans e) (by simp)
  · have := hwin j
    rw [hc] at this
    have e := huser.symm.trans (beq_iff_eq.mp this)
    simp only [Option.some.injEq, ChanUser.window.injEq] at e
    exact hj e.symm

theorem State.users_of_safe (h : s.safe = true) : s.usersLawful = true := by
  simp only [State.safe, Bool.and_eq_true] at h
  obtain ⟨⟨⟨⟨⟨⟨⟨-, users⟩, -⟩, -⟩, -⟩, -⟩, -⟩, -⟩ := h
  exact users

/-- The program of a slot that is not IDLE is an open ALARM program, not in TAIL. -/
theorem State.ClaimLaws.slot_program (h : s.ClaimLaws) (hs : s.slots[k].state ≠ .idle) :
    s.progs[progOfSlot k].isOpen = true ∧ s.progs[progOfSlot k].kind = .alarm ∧ s.progs[progOfSlot k].policy = .takeAvailable ∧
      s.progs[progOfSlot k].state ≠ .tail := by
  have hop : s.progs[progOfSlot k].isOpen = true := by
    have ha := h.alarms k
    unfold State.alarmHolds at ha
    simp only [if_neg hs, Bool.and_eq_true] at ha
    exact ha.1
  obtain ⟨hk, hp⟩ := h.alarmRole k.isLt hop
  refine ⟨hop, hk, hp, fun ht => ?_⟩
  have := h.table.roles.tail_live (progOfSlot k) (beq_iff_eq.mpr ht)
  exact absurd (hk.symm.trans this) (by decide)

/-- The sets of an open program of a lawful table that has something of its request left when zones leave it. -/
theorem Program.left_of_without {g : Program} (hc : ∀ z : Zone, g.claim z ≠ .unsound) {zs : ZoneSet}
    (hr : g.requested &&& ~~~zs ≠ 0#64) :
    (g.without zs).granted ≠ 0#64 ∨ (g.without zs).held ≠ 0#64 ∨ (g.without zs).waiting ≠ 0#64 := by
  obtain ⟨-, -, -, hu⟩ := Program.sets_of_sound hc
  by_contra hno
  simp only [not_or, not_not] at hno
  obtain ⟨h1, h2, h3⟩ := hno
  refine hr ((zoneSet_eq_zero_iff _).mpr fun z => ?_)
  have hz (a : ZoneSet) (ha : a &&& ~~~zs = 0#64) : (a.getLsbD z.val && !zs.getLsbD z.val) = false := by
    rw [← getLsbD_and_compl, ha, BitVec.getLsbD_zero]
  rw [getLsbD_and_compl, ← hu, BitVec.getLsbD_or, BitVec.getLsbD_or, Bool.and_or_distrib_right, Bool.and_or_distrib_right,
    hz _ h1, hz _ h2, hz _ h3]
  rfl

/-- A program whose whole request is newly excluded has nothing left. -/
theorem State.Table.barred_empty (h : s.Table noZone) (hr : s.progs[p].requested &&& ~~~zs = 0#64) :
    (s.barred zs).progs[p].granted = 0#64 ∧ (s.barred zs).progs[p].held = 0#64 ∧ (s.barred zs).progs[p].waiting = 0#64 := by
  have hnone (z : Zone) : ((s.barred zs).progs[p]).claim z = .none := by
    rw [State.barred_prog, Program.claim_without]
    by_cases hq : s.progs[p].claim z = .none
    · rw [hq, ite_self]
    · have hreq := (h.requested_iff p z).mpr hq
      have hin : zs.getLsbD z.val = true := by
        have := getLsbD_and_compl s.progs[p].requested zs z
        rw [hr, BitVec.getLsbD_zero, hreq, Bool.true_and] at this
        cases hb : zs.getLsbD z.val
        · rw [hb] at this; cases this
        · rfl
      have hex : s.zones[z].excluded = false := by
        cases hx : s.zones[z].excluded
        · rfl
        · exact absurd (((h.cell z).excluded hx).2.2 p) hq
      rw [if_pos ((s.freshly_iff zs z).mpr ⟨hin, hex⟩)]
  obtain ⟨h1, h2, h3, -⟩ := Program.sets_of_none hnone
  exact ⟨h1, h2, h3⟩

theorem State.bench_of_lasting (h : u.lasting = s.lasting) : u.slots = s.slots ∧ u.tone = s.tone ∧ u.chans = s.chans :=
  ⟨(congrArg State.slots h :), (congrArg State.tone h :), (congrArg State.chans h :)⟩

/-- EXCLUDE_ZONES takes every zone of a slot's program: the slot is IDLE (R84). -/
theorem exclude_slot (hs : s.safe = true) (hk : s.slots[k].state ≠ .idle)
    (hr : s.progs[progOfSlot k].requested &&& ~~~zs = 0#64) :
    let u := s.exclude zs
    u.slots[k] = ⟨.idle, none, none⟩ ∧ u.tone[k].cond = .stopped ∧
      u.progs[progOfSlot k].state = .ended ∧ u.progs[progOfSlot k].endReason = some .noZones ∧
      (∀ w id n ch, s.slots[k].window = some w → w.source = .clip id n ch →
        u.chans[ch].state = .free ∧ u.chans[ch].user = none ∧ u.chans[ch].clip = none) ∧
      (∀ q : Port, (u.port q).has .alarm = true) ∧
      (u.port s.progs[progOfSlot k].owner).has .program = true ∧
      (u.port s.progs[progOfSlot k].owner).changed.getLsbD k.val = true ∧
      (∀ j : Fin 2, j ≠ k → s.progs[progOfSlot j].requested &&& ~~~zs ≠ 0#64 →
        u.slots[j] = s.slots[j] ∧ u.tone[j] = s.tone[j]) := by
  intro u
  have hlaws := State.claimLaws_of_safe hs
  obtain ⟨hop, -, -, -⟩ := hlaws.slot_program hk
  let v := s.barred zs
  have hvp (q : ProgId) : v.progs[q] = s.progs[q].without (zs &&& ~~~s.excludedSet) := s.barred_prog zs q
  obtain ⟨hg, hh, hw⟩ := hlaws.table.barred_empty hr
  have hvop : v.progs[progOfSlot k].isOpen = true := by rw [hvp]; exact hop
  obtain ⟨hslot, htone, halarm, hchan⟩ := State.settleAll_slot_ends (s := v) hk hvop hg hh hw
  have hlast : u.lasting = v.settleAll.lasting := State.finish_lasting s v Cause.event
  have hprog (q : ProgId) : u.progs[q] = v.settleAll.progs[q] := State.finish_state ..
  obtain ⟨hslots, htones, hchans⟩ := State.bench_of_lasting hlast
  have hended := v.settleAll_ended (Or.inr hvop) hg hh hw
  have hrec : v.settleAll.progs[progOfSlot k] = v.progs[progOfSlot k].finished .noZones := by
    rcases v.settleAll_prog (progOfSlot k) with ⟨e, -⟩ | ⟨-, hkeep⟩
    · exact e
    · rcases hkeep hvop with e | ⟨-, e | e⟩
      · exact absurd hg e
      · exact absurd hh e
      · exact absurd hw e
  have hchg : s.progs[progOfSlot k].changed v.settleAll.progs[progOfSlot k] = true :=
    Program.changed_of_state fun e => ((Program.isOpen_iff _).mp hop).2 (e.trans hended)
  have hnote := State.finish_raised s v (c := Cause.event) (fun e => by cases e) hchg
  have howner : v.settleAll.progs[progOfSlot k].owner = s.progs[progOfSlot k].owner := by
    rw [State.settleAll_progOwner, hvp]; rfl
  rw [howner] at hnote
  have hkept := State.settleAll_finish_louder s v Cause.event
  refine ⟨?_, ?_, ?_, ?_, fun w id n ch hwin hsrc => ?_, fun q => (hkept q).1 _ (halarm q), hnote.1, hnote.2, fun j hj hne => ?_⟩
  · simp only [hslots]; exact hslot
  · simp only [htones]; rw [show v.settleAll.tone[k] = Player.stopped from htone]; rfl
  · rw [hprog]; exact hended
  · rw [hprog, hrec]; rfl
  · have hbind : (s.slots[k].window.bind fun w => w.source.channel) = some ch := by
      rw [hwin, Option.bind_some, hsrc]; rfl
    have hres := State.reserved_of_users (State.users_of_safe hs) hbind
    have hvres : v.Reserved k ch := by
      refine ⟨fun q hq => ?_, hres.user, hres.windows⟩
      rw [hvp] at hq ⊢
      exact hres.progs q hq
    simp only [hchans]
    rw [show v.settleAll.chans[ch] = _ from hchan ch hvres hbind]
    exact ⟨rfl, rfl, rfl⟩
  · have hstay := State.settleAll_slot_stays (s := v) (j := j) fun hjop => by
      rw [hvp] at hjop ⊢
      have hjalarm := (hlaws.alarmRole (p := progOfSlot j) j.isLt hjop).1
      refine ⟨fun ht => ?_, Program.left_of_without (fun z => (hlaws.table.cell z).sound _) fun h0 => hne ?_⟩
      · have := hlaws.table.roles.tail_live (progOfSlot j) (beq_iff_eq.mpr ht)
        exact absurd (hjalarm.symm.trans this) (by decide)
      · refine (zoneSet_eq_zero_iff _).mpr fun z => ?_
        have hz := (zoneSet_eq_zero_iff _).mp h0 z
        rw [getLsbD_and_compl] at hz ⊢
        cases hq : s.progs[progOfSlot j].requested.getLsbD z.val
        · rfl
        · rw [hq, Bool.true_and, Bool.not_eq_false'] at hz
          rw [((s.freshly_iff zs z).mp hz).1]; rfl
    simp only [hslots, htones]
    exact hstay

end SlotExcluded

section ZoneCommands
variable {s : State} {t : Txn} {zs : ZoneSet}

theorem State.alarmActive_clockThrough (s : State) (p : Port) (n : Nat) :
    (s.clockThrough p n).alarmActive = s.alarmActive := by
  simp only [State.alarmActive, State.clockThrough_slots]

theorem setShield_eq (hl : s.listens t = true) (hs : s.served = true) (level : Byte) :
    exec (.setShield t zs level) s = .next
      (if t.port ≠ .shw then s.replying t 9 0x17#8 .privilege []
       else if s.alarmActive = true then s.replying t 9 0x17#8 .alarmActive []
       else if zs = 0#64 ∨ level.toNat < 3 ∨ 7 < level.toNat ∨
          ∃ z : Zone, zs.getLsbD z.val = true ∧ s.zones[z].showZone = false then s.replying t 9 0x17#8 .param []
       else State.replying { s with
        zones := remap s.zones fun z r => if zs.getLsbD z.val then { r with shield := level.toNat } else r }
          t 9 0x17#8 .ok []) := by
  show portCommand s t _ _ _ = _
  have hparam (p : Port) (n : Nat) : (zs == 0#64 || !inRange 3 7 level.toNat ||
      !((zonesOf zs).all fun z => (s.clockThrough p n).zones[z].showZone)) = true ↔
      zs = 0#64 ∨ level.toNat < 3 ∨ 7 < level.toNat ∨ ∃ z : Zone, zs.getLsbD z.val = true ∧ s.zones[z].showZone = false := by
    simp only [State.clockThrough_zones, Bool.or_eq_true, beq_iff_eq, Bool.not_eq_true', inRange, Bool.and_eq_false_iff,
      decide_eq_false_iff_not, Nat.not_le, List.all_eq_false, mem_zonesOf, Bool.not_eq_true, or_assoc]
  by_cases hp : t.port = .shw
  · rw [if_neg (not_not_intro hp)]
    by_cases ha : s.alarmActive = true
    · rw [if_pos ha]
      refine portCommand_of_listens hl hs _ _ _ s _ _ ?_ rfl rfl rfl
      simp only [hp, bne_self_eq_false, State.alarmActive_clockThrough, ha, if_true, Bool.false_eq_true, if_false, refuse]
    · rw [if_neg ha]
      by_cases hz : zs = 0#64 ∨ level.toNat < 3 ∨ 7 < level.toNat ∨ ∃ z : Zone, zs.getLsbD z.val = true ∧ s.zones[z].showZone = false
      · rw [if_pos hz]
        refine portCommand_of_listens hl hs _ _ _ s _ _ ?_ rfl rfl rfl
        simp only [hp, bne_self_eq_false, State.alarmActive_clockThrough, ha, Bool.false_eq_true, if_false]
        exact if_pos ((hparam _ _).mpr hz)
      · rw [if_neg hz]
        refine portCommand_of_listens hl hs _ _ _ _ _ _ ?_ rfl rfl rfl
        simp only [hp, bne_self_eq_false, State.alarmActive_clockThrough, ha, Bool.false_eq_true, if_false]
        refine (if_neg fun h => hz ((hparam _ _).mp h)).trans ?_
        simp only [okWith, State.onZones, State.clockThrough_withZones, State.clockThrough_zones]
  · rw [if_pos hp]
    refine portCommand_of_listens hl hs _ _ _ s _ _ ?_ rfl rfl rfl
    rw [if_pos (bne_iff_ne.mpr hp)]; rfl

theorem readmitZones_eq (hl : s.listens t = true) (hs : s.served = true) :
    exec (.readmitZones t zs) s = .next
      (if t.port ≠ .saf then s.replying t 8 0x1A#8 .privilege []
       else if zs = 0#64 then s.replying t 8 0x1A#8 .param []
       else State.replying { s with
        zones := remap s.zones fun z r => if zs.getLsbD z.val then { r with excluded := false } else r }
          t 8 0x1A#8 .ok []) := by
  show portCommand s t _ _ _ = _
  by_cases hp : t.port = .saf
  · rw [if_neg (not_not_intro hp)]
    by_cases hz : zs = 0#64
    · rw [if_pos hz]
      refine portCommand_of_listens hl hs _ _ _ s _ _ ?_ rfl rfl rfl
      simp only [hp, bne_self_eq_false, hz, beq_self_eq_true, if_true, Bool.false_eq_true, if_false, refuse]
    · rw [if_neg hz]
      refine portCommand_of_listens hl hs _ _ _ _ _ _ ?_ rfl rfl rfl
      simp only [hp, bne_self_eq_false, beq_eq_false_iff_ne.mpr hz, Bool.false_eq_true, if_false, okWith, State.onZones,
        State.clockThrough_withZones, State.clockThrough_zones]
  · rw [if_pos hp]
    refine portCommand_of_listens hl hs _ _ _ s _ _ ?_ rfl rfl rfl
    rw [if_pos (bne_iff_ne.mpr hp)]; rfl

theorem excludeZones_refused (hl : s.listens t = true) (hs : s.served = true) :
    (t.port ≠ .saf → exec (.excludeZones t zs) s = .next (s.replying t 8 0x19#8 .privilege [])) ∧
    (t.port = .saf → zs = 0#64 → exec (.excludeZones t zs) s = .next (s.replying t 8 0x19#8 .param [])) := by
  refine ⟨fun hp => ?_, fun hp hz => ?_⟩
  all_goals
    show portCommand s t _ _ _ = _
    refine portCommand_of_listens hl hs _ _ _ s _ _ ?_ rfl rfl rfl
  · rw [if_pos (bne_iff_ne.mpr hp)]; rfl
  · simp only [hp, hz, bne_self_eq_false, beq_self_eq_true, if_true, Bool.false_eq_true, if_false, refuse]

end ZoneCommands

/-- Settles O32: an exclusion strips the zones and settles programs that agree with the zone table. -/
theorem shieldsExclusionsAndReadmissions : Obligations.ShieldsExclusionsAndReadmissions := by
  unfold Obligations.ShieldsExclusionsAndReadmissions
  refine ⟨fun t zones level s hl hs => setShield_eq hl hs level, fun t zones s hl ha hk ht hp hz hx => ?_,
    fun t zones s hl hs => excludeZones_refused hl hs, fun t zones s k hl hs hp hz hk hr => ?_,
    fun t zones s hl hs => readmitZones_eq hl hs⟩
  · obtain ⟨f, hf⟩ := exec_excludeZones hl hp hz
    refine ⟨_, hf, State.replied_answered, ?_⟩
    simp only [State.replied_progs, State.replied_zones]
    exact exclude_zone (s := s.onPort t.port f) ha hk ht hx zones
  · obtain ⟨f, hf⟩ := exec_excludeZones hl hp hz
    refine ⟨_, hf, ?_⟩
    simp only [State.replied_progs, State.replied_slots, State.replied_tone, State.replied_chans, State.replied_has,
      State.replied_changed]
    exact exclude_slot (s := s.onPort t.port f) hs hk hr

end Sys2Proof.Machine
end

section
namespace Sys2Proof.Machine

/-! ### The table after a program has claimed zones (R16, R28, R30 to R32, R42) -/

section Claiming
variable {s t u : State} {p q o : ProgId} {y z : Zone} {zs : ZoneSet} {quiet : Bool}

/-- The program has no place in the zone, and the zone's owner is not on its stack. -/
structure State.OpenTo (s : State) (p : ProgId) (z : Zone) : Prop where
  owner : s.zones[z].owner ≠ some p
  stack : p ∉ s.zones[z].stack
  bed : s.zones[z].bed ≠ some p
  apart : ∀ q ∈ s.zones[z].stack, s.zones[z].owner ≠ some q

theorem State.OpenTo.spared (h : s.OpenTo p z) (hs : State.Spares z s t) : t.OpenTo p z := by
  have hz := hs.zone
  exact ⟨by rw [hz]; exact h.owner, by rw [hz]; exact h.stack, by rw [hz]; exact h.bed, by rw [hz]; exact h.apart⟩

theorem State.Spares.kind (h : State.Spares z s t) (q : ProgId) : t.progs[q].kind = s.progs[q].kind :=
  State.kind_of_beyond h.beyond q

theorem State.Spares.matched (h : State.Spares z s t) (hm : s.MatchedAt z) : t.MatchedAt z :=
  hm.congr h.kind (fun q => congrArg (fun b => b.2.1) (h.bits q)) (by rw [h.zone]; exact ⟨rfl, rfl, rfl⟩)

theorem State.passes_of_beyond (h : t.beyond = s.beyond) (hz : t.zones[z] = s.zones[z]) (p : ProgId) :
    t.passes p z = s.passes p z := by
  have hb (q : ProgId) : t.progs[q].kind = s.progs[q].kind ∧ t.progs[q].cls = s.progs[q].cls :=
    ⟨State.kind_of_beyond h q, (congrArg Program.cls (State.bare_apply (State.bare_of_beyond h) q) :)⟩
  rw [Bool.eq_iff_iff]
  by_cases hk : s.progs[p].kind = .bed
  · rw [State.passes_of_bed hk, State.passes_of_bed ((hb p).1.trans hk), hz]
  · rw [State.passes_of_foreground hk, State.passes_of_foreground (fun e => hk ((hb p).1.symm.trans e)), hz]
    simp only [State.beats_iff, (hb _).2]

theorem State.Spares.passes (h : State.Spares z s t) (p : ProgId) : t.passes p z = s.passes p z :=
  State.passes_of_beyond h.beyond h.zone p

theorem State.ousted_of_other (hq : q ≠ o) (he : s.zones[z].evicted ≠ some q) : s.ousted o z q = s.progs[q] := by
  unfold State.ousted
  simp only [he, Ne.symm hq, if_false, ite_self]

theorem Program.granted_addGranted (g : Program) (z : Zone) : (g.addGranted z).granted.getLsbD z.val = true := by
  simp only [Program.addGranted, BitVec.getLsbD_or, zoneBit_getLsbD, decide_true, Bool.or_true]

/-- The displaced owner and the evicted entry no longer own the zone. -/
theorem State.ousted_granted (h : q = o ∨ s.zones[z].evicted = some q) (hk : s.progs[o].kind.resumable = true ∨ q = o) :
    (s.ousted o z q).granted.getLsbD z.val = false := by
  have hno (a : ZoneSet) : (a &&& ~~~zoneBit z).getLsbD z.val = false := by
    rw [getLsbD_and_compl, zoneBit_getLsbD, decide_eq_true rfl, Bool.not_true, Bool.and_false]
  unfold State.ousted
  by_cases hr : s.progs[o].kind.resumable = true
  · simp only [hr, if_true]
    by_cases e : o = q
    · simp only [if_pos e]
      exact hno _
    · simp only [if_neg e, if_pos (h.resolve_left (Ne.symm e))]
      exact hno _
  · have e : o = q := (hk.resolve_left hr).symm
    subst e
    simp only [hr, Bool.false_eq_true, if_false, if_true]
    exact hno _

theorem ZoneRec.mem_of_evicted {r : ZoneRec} (h : r.evicted = some q) : q ∈ r.stack := by
  rw [ZoneRec.evicted_eq] at h
  split at h
  · exact List.mem_of_getLast? h
  · cases h

theorem State.MatchedAt.stack_not_bed (h : s.MatchedAt z) (hq : q ∈ s.zones[z].stack) : s.progs[q].kind ≠ .bed := fun e => by
  have := h.stackKind q hq
  rw [e] at this
  cases this

theorem ZoneRec.mem_displaced {r : ZoneRec} {b : Bool} (h : q ∈ (r.displaced b o).stack) : (q = o ∧ b = true) ∨ q ∈ r.stack := by
  rw [ZoneRec.displaced_stack] at h
  split at h
  · next hb =>
    rcases List.mem_cons.mp h with e | e
    · exact Or.inl ⟨e, hb⟩
    · split at e
      · exact Or.inr (List.dropLast_subset _ e)
      · exact Or.inr e
  · exact Or.inr h

theorem State.kind_takeForeground (s : State) (quiet : Bool) (p q : ProgId) (z : Zone) :
    (s.takeForeground quiet p z).progs[q].kind = s.progs[q].kind :=
  State.kind_of_beyond (s.takeForeground_beyond quiet p z) q

/-- A program that takes a foreground zone owns it, and everybody else's claims stand. -/
theorem State.MatchedAt.takeForeground (h : s.MatchedAt z) (hk : s.progs[p].kind ≠ .bed) (ho : s.OpenTo p z) (quiet : Bool) :
    (s.takeForeground quiet p z).MatchedAt z := by
  have hkind := s.kind_takeForeground quiet p
  have hself : (s.takeForeground quiet p z).progs[p].granted.getLsbD z.val = true := by
    have := State.take_self (s := s) (p := p) (z := z) (Or.inr ⟨ho.stack, ho.owner⟩) quiet
    rw [State.take, if_neg hk] at this
    rw [this]
    exact Program.granted_addGranted ..
  rcases Option.eq_none_or_eq_some s.zones[z].owner with hn | ⟨o, hs⟩
  · have hz : (s.takeForeground quiet p z).zones[z] = { s.zones[z] with owner := some p } := by
      rw [State.takeForeground_of_unowned hn, State.own_zone_self]
    refine ⟨fun q => ?_, fun q e => ?_, fun q hq => ?_, fun b hb => ?_⟩
    · by_cases e : q = p
      · subst e
        rw [hself, hkind, if_neg hk, hz]
        exact iff_of_true rfl rfl
      · have hq : (s.takeForeground quiet p z).progs[q] = s.progs[q] := by
          rw [State.takeForeground_of_unowned hn, State.own_prog, if_neg (Ne.symm e)]
        rw [hq, h.granted q, hz, hn]
        split
        · rfl
        · exact iff_of_false (fun e => by cases e) fun h => e (Option.some.inj h).symm
    · rw [hz] at e; rw [hkind, ← Option.some.inj e]; exact hk
    · rw [hz] at hq; rw [hkind]; exact h.stackKind q hq
    · rw [hz] at hb; rw [hkind]; exact h.bedKind b hb
  · have hz : (s.takeForeground quiet p z).zones[z] = { s.zones[z].displaced s.progs[o].kind.resumable o with owner := some p } :=
      State.takeForeground_zone hs quiet p
    have hpo : p ≠ o := fun e => ho.owner (by rw [hs, e])
    have hprog (q : ProgId) (e : q ≠ p) : (s.takeForeground quiet p z).progs[q] = s.ousted o z q := by
      rw [State.takeForeground_prog hs, if_neg (Ne.symm e)]
    refine ⟨fun q => ?_, fun q e => ?_, fun q hq => ?_, fun b hb => ?_⟩
    · by_cases e : q = p
      · subst e
        rw [hself, hkind, if_neg hk, hz]
        exact iff_of_true rfl rfl
      · rw [hkind, hz, hprog q e]
        by_cases hkq : s.progs[q].kind = .bed
        · rw [if_pos hkq]
          have hqo : q ≠ o := fun eo => h.ownerKind o hs (eo ▸ hkq)
          have hqe : s.zones[z].evicted ≠ some q := fun eq => h.stack_not_bed (ZoneRec.mem_of_evicted eq) hkq
          rw [State.ousted_of_other hqo hqe, h.granted q, if_pos hkq]
          exact iff_of_eq (congrArg (· = some q) (ZoneRec.displaced_bed ..).symm)
        · rw [if_neg hkq]
          refine iff_of_false ?_ fun h => e (Option.some.inj h).symm
          by_cases hqo : q = o
          · rw [State.ousted_granted (Or.inl hqo) (Or.inr hqo)]; decide
          · by_cases hqe : s.zones[z].evicted = some q
            · by_cases hr : s.progs[o].kind.resumable = true
              · rw [State.ousted_granted (Or.inr hqe) (Or.inl hr)]; decide
              · have hsame : s.ousted o z q = s.progs[q] := by
                  unfold State.ousted
                  simp only [hr, Bool.false_eq_true, if_false, if_neg (Ne.symm hqo)]
                rw [hsame, h.granted q, if_neg hkq]
                exact ho.apart q (ZoneRec.mem_of_evicted hqe)
            · rw [State.ousted_of_other hqo hqe, h.granted q, if_neg hkq, hs]
              exact fun e => hqo (Option.some.inj e).symm
    · rw [hz] at e; rw [hkind, ← Option.some.inj e]; exact hk
    · rw [hz] at hq; rw [hkind]
      rcases ZoneRec.mem_displaced hq with ⟨rfl, hr⟩ | hq
      · exact hr
      · exact h.stackKind q hq
    · rw [hz] at hb; rw [hkind]; exact h.bedKind b (by rw [← hb]; exact (ZoneRec.displaced_bed ..).symm)

theorem State.MatchedAt.takeBed (h : s.MatchedAt z) (hk : s.progs[p].kind = .bed) (hb : s.zones[z].bed = none) :
    (s.takeBed p z).MatchedAt z := by
  have hkind (q : ProgId) : (s.takeBed p z).progs[q].kind = s.progs[q].kind := State.kind_of_beyond (s.takeBed_beyond p z) q
  have hz : (s.takeBed p z).zones[z] = { s.zones[z] with bed := some p } := (s.takeBed_zone p z z).trans (if_pos rfl)
  refine ⟨fun q => ?_, fun q e => ?_, fun q hq => ?_, fun b e => ?_⟩
  · rw [hkind, hz, State.takeBed_prog]
    by_cases e : p = q
    · subst e
      rw [if_pos rfl, if_pos hk, Program.granted_addGranted]
      exact iff_of_true rfl rfl
    · rw [if_neg e, h.granted q, hb]
      split
      · exact iff_of_false (fun e => by cases e) fun h => e (Option.some.inj h)
      · rfl
  · rw [hz] at e; rw [hkind]; exact h.ownerKind q e
  · rw [hz] at hq; rw [hkind]; exact h.stackKind q hq
  · rw [hz] at e; rw [hkind, ← Option.some.inj e]; exact hk

theorem State.MatchedAt.take (h : s.MatchedAt z) (ho : s.OpenTo p z) (hp : s.passes p z = true) (quiet : Bool) :
    (s.take quiet p z).MatchedAt z := by
  unfold State.take
  split
  · next hk => exact h.takeBed hk ((State.passes_of_bed hk z).mp hp)
  · next hk => exact h.takeForeground hk ho quiet

theorem State.MatchedAt.onProg (h : s.MatchedAt z) (p : ProgId) {f : Program → Program}
    (hf : ∀ g, (f g).kind = g.kind ∧ (f g).granted = g.granted) : (s.onProg p f).MatchedAt z := by
  have hq (q : ProgId) : (s.onProg p f).progs[q].kind = s.progs[q].kind ∧ (s.onProg p f).progs[q].granted = s.progs[q].granted := by
    by_cases e : q = p
    · subst e; rw [State.onProg_progs_self]; exact hf _
    · rw [State.onProg_progs_ne s e]; exact ⟨rfl, rfl⟩
  exact h.congr (fun q => (hq q).1) (fun q => by rw [(hq q).2]) ⟨rfl, rfl, rfl⟩

theorem State.MatchedAt.claimOne (h : s.MatchedAt z) (ho : s.OpenTo p z) (quiet : Bool) : (s.claimOne quiet p z).MatchedAt z := by
  unfold State.claimOne
  split
  · exact h
  · split
    · next hp => exact h.take ho hp quiet
    · exact h.onProg p fun _ => ⟨rfl, rfl⟩

theorem foldl_matched {f : State → Zone → State} (hf : ∀ s z, State.StepAt z s (f s z)) {l : List Zone} (hl : l.Nodup)
    (h : s.Matched) (hone : ∀ z ∈ l, ∀ t, State.Spares z s t → (f t z).MatchedAt z) : (l.foldl f s).Matched := by
  intro z
  by_cases hz : z ∈ l
  · obtain ⟨t, h1, h2⟩ := foldl_turn hf hl hz s
    exact h2.matched (hone z hz t h1)
  · exact (foldl_spares hf hz s).matched (h z)

theorem State.Matched.claimEach (h : s.Matched) (ho : ∀ z : Zone, zs.getLsbD z.val = true → s.OpenTo p z) (quiet : Bool) :
    (s.claimEach quiet p zs).Matched :=
  foldl_matched (fun s z => s.claimOne_stepAt quiet p z) (zonesOf_nodup zs) h fun z hz _ hs =>
    (hs.matched (h z)).claimOne ((ho z ((mem_zonesOf _ _).mp hz)).spared hs) quiet

theorem State.Matched.takeAll (h : s.Matched)
    (ho : ∀ z : Zone, zs.getLsbD z.val = true → s.OpenTo p z ∧ s.passes p z = true) (quiet : Bool) :
    (s.takeAll quiet p zs).Matched := by
  rw [State.takeAll_eq]
  refine foldl_matched (fun s z => s.take_stepAt quiet p z) (zonesOf_nodup zs)
    (fun z => (h z).onProg p fun _ => ⟨rfl, rfl⟩) fun z hz t hs => ?_
  obtain ⟨h1, h2⟩ := ho z ((mem_zonesOf _ _).mp hz)
  have hallow : (s.allow p).OpenTo p z := ⟨h1.owner, h1.stack, h1.bed, h1.apart⟩
  refine (hs.matched ((h z).onProg p fun _ => ⟨rfl, rfl⟩)).take (hallow.spared hs) ?_ quiet
  rw [hs.passes, State.passes_of_beyond (s.allow_beyond p) rfl]
  exact h2

end Claiming

end Sys2Proof.Machine
end

section
namespace Sys2Proof.Machine

/-! ### O30: zones are added to and dropped from a program -/

section Adding
variable {s t u : State} {p q o : ProgId} {y z : Zone} {zs : ZoneSet} {quiet : Bool}

theorem State.openTo_of_agree (ha : s.claimsAgree = true) (hk : s.kindsLawful = true)
    (hg : s.progs[p].granted.getLsbD z.val = false) (hh : s.progs[p].held.getLsbD z.val = false) : s.OpenTo p z := by
  have hm := State.matched_of_agree ha hk
  obtain ⟨h1, h2⟩ := (hm z).not_holder hg
  refine ⟨h1, fun hs => ?_, h2, fun q hq ho => ?_⟩
  · rw [(State.held_of_agree ha p z).mpr hs] at hh
    cases hh
  · have hheld := (State.held_of_agree ha q z).mpr hq
    have hgr := ((hm z).granted q).mpr ((if_neg ((hm z).ownerKind q ho)).symm ▸ ho)
    have hc := Program.bits_of_claim (State.claim_of_agree ha q z)
    obtain ⟨-, h3, h4, -⟩ := hc
    rw [hgr] at h3
    rw [hheld] at h4
    have e1 := of_decide_eq_true h3.symm
    have e2 := of_decide_eq_true h4.symm
    exact absurd (e1.symm.trans e2) (by decide)

/-- The turn of one claimed zone: taken where it passes, waited for otherwise (R31). -/
theorem State.claimEach_turn (hz : zs.getLsbD z.val = true) (hx : s.zones[z].excluded = false) (ho : s.OpenTo p z) (quiet : Bool) :
    let r := s.claimEach quiet p zs
    (s.passes p z = true → r.progs[p].granted.getLsbD z.val = true ∧
      if s.progs[p].kind = .bed then r.zones[z].bed = some p ∧ r.zones[z].owner = s.zones[z].owner ∧ r.zones[z].stack = s.zones[z].stack
      else r.zones[z].owner = some p) ∧
    (s.passes p z = false → r.zones[z] = s.zones[z] ∧ r.progs[p].waiting.getLsbD z.val = true) := by
  intro r
  obtain ⟨t, h1, h2⟩ := foldl_turn (fun s z => s.claimOne_stepAt quiet p z) (zonesOf_nodup zs) ((mem_zonesOf _ _).mpr hz) s
  have hot := ho.spared h1
  have hkt := h1.kind p
  have hpt := h1.passes p
  have hbits (f : Bool × Bool × Bool × Bool → Bool) : f (r.progs[p].bitsAt z) = f ((t.claimOne quiet p z).progs[p].bitsAt z) :=
    congrArg f (h2.bits p)
  have hzone : r.zones[z] = (t.claimOne quiet p z).zones[z] := h2.zone
  have hnx : ¬(t.zones[z].excluded = true) := by rw [h1.zone, hx]; decide
  refine ⟨fun hp => ?_, fun hp => ?_⟩
  · have htake : t.claimOne quiet p z = t.take quiet p z := by
      rw [State.claimOne, if_neg hnx, if_pos (hpt.trans hp)]
    rw [htake] at hzone
    refine ⟨?_, ?_⟩
    · refine (hbits fun b => b.2.1).trans ?_
      rw [htake, State.take_self (Or.inr ⟨hot.stack, hot.owner⟩)]
      exact Program.granted_addGranted ..
    · rw [hzone]
      by_cases hk : s.progs[p].kind = .bed
      · rw [if_pos hk, State.take, if_pos (hkt.trans hk), State.takeBed_zone, if_pos rfl, h1.zone]
        exact ⟨rfl, rfl, rfl⟩
      · rw [if_neg hk]
        exact t.take_owner quiet (fun e => hk (hkt.symm.trans e)) z
  · have hwait : t.claimOne quiet p z = t.onProg p fun g => g.addWaiting z := by
      rw [State.claimOne, if_neg hnx, if_neg (by rw [hpt, hp]; decide)]
    rw [hwait] at hzone
    refine ⟨hzone.trans h1.zone, (hbits fun b => b.2.2.2).trans ?_⟩
    rw [hwait, State.onProg_progs_self]
    simp only [Program.bitsAt, Program.addWaiting, BitVec.getLsbD_or, zoneBit_getLsbD, decide_true, Bool.or_true]

theorem State.claimEach_spares (hz : zs.getLsbD z.val = false) (s : State) (quiet : Bool) (p : ProgId) :
    State.Spares z s (s.claimEach quiet p zs) :=
  foldl_spares (fun s z => s.claimOne_stepAt quiet p z) (fun h => by rw [mem_zonesOf, hz] at h; cases h) s

theorem exec_addZones {t : Txn} {prog : Byte} (hl : s.listens t = true) (hp : prog.toNat = p.val)
    (h2 : 2 ≤ p.val) (ho : s.progs[p].owner = t.port) (hr : s.progs[p].routeSlot = none) (hop : s.progs[p].isOpen = true)
    (ht : s.progs[p].state ≠ .tail) (hz : zs ≠ 0#64) (hal : s.alarmActive = true → s.progs[p].cls ≤ 2) :
    ∃ f, let u := (s.onPort t.port f).addZonesTo p zs ⟨some p, false⟩
      exec (.addZones t prog zs) s = .next (u.replied t 0x11#8 .ok
        (out8 (progStateCode u.progs[p].state) ++ putZones u.progs[p].granted ++ putZones u.progs[p].waiting)) := by
  obtain ⟨hfree, hend⟩ := (Program.isOpen_iff _).mp hop
  obtain ⟨f, hf⟩ := portCommand_next hl 0x11#8 9 fun s =>
    match s.ownedProgram t.port prog (zs == 0#64) with
    | .error e => refuse s e
    | .ok r =>
      if s.alarmActive && decide (3 ≤ s.progs[r].cls) then refuse s .alarmActive
      else if s.progs[r].state = .tail ∨ s.progs[r].state = .ended then refuse s .state
      else
        let s1 := s.addZonesTo r zs ⟨some r, false⟩
        let g := s1.progs[r]
        okWith s1 (out8 (progStateCode g.state) ++ putZones g.granted ++ putZones g.waiting)
  refine ⟨f, ?_⟩
  have hmine : (s.onPort t.port f).ownedProgram t.port prog (zs == 0#64) = .ok p :=
    State.ownedProgram_of_mine hp (beq_eq_false_iff_ne.mpr hz) h2 ho hr hfree
  have halarm : ¬(((s.onPort t.port f).alarmActive && decide (3 ≤ (s.onPort t.port f).progs[p].cls)) = true) := by
    rw [Bool.and_eq_true, decide_eq_true_iff]
    rintro ⟨h1, h2⟩
    exact absurd h2 (Nat.not_le.mpr (Nat.lt_succ_of_le (hal h1)))
  refine Eq.trans hf ?_
  simp only [hmine, if_neg halarm, if_neg (show ¬((s.onPort t.port f).progs[p].state = .tail ∨ (s.onPort t.port f).progs[p].state = .ended)
    from not_or.mpr ⟨ht, hend⟩)]
  rfl

/-- An open program that is not in TAIL and has a zone keeps its sets through the settling. -/
theorem State.settleAll_keeps (ht : s.progs[p].state ≠ .tail)
    (hn : s.progs[p].granted ≠ 0#64 ∨ s.progs[p].waiting ≠ 0#64) : s.settleAll.progs[p].steady = s.progs[p].steady := by
  rcases s.settleAll_prog p with ⟨-, -, hg, hh⟩ | ⟨e, -⟩
  · rcases hh with hh | ⟨-, hw⟩
    · exact absurd hh ht
    · rcases hn with h | h
      · exact absurd hg h
      · exact absurd hw h
  · exact e

/-- Owners and bed slots stand through the end of an operation. -/
theorem State.Matched.finish_zone (h : s.Matched) (s0 : State) (c : Cause) (z : Zone) :
    (State.finish s0 s c).zones[z].owner = s.zones[z].owner ∧ (State.finish s0 s c).zones[z].bed = s.zones[z].bed := by
  have hc := State.finish_claims s0 s c
  exact ⟨(State.owner_of_claims hc z).trans (State.settleAll_owner h z), (State.bed_of_claims hc z).trans (State.settleAll_bed h z)⟩

theorem Program.claims_of_steady {g k : Program} (h : k.steady = g.steady) :
    k.granted = g.granted ∧ k.held = g.held ∧ k.waiting = g.waiting ∧ k.requested = g.requested :=
  ⟨(congrArg Program.granted h :), (congrArg Program.held h :), (congrArg Program.waiting h :), (congrArg Program.requested h :)⟩

theorem State.fresh_openTo (ha : s.claimsAgree = true) (hk : s.kindsLawful = true)
    (hz : (s.fresh p zs).getLsbD z.val = true) : s.OpenTo p z := by
  obtain ⟨-, -, hg, hh⟩ := (s.fresh_iff p zs z).mp hz
  exact State.openTo_of_agree ha hk hg hh

theorem State.claimMore_single (ht : s.progs[p].together = false) : s.claimMore quiet p zs = s.claimEach quiet p (s.fresh p zs) := by
  rw [State.claimMore_eq, if_neg (by rw [ht]; decide)]

theorem State.state_of_beyond (h : t.beyond = s.beyond) (q : ProgId) : t.progs[q].state = s.progs[q].state :=
  State.state_of_bare (State.bare_of_beyond h) q

/-- What ADD_ZONES leaves of a zone, for a program that takes its zones one by one (R31, R42). -/
theorem addZonesTo_single (ha : s.claimsAgree = true) (hk : s.kindsLawful = true) (ht : s.progs[p].state ≠ .tail)
    (hs : s.progs[p].together = false) (zs : ZoneSet) (c : Cause) (z : Zone) :
    let u := s.addZonesTo p zs c
    ((s.fresh p zs).getLsbD z.val = true →
      (s.passes p z = true → u.progs[p].granted.getLsbD z.val = true ∧
        if s.progs[p].kind = .bed then u.zones[z].bed = some p ∧ u.zones[z].owner = s.zones[z].owner
        else u.zones[z].owner = some p) ∧
      (s.passes p z = false → u.zones[z].owner = s.zones[z].owner ∧ u.zones[z].bed = s.zones[z].bed ∧
        u.progs[p].waiting.getLsbD z.val = true)) ∧
    ((s.fresh p zs).getLsbD z.val = false → u.zones[z].owner = s.zones[z].owner ∧ u.zones[z].bed = s.zones[z].bed) := by
  intro u
  let r := s.claimEach c.quiet p (s.fresh p zs)
  have hu : u = State.finish s r c := by
    show State.finish s (s.claimMore c.quiet p zs) c = _
    rw [State.claimMore_single hs]
  have hm : r.Matched := (State.matched_of_agree ha hk).claimEach (fun z hz => State.fresh_openTo ha hk hz) c.quiet
  obtain ⟨hfo, hfb⟩ := hm.finish_zone s c z
  have hrt : r.progs[p].state ≠ .tail := by
    rw [show r.progs[p].state = s.progs[p].state from State.state_of_beyond (State.claimEach_beyond ..) p]
    exact ht
  have hprog : (State.finish s r c).progs[p] = r.settleAll.progs[p] := State.finish_state ..
  rw [hu]
  refine ⟨fun hz => ?_, fun hz => ?_⟩
  · obtain ⟨-, hx, -, -⟩ := (s.fresh_iff p zs z).mp hz
    obtain ⟨hpass, hfail⟩ := State.claimEach_turn hz hx (State.fresh_openTo ha hk hz) c.quiet
    refine ⟨fun hp => ?_, fun hp => ?_⟩
    · obtain ⟨hg, hown⟩ := hpass hp
      have hst := State.settleAll_keeps hrt (Or.inl (ne_zero_of_bit hg))
      rw [hprog, (Program.claims_of_steady hst).1, hfo, hfb]
      refine ⟨hg, ?_⟩
      by_cases hb : s.progs[p].kind = .bed
      · rw [if_pos hb] at hown ⊢
        exact ⟨hown.1, hown.2.1⟩
      · rw [if_neg hb] at hown ⊢
        exact hown
    · obtain ⟨hzone, hw⟩ := hfail hp
      have hst := State.settleAll_keeps hrt (Or.inr (ne_zero_of_bit hw))
      rw [hprog, (Program.claims_of_steady hst).2.2.1, hfo, hfb, hzone]
      exact ⟨rfl, rfl, hw⟩
  · have hsp := State.claimEach_spares hz s c.quiet p
    rw [hfo, hfb, hsp.zone]
    exact ⟨rfl, rfl⟩

/-- A BED program's claims leave every other program and every stack. -/
theorem State.claimEach_bed (hk : s.progs[p].kind = .bed) (quiet : Bool) (zs : ZoneSet) :
    (∀ q : ProgId, q ≠ p → (s.claimEach quiet p zs).progs[q] = s.progs[q]) ∧
      ∀ z : Zone, (s.claimEach quiet p zs).zones[z].stack = s.zones[z].stack := by
  have key : (s.claimEach quiet p zs).progs[p].kind = .bed ∧
      (∀ q : ProgId, q ≠ p → (s.claimEach quiet p zs).progs[q] = s.progs[q]) ∧
      ∀ z : Zone, (s.claimEach quiet p zs).zones[z].stack = s.zones[z].stack := by
    refine List.foldlRecOn (motive := fun u : State => u.progs[p].kind = .bed ∧ (∀ q : ProgId, q ≠ p → u.progs[q] = s.progs[q]) ∧
      ∀ z : Zone, u.zones[z].stack = s.zones[z].stack) _ _ ⟨hk, fun _ _ => rfl, fun _ => rfl⟩ fun u hu y _ => ?_
    obtain ⟨h1, h2, h3⟩ := hu
    refine ⟨(State.kind_of_beyond (State.claimOne_beyond ..) p).trans h1, ?_⟩
    have hone : u.claimOne quiet p y = if u.zones[y].excluded then u else if u.passes p y then u.takeBed p y
        else u.onProg p fun g => g.addWaiting y := by
      rw [State.claimOne, State.take, if_pos h1]
    rw [hone]
    split
    · exact ⟨h2, h3⟩
    · split
      · refine ⟨fun q hq => ?_, fun z => ?_⟩
        · rw [State.takeBed_prog, if_neg (Ne.symm hq)]; exact h2 q hq
        · rw [State.takeBed_zone]
          split
          · exact h3 z
          · exact h3 z
      · refine ⟨fun q hq => (State.onProg_progs_ne _ hq _).trans (h2 q hq), h3⟩
  exact key.2

theorem addZonesTo_bed_stack (ha : s.claimsAgree = true) (hk : s.kindsLawful = true) (hs : s.progs[p].together = false)
    (hb : s.progs[p].kind = .bed) (hf : s.statesFollow = true) (zs : ZoneSet) (c : Cause) (z : Zone) :
    (s.addZonesTo p zs c).zones[z].stack = s.zones[z].stack := by
  let r := s.claimEach c.quiet p (s.fresh p zs)
  have hu : s.addZonesTo p zs c = State.finish s r c := by
    show State.finish s (s.claimMore c.quiet p zs) c = _
    rw [State.claimMore_single hs]
  obtain ⟨hother, hstack⟩ := State.claimEach_bed hb c.quiet (s.fresh p zs)
  have hm : r.Matched := (State.matched_of_agree ha hk).claimEach (fun z hz => State.fresh_openTo ha hk hz) c.quiet
  have hset : r.settleAll = r.settleProgram p := State.settleAll_of_others fun q hq => by
    rw [show r.progs[q] = s.progs[q] from hother q hq]
    exact State.settled_of_follow hf q
  have hp : p ∉ r.zones[z].stack := by
    rw [show r.zones[z].stack = s.zones[z].stack from hstack z]
    exact fun h => (State.matched_of_agree ha hk z).stack_not_bed h hb
  have hc : (State.finish s r c).zones[z].stack = r.settleAll.zones[z].stack := State.stack_of_claims (State.finish_claims s r c) z
  rw [hu, hc, hset]
  rcases State.settleProgram_holders hm p z with e | e
  · rw [e]; exact hstack z
  · rw [e]
    refine Eq.trans (List.filter_eq_self.mpr fun q hq => ?_) (hstack z)
    exact bne_iff_ne.mpr fun e => hp (e ▸ hq)

end Adding

end Sys2Proof.Machine
end

section
namespace Sys2Proof.Machine

section AddedTogether
variable {s t u : State} {p q : ProgId} {z : Zone} {zs : ZoneSet}

theorem State.fresh_of_none (hg : s.progs[p].granted = 0#64) (hh : s.progs[p].held = 0#64) (zs : ZoneSet) :
    s.fresh p zs = zs &&& ~~~s.excludedSet := by
  rw [State.fresh, hg, hh, BitVec.or_zero, BitVec.or_zero]

/-- A request that holds the waiting set is what is granted when all of it is taken. -/
theorem Program.grantAll_whole {g : Program} {all : ZoneSet} (hg : g.granted = 0#64) (hh : g.held = 0#64)
    (hr : ∀ z : Zone, g.requested.getLsbD z.val = true → all.getLsbD z.val = true)
    (hw : ∀ z : Zone, g.waiting.getLsbD z.val = true → all.getLsbD z.val = true) :
    (({ g with gotAll := true } : Program).grantAll (zonesOf all)).granted = all ∧
      (({ g with gotAll := true } : Program).grantAll (zonesOf all)).requested = all ∧
      (({ g with gotAll := true } : Program).grantAll (zonesOf all)).waiting = 0#64 ∧
      (({ g with gotAll := true } : Program).grantAll (zonesOf all)).held = 0#64 := by
  rw [Program.grantAll_eq]
  refine ⟨?_, zoneSet_ext fun z => ?_, zoneSet_ext fun z => ?_, ?_⟩
  · show g.granted ||| all = all
    rw [hg, BitVec.zero_or]
  · show (g.requested ||| all).getLsbD z.val = _
    rw [BitVec.getLsbD_or]
    cases hz : g.requested.getLsbD z.val
    · rfl
    · rw [hr z hz]; rfl
  · show (g.waiting &&& ~~~all).getLsbD z.val = _
    rw [getLsbD_and_compl, BitVec.getLsbD_zero]
    cases hz : g.waiting.getLsbD z.val
    · rfl
    · rw [hw z hz]; rfl
  · show g.held &&& ~~~all = 0#64
    rw [hh, BitVec.zero_and]

/-- The sets of a program after the settling, where it is not in TAIL: an end changes no set that is not empty already. -/
theorem State.settleAll_sets (ht : s.progs[p].state ≠ .tail) (hr : s.progs[p].granted = 0#64 → s.progs[p].held = 0#64 →
      s.progs[p].waiting = 0#64 → s.progs[p].requested = 0#64) :
    s.settleAll.progs[p].granted = s.progs[p].granted ∧ s.settleAll.progs[p].held = s.progs[p].held ∧
      s.settleAll.progs[p].waiting = s.progs[p].waiting ∧ s.settleAll.progs[p].requested = s.progs[p].requested := by
  rcases s.settleAll_prog p with ⟨e, -, hg, hh⟩ | ⟨e, -⟩
  · obtain ⟨hh, hw⟩ := hh.resolve_left ht
    rw [e, hg, hh, hw, hr hg hh hw]
    exact ⟨rfl, rfl, rfl, rfl⟩
  · exact Program.claims_of_steady e

/-- Claiming together leaves the program's place in the state machine. -/
theorem addZonesTo_together (ha : s.claimsAgree = true) (hk : s.kindsLawful = true) (ho : s.progs[p].isOpen = true)
    (ht : s.progs[p].state ≠ .tail)
    (hs : s.progs[p].together = true) (hg : s.progs[p].granted = 0#64) (hh : s.progs[p].held = 0#64) (zs : ZoneSet) (c : Cause) :
    let all := s.progs[p].requested ||| (zs &&& ~~~s.excludedSet)
    let u := s.addZonesTo p zs c
    u.progs[p].requested = all ∧
      ((∀ z : Zone, all.getLsbD z.val = true → s.passes p z = true) →
        u.progs[p].granted = all ∧ u.progs[p].waiting = 0#64 ∧
        (∀ z : Zone, all.getLsbD z.val = true →
          if s.progs[p].kind = .bed then u.zones[z].bed = some p else u.zones[z].owner = some p)) ∧
      ((∃ z : Zone, all.getLsbD z.val = true ∧ s.passes p z = false) →
        u.progs[p].granted = 0#64 ∧ u.progs[p].waiting = all ∧
        (∀ z : Zone, u.zones[z].owner = s.zones[z].owner ∧ u.zones[z].bed = s.zones[z].bed)) := by
  intro all u
  have hu : u = State.finish s (s.claimTogether c.quiet p all) c := by
    show State.finish s (s.claimMore c.quiet p zs) c = _
    rw [State.claimMore_eq, if_pos hs, State.fresh_of_none hg hh]
  have hopen (z : Zone) : s.OpenTo p z :=
    State.openTo_of_agree ha hk (by rw [hg, BitVec.getLsbD_zero]) (by rw [hh, BitVec.getLsbD_zero])
  have hm := State.matched_of_agree ha hk
  have hprog (r : State) : (State.finish s r c).progs[p] = r.settleAll.progs[p] := State.finish_state ..
  have hin (z : Zone) (hz : s.progs[p].requested.getLsbD z.val = true) : all.getLsbD z.val = true := by
    rw [BitVec.getLsbD_or, hz, Bool.true_or]
  have hwait : s.progs[p].waiting = s.progs[p].requested := by
    obtain ⟨-, -, -, hx⟩ := State.sets_of_open ha ho
    rw [← hx, hg, hh, BitVec.or_zero, BitVec.zero_or]
  rw [State.claimTogether_eq] at hu
  by_cases hp : ∀ z : Zone, all.getLsbD z.val = true → s.passes p z = true
  · rw [if_pos hp] at hu
    let r := s.takeAll c.quiet p all
    have hself : r.progs[p] = { s.progs[p] with gotAll := true }.grantAll (zonesOf all) :=
      State.takeAll_self (by
        by_cases hb : s.progs[p].kind = .bed
        · exact Or.inl hb
        · exact Or.inr fun z _ => ⟨(hopen z).stack, (hopen z).owner⟩) c.quiet
    obtain ⟨h1, h2, h3, h4⟩ := Program.grantAll_whole (g := s.progs[p]) (all := all) hg hh hin (by rw [hwait]; exact hin)
    rw [← hself] at h1 h2 h3 h4
    have hrt : r.progs[p].state ≠ .tail := by
      rw [show r.progs[p].state = s.progs[p].state from State.state_of_beyond (State.takeAll_beyond ..) p]
      exact ht
    obtain ⟨e1, -, e3, e4⟩ := State.settleAll_sets hrt fun hz _ _ => by rw [h2, ← h1, hz]
    have hmr : r.Matched := hm.takeAll (fun z hz => ⟨hopen z, hp z hz⟩) c.quiet
    rw [hu]
    refine ⟨by rw [hprog, e4, h2], fun _ => ⟨by rw [hprog, e1, h1], by rw [hprog, e3, h3], fun z hz => ?_⟩, fun ⟨z, hz, hf⟩ => ?_⟩
    · obtain ⟨hfo, hfb⟩ := hmr.finish_zone s c z
      rw [hfo, hfb]
      obtain ⟨-, hbed, -, -⟩ := s.takeAll_zone (zs := all) c.quiet p z
      by_cases hb : s.progs[p].kind = .bed
      · rw [if_pos hb, show r.zones[z] = _ from hbed hz hb]
      · rw [if_neg hb]
        exact s.takeAll_owner c.quiet hb hz
    · rw [hp z hz] at hf
      cases hf
  · rw [if_neg hp] at hu
    let r := s.waitTogether p all
    have hself : r.progs[p] = { s.progs[p] with requested := all, waiting := all } := State.onProg_progs_self ..
    have hne : all ≠ 0#64 := fun h0 => hp fun z hz => absurd h0 (ne_zero_of_bit hz)
    have hrt : r.progs[p].state ≠ .tail := by rw [hself]; exact ht
    have hrw : r.progs[p].waiting = all := by rw [hself]
    have hrr : r.progs[p].requested = all := by rw [hself]
    have hrg : r.progs[p].granted = 0#64 := by rw [hself]; exact hg
    obtain ⟨e1, -, e3, e4⟩ := State.settleAll_sets hrt fun _ _ hz => absurd (hrw.symm.trans hz) hne
    have hmr : r.Matched := fun z => (hm z).onProg p fun _ => ⟨rfl, rfl⟩
    rw [hu]
    refine ⟨by rw [hprog, e4, hrr], fun hall => absurd hall hp, fun _ => ⟨by rw [hprog, e1, hrg], by rw [hprog, e3, hrw],
      fun z => hmr.finish_zone s c z⟩⟩

end AddedTogether

section Dropping
variable {s t u : State} {p q : ProgId} {z : Zone} {zs : ZoneSet}

theorem Program.bitsAt_without (g : Program) (hz : zs.getLsbD z.val = true) :
    (g.without zs).bitsAt z = (false, false, false, false) := by
  have h (a : ZoneSet) : (a &&& ~~~zs).getLsbD z.val = false := by
    rw [getLsbD_and_compl, hz, Bool.not_true, Bool.and_false]
  simp only [Program.bitsAt, Program.without, h]

theorem State.dropZonesOf_eq (s : State) (p : ProgId) (zs : ZoneSet) (c : Cause) :
    s.dropZonesOf p zs c =
      State.finish s ((s.dropped p zs).releaseStep c.quiet (s.ownedBy p &&& zs) (s.bedsOf p &&& zs)) c := rfl

theorem State.dropped_apart (s : State) (p : ProgId) (hz : zs.getLsbD z.val = true) :
    (s.dropped p zs).Apart p z ∧ (s.dropped p zs).zones[z].owner ≠ some p ∧ (s.dropped p zs).zones[z].bed ≠ some p := by
  have hzone := s.dropped_zone p zs z
  rw [if_pos hz] at hzone
  obtain ⟨h1, h2, h3⟩ := s.zones[z].strip_places p
  rw [← hzone] at h1 h2 h3
  refine ⟨State.apart_of_none ?_ h1 h2, h1, h3⟩
  rw [State.dropped_self]
  exact Program.bitsAt_without _ hz

/-- A program has no part in a zone outside its request. -/
theorem State.apart_of_unrequested (ha : s.claimsAgree = true) (hr : s.progs[p].requested.getLsbD z.val = false) : s.Apart p z := by
  have hc : s.progs[p].claim z = .none := by
    by_contra hne
    rw [(State.requested_of_agree ha).mpr hne] at hr
    cases hr
  obtain ⟨-, h2, h3, h4⟩ := Program.bits_of_claim (State.claim_of_agree ha p z)
  rw [hc] at h2 h3 h4
  refine ⟨Prod.ext hr (Prod.ext h2 (Prod.ext h3 h4)), fun ho => ?_, fun hs => ?_⟩
  · by_cases hk : s.progs[p].kind = .bed
    · rw [hk]; rfl
    · have := (State.granted_of_agree ha p z).mpr ((if_neg hk).symm ▸ ho)
      rw [h2] at this
      cases this
  · rw [(State.held_of_agree ha p z).mpr hs] at h3
    cases h3

theorem State.dropped_apart_all (ha : s.claimsAgree = true) (hr : s.progs[p].requested &&& ~~~zs = 0#64) (z : Zone) :
    (s.dropped p zs).Apart p z := by
  cases hz : zs.getLsbD z.val
  · have hreq : s.progs[p].requested.getLsbD z.val = false := by
      have := getLsbD_and_compl s.progs[p].requested zs z
      rw [hr, BitVec.getLsbD_zero, hz, Bool.not_false, Bool.and_true] at this
      exact this.symm
    obtain ⟨hb, ho, hs⟩ := State.apart_of_unrequested ha hreq
    have hzone := s.dropped_zone p zs z
    rw [hz] at hzone
    replace hzone : (s.dropped p zs).zones[z] = s.zones[z] := hzone
    have hbits : (s.progs[p].without zs).bitsAt z = (false, false, false, false) := by
      simp only [Program.bitsAt, Prod.mk.injEq] at hb
      obtain ⟨h1, h2, h3, h4⟩ := hb
      simp only [Program.bitsAt, Program.without, BitVec.getLsbD_and, h1, h2, h3, h4, Bool.false_and]
    refine ⟨by rw [State.dropped_self]; exact hbits, ?_, by rw [hzone]; exact hs⟩
    rw [hzone, State.dropped_self]
    exact ho
  · exact (s.dropped_apart p hz).1

/-- After DROP_ZONES the program has no part in the zones named, and one without request has ended (R43). -/
theorem dropZonesOf_effect (ha : s.claimsAgree = true) (ho : s.progs[p].isOpen = true) (zs : ZoneSet) (c : Cause) :
    let u := s.dropZonesOf p zs c
    (∀ z : Zone, zs.getLsbD z.val = true →
      u.zones[z].owner ≠ some p ∧ p ∉ u.zones[z].stack ∧ u.zones[z].bed ≠ some p) ∧
    u.progs[p].requested &&& zs = 0#64 ∧
    (s.progs[p].requested &&& ~~~zs = 0#64 → u.progs[p].state = .ended ∧ u.progs[p].endReason = some .noZones) := by
  intro u
  let r := (s.dropped p zs).releaseStep c.quiet (s.ownedBy p &&& zs) (s.bedsOf p &&& zs)
  have hstep (z : Zone) : State.Skips p z (s.dropped p zs) r := .releaseStep c.quiet _ _ _
  have hskip (z : Zone) : State.Skips p z (s.dropped p zs) u := (hstep z).trans (.finish s r c)
  refine ⟨fun z hz => ?_, (zoneSet_eq_zero_iff _).mpr fun z => ?_, fun hr => ?_⟩
  · obtain ⟨h1, h2, h3⟩ := s.dropped_apart p hz
    obtain ⟨e1, e2, e3⟩ := hskip z h1
    exact ⟨fun e => h2 (e2 e), e1.stack, fun e => h3 (e3 e)⟩
  · rw [BitVec.getLsbD_and]
    cases hz : zs.getLsbD z.val
    · rw [Bool.and_false]
    · rw [(hskip z (s.dropped_apart p hz).1).1.requested]; rfl
  · have hbits (z : Zone) := (hstep z (State.dropped_apart_all ha hr z)).1.bits
    have hg : r.progs[p].granted = 0#64 := (zoneSet_eq_zero_iff _).mpr fun z => congrArg (fun b => b.2.1) (hbits z)
    have hh : r.progs[p].held = 0#64 := (zoneSet_eq_zero_iff _).mpr fun z => congrArg (fun b => b.2.2.1) (hbits z)
    have hw : r.progs[p].waiting = 0#64 := (zoneSet_eq_zero_iff _).mpr fun z => congrArg (fun b => b.2.2.2) (hbits z)
    have hst : r.progs[p].state = s.progs[p].state := by
      have h1 : r.progs[p].state = (s.dropped p zs).progs[p].state := State.state_of_beyond (State.releaseStep_beyond ..) p
      rw [h1, State.dropped_self]
      rfl
    have hop : r.progs[p].isOpen = true := by
      rw [← ho]
      exact congrArg (fun st : ProgState => st != .free && st != .ended) hst
    have hu : u.progs[p] = r.settleAll.progs[p] := State.finish_state s r c p
    rcases r.settleAll_prog p with ⟨e, -⟩ | ⟨-, hkeep⟩
    · rw [hu, e]; exact ⟨rfl, rfl⟩
    · rcases hkeep hop with e | ⟨-, e | e⟩
      · exact absurd hg e
      · exact absurd hh e
      · exact absurd hw e

end Dropping

end Sys2Proof.Machine
end

section
namespace Sys2Proof.Machine

section AddRefusals
variable {s : State} {t : Txn} {prog : Byte} {zs : ZoneSet} {p : ProgId}

theorem addZones_refused (hl : s.listens t = true) (hs : s.served = true) {e : Status}
    (he : s.ownedProgram t.port prog (zs == 0#64) = .error e) :
    exec (.addZones t prog zs) s = .next (s.replying t 9 0x11#8 e []) ∧
      exec (.dropZones t prog zs) s = .next (s.replying t 9 0x12#8 e []) := by
  have h (n : Nat) : (s.clockThrough t.port n).ownedProgram t.port prog (zs == 0#64) = .error e := by
    rw [← he]
    simp only [State.ownedProgram, State.clockThrough_progs]
  constructor
  all_goals
    show portCommand s t _ _ _ = _
    refine portCommand_of_listens hl hs _ _ _ s _ _ ?_ rfl rfl rfl
    simp only [h, refuse]

theorem addZones_under_alarm (hl : s.listens t = true) (hs : s.served = true)
    (hp : s.ownedProgram t.port prog (zs == 0#64) = .ok p) (ha : s.alarmActive = true) (hc : 3 ≤ s.progs[p].cls) :
    exec (.addZones t prog zs) s = .next (s.replying t 9 0x11#8 .alarmActive []) := by
  have h (n : Nat) : (s.clockThrough t.port n).ownedProgram t.port prog (zs == 0#64) = .ok p := by
    rw [← hp]
    simp only [State.ownedProgram, State.clockThrough_progs]
  show portCommand s t _ _ _ = _
  refine portCommand_of_listens hl hs _ _ _ s _ _ ?_ rfl rfl rfl
  simp only [h, State.alarmActive_clockThrough, State.clockThrough_progs]
  refine if_pos ?_
  rw [ha, Bool.true_and]
  exact decide_eq_true hc

theorem zones_of_closing (hl : s.listens t = true) (hs : s.served = true)
    (hp : s.ownedProgram t.port prog (zs == 0#64) = .ok p) (hst : s.progs[p].state = .tail ∨ s.progs[p].state = .ended) :
    exec (.dropZones t prog zs) s = .next (s.replying t 9 0x12#8 .state []) ∧
      (s.alarmActive = false ∨ s.progs[p].cls ≤ 2 → exec (.addZones t prog zs) s = .next (s.replying t 9 0x11#8 .state [])) := by
  have h (n : Nat) : (s.clockThrough t.port n).ownedProgram t.port prog (zs == 0#64) = .ok p := by
    rw [← hp]
    simp only [State.ownedProgram, State.clockThrough_progs]
  refine ⟨?_, fun ha => ?_⟩
  all_goals
    show portCommand s t _ _ _ = _
    refine portCommand_of_listens hl hs _ _ _ s _ _ ?_ rfl rfl rfl
    simp only [h, State.alarmActive_clockThrough, State.clockThrough_progs]
  · exact if_pos hst
  · refine (if_neg ?_).trans (if_pos hst)
    rw [Bool.and_eq_true, decide_eq_true_iff]
    rintro ⟨h1, h2⟩
    rcases ha with ha | ha
    · rw [ha] at h1; cases h1
    · exact absurd h2 (Nat.not_le.mpr (Nat.lt_succ_of_le ha))

end AddRefusals

/-- The answer of an ADD_ZONES carries the program's state and sets as it leaves them. -/
theorem State.replied_reports (u : State) (t : Txn) (code : Byte) (p : ProgId) :
    let v := u.replied t code .ok
      (out8 (progStateCode u.progs[p].state) ++ putZones u.progs[p].granted ++ putZones u.progs[p].waiting)
    v.answered t code .ok (out8 (progStateCode v.progs[p].state) ++ putZones v.progs[p].granted ++ putZones v.progs[p].waiting) := by
  intro v
  simp only [v, State.replied_progs]
  exact State.replied_answered

/-- A zone of the set in which the program has no part yet is fresh. -/
theorem State.fresh_of_new {s : State} {p : ProgId} {z : Zone} {zs : ZoneSet} (ha : s.claimsAgree = true) (hin : zs.getLsbD z.val = true) (hx : s.zones[z].excluded = false)
    (hno : ¬if s.progs[p].kind = .bed then s.zones[z].bed = some p else s.zones[z].owner = some p)
    (hns : p ∉ s.zones[z].stack) : (s.fresh p zs).getLsbD z.val = true :=
  (State.fresh_iff s p zs z).mpr ⟨hin, hx, eq_false_of_ne_true fun h => hno ((State.granted_of_agree ha p z).mp h),
    eq_false_of_ne_true fun h => hns ((State.held_of_agree ha p z).mp h)⟩

/-- A zone that the program has granted is not fresh. -/
theorem State.not_fresh_of_granted {s : State} {p : ProgId} {z : Zone} {zs : ZoneSet} (ha : s.claimsAgree = true)
    (hown : if s.progs[p].kind = .bed then s.zones[z].bed = some p else s.zones[z].owner = some p) :
    (s.fresh p zs).getLsbD z.val = false := by
  refine eq_false_of_ne_true fun h => ?_
  obtain ⟨-, -, hg, -⟩ := (State.fresh_iff _ p zs z).mp h
  exact absurd (((State.granted_of_agree ha p z).mpr hown).symm.trans hg) (by decide)

/-- Settles O30: each zone of the set has one turn, and what it leaves stands through the settling; a dropped zone has no place
left for the program, and no step gives it one. -/
theorem zonesAreAddedAndDropped : Obligations.ZonesAreAddedAndDropped := by
  unfold Obligations.ZonesAreAddedAndDropped
  refine ⟨?_, ?_, ?_, ?_⟩
  · intro t prog zones s p hl ha hk hp h2 hz ho hr hop ht hal hb hs
    obtain ⟨f, hf⟩ := exec_addZones hl hp h2 ho hr hop ht hz hal
    have key (z : Zone) := addZonesTo_single (s := s.onPort t.port f) ha hk ht hs zones ⟨some p, false⟩ z
    generalize (s.onPort t.port f).addZonesTo p zones ⟨some p, false⟩ = u at hf key
    refine ⟨_, hf, u.replied_reports t 0x11#8 p, fun z hin hx hno hns => ?_, fun z hin hown => ?_⟩
    all_goals
      simp only [State.replied_progs, State.replied_zones]
      obtain ⟨hfresh, hold⟩ := key z
    · have hf : ((s.onPort t.port f).fresh p zones).getLsbD z.val = true :=
        State.fresh_of_new (s := s.onPort t.port f) ha hin hx ((if_neg hb).symm ▸ hno) hns
      obtain ⟨hpass, hfail⟩ := hfresh hf
      refine ⟨fun h => ?_, fun h => ?_⟩
      · obtain ⟨h1, h3⟩ := hpass h
        rw [if_neg (show (s.onPort t.port f).progs[p].kind ≠ .bed from hb)] at h3
        exact ⟨h3, h1⟩
      · obtain ⟨h1, -, h3⟩ := hfail h
        exact ⟨h1, h3⟩
    · have hf : ((s.onPort t.port f).fresh p zones).getLsbD z.val = false :=
        State.not_fresh_of_granted (s := s.onPort t.port f) ha ((if_neg hb).symm ▸ hown)
      exact (hold hf).1.trans hown
  · intro t prog zones s p hl ha hp h2 hz ho hr hop ht
    obtain ⟨f, hf⟩ := exec_dropZones hl hp h2 ho hr hop ht hz
    have key := dropZonesOf_effect (s := s.onPort t.port f) ha hop zones ⟨some p, false⟩
    generalize (s.onPort t.port f).dropZonesOf p zones ⟨some p, false⟩ = u at hf key
    refine ⟨_, hf, ?_⟩
    simp only [State.replied_progs, State.replied_zones]
    exact ⟨State.replied_answered, key⟩
  · intro t prog zones s p hl ha hk hp h2 hz ho hr hop ht hal reported
    obtain ⟨f, hf⟩ := exec_addZones hl hp h2 ho hr hop ht hz hal
    have key (hs : s.progs[p].together = false) (z : Zone) :=
      addZonesTo_single (s := s.onPort t.port f) ha hk ht hs zones ⟨some p, false⟩ z
    have hstack (hs : s.progs[p].together = false) (hb : s.progs[p].kind = .bed) (hst : s.statesFollow = true) (z : Zone) :=
      addZonesTo_bed_stack (s := s.onPort t.port f) ha hk hs hb hst zones ⟨some p, false⟩ z
    have hall (hs : s.progs[p].together = true) (hg : s.progs[p].granted = 0#64) (hh : s.progs[p].held = 0#64) :=
      addZonesTo_together (s := s.onPort t.port f) ha hk hop ht hs hg hh zones ⟨some p, false⟩
    generalize (s.onPort t.port f).addZonesTo p zones ⟨some p, false⟩ = u at hf key hstack hall
    refine ⟨fun hb hs => ⟨_, hf, u.replied_reports t 0x11#8 p, fun z hin hx hno => ?_, fun z hin hown => ?_, fun z => ⟨?_, fun hst => ?_⟩⟩,
      fun hs hg hh => ?_⟩
    · simp only [State.replied_progs, State.replied_zones]
      obtain ⟨hfresh, hold⟩ := key hs z
      have hb' : (s.onPort t.port f).progs[p].kind = .bed := hb
      have hf : ((s.onPort t.port f).fresh p zones).getLsbD z.val = true :=
        State.fresh_of_new (s := s.onPort t.port f) ha hin hx ((if_pos hb).symm ▸ hno)
          fun h => (State.matched_of_agree ha hk z).stack_not_bed h hb
      obtain ⟨hpass, hfail⟩ := hfresh hf
      refine ⟨fun h => ?_, fun b h => ?_⟩
      · obtain ⟨h1, h3⟩ := hpass ((State.passes_of_bed hb' z).mpr h)
        rw [if_pos hb'] at h3
        exact ⟨h3.1, h1⟩
      · obtain ⟨-, h1, h3⟩ := hfail (eq_false_of_ne_true fun hp => by
          have := (State.passes_of_bed hb' z).mp hp
          exact absurd (h.symm.trans this) (by simp))
        exact ⟨h1.trans h, h3⟩
    · simp only [State.replied_zones]
      obtain ⟨-, hold⟩ := key hs z
      have hf : ((s.onPort t.port f).fresh p zones).getLsbD z.val = false :=
        State.not_fresh_of_granted (s := s.onPort t.port f) ha ((if_pos hb).symm ▸ hown)
      exact (hold hf).2.trans hown
    · simp only [State.replied_zones]
      obtain ⟨hfresh, hold⟩ := key hs z
      have hb' : (s.onPort t.port f).progs[p].kind = .bed := hb
      cases hfz : ((s.onPort t.port f).fresh p zones).getLsbD z.val
      · exact (hold hfz).1
      · obtain ⟨hpass, hfail⟩ := hfresh hfz
        cases hps : (s.onPort t.port f).passes p z
        · exact (hfail hps).1
        · have h3 := (hpass hps).2
          rw [if_pos hb'] at h3
          exact h3.2
    · simp only [State.replied_zones]
      exact hstack hs hb hst z
    · refine ⟨_, hf, u.replied_reports t 0x11#8 p, ?_⟩
      simp only [State.replied_progs, State.replied_zones]
      exact hall hs hg hh
  · intro t prog zones s hl hs add drop
    refine ⟨fun h => ?_, ?_⟩
    · exact addZones_refused hl hs (State.ownedProgram_of_bad (h.imp_right beq_iff_eq.mpr))
    · intro p hp hz g mine
      have hz' : (zones == 0#64) = false := beq_eq_false_iff_ne.mpr hz
      refine ⟨fun h => addZones_refused hl hs (State.ownedProgram_of_free hp hz' h),
        fun h hno => addZones_refused hl hs (State.ownedProgram_of_other hp hz' h hno), fun h hm ha hc => ?_, fun hm hst => ?_⟩
      · obtain ⟨ho, h2, hr⟩ := hm
        exact addZones_under_alarm hl hs (State.ownedProgram_of_mine hp hz' h2 ho hr h) ha hc
      · obtain ⟨ho, h2, hr⟩ := hm
        have hfree : s.progs[p].state ≠ .free := by
          rcases hst with e | e
          · rw [show s.progs[p].state = .tail from e]; decide
          · rw [show s.progs[p].state = .ended from e]; decide
        exact zones_of_closing hl hs (State.ownedProgram_of_mine hp hz' h2 ho hr hfree) hst

end Sys2Proof.Machine
end

section
namespace Sys2Proof.Machine

/-! ### Opening a program (R39 to R41) -/

section Opening
variable {s t u : State} {p q : ProgId} {z : Zone} {g : Program}

theorem exec_openProgram {t : Txn} {a : OpenArgs} {k : ProgKind} {chan : Option (ChanId × Option ProgId)}
    (hl : s.listens t = true) (hk : openCheck s t.port a = .ok k) (hp : s.allocate (recordLow t.port) = some p)
    (hb : s.openBlocks (openRecord a t.port k) = .ok chan) :
    ∃ f, let u := (s.onPort t.port f).openIn p (openRecord a t.port k) chan a.zones
      exec (.openProgram t a) s = .next (u.replied t 0x10#8 .ok (openResults u p)) := by
  obtain ⟨f, hf⟩ := portCommand_next hl 0x10#8 28 fun s =>
    match openCheck s t.port a with
    | .error e => refuse s e
    | .ok k =>
      match s.allocate (recordLow t.port) with
      | none => refuse s .full
      | some r =>
        let g := openRecord a t.port k
        match s.openBlocks g with
        | .error e => refuse s e
        | .ok chan =>
          let s1 := s.openIn r g chan a.zones
          okWith s1 (openResults s1 r)
  refine ⟨f, Eq.trans hf ?_⟩
  have h1 : openCheck (s.onPort t.port f) t.port a = .ok k := hk
  have h2 : (s.onPort t.port f).allocate (recordLow t.port) = some p := hp
  have h3 : (s.onPort t.port f).openBlocks (openRecord a t.port k) = .ok chan := hb
  simp only [h1, h2, h3]
  rfl

/-- The record an open takes is FREE or ENDED, and of the range asked for (R40). -/
theorem State.allocate_some {low : Nat} (hend : ∀ q ∈ s.endOrder, s.progs[q].state = .ended) (h : s.allocate low = some p) :
    (s.progs[p].state = .free ∨ s.progs[p].state = .ended) ∧ low ≤ p.val := by
  unfold State.allocate at h
  split at h
  · next q hq =>
    rw [Option.some.injEq] at h
    subst h
    have := List.find?_some hq
    rw [Bool.and_eq_true, decide_eq_true_iff, beq_iff_eq] at this
    exact ⟨Or.inl this.2, this.1⟩
  · have hlow := List.find?_some (p := fun q : ProgId => decide (low ≤ q.val)) h
    exact ⟨Or.inr (hend p (List.mem_of_find?_eq_some h)), of_decide_eq_true hlow⟩

theorem Program.isOpen_of_free_or_ended (h : g.state = .free ∨ g.state = .ended) : g.isOpen = false := by
  unfold Program.isOpen
  rcases h with e | e
  · rw [e]; decide
  · rw [e]; decide

theorem State.takeRecord_self (s : State) (p : ProgId) (g : Program) :
    (s.takeRecord p g).progs[p] = { g with arrival := s.arrivals } := State.onProg_progs_self ..

theorem State.takeRecord_other (s : State) (h : q ≠ p) (g : Program) : (s.takeRecord p g).progs[q] = s.progs[q] :=
  State.onProg_progs_ne _ h _

/-- The state that a LIVE or other station-less program without channel claims its zones in. -/
theorem State.openIn_plain (s : State) (p : ProgId) (hg : g.station = none) (zs : ZoneSet) :
    s.openIn p g none zs = State.claimOpened s (s.takeRecord p g) p zs ⟨some p, false⟩ := by
  unfold State.openIn
  simp only [hg]

theorem Program.station_of_live (h : g.kind = .live) : g.station = none := by
  unfold Program.station
  rw [h]

theorem State.excludedSet_congr (h : t.zones = s.zones) : t.excludedSet = s.excludedSet := by
  simp only [State.excludedSet, h]

theorem zoneBit_ne_zero (z : Zone) : zoneBit z ≠ 0#64 :=
  ne_zero_of_bit (z := z) (by rw [zoneBit_getLsbD]; exact decide_eq_true rfl)

/-- One free zone that a program without any claims: it owns it, whatever its start policy. -/
theorem State.claim_free_zone (hk : s.progs[p].kind ≠ .bed) (hz : s.zones[z].owner = none) (hx : s.zones[z].excluded = false)
    (quiet : Bool) :
    let r := if s.progs[p].together then s.claimTogether quiet p (zoneBit z) else s.claimEach quiet p (zoneBit z)
    r.zones = adjust s.zones z (fun r => { r with owner := some p }) ∧ (∀ q : ProgId, q ≠ p → r.progs[q] = s.progs[q]) ∧
      (∃ b, r.progs[p] = { s.progs[p] with gotAll := b }.addGranted z) ∧ r.survey = s.survey := by
  have hpass : s.passes p z = true := (State.passes_of_foreground hk z).mpr fun o ho => by rw [hz] at ho; cases ho
  intro r
  have hr : r = (s.allow p).own p z ∨ r = s.own p z := by
    by_cases ht : s.progs[p].together = true
    · left
      show (if s.progs[p].together then s.claimTogether quiet p (zoneBit z) else s.claimEach quiet p (zoneBit z)) = _
      rw [if_pos ht, State.claimTogether_eq, if_pos, State.takeAll_eq, zonesOf_zoneBit, List.foldl_cons, List.foldl_nil]
      · have hka : (s.allow p).progs[p].kind ≠ .bed := by
          rw [State.kind_of_beyond (s.allow_beyond p)]; exact hk
        rw [State.take, if_neg hka]
        exact State.takeForeground_of_unowned (s := s.allow p) hz quiet p
      · intro y hy
        rw [zoneBit_getLsbD, decide_eq_true_iff] at hy
        exact hy ▸ hpass
    · right
      show (if s.progs[p].together then s.claimTogether quiet p (zoneBit z) else s.claimEach quiet p (zoneBit z)) = _
      rw [if_neg ht, State.claimEach, zonesOf_zoneBit, List.foldl_cons, List.foldl_nil, State.claimOne,
        if_neg (by rw [hx]; decide), if_pos hpass, State.take, if_neg hk]
      exact State.takeForeground_of_unowned hz quiet p
  rcases hr with hr | hr
  · rw [hr]
    refine ⟨State.own_zones .., fun q hq => ?_, ⟨true, ?_⟩, rfl⟩
    · rw [State.own_prog, if_neg (Ne.symm hq), State.allow_progs_ne hq]
    · rw [State.own_prog, if_pos rfl]
      exact congrArg (fun g : Program => g.addGranted z) (State.onProg_progs_self ..)
  · rw [hr]
    refine ⟨State.own_zones .., fun q hq => ?_, ⟨s.progs[p].gotAll, ?_⟩, rfl⟩
    · rw [State.own_prog, if_neg (Ne.symm hq)]
    · rw [State.own_prog, if_pos rfl]

theorem State.enterGranted_plain (hr : s.progs[p].ret = none) (hc : s.progs[p].chime = none) :
    s.enterGranted p = s.firstActive p false := by
  unfold State.enterGranted
  simp only [hr, hc]
  split
  · next h => cases h
  · next h => cases h
  · rfl

/-- A program without chime that is granted its first zone is ACTIVE at its settling. -/
theorem State.settleProgram_plain (hs : s.progs[p].state = .pending) (hg : s.progs[p].granted ≠ 0#64)
    (hr : s.progs[p].ret = none) (hc : s.progs[p].chime = none) : (s.settleProgram p).progs[p].state = .active := by
  have heq : s.settleProgram p = s.settleOpen p := by
    rw [State.settleProgram_eq, hs]
  rw [heq]
  unfold State.settleOpen
  simp only
  rw [if_neg fun h => hg h.1, State.onProg_progs_self, Program.waitClock_state, if_neg hg, if_pos (Or.inl hs),
    State.enterGranted_plain hr hc]
  exact s.firstActive_state p false

theorem openRecord_chimeless {a : OpenArgs} (h : a.chime = 0xFF#8) (x : Port) (k : ProgKind) :
    (openRecord a x k).chime = none := by
  show (opt a.chime).bind _ = none
  rw [(opt_eq_none_iff _).mpr h]
  rfl

theorem openCheck_class {a : OpenArgs} {x : Port} {k : ProgKind} (h : openCheck s x a = .ok k) :
    a.cls.toNat ≠ 0 ∧ a.cls.toNat ≤ 6 ∧ openParamsOk a k = true ∧ kind? a.kind = some k := by
  unfold openCheck at h
  split at h
  · cases h
  · next j hj =>
    by_cases h6 : 6 < a.cls.toNat
    · rw [if_pos h6] at h; cases h
    · rw [if_neg h6] at h
      by_cases hc : (!classAllowed a.cls.toNat j x) = true
      · rw [if_pos hc] at h; cases h
      · rw [if_neg hc] at h
        by_cases ha : (s.alarmActive && decide (3 ≤ a.cls.toNat)) = true
        · rw [if_pos ha] at h; cases h
        · rw [if_neg ha] at h
          by_cases ho : (!openParamsOk a j) = true
          · rw [if_pos ho] at h; cases h
          · rw [if_neg ho] at h
            injection h with h
            subst h
            refine ⟨fun h0 => hc ?_, Nat.not_lt.mp h6, by simpa using ho, hj⟩
            rw [h0]; rfl

end Opening

section LiveOpen
variable {s r : State} {p q : ProgId} {z : Zone}

theorem State.excludedSet_and_zoneBit (h : s.zones[z].excluded = false) : zoneBit z &&& ~~~s.excludedSet = zoneBit z := by
  refine zoneSet_ext fun y => ?_
  rw [getLsbD_and_compl, zoneBit_getLsbD]
  by_cases e : z = y
  · subst e
    rw [decide_eq_true rfl, State.getLsbD_excludedSet, show s.zones[z.val].excluded = false from h]
    rfl
  · rw [decide_eq_false e]; rfl

theorem State.ownerClass_of_owner {o : ProgId} (h : s.zones[z].owner = some o) : s.ownerClass z = some s.progs[o].cls := by
  unfold State.ownerClass
  rw [h]

theorem State.ownerClass_of_none (h : s.zones[z].owner = none) : s.ownerClass z = none := by
  unfold State.ownerClass
  rw [h]

/-- The hand-off of one zone that has got an owner who does not abort the survey (R52, R71). -/
theorem handOff_of_one_zone {s0 v : State} {cls : Nat} {zone : ZoneRec} (hzone : zone = s0.zones[z])
    (hvz : v.zones = adjust s0.zones z fun x => { x with owner := some p }) (hn : zone.owner = none)
    (hcls : v.progs[p].cls = cls)
    (hsv : v.survey.zone.all (fun y => if y = z then decide (2 < cls) else (s0.zones[y].owner.map fun o => v.progs[o].cls).all
      fun c => decide (2 < c)) = true) :
    (State.duckHandOff s0 v).surveyCheck = State.duckHandOff s0 v ∧
      (State.duckHandOff s0 v).zones[z] = ({ zone with owner := some p } : ZoneRec).duckFor (some cls) ∧
      ∀ y : Zone, y ≠ z → (State.duckHandOff s0 v).zones[y] = s0.zones[y] := by
  have hvself : v.zones[z] = { zone with owner := some p } := by
    simp only [hvz]
    rw [hzone]
    exact getElem_adjust_self ..
  have hvne (y : Zone) (h : y ≠ z) : v.zones[y] = s0.zones[y] := by
    simp only [hvz]
    exact getElem_adjust_ne _ _ h.symm
  have hwzone (y : Zone) : (State.duckHandOff s0 v).zones[y] = if s0.zones[y].owner = v.zones[y].owner then v.zones[y]
      else v.zones[y].duckFor (v.ownerClass y) := getElem_remap ..
  have hclass : v.ownerClass z = some cls := by
    rw [State.ownerClass_of_owner (o := p) (by rw [hvself]), hcls]
  have hwself : (State.duckHandOff s0 v).zones[z] = ({ zone with owner := some p } : ZoneRec).duckFor (some cls) := by
    rw [hwzone, if_neg, hclass, hvself]
    rw [hvself, ← hzone, hn]
    exact fun e => by cases e
  have hwne (y : Zone) (h : y ≠ z) : (State.duckHandOff s0 v).zones[y] = s0.zones[y] := by
    rw [hwzone, hvne y h, if_pos rfl]
  refine ⟨State.surveyCheck_of_clear ?_, hwself, hwne⟩
  show v.survey.zone.all (fun y => ((State.duckHandOff s0 v).ownerClass y).all fun c => decide (2 < c)) = true
  cases hy : v.survey.zone with
  | none => rfl
  | some y =>
    rw [hy] at hsv
    simp only [Option.all_some] at hsv ⊢
    by_cases e : y = z
    · subst e
      have : (State.duckHandOff s0 v).ownerClass y = some cls := by
        rw [State.ownerClass_of_owner (o := p) (by rw [hwself]; rfl)]
        exact congrArg some hcls
      rw [if_pos rfl] at hsv
      rw [this]
      exact hsv
    · have : (State.duckHandOff s0 v).ownerClass y = s0.zones[y].owner.map fun o => v.progs[o].cls := by
        rcases Option.eq_none_or_eq_some s0.zones[y].owner with ho | ⟨o, ho⟩
        · rw [State.ownerClass_of_none (by rw [hwne y e, ho]), ho]; rfl
        · rw [State.ownerClass_of_owner (o := o) (by rw [hwne y e, ho]), ho]; rfl
      rw [if_neg e] at hsv
      rw [this]
      exact hsv

/-- One zone goes to a program whose settling makes it ACTIVE, everybody else being settled: what the end of the operation
leaves. -/
theorem finish_of_one_zone {s0 : State} {c : Cause} {cls : Nat} {zone : ZoneRec} (hzone : zone = s0.zones[z])
    (hz : r.zones = adjust s0.zones z fun x => { x with owner := some p })
    (hn : zone.owner = none) (hset : ∀ q : ProgId, q ≠ p → r.progs[q].settled = true)
    (hs : r.progs[p].state = .pending) (hg : r.progs[p].granted ≠ 0#64) (hret : r.progs[p].ret = none)
    (hch : r.progs[p].chime = none) (hcls : r.progs[p].cls = cls)
    (hsv : r.survey.zone.all (fun y => if y = z then decide (2 < cls) else (s0.zones[y].owner.map fun o => r.progs[o].cls).all
      fun c => decide (2 < c)) = true) :
    (State.finish s0 r c).progs[p].state = .active ∧ (State.finish s0 r c).progs[p].granted = r.progs[p].granted ∧
      (State.finish s0 r c).progs[p].waiting = r.progs[p].waiting ∧
      (State.finish s0 r c).zones[z] = ({ zone with owner := some p } : ZoneRec).duckFor (some cls) ∧
      (∀ y : Zone, y ≠ z → (State.finish s0 r c).zones[y] = s0.zones[y]) ∧
      ∀ q : ProgId, q ≠ p → (State.finish s0 r c).progs[q] = r.progs[q] := by
  have hone : r.settleAll = r.settleProgram p := State.settleAll_of_others hset
  have hactive := State.settleProgram_plain hs hg hret hch
  have hmoves : State.Moves p r (r.settleProgram p) := by
    rcases r.settleProgram_cases p with ⟨-, -, h0, -⟩ | ⟨hm, -⟩
    · exact absurd h0 hg
    · exact hm
  have hsil := State.finish_silent s0 r c
  rw [hone] at hsil
  generalize r.settleProgram p = v at hactive hmoves hsil
  have hvcls (q : ProgId) : v.progs[q].cls = r.progs[q].cls := (congrArg Program.cls (hmoves.steady_prog q) :)
  have hvsurvey : v.survey = r.survey := (congrArg State.survey hmoves.steady :)
  obtain ⟨hcheck, hself, hne⟩ := handOff_of_one_zone (v := v) hzone (hmoves.zones.trans hz) hn ((hvcls p).trans hcls) (by
    rw [hvsurvey]
    simp only [hvcls]
    exact hsv)
  rw [hcheck] at hsil
  have hprogs : (State.finish s0 r c).progs = v.progs := (State.progs_of_silent hsil).trans rfl
  have hzones : (State.finish s0 r c).zones = (State.duckHandOff s0 v).zones := State.zones_of_silent hsil
  simp only [hprogs, hzones]
  obtain ⟨h1, -, h3, -⟩ := Program.claims_of_steady (hmoves.steady_prog p)
  exact ⟨hactive, h1, h3, hself, hne, hmoves.other⟩

/-- A newcomer of class above 2 leaves the zone under survey to the survey, and no other zone's owner's class changes. -/
theorem State.surveyClear_of_newcomer {cls : Nat} (ha : s.claimsAgree = true) (hk : s.kindsLawful = true)
    (hclear : s.surveyClear = true) (hclosed : s.progs[p].state = .free ∨ s.progs[p].state = .ended)
    (hz : s.survey.zone = some z → 2 < cls) (hr : ∀ q : ProgId, q ≠ p → r.progs[q] = s.progs[q]) :
    s.survey.zone.all (fun y => if y = z then decide (2 < cls) else (s.zones[y].owner.map fun o => r.progs[o].cls).all
      fun c => decide (2 < c)) = true := by
  cases hy : s.survey.zone with
  | none => rfl
  | some y =>
    rw [Option.all_some]
    by_cases e : y = z
    · rw [if_pos e]
      exact decide_eq_true (hz (by rw [hy, e]))
    · rw [if_neg e]
      unfold State.surveyClear at hclear
      rw [hy, Option.all_some] at hclear
      cases ho : s.zones[y].owner with
      | none => rfl
      | some o =>
        have hne : o ≠ p := by
          rintro rfl
          have hg := (State.granted_of_agree ha o y).mpr ((if_neg ((State.matched_of_agree ha hk y).ownerKind o ho)).symm ▸ ho)
          rw [(State.sets_of_closed ha (Program.isOpen_of_free_or_ended hclosed)).1, BitVec.getLsbD_zero] at hg
          cases hg
        rw [State.ownerClass_of_owner ho] at hclear
        rw [Option.map_some, hr o hne]
        exact hclear

end LiveOpen

/-- Settles O29: the new program owns the zone at once, so it alone takes a state and its zone alone a duck target. -/
theorem aLiveOpenTakesAFreeZone : Obligations.ALiveOpenTakesAFreeZone := by
  unfold Obligations.ALiveOpenTakesAFreeZone
  intro t a s p z hl hr ha hk hend hnd hcheck hchime hp hzones hown hx hsurvey
  obtain ⟨hfollow, hclear, -⟩ := (State.atRest_iff s).mp hr
  obtain ⟨hclosed, h2⟩ := State.allocate_some hend hp
  obtain ⟨hc0, -, -, -⟩ := openCheck_class hcheck
  have hstation : (openRecord a t.port .live).station = none := Program.station_of_live rfl
  have hblocks : s.openBlocks (openRecord a t.port .live) = .ok none := by
    unfold State.openBlocks
    rw [hstation]
    rfl
  obtain ⟨f, hf⟩ := exec_openProgram hl hcheck hp hblocks
  rw [State.openIn_plain _ p hstation] at hf
  let g : Program := { openRecord a t.port .live with arrival := s.arrivals }
  let s2 := (s.onPort t.port f).takeRecord p (openRecord a t.port .live)
  have hself : s2.progs[p] = g := State.takeRecord_self ..
  have hother (q : ProgId) (h : q ≠ p) : s2.progs[q] = s.progs[q] := State.takeRecord_other _ h _
  have hkind : s2.progs[p].kind ≠ .bed := by rw [hself]; exact fun e => ProgKind.noConfusion e
  have hleft : a.zones &&& ~~~s2.excludedSet = zoneBit z := by
    rw [hzones]
    exact State.excludedSet_and_zoneBit (s := s2) hx
  obtain ⟨hrz, hrq, ⟨b, hrp⟩, hrs⟩ := State.claim_free_zone (s := s2) hkind hown hx false
  have hopen : State.claimOpened (s.onPort t.port f) s2 p a.zones ⟨some p, false⟩ =
      State.finish ((s.onPort t.port f).onProg p fun _ => Program.free)
        (if s2.progs[p].together then s2.claimTogether false p (zoneBit z) else s2.claimEach false p (zoneBit z)) ⟨some p, false⟩ := by
    unfold State.claimOpened
    simp only [hleft, zoneBit_ne_zero z, if_false]
  rw [hopen] at hf
  generalize (if s2.progs[p].together then s2.claimTogether false p (zoneBit z) else s2.claimEach false p (zoneBit z)) = r
    at hf hrz hrq hrp hrs
  rw [hself] at hrp
  have hkey := finish_of_one_zone (s0 := (s.onPort t.port f).onProg p fun _ => Program.free) (r := r) (p := p) (z := z)
    (c := ⟨some p, false⟩) (cls := a.cls.toNat) (zone := s.zones[z]) rfl hrz hown
    (fun q hq => by rw [hrq q hq, hother q hq]; exact State.settled_of_follow hfollow q)
    (by rw [hrp]; rfl) (by rw [hrp]; exact fun e => zoneBit_ne_zero z (by rw [← e]; exact (BitVec.zero_or).symm))
    (by rw [hrp]; rfl) (by rw [hrp]; exact openRecord_chimeless hchime t.port .live) (by rw [hrp]; rfl) (by
      rw [hrs]
      show s.survey.zone.all _ = true
      exact State.surveyClear_of_newcomer (s := s) ha hk hclear hclosed hsurvey fun q hq => (hrq q hq).trans (hother q hq))
  obtain ⟨h1, h3, h4, h5, h6, h7⟩ := hkey
  refine ⟨_, hf, ?_⟩
  simp only [State.replied_progs, State.replied_zones]
  refine ⟨h1, h3.trans ?_, h4.trans ?_, h5.trans ?_, h6, fun q hq => (h7 q hq).trans ((hrq q hq).trans (hother q hq))⟩
  · rw [hrp]; exact BitVec.zero_or
  · rw [hrp]; exact BitVec.zero_and
  · have hcls : (some a.cls.toNat : Option Nat) ≠ some 0 := fun e => hc0 (Option.some.inj e)
    have htarget : duckTarget ({ s.zones[z] with owner := some p } : ZoneRec) (some a.cls.toNat) = s.zones[z].duckLevel := by
      unfold duckTarget
      split
      · next h => cases h
      · next h => exact absurd h hcls
      · rfl
    unfold ZoneRec.duckFor
    simp only [htarget, if_neg hcls]
    rfl

end Sys2Proof.Machine
end

section
namespace Sys2Proof.Machine

/-! ### What a program just opened gets (R31, R32, R41) -/

section Newcomer
variable {s t u r : State} {p q : ProgId} {y z : Zone} {zs left : ZoneSet} {quiet : Bool} {g k : Program}

/-- The program has no place in any zone and no zone in any of its sets. -/
structure State.Newcomer (s : State) (p : ProgId) : Prop where
  claim : ∀ z : Zone, s.progs[p].claim z = .none
  owner : ∀ z : Zone, s.zones[z].owner ≠ some p
  stack : ∀ z : Zone, p ∉ s.zones[z].stack
  bed : ∀ z : Zone, s.zones[z].bed ≠ some p

/-- The zone has the program where one of its kind has a granted zone: in the bed slot, or as owner. -/
def ZoneRec.HeldAs (r : ZoneRec) (kind : ProgKind) (p : ProgId) : Prop :=
  if kind = .bed then r.bed = some p else r.owner = some p

theorem State.Newcomer.not_heldAs (hn : s.Newcomer p) (kind : ProgKind) (z : Zone) : ¬s.zones[z].HeldAs kind p := by
  rw [ZoneRec.HeldAs]
  split
  · exact hn.bed z
  · exact hn.owner z

/-- The claims of a newcomer to the zones of a set: `got` are granted to it and the others of the set waited for, and the zone
table has it where it is granted. -/
structure State.Claims (s r : State) (p : ProgId) (left got : ZoneSet) : Prop where
  beyond : r.beyond = s.beyond
  claim : ∀ z : Zone, r.progs[p].claim z =
    if left.getLsbD z.val then (if got.getLsbD z.val then .granted else .waiting) else .none
  within : ∀ z : Zone, got.getLsbD z.val = true → left.getLsbD z.val = true
  placed : ∀ z : Zone, got.getLsbD z.val = true ↔ r.zones[z].HeldAs s.progs[p].kind p

theorem Program.bitsAt_iff_none (g : Program) (z : Zone) : g.claim z = .none ↔ g.bitsAt z = (false, false, false, false) := by
  unfold Program.claim Program.bitsAt
  constructor
  · intro h
    split at h
    · next h1 h2 h3 h4 => rw [h1, h2, h3, h4]
    all_goals cases h
  · intro h
    simp only [Prod.mk.injEq] at h
    obtain ⟨h1, h2, h3, h4⟩ := h
    rw [h1, h2, h3, h4]

/-- The taking of a zone by a newcomer. -/
theorem State.take_new (ho : s.zones[z].owner ≠ some p) (hs : p ∉ s.zones[z].stack) (quiet : Bool) :
    (s.take quiet p z).progs[p].claim z = .granted ∧ (s.take quiet p z).zones[z].HeldAs s.progs[p].kind p := by
  constructor
  · rw [State.take_self (Or.inr ⟨hs, ho⟩), Program.claim_addGranted, if_pos rfl]
  · by_cases hk : s.progs[p].kind = .bed
    · rw [ZoneRec.HeldAs, if_pos hk, State.take, if_pos hk, State.takeBed_zone, if_pos rfl]
    · rw [ZoneRec.HeldAs, if_neg hk]
      exact s.take_owner quiet hk z

/-- The taking of a zone by a newcomer, in the middle of its claims to several zones. -/
theorem State.Newcomer.take (hn : s.Newcomer p) (h : State.Spares z s t) (quiet : Bool) :
    (t.take quiet p z).progs[p].claim z = .granted ∧ (t.take quiet p z).zones[z].HeldAs s.progs[p].kind p := by
  have htake := State.take_new (s := t) (p := p) (z := z) (by rw [h.zone]; exact hn.owner z) (by rw [h.zone]; exact hn.stack z) quiet
  rw [h.kind p] at htake
  exact htake

/-- Claims made one by one. -/
theorem State.Newcomer.claimEach (hn : s.Newcomer p) (hx : ∀ z : Zone, left.getLsbD z.val = true → s.zones[z].excluded = false)
    (quiet : Bool) :
    State.Claims s (s.claimEach quiet p left) p left (left &&& zonesWhere fun z => s.passes p z) := by
  have hturn (z : Zone) (hz : left.getLsbD z.val = true) : ∃ t, State.Spares z s t ∧
      (s.claimEach quiet p left).progs[p].claim z = (t.claimOne quiet p z).progs[p].claim z ∧
      (s.claimEach quiet p left).zones[z] = (t.claimOne quiet p z).zones[z] ∧
      t.claimOne quiet p z = if s.passes p z then t.take quiet p z else t.onProg p fun g => g.addWaiting z := by
    obtain ⟨t, h1, h2⟩ := foldl_turn (fun s z => s.claimOne_stepAt quiet p z) (zonesOf_nodup left) ((mem_zonesOf _ _).mpr hz) s
    have hnx : ¬(t.zones[z].excluded = true) := by rw [h1.zone, hx z hz]; exact Bool.false_ne_true
    exact ⟨t, h1, h2.claim p, h2.zone, by rw [State.claimOne, if_neg hnx, h1.passes p]⟩
  refine ⟨s.claimEach_beyond quiet p left, fun z => ?_, fun z h => ?_, fun z => ?_⟩
  · rw [BitVec.getLsbD_and, getLsbD_zonesWhere]
    cases hz : left.getLsbD z.val
    · rw [if_neg Bool.false_ne_true, (State.claimEach_spares hz s quiet p).claim]
      exact hn.claim z
    · obtain ⟨t, h1, hclaim, -, hone⟩ := hturn z hz
      rw [hclaim, hone, if_pos rfl, Bool.true_and]
      cases s.passes p z
      · rw [if_neg Bool.false_ne_true, if_neg Bool.false_ne_true, State.onProg_progs_self,
          Program.claim_addWaiting (Or.inl ((h1.claim p).trans (hn.claim z))), if_pos rfl]
      · rw [if_pos rfl, if_pos rfl]
        exact (hn.take h1 quiet).1
  · rw [BitVec.getLsbD_and, Bool.and_eq_true] at h
    exact h.1
  · rw [BitVec.getLsbD_and, getLsbD_zonesWhere]
    cases hz : left.getLsbD z.val
    · rw [(State.claimEach_spares hz s quiet p).zone, Bool.false_and]
      exact iff_of_false Bool.false_ne_true (hn.not_heldAs _ z)
    · obtain ⟨t, h1, -, hzone, hone⟩ := hturn z hz
      rw [hzone, hone, Bool.true_and]
      cases s.passes p z
      · rw [if_neg Bool.false_ne_true]
        refine iff_of_false Bool.false_ne_true ?_
        show ¬(t.zones[z]).HeldAs _ p
        rw [h1.zone]
        exact hn.not_heldAs _ z
      · rw [if_pos rfl]
        exact iff_of_true rfl (hn.take h1 quiet).2

/-- A newcomer that every zone of a set lets pass takes them all. -/
theorem State.Newcomer.takeAll (hn : s.Newcomer p) (quiet : Bool) : State.Claims s (s.takeAll quiet p left) p left left := by
  have hallow : (s.allow p).Newcomer p :=
    ⟨fun z => (congrArg (fun c : Cell => c.claim p) (s.allow_cell p z)).trans (hn.claim z), hn.owner, hn.stack, hn.bed⟩
  have hkind : (s.allow p).progs[p].kind = s.progs[p].kind := State.kind_of_beyond (s.allow_beyond p) p
  have hout (z : Zone) (hz : left.getLsbD z.val = false) : State.Spares z (s.allow p) (s.takeAll quiet p left) := by
    rw [State.takeAll_eq]
    exact foldl_spares (fun s z => State.take_stepAt s quiet p z) (fun h => by rw [mem_zonesOf, hz] at h; cases h) (s.allow p)
  have hin (z : Zone) (hz : left.getLsbD z.val = true) : (s.takeAll quiet p left).progs[p].claim z = .granted ∧
      (s.takeAll quiet p left).zones[z].HeldAs s.progs[p].kind p := by
    rw [State.takeAll_eq]
    obtain ⟨t, h1, h2⟩ := foldl_turn (fun s z => State.take_stepAt s quiet p z) (zonesOf_nodup left) ((mem_zonesOf _ _).mpr hz) (s.allow p)
    rw [h2.zone, h2.claim p, ← hkind]
    exact hallow.take h1 quiet
  refine ⟨s.takeAll_beyond quiet p left, fun z => ?_, fun z => id, fun z => ?_⟩
  · cases hz : left.getLsbD z.val
    · rw [(hout z hz).claim p, if_neg Bool.false_ne_true]
      exact hallow.claim z
    · rw [(hin z hz).1, if_pos rfl, if_pos rfl]
  · cases hz : left.getLsbD z.val
    · rw [(hout z hz).zone]
      exact iff_of_false Bool.false_ne_true (hallow.not_heldAs _ z)
    · exact iff_of_true rfl (hin z hz).2

/-- Claims made together: all taken or all waited for. -/
theorem State.Newcomer.claimTogether (hn : s.Newcomer p) (quiet : Bool) :
    ((∀ z : Zone, left.getLsbD z.val = true → s.passes p z = true) → State.Claims s (s.claimTogether quiet p left) p left left) ∧
    (¬(∀ z : Zone, left.getLsbD z.val = true → s.passes p z = true) → State.Claims s (s.claimTogether quiet p left) p left 0#64) := by
  rw [State.claimTogether_eq]
  refine ⟨fun hp => ?_, fun hp => ?_⟩
  · rw [if_pos hp]
    exact hn.takeAll quiet
  · rw [if_neg hp]
    have hbits (z : Zone) := (Program.bitsAt_iff_none _ z).mp (hn.claim z)
    refine ⟨State.onProg_beyond s p fun _ => rfl, fun z => ?_, fun z h => (by rw [BitVec.getLsbD_zero] at h; cases h), fun z => ?_⟩
    · rw [BitVec.getLsbD_zero, if_neg Bool.false_ne_true, State.waitTogether, State.onProg_progs_self]
      exact Program.claim_waitTogether left (congrArg (fun b => b.2.1) (hbits z)) (congrArg (fun b => b.2.2.1) (hbits z))
    · rw [BitVec.getLsbD_zero]
      exact iff_of_false Bool.false_ne_true (hn.not_heldAs _ z)

/-- The newcomer's record after its claims. -/
theorem State.Claims.record {got : ZoneSet} (h : State.Claims s r p left got) :
    ∃ b, r.progs[p] = { s.progs[p] with
      requested := left, granted := got, waiting := left &&& ~~~got, held := 0#64, gotAll := b } := by
  have hbare := State.bare_apply (State.bare_of_beyond h.beyond) p
  have hsound (z : Zone) : r.progs[p].claim z ≠ .unsound := by
    rw [h.claim z]
    split
    · split <;> decide
    · decide
  have hbit (z : Zone) := Program.bits_of_claim (hsound z)
  have hreq : r.progs[p].requested = left := zoneSet_ext fun z => by
    rw [(hbit z).1, h.claim z]
    cases left.getLsbD z.val
    · rfl
    · cases got.getLsbD z.val <;> rfl
  have hgr : r.progs[p].granted = got := zoneSet_ext fun z => by
    rw [(hbit z).2.1, h.claim z]
    cases hl : left.getLsbD z.val
    · cases hg : got.getLsbD z.val
      · rfl
      · rw [h.within z hg] at hl; cases hl
    · cases got.getLsbD z.val <;> rfl
  have hheld : r.progs[p].held = 0#64 := zoneSet_ext fun z => by
    rw [(hbit z).2.2.1, h.claim z, BitVec.getLsbD_zero]
    cases left.getLsbD z.val
    · rfl
    · cases got.getLsbD z.val <;> rfl
  have hwait : r.progs[p].waiting = left &&& ~~~got := zoneSet_ext fun z => by
    rw [(hbit z).2.2.2, h.claim z, getLsbD_and_compl]
    cases left.getLsbD z.val
    · rfl
    · cases got.getLsbD z.val <;> rfl
  refine ⟨r.progs[p].gotAll, ?_⟩
  have hrec : r.progs[p] = { r.progs[p].bare with
      requested := r.progs[p].requested, granted := r.progs[p].granted, held := r.progs[p].held
      waiting := r.progs[p].waiting, gotAll := r.progs[p].gotAll } := rfl
  have hbare' : r.progs[p].bare = s.progs[p].bare := hbare
  rw [hbare', hreq, hgr, hheld, hwait] at hrec
  exact hrec

end Newcomer

end Sys2Proof.Machine
end

section
namespace Sys2Proof.Machine

/-! ### The first settling of a program just opened (R19, R20, R37, R104) -/

section FirstSettling
variable {s t r : State} {p q : ProgId} {z : Zone}

/-- The state with which a program just opened awaits its first settling. -/
structure Program.Unsettled (g : Program) : Prop where
  state : g.state = .pending
  ret : g.ret = none
  timer : g.waitTimer = none
  held : g.held = 0#64
  skipped : g.chimeSkipped = false

/-- A LIVE or CLIP program with a chime (R104). -/
def Program.chimes (g : Program) (pat : PatId) : Prop := (g.kind = .live ∨ g.kind = .clip) ∧ g.chime = some pat

theorem State.settleProgram_waits (h : s.progs[p].Unsettled) (hg : s.progs[p].granted = 0#64) (hw : s.progs[p].waiting ≠ 0#64) :
    (s.settleProgram p).progs[p] = { s.progs[p] with waitTimer := s.progs[p].waitLimit.map framesOfMs } ∧
      (s.settleProgram p).voices = s.voices ∧ (s.settleProgram p).chans = s.chans := by
  obtain ⟨hs, -, ht, hh, -⟩ := h
  have heq : s.settleProgram p = (s.onProg p fun g => { g with state := .pending }).onProg p Program.waitClock := by
    rw [State.settleProgram_eq, hs]
    simp only [State.settleOpen, hg, hh, hw, and_false, if_false, if_true]
    rw [State.enterUngranted]
    simp only [hs, hh]
    rfl
  rw [heq]
  refine ⟨?_, rfl, rfl⟩
  rw [State.onProg_progs_self, State.onProg_progs_self]
  simp only [Program.waitClock, ht]
  rw [← hs]

theorem State.settleProgram_enters (h : s.progs[p].Unsettled) (hg : s.progs[p].granted ≠ 0#64) :
    s.settleProgram p = (s.enterGranted p).onProg p Program.waitClock := by
  rw [State.settleProgram_eq, h.state]
  simp only [State.settleOpen, h.state, hg, false_and, if_false, true_or, if_true]

theorem State.firstActive_record (s : State) (p : ProgId) (skipped : Bool) : ∃ c, (s.firstActive p skipped).progs[p] =
    { s.progs[p] with state := .active, chimeSkipped := s.progs[p].chimeSkipped || skipped, clipStarted := c } := by
  have hself := s.onProg_progs_self p fun g => { g with state := .active, chimeSkipped := g.chimeSkipped || skipped }
  rw [State.firstActive, State.startClip]
  generalize (s.onProg p fun g => { g with state := .active, chimeSkipped := g.chimeSkipped || skipped }) = t at hself
  repeat' split
  any_goals exact ⟨_, hself⟩
  exact ⟨true, by rw [State.onProg_progs_self]; exact congrArg (fun g : Program => { g with clipStarted := true }) hself⟩

/-- A grant of a first zone starts the chime on a free voice, or skips it (R104). -/
theorem State.enterGranted_first (hr : s.progs[p].ret = none) :
    (∃ pat s1, s.progs[p].chimes pat ∧ s.bindVoice p pat = some s1 ∧
      s.enterGranted p = s1.onProg p fun g => { g with state := .preamble }) ∨
    (∃ pat, s.progs[p].chimes pat ∧ s.bindVoice p pat = none ∧ s.enterGranted p = s.firstActive p true) ∨
    ((∀ pat, ¬s.progs[p].chimes pat) ∧ s.enterGranted p = s.firstActive p false) := by
  unfold State.enterGranted Program.chimes
  simp only [hr]
  have hcase (pat : PatId) (hk : s.progs[p].kind = .live ∨ s.progs[p].kind = .clip) (hc : s.progs[p].chime = some pat) (u : State)
      (hu : u = match s.bindVoice p pat with
        | some s1 => s1.onProg p fun g => { g with state := .preamble }
        | none => s.firstActive p true) :
      (∃ pat s1, ((s.progs[p].kind = .live ∨ s.progs[p].kind = .clip) ∧ s.progs[p].chime = some pat) ∧ s.bindVoice p pat = some s1 ∧
        u = s1.onProg p fun g => { g with state := .preamble }) ∨
      (∃ pat, ((s.progs[p].kind = .live ∨ s.progs[p].kind = .clip) ∧ s.progs[p].chime = some pat) ∧ s.bindVoice p pat = none ∧
        u = s.firstActive p true) ∨
      ((∀ pat, ¬((s.progs[p].kind = .live ∨ s.progs[p].kind = .clip) ∧ s.progs[p].chime = some pat)) ∧
        u = s.firstActive p false) := by
    cases hb : s.bindVoice p pat with
    | none => exact Or.inr (Or.inl ⟨pat, ⟨hk, hc⟩, hb, by rw [hu, hb]⟩)
    | some s1 => exact Or.inl ⟨pat, s1, ⟨hk, hc⟩, hb, by rw [hu, hb]⟩
  split
  · next pat hk hc => exact hcase pat (Or.inl hk) hc _ rfl
  · next pat hk hc => exact hcase pat (Or.inr hk) hc _ rfl
  · next h1 h2 =>
    refine Or.inr (Or.inr ⟨?_, rfl⟩)
    rintro pat ⟨hk | hk, hc⟩
    · exact h1 pat hk hc
    · exact h2 pat hk hc

/-- The record of a program that takes its first state: PENDING, or PREAMBLE with its voice, or ACTIVE. -/
theorem State.settleProgram_first (h : s.progs[p].Unsettled) (hg : s.progs[p].granted ≠ 0#64) :
    (∃ pat s1, s.progs[p].chimes pat ∧ s.bindVoice p pat = some s1 ∧ (s.settleProgram p).voices = s1.voices ∧
      (s.settleProgram p).chans = s.chans ∧ (s.settleProgram p).progs[p] = { s.progs[p] with state := .preamble }) ∨
    (∃ b c, (s.settleProgram p).progs[p] = { s.progs[p] with state := .active, chimeSkipped := b, clipStarted := c } ∧
      (s.settleProgram p).voices = s.voices ∧ (s.settleProgram p).chans = (s.startClip p).chans ∧
      if b then ∃ pat, s.progs[p].chimes pat ∧ s.bindVoice p pat = none else ∀ pat, ¬s.progs[p].chimes pat) := by
  rw [State.settleProgram_enters h hg]
  have hactive (b : Bool) : ∃ c, ((s.firstActive p b).onProg p Program.waitClock).progs[p] =
      { s.progs[p] with state := .active, chimeSkipped := b, clipStarted := c } := by
    obtain ⟨c, hc⟩ := s.firstActive_record p b
    refine ⟨c, ?_⟩
    rw [State.onProg_progs_self, hc]
    simp only [Program.waitClock, h.skipped, Bool.false_or, ← h.timer]
  have hrest (b : Bool) : (s.firstActive p b).voices = s.voices ∧ (s.firstActive p b).chans = (s.startClip p).chans := by
    have hpart := s.onProg_progs_self p fun g => { g with state := .active, chimeSkipped := g.chimeSkipped || b }
    unfold State.firstActive State.startClip
    simp only [hpart]
    cases s.progs[p].clipPart with
    | none => exact ⟨rfl, rfl⟩
    | some part =>
      simp only
      cases part.channel with
      | none => exact ⟨rfl, rfl⟩
      | some ch => simp only; split <;> exact ⟨rfl, rfl⟩
  rcases State.enterGranted_first h.ret with ⟨pat, s1, hc, hb, e⟩ | ⟨pat, hc, hb, e⟩ | ⟨hc, e⟩
  · refine Or.inl ⟨pat, s1, hc, hb, by rw [e]; rfl, ?_, ?_⟩
    all_goals
      rw [e]
      obtain ⟨-, v, -, -, rfl⟩ := State.bindVoice_eq hb
    · rfl
    · rw [State.onProg_progs_self, State.onProg_progs_self]
      show Program.waitClock { s.progs[p] with state := .preamble } = _
      simp only [Program.waitClock, ← h.timer]
  · obtain ⟨c, hrec⟩ := hactive true
    refine Or.inr ⟨true, c, by rw [e]; exact hrec, by rw [e]; exact (hrest true).1, by rw [e]; exact (hrest true).2, ?_⟩
    rw [if_pos rfl]
    exact ⟨pat, hc, hb⟩
  · obtain ⟨c, hrec⟩ := hactive false
    refine Or.inr ⟨false, c, by rw [e]; exact hrec, by rw [e]; exact (hrest false).1, by rw [e]; exact (hrest false).2, ?_⟩
    rw [if_neg Bool.false_ne_true]
    exact hc

end FirstSettling

end Sys2Proof.Machine
end

section
namespace Sys2Proof.Machine

/-! ### What claims leave of the notices and of the channels (R78, R107) -/

section Calm
variable {s t u : State} {p o : ProgId} {z : Zone} {quiet : Bool}

/-- No notice has been taken back and no port's ALARM notice has changed; a channel that was free is free, and those of the pool
are as they were. -/
structure State.Calm (s u : State) : Prop where
  louder : State.Louder s u
  alarm : ∀ q : Port, (u.port q).has .alarm = (s.port q).has .alarm
  free : ∀ ch : ChanId, s.chans[ch].state = .free → u.chans[ch].state = .free
  pool : ∀ ch : ChanId, ch.val < 4 → u.chans[ch] = s.chans[ch]

theorem State.Calm.refl (s : State) : State.Calm s s := ⟨.refl s, fun _ => rfl, fun _ => id, fun _ _ => rfl⟩

theorem State.Calm.trans (h : State.Calm s t) (k : State.Calm t u) : State.Calm s u :=
  ⟨h.louder.trans k.louder, fun q => (k.alarm q).trans (h.alarm q), fun ch hc => k.free ch (h.free ch hc),
    fun ch hc => (k.pool ch hc).trans (h.pool ch hc)⟩

theorem State.port_of_ports (h : u.ports = s.ports) (q : Port) : u.port q = s.port q := by
  unfold State.port
  simp only [h]

theorem State.Calm.of_same (hp : u.ports = s.ports) (hc : u.chans = s.chans) : State.Calm s u :=
  ⟨.of_ports hp, fun q => by rw [State.port_of_ports hp], fun ch h => by simp only [hc]; exact h, fun ch _ => by simp only [hc]⟩

theorem State.Calm.raise {k : NoticeKind} (hk : k ≠ .alarm) (p : Port) (s : State) : State.Calm s (s.raise k p) :=
  ⟨s.raise_louder k p, fun q => by rw [State.raise_has, decide_eq_false (Ne.symm hk), Bool.false_and, Bool.or_false],
    fun _ => id, fun _ _ => rfl⟩

theorem State.Calm.raiseProgram (p : Port) (q : ProgId) (s : State) : State.Calm s (s.raiseProgram p q) :=
  ⟨s.raiseProgram_louder p q, fun r => by rw [State.raiseProgram_has, decide_eq_false (by decide), Bool.false_and, Bool.or_false],
    fun _ => id, fun _ _ => rfl⟩

theorem foldl_calm {α : Type} {f : State → α → State} (h : ∀ s a, State.Calm s (f s a)) (l : List α) (s : State) :
    State.Calm s (l.foldl f s) := by
  induction l generalizing s with
  | nil => exact .refl s
  | cons a l ih => exact (h s a).trans (ih _)

theorem Channel.free_gate {c : Channel} (h : c.state = .free) (pause : Bool) :
    (if pause then c.gatePause else c.gateContinue).state = .free := by
  cases pause
  · rw [if_neg Bool.false_ne_true, Channel.gateContinue, if_neg (fun e => by rw [h] at e; cases e.1)]
    exact h
  · rw [if_pos rfl, Channel.gatePause, h]
    exact h

theorem State.Calm.gateShow (s : State) (pause : Bool) : State.Calm s (s.gateShow pause) := by
  have hch (ch : ChanId) : (s.gateShow pause).chans[ch] = _ := getElem_remap ..
  refine ⟨.of_ports rfl, fun _ => rfl, fun ch h => ?_, fun ch h => ?_⟩
  · rw [hch]
    split
    · exact Channel.free_gate h pause
    · exact h
  · rw [hch, if_neg fun e => absurd e.1 (Nat.not_le.mpr h)]
    rfl

theorem State.Calm.raiseCue (s : State) (quiet : Bool) : State.Calm s (s.raiseCue quiet) := by
  unfold State.raiseCue
  split
  · exact .refl s
  · exact .raise (by decide) _ s

theorem State.Calm.enterHeld (s : State) (ret : EngineState) (quiet : Bool) : State.Calm s (s.enterHeld ret quiet) := by
  refine State.Calm.trans (State.Calm.trans ?_ (.gateShow _ true)) (.raiseCue _ quiet)
  exact .of_same rfl rfl

theorem State.Calm.reportTakeover (s : State) (quiet : Bool) : State.Calm s (s.reportTakeover quiet) := by
  unfold State.reportTakeover
  split
  · exact .enterHeld s _ quiet
  · exact .enterHeld s _ quiet
  · exact .enterHeld s _ quiet
  · exact .of_same rfl rfl
  · exact .refl s
  · exact .refl s

theorem State.Calm.displace (s : State) (o : ProgId) (z : Zone) : State.Calm s (s.displace o z) := by
  unfold State.displace State.evict
  repeat' split
  all_goals exact .of_same rfl rfl

theorem State.Calm.takeForeground (s : State) (quiet : Bool) (p : ProgId) (z : Zone) :
    State.Calm s (s.takeForeground quiet p z) := by
  unfold State.takeForeground
  split
  · exact .of_same rfl rfl
  · have h (o : ProgId) : State.Calm s ((s.displace o z).own p z) := (State.Calm.displace s o z).trans (.of_same rfl rfl)
    simp only
    split
    · exact (h _).trans (.reportTakeover _ quiet)
    · exact h _

theorem State.Calm.take (s : State) (quiet : Bool) (p : ProgId) (z : Zone) : State.Calm s (s.take quiet p z) := by
  unfold State.take
  split
  · exact .of_same rfl rfl
  · exact .takeForeground s quiet p z

theorem State.Calm.claimOne (s : State) (quiet : Bool) (p : ProgId) (z : Zone) : State.Calm s (s.claimOne quiet p z) := by
  unfold State.claimOne
  repeat' split
  · exact .refl s
  · exact .take s quiet p z
  · exact .of_same rfl rfl

theorem State.Calm.claimEach (s : State) (quiet : Bool) (p : ProgId) (zs : ZoneSet) : State.Calm s (s.claimEach quiet p zs) :=
  foldl_calm (fun s z => .claimOne s quiet p z) _ s

theorem State.Calm.claimTogether (s : State) (quiet : Bool) (p : ProgId) (zs : ZoneSet) :
    State.Calm s (s.claimTogether quiet p zs) := by
  rw [State.claimTogether_eq]
  split
  · rw [State.takeAll_eq]
    refine State.Calm.trans ?_ (foldl_calm (fun s z => .take s quiet p z) _ _)
    exact .of_same rfl rfl
  · exact .of_same rfl rfl

theorem State.Calm.raiseSurvey (s : State) (r : Requesters) (spare : Option Port) : State.Calm s (s.raiseSurvey r spare) := by
  refine foldl_calm (fun s p => ?_) _ s
  split
  · exact .refl s
  · exact .raise (by decide) p s

theorem State.Calm.takeHeads (s : State) (q : List QueueEntry) : State.Calm s (s.takeHeads q) := by
  induction q generalizing s with
  | nil => exact .of_same rfl rfl
  | cons e q ih =>
    unfold State.takeHeads
    split
    · split
      · refine State.Calm.trans ?_ (ih _)
        refine State.Calm.trans ?_ (.raiseSurvey _ _ _)
        exact .of_same rfl rfl
      · exact .of_same rfl rfl
    · exact .of_same rfl rfl

theorem State.Calm.takeHead (s : State) : State.Calm s s.takeHead := by
  unfold State.takeHead
  split
  · exact .takeHeads s _
  · exact .refl s

theorem State.Calm.duckHandOff (s0 s : State) : State.Calm s (State.duckHandOff s0 s) := .of_same rfl rfl

theorem State.Calm.resumeCheck (s0 s : State) (quiet : Bool) : State.Calm s (State.resumeCheck s0 s quiet) := by
  unfold State.resumeCheck
  split
  · exact .raiseCue s _
  · exact .refl s

theorem State.Calm.surveyCheck (s : State) : State.Calm s s.surveyCheck := by
  have habort : State.Calm s (s.abortSurvey none) := by
    unfold State.abortSurvey
    split
    · exact .refl s
    · refine State.Calm.trans (State.Calm.trans ?_ (.raiseSurvey _ _ _)) (.takeHead _)
      exact .of_same rfl rfl
  unfold State.surveyCheck
  repeat' split
  any_goals exact .refl s
  exact habort

theorem State.Calm.noticeOf (s0 s : State) (named : Option ProgId) (t : State) (p : ProgId) :
    State.Calm t (State.noticeOf s0 s named t p) := by
  unfold State.noticeOf
  split
  · exact .raiseProgram _ _ t
  · exact .refl t

/-- After the settling, the end of an operation raises no ALARM notice. -/
theorem State.Calm.finish (s0 s : State) (c : Cause) : State.Calm s.settleAll (State.finish s0 s c) := by
  rw [State.finish_eq, State.programNotices_eq]
  refine State.Calm.trans ?_ (foldl_calm (State.Calm.noticeOf s0 _ _) _ _)
  refine State.Calm.trans ?_ (.resumeCheck s0 _ c.quiet)
  exact State.Calm.trans (.duckHandOff s0 _) (.surveyCheck _)

end Calm

end Sys2Proof.Machine
end

section
namespace Sys2Proof.Machine

/-! ### ALARM_START: its refusals and what it runs (R79) -/

section AlarmStart
variable {s t u : State} {tx : Txn} {slot pattern : Byte} {zs : ZoneSet} {p o : ProgId} {z : Zone} {k : Fin 2} {pat : PatId}

/-- What ALARM_START does to a slot: opens its program, or starts its pattern again. -/
def State.alarmStart (s : State) (k : Fin 2) (pat : PatId) (zs : ZoneSet) : State :=
  if s.slots[k].state = .idle then s.alarmOpen k pat zs else s.alarmAgain k pat zs

theorem exec_alarmStart (hl : s.listens tx = true) (hp : tx.port = .saf) (hk : slot.toNat = k.val) (hpat : pattern.toNat = pat.val)
    (hz : zs ≠ 0#64) (hs : s.patterns[pat].steps ≠ []) :
    ∃ f : PortCtl → PortCtl, (∀ c, (f c).notices = c.notices) ∧
      let u := (s.onPort tx.port f).alarmStart k pat zs
      exec (.alarmStart tx slot pattern zs) s = .next (u.replied tx 0x30#8 .ok (alarmResults u k)) := by
  obtain ⟨f, hquiet, hf⟩ := portCommand_quiet hl 0x30#8 10 (fun s =>
    if tx.port != .saf then refuse s .privilege
    else
      match idx? 2 slot, idx? 16 pattern with
      | some k, some pat =>
        if zs == 0#64 then refuse s .param
        else if s.patterns[pat].steps.isEmpty then refuse s .notFound
        else
          let s1 := if s.slots[k].state = .idle then s.alarmOpen k pat zs else s.alarmAgain k pat zs
          okWith s1 (alarmResults s1 k)
      | _, _ => refuse s .param)
  refine ⟨f, hquiet, ?_⟩
  show portCommand s tx _ _ _ = _
  refine hf.trans ?_
  have hempty : ¬((s.onPort tx.port f).patterns[pat].steps.isEmpty = true) := fun e => hs (List.isEmpty_iff.mp e)
  simp only [hp, bne_self_eq_false, Bool.false_eq_true, if_false, idx?_of_toNat hk, idx?_of_toNat hpat, beq_iff_eq, hz]
  rw [hp] at hempty
  rw [if_neg hempty]
  rfl

theorem alarmStart_refused (hl : s.listens tx = true) (hs : s.served = true) :
    (tx.port ≠ .saf → exec (.alarmStart tx slot pattern zs) s = .next (s.replying tx 10 0x30#8 .privilege [])) ∧
    (tx.port = .saf → (1 < slot.toNat ∨ 15 < pattern.toNat ∨ zs = 0#64) →
      exec (.alarmStart tx slot pattern zs) s = .next (s.replying tx 10 0x30#8 .param [])) ∧
    (∀ pat : PatId, tx.port = .saf → slot.toNat ≤ 1 → pattern.toNat = pat.val → zs ≠ 0#64 → s.patterns[pat].steps = [] →
      exec (.alarmStart tx slot pattern zs) s = .next (s.replying tx 10 0x30#8 .notFound [])) := by
  refine ⟨fun hp => ?_, fun hp h => ?_, fun pat hp h1 h2 h3 h4 => ?_⟩
  all_goals
    show portCommand s tx _ _ _ = _
    refine portCommand_of_listens hl hs _ _ _ s _ _ ?_ rfl rfl rfl
    simp only [bne_iff_ne, hp, ne_eq, not_true_eq_false, not_false_eq_true, if_true, if_false]
  · rfl
  · by_cases hslot : 1 < slot.toNat
    · rw [idx?_of_large hslot]; rfl
    · by_cases hpat : 15 < pattern.toNat
      · rw [idx?_of_large hpat]
        cases idx? 2 slot <;> rfl
      · rw [idx?_of_toNat (i := (⟨slot.toNat, by omega⟩ : Fin 2)) rfl, idx?_of_toNat (i := (⟨pattern.toNat, by omega⟩ : Fin 16)) rfl]
        have hz : zs = 0#64 := by
          rcases h with h | h | h
          · exact absurd h hslot
          · exact absurd h hpat
          · exact h
        simp only [hz, beq_self_eq_true, if_true]
        rfl
  · rw [idx?_of_toNat (i := (⟨slot.toNat, by omega⟩ : Fin 2)) rfl, idx?_of_toNat h2]
    simp only [beq_iff_eq, h3, if_false]
    have hempty : (s.patterns[pat].steps).isEmpty = true := List.isEmpty_iff.mpr h4
    simp only [State.clockThrough_patterns, hempty, if_true]
    rfl

/-- An alarm's program takes a zone from every owner but program 0 (R26, R27). -/
theorem State.alarm_passes (hk : s.progs[progOfSlot k].kind = .alarm) (hc : s.progs[progOfSlot k].cls = 0)
    (ho : ∀ o : ProgId, s.zones[z].owner = some o → o ≠ progOfSlot k ∧ (s.progs[o].cls = 0 → o.val < 2)) :
    s.passes (progOfSlot k) z = true ∨ (k = 1 ∧ s.zones[z].owner = some 0) := by
  by_cases h0 : k = 1 ∧ s.zones[z].owner = some 0
  · exact Or.inr h0
  · refine Or.inl ((State.passes_of_foreground (by rw [hk]; exact fun e => ProgKind.noConfusion e) z).mpr fun o hown => ?_)
    obtain ⟨hne, hclass⟩ := ho o hown
    rw [State.beats_iff, hc]
    by_cases hz : s.progs[o].cls = 0
    · have hlt := hclass hz
      have hval : o.val ≠ k.val := fun e => hne (Fin.ext e)
      have hklt := k.isLt
      have ho1 : o.val = 1 - k.val := by omega
      by_cases hk1 : k.val = 1
      · refine absurd ⟨Fin.ext hk1, ?_⟩ h0
        rw [hown]
        exact congrArg some (Fin.ext (by rw [ho1, hk1]; rfl))
      · refine Or.inl ⟨rfl, hz, Fin.ext ?_, Fin.ext ?_⟩
        · show k.val = 0
          omega
        · show o.val = 1
          omega
    · exact Or.inr ⟨Nat.pos_of_ne_zero hz, Or.inl (Nat.zero_le _)⟩

end AlarmStart

end Sys2Proof.Machine
end

section
namespace Sys2Proof.Machine

section Newly
variable {s t u v : State} {p q o : ProgId} {y z : Zone} {zs left got : ZoneSet} {k : Fin 2} {pat : PatId} {g : Program}

/-- A closed program has no place in the zone table. -/
theorem State.absent_of_closed (ha : s.claimsAgree = true) (hk : s.kindsLawful = true) (hop : s.progs[p].isOpen = false) (z : Zone) :
    s.zones[z].owner ≠ some p ∧ p ∉ s.zones[z].stack ∧ s.zones[z].bed ≠ some p := by
  obtain ⟨hg, hh, -, -⟩ := State.sets_of_closed ha hop
  obtain ⟨ho, hb⟩ := (State.matched_of_agree ha hk).not_holder hg z
  refine ⟨ho, fun hm => ?_, hb⟩
  have := (State.held_of_agree ha p z).mpr hm
  rw [hh, BitVec.getLsbD_zero] at this
  cases this

theorem Program.claim_of_empty (hr : g.requested = 0#64) (hg : g.granted = 0#64) (hh : g.held = 0#64) (hw : g.waiting = 0#64)
    (z : Zone) : g.claim z = .none :=
  (g.bitsAt_iff_none z).mpr (by rw [Program.bitsAt, hr, hg, hh, hw, BitVec.getLsbD_zero])

/-- An owner is open. -/
theorem State.open_of_owner (ha : s.claimsAgree = true) (hk : s.kindsLawful = true) (ho : s.zones[z].owner = some o) :
    s.progs[o].isOpen = true := by
  refine Bool.not_eq_false _ |>.mp fun hc => (State.absent_of_closed ha hk hc z).1 ho

/-- A newcomer changes nothing in what the others hold. -/
theorem State.Matched.newcomer (h : s.Matched) (hp : ∀ z : Zone, s.zones[z].owner ≠ some p ∧ p ∉ s.zones[z].stack ∧ s.zones[z].bed ≠ some p)
    (hz : u.zones = s.zones) (hq : ∀ q : ProgId, q ≠ p → u.progs[q] = s.progs[q]) (hg : u.progs[p].granted = 0#64) : u.Matched := by
  intro z
  obtain ⟨ho, hs, hb⟩ := hp z
  have hm := h z
  have hne {o : ProgId} (e : s.zones[z].owner = some o) : o ≠ p := fun e' => ho (e' ▸ e)
  refine ⟨fun q => ?_, fun o => ?_, fun q => ?_, fun b => ?_⟩
  all_goals simp only [hz]
  · by_cases hqp : q = p
    · subst hqp
      rw [hg, BitVec.getLsbD_zero]
      refine iff_of_false Bool.false_ne_true ?_
      split
      · exact hb
      · exact ho
    · rw [hq q hqp]
      exact hm.granted q
  · intro e
    rw [hq o (hne e)]
    exact hm.ownerKind o e
  · intro e
    rw [hq q fun e' => hs (e' ▸ e)]
    exact hm.stackKind q e
  · intro e
    rw [hq b fun e' => hb (e' ▸ e)]
    exact hm.bedKind b e

/-- What the settling makes of a newcomer without chime: ACTIVE where it was granted a zone, else PENDING. -/
theorem State.Claims.settle_chimeless {r : State} (h : State.Claims s r p left got) (hl : left ≠ 0#64) (hu : s.progs[p].Unsettled)
    (hc : s.progs[p].chime = none) :
    ∃ b st sk cs, r.settleAll.progs[p] = { s.progs[p] with
        requested := left, granted := got, waiting := left &&& ~~~got, held := 0#64, gotAll := b, state := st
        waitTimer := if got = 0#64 then s.progs[p].waitLimit.map framesOfMs else none, chimeSkipped := sk, clipStarted := cs } ∧
      (st = .active ∨ st = .pending) := by
  obtain ⟨b, hrec⟩ := h.record
  obtain ⟨t, ht, hset⟩ := r.settleAll_turn p
  rw [hset]
  have hrun : t.progs[p].Unsettled := by rw [ht, hrec]; exact ⟨hu.state, hu.ret, hu.timer, rfl, hu.skipped⟩
  have htg : t.progs[p].granted = got := by rw [ht, hrec]
  have htw : t.progs[p].waiting = left &&& ~~~got := by rw [ht, hrec]
  by_cases hg : got = 0#64
  · have hw : left &&& ~~~got = left := by rw [hg, BitVec.not_zero, BitVec.and_allOnes]
    obtain ⟨hprog, -, -⟩ := State.settleProgram_waits hrun (htg.trans hg) (by rw [htw, hw]; exact hl)
    refine ⟨b, .pending, false, s.progs[p].clipStarted, ?_, Or.inr rfl⟩
    rw [hprog, ht, hrec, if_pos hg]
    simp only [hu.state, hu.skipped]
  · rcases State.settleProgram_first hrun (by rw [htg]; exact hg) with ⟨pat, -, ⟨-, hch⟩, -⟩ | ⟨sk, cs, hprog, -⟩
    · rw [ht, hrec] at hch
      rw [hc] at hch
      cases hch
    · refine ⟨b, .active, sk, cs, ?_, Or.inl rfl⟩
      rw [hprog, ht, hrec, if_neg hg]
      simp only [hu.timer]

end Newly

end Sys2Proof.Machine
end

section
namespace Sys2Proof.Machine

/-! ### ALARM_START on an IDLE slot (R79) -/

section AlarmOpen
variable {s u v : State} {p q o : ProgId} {z : Zone} {zs left : ZoneSet} {j k : Fin 2} {pat : PatId}

/-- The generator of a slot that has been given a pattern (R79). -/
theorem State.startTone_of_pattern (h : s.slots[k].pattern = some pat) :
    s.startTone k = s.onTone k fun _ => Player.start pat s.patterns[pat] := by
  rw [State.startTone, h]

/-- The state in which the program of a slot that ALARM_START has set sounding claims its zones. -/
def State.alarmStage (s : State) (k : Fin 2) (pat : PatId) : State :=
  (((s.takeRecord (progOfSlot k) (alarmRecord k)).onSlot k fun a => { a with state := .sounding, pattern := some pat }).startTone
    k).raiseAlarm true

theorem State.alarmStage_eq (s : State) (k : Fin 2) (pat : PatId) : s.alarmStage k pat =
    (((s.takeRecord (progOfSlot k) (alarmRecord k)).onSlot k fun a => { a with state := .sounding, pattern := some pat }).onTone k
      fun _ => Player.start pat s.patterns[pat]).raiseAlarm true := by
  rw [State.alarmStage, State.startTone_of_pattern (pat := pat) (by rw [State.onSlot_slot, if_pos rfl])]
  rfl

theorem State.alarmStage_zones (s : State) (k : Fin 2) (pat : PatId) : (s.alarmStage k pat).zones = s.zones := by
  rw [s.alarmStage_eq]; rfl

theorem State.alarmStage_self (s : State) (k : Fin 2) (pat : PatId) :
    (s.alarmStage k pat).progs[progOfSlot k] = { alarmRecord k with arrival := s.arrivals } := by
  rw [s.alarmStage_eq]
  exact s.takeRecord_self _ _

theorem State.alarmStage_other (s : State) (pat : PatId) (h : q ≠ progOfSlot k) :
    (s.alarmStage k pat).progs[q] = s.progs[q] := by
  rw [s.alarmStage_eq]
  exact s.takeRecord_other h _

theorem State.alarmStage_slot (s : State) (k : Fin 2) (pat : PatId) :
    (s.alarmStage k pat).slots[k] = { s.slots[k] with state := .sounding, pattern := some pat } ∧
      (s.alarmStage k pat).tone[k] = Player.start pat s.patterns[pat] := by
  rw [s.alarmStage_eq]
  refine ⟨(State.onSlot_slot _ k k _).trans (if_pos rfl), (State.onTone_player _ k k _).trans (if_pos rfl)⟩

theorem State.alarmOpen_of_left (s : State) (k : Fin 2) (pat : PatId) (h : zs &&& ~~~s.excludedSet ≠ 0#64) :
    s.alarmOpen k pat zs = State.finish (s.onProg (progOfSlot k) fun _ => Program.free)
      ((s.alarmStage k pat).claimEach false (progOfSlot k) (zs &&& ~~~s.excludedSet)) ⟨some (progOfSlot k), false⟩ := by
  have hx : (s.alarmStage k pat).excludedSet = s.excludedSet := State.excludedSet_congr (s.alarmStage_zones k pat)
  have ht : (s.alarmStage k pat).progs[progOfSlot k].together = false := by rw [s.alarmStage_self]; rfl
  rw [State.alarmOpen, if_neg h]
  show State.claimOpened s (s.alarmStage k pat) (progOfSlot k) zs _ = _
  unfold State.claimOpened
  simp only [hx, h, if_false, ht, Bool.false_eq_true]

theorem State.alarmStage_newcomer (ha : s.claimsAgree = true) (hk : s.kindsLawful = true) (hop : s.progs[progOfSlot k].isOpen = false)
    (pat : PatId) : (s.alarmStage k pat).Newcomer (progOfSlot k) := by
  refine ⟨fun z => ?_, fun z => ?_, fun z => ?_, fun z => ?_⟩
  · rw [s.alarmStage_self]
    exact Program.claim_of_empty rfl rfl rfl rfl z
  all_goals
    simp only [s.alarmStage_zones]
    obtain ⟨ho, hs, hb⟩ := State.absent_of_closed ha hk hop z
    assumption

theorem State.alarmStage_matched (ha : s.claimsAgree = true) (hk : s.kindsLawful = true) (hop : s.progs[progOfSlot k].isOpen = false)
    (pat : PatId) : (s.alarmStage k pat).Matched :=
  (State.matched_of_agree ha hk).newcomer (State.absent_of_closed ha hk hop) (s.alarmStage_zones k pat)
    (fun _ hq => s.alarmStage_other pat hq) (by rw [s.alarmStage_self]; rfl)

theorem State.alarmStage_openTo (ha : s.claimsAgree = true) (hk : s.kindsLawful = true) (hop : s.progs[progOfSlot k].isOpen = false)
    (pat : PatId) (z : Zone) : (s.alarmStage k pat).OpenTo (progOfSlot k) z := by
  obtain ⟨hg, hh, -, -⟩ := State.sets_of_closed ha hop
  obtain ⟨h1, h2, h3, h4⟩ := State.openTo_of_agree (p := progOfSlot k) (z := z) ha hk
    (by rw [hg, BitVec.getLsbD_zero]) (by rw [hh, BitVec.getLsbD_zero])
  have hz := s.alarmStage_zones k pat
  constructor
  all_goals
    simp only [hz]
    assumption

theorem State.alarmStage_passes (ha : s.claimsAgree = true) (hk : s.kindsLawful = true) (hc : s.classesLawful = true)
    (hop : s.progs[progOfSlot k].isOpen = false) (pat : PatId) (z : Zone) :
    (s.alarmStage k pat).passes (progOfSlot k) z = true ∨ (k = 1 ∧ s.zones[z].owner = some 0) := by
  have hz := s.alarmStage_zones k pat
  have := State.alarm_passes (s := s.alarmStage k pat) (k := k) (z := z) (by rw [s.alarmStage_self]; rfl)
    (by rw [s.alarmStage_self]; rfl) fun o ho => by
      simp only [hz] at ho
      have hopen := State.open_of_owner ha hk ho
      have hne : o ≠ progOfSlot k := fun e => by rw [e, hop] at hopen; cases hopen
      refine ⟨hne, fun h0 => ?_⟩
      rw [s.alarmStage_other pat hne] at h0
      exact (State.class_of_lawful hc hopen).mp h0
  simp only [hz] at this
  exact this

theorem State.alarmActive_of_slot (h : s.slots[k].state ≠ .idle) : s.alarmActive = true := by
  unfold State.alarmActive
  rw [Bool.or_eq_true, bne_iff_ne, bne_iff_ne]
  match k with
  | 0 => exact Or.inl h
  | 1 => exact Or.inr h

/-- The zones that ALARM_START on an IDLE slot gives its program, and the record, the slot and the notices it leaves. -/
theorem alarmOpen_effect (ha : s.claimsAgree = true) (hk : s.kindsLawful = true) (hc : s.classesLawful = true)
    (hop : s.progs[progOfSlot k].isOpen = false) (hl : zs &&& ~~~s.excludedSet ≠ 0#64) (pat : PatId) :
    let u := s.alarmOpen k pat zs
    let left := zs &&& ~~~s.excludedSet
    u.slots[k] = { s.slots[k] with state := .sounding, pattern := some pat } ∧ u.tone[k] = Player.start pat s.patterns[pat] ∧
      (∃ got b st sk cs, u.progs[progOfSlot k] = { alarmRecord k with
          arrival := s.arrivals, requested := left, granted := left &&& got, waiting := left &&& ~~~(left &&& got)
          gotAll := b, state := st, chimeSkipped := sk, clipStarted := cs } ∧ (st = .active ∨ st = .pending)) ∧
      (∀ z : Zone, left.getLsbD z.val = true → u.zones[z].owner = some (progOfSlot k) ∨ (k = 1 ∧ u.zones[z].owner = some 0)) ∧
      ∀ q : Port, q ≠ .saf → (u.port q).has .alarm = true := by
  intro u left
  let w := s.alarmStage k pat
  let r := w.claimEach false (progOfSlot k) left
  have hu : u = State.finish (s.onProg (progOfSlot k) fun _ => Program.free) r ⟨some (progOfSlot k), false⟩ :=
    s.alarmOpen_of_left k pat hl
  have hwz : w.zones = s.zones := s.alarmStage_zones k pat
  have hwp : w.progs[progOfSlot k] = { alarmRecord k with arrival := s.arrivals } := s.alarmStage_self k pat
  have hx (z : Zone) (hz : left.getLsbD z.val = true) : w.zones[z].excluded = false := by
    simp only [hwz]
    exact ((s.freshly_iff zs z).mp hz).2
  have hclaims := (State.alarmStage_newcomer ha hk hop pat).claimEach hx false
  have hmatched : r.Matched := (State.alarmStage_matched ha hk hop pat).claimEach
    (fun z _ => State.alarmStage_openTo ha hk hop pat z) false
  obtain ⟨b, st, sk, cs, hrec, hst⟩ := hclaims.settle_chimeless hl (by rw [hwp]; exact ⟨rfl, rfl, rfl, rfl, rfl⟩) (by rw [hwp]; rfl)
  obtain ⟨b', hrrec⟩ := hclaims.record
  have hstay : r.Staying (progOfSlot k) := fun _ => by
    rw [hrrec, hwp]
    refine ⟨fun e => ProgState.noConfusion e, ?_⟩
    by_cases hg : left &&& zonesWhere (fun z => w.passes (progOfSlot k) z) = 0#64
    · refine Or.inr (Or.inr ?_)
      show left &&& ~~~(left &&& zonesWhere fun z => w.passes (progOfSlot k) z) ≠ 0#64
      rw [hg, BitVec.not_zero, BitVec.and_allOnes]
      exact hl
    · exact Or.inl hg
  obtain ⟨hslots, htones, -⟩ := State.bench_of_lasting (State.finish_lasting (s.onProg (progOfSlot k) fun _ => Program.free) r
    ⟨some (progOfSlot k), false⟩)
  obtain ⟨hsl, htn⟩ := State.settleAll_slot_stays hstay
  obtain ⟨hws, hwt⟩ := s.alarmStage_slot k pat
  have hrs : r.slots = w.slots := (congrArg State.slots (w.claimEach_beyond false (progOfSlot k) left) :)
  have hrt : r.tone = w.tone := (congrArg State.tone (w.claimEach_beyond false (progOfSlot k) left) :)
  refine ⟨?_, ?_, ⟨zonesWhere fun z => w.passes (progOfSlot k) z, b, st, sk, cs, ?_, hst⟩, fun z hz => ?_, fun q hq => ?_⟩
  · rw [hu]
    simp only [hslots]
    refine hsl.trans ?_
    simp only [hrs]
    exact hws
  · rw [hu]
    simp only [htones]
    refine htn.trans ?_
    simp only [hrt]
    exact hwt
  · rw [hu]
    refine (State.finish_state _ r _ (progOfSlot k)).trans (hrec.trans ?_)
    rw [hwp]
    have htimer (c : Prop) [Decidable c] : (if c then (alarmRecord k).waitLimit.map framesOfMs else none) = none := ite_self _
    simp only [htimer]
    rfl
  · obtain ⟨hpass, hfail⟩ := State.claimEach_turn hz (hx z hz) (State.alarmStage_openTo ha hk hop pat z) false
    rw [hu, (hmatched.finish_zone _ _ z).1]
    cases hp : w.passes (progOfSlot k) z
    · rw [(hfail hp).1]
      rcases State.alarmStage_passes ha hk hc hop pat z with e | ⟨h1, h2⟩
      · rw [hp] at e; cases e
      · refine Or.inr ⟨h1, ?_⟩
        simp only [hwz]
        exact h2
    · obtain ⟨-, hown⟩ := hpass hp
      rw [if_neg (by rw [hwp]; exact fun e => ProgKind.noConfusion e)] at hown
      exact Or.inl hown
  · have hw : (w.port q).has .alarm = true := by
      show ((s.alarmStage k pat).port q).has .alarm = true
      rw [s.alarmStage_eq]
      exact State.raiseAlarm_has _ true (Or.inr hq)
    have hr : (r.port q).has .alarm = true := by
      rw [(State.Calm.claimEach w false (progOfSlot k) left).alarm q]
      exact hw
    rw [hu]
    exact (State.finish_louder _ r _ q).1 _ hr

end AlarmOpen

end Sys2Proof.Machine
end

section
namespace Sys2Proof.Machine

section AlarmOpenNothing
variable {s : State} {p q : ProgId} {z : Zone} {zs : ZoneSet} {k : Fin 2} {pat : PatId}

/-- A pending program without any zone ends at the settling. -/
theorem State.settleProgram_of_nothing (hs : s.progs[p].state = .pending) (hg : s.progs[p].granted = 0#64)
    (hh : s.progs[p].held = 0#64) (hw : s.progs[p].waiting = 0#64) : s.settleProgram p = s.endProgram p .noZones := by
  rw [State.settleProgram_eq, hs]
  simp only [State.settleOpen, hg, hh, hw, and_self, if_true]

/-- An open with every zone excluded claims nothing. -/
theorem State.claimOpened_of_none (h : zs &&& ~~~s.excludedSet = 0#64) (s0 : State) (p : ProgId) (c : Cause) :
    State.claimOpened s0 s p zs c = State.finish (s0.onProg p fun _ => Program.free) s c := by
  unfold State.claimOpened
  simp only [h, if_true]

theorem State.ownerClass_onProg (hp : s.zones[z].owner ≠ some p) (f : Program → Program) :
    (s.onProg p f).ownerClass z = s.ownerClass z := by
  cases ho : s.zones[z].owner with
  | none => rw [State.ownerClass_of_none (s := s.onProg p f) ho, State.ownerClass_of_none ho]
  | some o =>
    rw [State.ownerClass_of_owner (s := s.onProg p f) ho, State.ownerClass_of_owner ho,
      State.onProg_progs_ne s fun e => hp (by rw [ho, e])]

/-- ALARM_START on an IDLE slot with every zone excluded: the program ends at once, nothing else changes. -/
theorem alarmOpen_nothing (hr : s.atRest = true) (ha : s.claimsAgree = true) (hk : s.kindsLawful = true)
    (hop : s.progs[progOfSlot k].isOpen = false) (hi : s.slots[k].state = .idle) (hl : zs &&& ~~~s.excludedSet = 0#64) (pat : PatId) :
    let u := s.alarmOpen k pat zs
    u.progs[progOfSlot k] = ({ alarmRecord k with arrival := s.arrivals } : Program).finished .noZones ∧
      (∀ q : ProgId, q ≠ progOfSlot k → u.progs[q] = s.progs[q]) ∧ u.slots = s.slots ∧ u.tone = s.tone ∧ u.zones = s.zones := by
  intro u
  obtain ⟨hfollow, hclear, -⟩ := (State.atRest_iff s).mp hr
  let p := progOfSlot k
  let s0 := s.onProg p fun _ => Program.free
  let w := s.takeRecord p (alarmRecord k)
  have habs := State.absent_of_closed ha hk hop
  have hu : u = State.finish s0 w ⟨some p, false⟩ := by
    show s.alarmOpen k pat zs = _
    rw [State.alarmOpen, if_pos hl]
    exact State.claimOpened_of_none (s := w) hl s p _
  have hself : w.progs[p] = { alarmRecord k with arrival := s.arrivals } := s.takeRecord_self p _
  have hother (q : ProgId) (hq : q ≠ p) : w.progs[q] = s.progs[q] := s.takeRecord_other hq _
  have hset : w.settleAll = w.endProgram p .noZones := by
    rw [State.settleAll_of_others (p := p) fun q hq => by rw [hother q hq]; exact State.settled_of_follow hfollow q]
    exact State.settleProgram_of_nothing (by rw [hself]; rfl) (by rw [hself]; rfl) (by rw [hself]; rfl) (by rw [hself]; rfl)
  have hzone (z : Zone) : (w.endProgram p .noZones).zones[z] = s.zones[z] := by
    rw [State.endProgram_zone]
    exact ZoneRec.strip_of_absent (habs z).1 (habs z).2.1 (habs z).2.2
  have hzones : (w.endProgram p .noZones).zones = s.zones := Vector.ext fun i hi => hzone ⟨i, hi⟩
  have hsil : u.silent = (w.endProgram p .noZones).silent := by
    rw [hu, ← hset]
    refine State.finish_of_bystander _ ?_ ?_ ?_ ?_
    · exact State.surveyClear_congr (s := s) rfl (fun z => State.ownerClass_onProg (habs z).1 _) hclear
    · rw [hset, State.endProgram_survey]; rfl
    · intro z
      rw [hset, hzone]
      rfl
    · intro z o ho
      have hne : o ≠ p := fun e => (habs z).1 (ho.trans (congrArg some e))
      rw [hset, State.endProgram_other w hne, hother o hne, State.onProg_progs_ne s hne]
  have hslot : (w.endProgram p .noZones).slots = s.slots ∧ (w.endProgram p .noZones).tone = s.tone := by
    rw [State.endProgram_eq, State.slotProgramEnded_slot, if_pos (by rw [w.unbound_slots]; exact hi)]
    exact ⟨w.unbound_slots p _, w.unbound_tone p _⟩
  obtain ⟨h1, h2, -⟩ := State.bench_of_lasting (State.lasting_of_silent hsil)
  have hprogs := State.progs_of_silent hsil
  refine ⟨?_, fun q hq => ?_, h1.trans hslot.1, h2.trans hslot.2, (State.zones_of_silent hsil).trans hzones⟩
  · simp only [hprogs]
    refine (w.endProgram_self p .noZones).trans ?_
    rw [hself]
  · simp only [hprogs]
    exact (w.endProgram_other hq .noZones).trans (hother q hq)

end AlarmOpenNothing

end Sys2Proof.Machine
end

section
namespace Sys2Proof.Machine

/-! ### What an alarm's program keeps while the other claims zones (R27) -/

section AlarmKeeps
variable {r : Roles} {c : Cell} {pend : Prop} {o p q : ProgId} {z : Zone} {zs : ZoneSet} {s t u : State} {quiet : Bool}
  {pends : Zone → Prop}

theorem length_le_two_of_alarms {l : List ProgId} (hn : l.Nodup) (h : ∀ q ∈ l, q.val < 2) : l.length ≤ 2 := by
  have hsub : l ⊆ [0, 1] := fun q hq => by
    have := h q hq
    rcases Nat.lt_or_ge q.val 1 with h0 | h1
    · rw [show q = 0 from Fin.ext (by omega)]
      exact List.mem_cons_self
    · rw [show q = 1 from Fin.ext (by show q.val = 1; omega)]
      exact List.mem_cons_of_mem _ List.mem_cons_self
  exact (List.subperm_of_subset hn hsub).length_le

/-- An alarm's program is never the entry that a full stack evicts: the entries above it would be of class 0 too. -/
theorem CellOk.alarm_not_bottom (h : CellOk r pend c) (hr : r.Lawful) (hq : q.val < 2) (hop : r.isOpen q = true)
    (hfull : 3 ≤ c.stack.length) : c.stack.getLast? ≠ some q := by
  intro hlast
  obtain ⟨init, hinit⟩ := List.getLast?_eq_some_iff.mp hlast
  have hzero : r.cls q = 0 := (hr.class_zero q hop).mpr hq
  have hrise : (init ++ [q]).Pairwise fun a b => r.cls a ≤ r.cls b := by
    rw [← hinit]
    exact (List.pairwise_append.mp h.rising).2.1
  have hall (x : ProgId) (hx : x ∈ c.stack) : x.val < 2 := by
    refine (hr.class_zero x (h.held_open hx)).mp ?_
    rw [hinit, List.mem_append, List.mem_singleton] at hx
    rcases hx with hx | rfl
    · have := (List.pairwise_append.mp hrise).2.2 x hx q (List.mem_singleton.mpr rfl)
      omega
    · exact hzero
  have := length_le_two_of_alarms h.nodup hall
  omega

/-- An owner that loses its zone leaves every alarm's program a part in it that has one. -/
theorem CellOk.displace_alarm (h : CellOk r pend c) (hr : r.Lawful) (hq : q.val < 2) (hop : r.isOpen q = true)
    (hc : c.claim q ≠ .none) (o : ProgId) : (c.displace r o).claim q ≠ .none := by
  have hset {d : Cell} {x : ProgId} {y : Claim} (hy : x ≠ q ∨ y ≠ .none) (hd : d.claim q ≠ .none) : (d.set x y).claim q ≠ .none := by
    simp only [Cell.set]
    split
    · next e => exact hy.resolve_left fun hn => hn e
    · exact hd
  unfold Cell.displace
  split
  · split
    · exact hset (Or.inr (by decide)) hc
    · next b hfull =>
      refine hset (Or.inr (by decide)) (hset (Or.inl ?_) hc)
      rintro rfl
      split at hfull
      · next hlen => exact h.alarm_not_bottom hr hq hop hlen hfull
      · cases hfull
  · next hk =>
    refine hset (Or.inl ?_) hc
    rintro rfl
    rw [hr.alarm o hq hop] at hk
    exact hk rfl

theorem State.Table.claim_take (h : s.Table pends) (hq : q.val < 2) (hop : s.progs[q].isOpen = true) (hqp : q ≠ p)
    (hc : s.progs[q].claim z ≠ .none) (quiet : Bool) : (s.take quiet p z).progs[q].claim z ≠ .none := by
  unfold State.take
  split
  · rw [State.takeBed_prog, if_neg (Ne.symm hqp)]
    exact hc
  · cases ho : s.zones[z].owner with
    | none =>
      rw [State.takeForeground_of_unowned ho, State.own_prog, if_neg (Ne.symm hqp)]
      exact hc
    | some o =>
      have hcell := State.takeForeground_cell ho ((h.cell z).claim_owner ho) (h.not_evicted ho) quiet p
      have hkeep := (h.cell z).displace_alarm h.roles hq hop hc o
      have hclaim : ((s.takeForeground quiet p z).cell z).claim q ≠ .none := by
        rw [hcell]
        simp only [Cell.own, Cell.set]
        rw [if_neg (Ne.symm hqp)]
        exact hkeep
      exact hclaim

/-- The claims of one program leave an alarm's program a part in each zone in which it has one. -/
theorem State.Table.claimEach_alarm (h : s.Table noZone) (hq : q.val < 2) (hop : s.progs[q].isOpen = true) (hqp : q ≠ p)
    (hc : s.progs[q].claim z ≠ .none) (hcl : ∀ z : Zone, zs.getLsbD z.val = true → s.Claimant p z) (quiet : Bool) :
    (s.claimEach quiet p zs).progs[q].claim z ≠ .none := by
  refine (foldl_keeps (f := fun s z => s.claimOne quiet p z) (P := fun s => s.Table noZone ∧ s.progs[q].isOpen = true ∧
    s.progs[q].claim z ≠ .none) (Q := fun s y => s.Claimant p y) (fun s z => s.claimOne_stepAt quiet p z) ?_
    (fun hs hy hc => hc.step hs hy) (zonesOf_nodup zs) ⟨h, hop, hc⟩ fun y hy => hcl y ((mem_zonesOf _ _).mp hy)).2.2
  rintro t y ⟨ht, hto, htc⟩ hty
  refine ⟨ht.claimOne hty quiet, ?_, ?_⟩
  · have hst := State.state_of_beyond (t.claimOne_stepAt quiet p y).beyond q
    unfold Program.isOpen at hto ⊢
    rw [hst]
    exact hto
  · by_cases hy : z = y
    · subst hy
      unfold State.claimOne
      split
      · exact htc
      · split
        · exact ht.claim_take hq hto hqp htc quiet
        · rw [State.onProg_progs_ne t hqp]
          exact htc
    · rw [(t.claimOne_stepAt quiet p y).claim z q hy]
      exact htc

theorem Program.some_set_of_claim {g : Program} (hs : g.claim z ≠ .unsound) (hc : g.claim z ≠ .none) :
    g.granted ≠ 0#64 ∨ g.held ≠ 0#64 ∨ g.waiting ≠ 0#64 := by
  obtain ⟨-, hg, hh, hw⟩ := Program.bits_of_claim hs
  cases e : g.claim z with
  | none => exact absurd e hc
  | unsound => exact absurd e hs
  | granted => exact Or.inl (ne_zero_of_bit (hg.trans (decide_eq_true e)))
  | held => exact Or.inr (Or.inl (ne_zero_of_bit (hh.trans (decide_eq_true e))))
  | waiting => exact Or.inr (Or.inr (ne_zero_of_bit (hw.trans (decide_eq_true e))))

/-- The zone table speaks of the programs, the zones and the order of opening alone. -/
theorem State.Table.congr (h : s.Table pends) (hp : u.progs = s.progs) (hz : u.zones = s.zones) (ho : u.openOrder = s.openOrder) :
    u.Table pends := by
  have hcell (z : Zone) : u.cell z = s.cell z := by
    unfold State.cell
    simp only [hp, hz]
  have hroles : u.roles = s.roles := by
    unfold State.roles
    simp only [hp]
  refine ⟨fun z => ?_, ?_, ?_, ?_, ?_⟩
  · rw [hcell, hroles]
    exact h.cell z
  · rw [hroles]
    exact h.roles
  · simp only [hp]
    exact h.whole
  · simp only [hp]
    exact h.alone
  · simp only [hp, ho]
    exact h.listed

theorem foldl_settle_patterns (l : List ProgId) (s : State) :
    (l.foldl (fun s q => s.settleProgram q) s).patterns = s.patterns := by
  refine List.foldlRecOn (motive := fun u : State => u.patterns = s.patterns) _ _ rfl fun u hu q _ => Eq.trans ?_ hu
  rcases u.settleProgram_cases q with ⟨e, -⟩ | ⟨hm, -⟩
  · rw [e]
    exact (congrArg State.patterns (u.endProgram_books q .noZones) :)
  · exact (congrArg State.patterns hm.steady :)

theorem State.settleAll_patterns (s : State) : s.settleAll.patterns = s.patterns := foldl_settle_patterns _ s

end AlarmKeeps

end Sys2Proof.Machine
end

section
namespace Sys2Proof.Machine

/-! ### ALARM_START on a slot that is not IDLE (R80) -/

section AlarmAgain
variable {s w u v : State} {p q o : ProgId} {z : Zone} {zs : ZoneSet} {j k : Fin 2} {pat : PatId} {ch : ChanId}

/-- The zones of a set by which a program's request grows. -/
def State.growth (w : State) (p : ProgId) (zs : ZoneSet) : ZoneSet := w.fresh p (zs &&& ~~~w.progs[p].requested)

theorem State.growth_iff (ha : w.claimsAgree = true) : (w.growth p zs).getLsbD z.val = true ↔
    zs.getLsbD z.val = true ∧ w.zones[z].excluded = false ∧ w.progs[p].requested.getLsbD z.val = false := by
  unfold State.growth
  rw [State.fresh_iff, getLsbD_and_compl, Bool.and_eq_true, Bool.not_eq_true']
  constructor
  · rintro ⟨⟨h1, h2⟩, h3, -, -⟩
    exact ⟨h1, h3, h2⟩
  · rintro ⟨h1, h2, h3⟩
    have hnone := (State.requested_of_agree (p := p) (z := z) ha).not.mp (by rw [h3]; exact Bool.false_ne_true)
    rw [not_not] at hnone
    have hbits := (Program.bitsAt_iff_none _ z).mp hnone
    exact ⟨⟨h1, h3⟩, h2, congrArg (fun b => b.2.1) hbits, congrArg (fun b => b.2.2.1) hbits⟩

/-- An alarm's program whose request is to grow by the zones of a set. -/
structure State.Grows (w : State) (k : Fin 2) : Prop where
  table : w.Table noZone
  settled : ∀ q : ProgId, w.progs[q].settled = true
  isOpen : w.progs[progOfSlot k].isOpen = true
  single : w.progs[progOfSlot k].together = false
  notTail : w.progs[progOfSlot k].state ≠ .tail

theorem State.Grows.claimant (h : w.Grows k) (hz : (w.growth (progOfSlot k) zs).getLsbD z.val = true) :
    w.Claimant (progOfSlot k) z := by
  obtain ⟨-, -, hgr, hh⟩ := (w.fresh_iff _ _ z).mp hz
  exact ⟨h.isOpen, h.notTail, h.single, Program.claim_of_bits ((h.table.cell z).sound _) hgr hh⟩

theorem State.Grows.grown (h : w.Grows k) (zs : ZoneSet) :
    (w.claimEach false (progOfSlot k) (w.growth (progOfSlot k) zs)).Table noZone :=
  h.table.claimEach (fun _ hz => h.claimant hz) false

theorem State.Grows.openTo (h : w.Grows k) (hz : (w.growth (progOfSlot k) zs).getLsbD z.val = true) :
    w.OpenTo (progOfSlot k) z :=
  State.fresh_openTo h.table.agree h.table.kinds hz

theorem State.isOpen_of_beyond (h : u.beyond = s.beyond) (q : ProgId) : u.progs[q].isOpen = s.progs[q].isOpen := by
  unfold Program.isOpen
  rw [State.state_of_beyond h q]

/-- While the request grows no slot's program loses its last zone. -/
theorem State.Grows.staying (h : w.Grows k) (zs : ZoneSet) (j : Fin 2) :
    (w.claimEach false (progOfSlot k) (w.growth (progOfSlot k) zs)).Staying (progOfSlot j) := by
  intro hop
  have hb := w.claimEach_beyond false (progOfSlot k) (w.growth (progOfSlot k) zs)
  have hop' : w.progs[progOfSlot j].isOpen = true := (State.isOpen_of_beyond hb _).symm.trans hop
  have htable := h.grown zs
  have halarm : w.progs[progOfSlot j].kind = .alarm := h.table.roles.alarm (progOfSlot j) j.isLt hop'
  refine ⟨fun e => ?_, ?_⟩
  · have hlive := h.table.roles.tail_live (progOfSlot j) (beq_iff_eq.mpr ((State.state_of_beyond hb _).symm.trans e))
    exact ProgKind.noConfusion (halarm.symm.trans hlive)
  · have hne := Program.requested_ne (fun z => (h.table.cell z).sound (progOfSlot j)) (h.settled _) hop'
    obtain ⟨z, hz⟩ : ∃ z : Zone, w.progs[progOfSlot j].requested.getLsbD z.val = true := by
      by_contra hno
      refine hne ((zoneSet_eq_zero_iff _).mpr fun z => ?_)
      exact Bool.not_eq_true _ |>.mp fun e => hno ⟨z, e⟩
    have hclaim := (State.requested_of_agree h.table.agree).mp hz
    refine Program.some_set_of_claim (z := z) ((htable.cell z).sound _) ?_
    by_cases hj : progOfSlot j = progOfSlot k
    · have hout : (w.growth (progOfSlot k) zs).getLsbD z.val = false := by
        refine Bool.not_eq_true _ |>.mp fun e => ?_
        have := ((State.growth_iff h.table.agree).mp e).2.2
        rw [← hj, hz] at this
        cases this
      rw [(State.claimEach_spares hout w false (progOfSlot k)).claim]
      exact hclaim
    · exact h.table.claimEach_alarm j.isLt hop' hj hclaim (fun _ hz => h.claimant hz) false

/-- The grown request, and the owners of its zones. -/
theorem State.Grows.request (h : w.Grows k) (zs : ZoneSet) :
    (w.claimEach false (progOfSlot k) (w.growth (progOfSlot k) zs)).progs[progOfSlot k].requested =
      w.progs[progOfSlot k].requested ||| (zs &&& ~~~w.excludedSet) := by
  refine zoneSet_ext fun z => ?_
  rw [BitVec.getLsbD_or]
  cases hz : (w.growth (progOfSlot k) zs).getLsbD z.val
  · have hbits := (State.claimEach_spares hz w false (progOfSlot k)).bits (progOfSlot k)
    refine (congrArg (fun b => b.1) hbits).trans ?_
    show w.progs[progOfSlot k].requested.getLsbD z.val = _
    cases hr : w.progs[progOfSlot k].requested.getLsbD z.val
    · have hno := (State.growth_iff (p := progOfSlot k) (zs := zs) (z := z) h.table.agree).not.mp (by rw [hz]; exact Bool.false_ne_true)
      rw [Bool.false_or]
      refine (Bool.not_eq_true _ |>.mp fun e => hno ?_).symm
      obtain ⟨h1, h2⟩ := (w.freshly_iff zs z).mp e
      exact ⟨h1, h2, hr⟩
    · rfl
  · obtain ⟨h1, h2, h3⟩ := (State.growth_iff h.table.agree).mp hz
    rw [h3, (w.freshly_iff zs z).mpr ⟨h1, h2⟩, Bool.false_or]
    obtain ⟨hpass, hfail⟩ := State.claimEach_turn hz h2 (h.openTo hz) false
    refine ((h.grown zs).requested_iff _ z).mpr fun e => ?_
    have hbits := (Program.bitsAt_iff_none _ z).mp e
    cases hp : w.passes (progOfSlot k) z
    · have := (congrArg (fun b => b.2.2.2) hbits).symm.trans (hfail hp).2
      cases this
    · have := (congrArg (fun b => b.2.1) hbits).symm.trans (hpass hp).1
      cases this

theorem State.Grows.owner (h : w.Grows k) (hz : (w.growth (progOfSlot k) zs).getLsbD z.val = true) :
    (w.claimEach false (progOfSlot k) (w.growth (progOfSlot k) zs)).zones[z].owner = some (progOfSlot k) ∨
      (k = 1 ∧ (w.claimEach false (progOfSlot k) (w.growth (progOfSlot k) zs)).zones[z].owner = some 0) := by
  obtain ⟨-, hx, hreq⟩ := (State.growth_iff h.table.agree).mp hz
  obtain ⟨hpass, hfail⟩ := State.claimEach_turn hz hx (h.openTo hz) false
  have halarm : w.progs[progOfSlot k].kind = .alarm := h.table.roles.alarm (progOfSlot k) k.isLt h.isOpen
  have hpasses := State.alarm_passes (s := w) (z := z) halarm ((h.table.roles.class_zero _ h.isOpen).mpr k.isLt) fun o ho =>
    ⟨fun e => (h.openTo hz).owner (ho.trans (congrArg some e)),
      (h.table.roles.class_zero o ((h.table.cell z).owner_open ho)).mp⟩
  cases hp : w.passes (progOfSlot k) z
  · rw [hp] at hpasses
    rcases hpasses with e | ⟨h1, h2⟩
    · cases e
    · rw [(hfail hp).1]
      exact Or.inr ⟨h1, h2⟩
  · have hown := (hpass hp).2
    rw [if_neg (by rw [halarm]; exact fun e => ProgKind.noConfusion e)] at hown
    exact Or.inl hown

theorem State.closeWindow_same (s : State) (k : Fin 2) : (s.closeWindow k).progs = s.progs ∧ (s.closeWindow k).zones = s.zones ∧
    (s.closeWindow k).openOrder = s.openOrder ∧ (s.closeWindow k).patterns = s.patterns := by
  unfold State.closeWindow
  repeat' split
  all_goals exact ⟨rfl, rfl, rfl, rfl⟩

end AlarmAgain

end Sys2Proof.Machine
end

section
namespace Sys2Proof.Machine

section AlarmAgainEffect
variable {s u v w : State} {p q o : ProgId} {z : Zone} {zs : ZoneSet} {j k : Fin 2} {pat : PatId} {ch : ChanId}

/-- The state in which the program of the slot has its grown request and its generator has not started yet. -/
def State.regrown (s : State) (k : Fin 2) (zs : ZoneSet) : State :=
  let w := s.closeWindow k
  State.finish w (w.claimEach false (progOfSlot k) (w.growth (progOfSlot k) zs)) ⟨some (progOfSlot k), false⟩

theorem State.alarmAgain_eq (hs : s.progs[progOfSlot k].together = false) (hpat : (s.regrown k zs).patterns = s.patterns) (pat : PatId) :
    s.alarmAgain k pat zs =
      let v := ((s.regrown k zs).onSlot k fun a => { a with state := .sounding, pattern := some pat }).onTone k
        fun _ => Player.start pat s.patterns[pat]
      if s.slots[k].state = .sounding then v else v.raiseAlarm true := by
  have hadd : (s.closeWindow k).addZonesTo (progOfSlot k) (zs &&& ~~~(s.closeWindow k).progs[progOfSlot k].requested)
      ⟨some (progOfSlot k), false⟩ = s.regrown k zs := by
    rw [State.addZonesTo, State.claimMore_single (by simp only [(s.closeWindow_same k).1]; exact hs)]
    rfl
  unfold State.alarmAgain
  simp only [hadd]
  rw [State.startTone_of_pattern (pat := pat) (by rw [State.onSlot_slot, if_pos rfl])]
  have hpats : ((s.regrown k zs).onSlot k fun a => { a with state := .sounding, pattern := some pat }).patterns = s.patterns := hpat
  simp only [hpats]

theorem State.grows_of_laws (h : s.ClaimLaws) (hset : ∀ q : ProgId, s.progs[q].settled = true) (hi : s.slots[k].state ≠ .idle) :
    (s.closeWindow k).Grows k := by
  obtain ⟨hp, hz, ho, -⟩ := s.closeWindow_same k
  obtain ⟨hop, -, hpol, htail⟩ := h.slot_program hi
  refine ⟨h.table.congr hp hz ho, ?_, ?_, ?_, ?_⟩
  all_goals simp only [hp]
  · exact hset
  · exact hop
  · refine Bool.not_eq_true _ |>.mp fun e => ?_
    have := ((Program.together_iff _).mp e).1
    exact Policy.noConfusion (hpol.symm.trans this)
  · exact htail

theorem State.patterns_of_lasting (h : u.lasting = s.lasting) : u.patterns = s.patterns := (congrArg State.patterns h :)

/-- What the growth of the request leaves in the slots and of the notices, and that it releases the window's channel. -/
theorem State.regrown_bench (h : (s.closeWindow k).Grows k) (zs : ZoneSet) :
    (∀ j : Fin 2, (s.regrown k zs).slots[j] = (s.closeWindow k).slots[j]) ∧ (s.regrown k zs).patterns = s.patterns ∧
      (∀ q : Port, ((s.regrown k zs).port q).has .alarm = (s.port q).has .alarm) ∧
      ∀ ch, s.Reserved k ch → (s.slots[k].window.bind fun w => w.source.channel) = some ch →
        (s.regrown k zs).chans[ch].state = .free ∧ (s.regrown k zs).chans[ch].user = none ∧ (s.regrown k zs).chans[ch].clip = none := by
  let w := s.closeWindow k
  let r := w.claimEach false (progOfSlot k) (w.growth (progOfSlot k) zs)
  have hb : r.beyond = w.beyond := w.claimEach_beyond ..
  have hstay := h.staying zs
  have hlast : (s.regrown k zs).lasting = r.settleAll.lasting := State.finish_lasting w r _
  have hcalm : State.Calm r.settleAll (s.regrown k zs) := State.Calm.finish w r _
  have hclaims : State.Calm w r := State.Calm.claimEach w false _ _
  obtain ⟨hslots, -, hchans⟩ := State.bench_of_lasting hlast
  have hrs : r.slots = w.slots := (congrArg State.slots hb :)
  generalize s.regrown k zs = v at *
  refine ⟨fun j => ?_, ?_, fun q => ?_, fun ch hres hwin => ?_⟩
  · simp only [hslots]
    refine (State.settleAll_slot_stays (hstay j)).1.trans ?_
    exact congrArg (fun v : Vector AlarmSlot 2 => v[j]) hrs
  · have h1 : v.patterns = r.settleAll.patterns := State.patterns_of_lasting hlast
    have h2 : r.patterns = w.patterns := (congrArg State.patterns hb :)
    rw [h1, r.settleAll_patterns, h2, (s.closeWindow_same k).2.2.2]
  · rw [hcalm.alarm, State.port_of_ports (State.settleAll_ports hstay), hclaims.alarm, State.port_of_ports (s.closeWindow_ports k)]
  · have hfree := State.closeWindow_chan s k ch
    rw [if_pos hwin] at hfree
    obtain ⟨hru, hrc⟩ := State.binding_of_beyond hb ch
    have hrstate : r.chans[ch].state = .free := hclaims.free ch (by rw [hfree]; rfl)
    rw [hfree] at hru hrc
    have hreserved (i : Fin 2) : r.Reserved i ch := by
      refine ⟨fun q hop => ?_, fun q => ?_, fun j _ => ?_⟩
      · have hclip : r.progs[q].chan = s.progs[q].chan := by
          have := (congrArg Program.clipPart (State.bare_apply (State.bare_of_beyond hb) q) :)
          have hr : r.progs[q].clipPart = w.progs[q].clipPart := this
          unfold Program.chan
          rw [hr]
          simp only [w, (s.closeWindow_same k).1]
        rw [State.isOpen_of_beyond hb] at hop
        rw [hclip]
        refine hres.progs q ?_
        simp only [w, (s.closeWindow_same k).1] at hop
        exact hop
      · rw [hru]
        exact fun e => by cases e
      · simp only [hrs]
        rw [show w.slots[j] = _ from State.closeWindow_slot s k j]
        by_cases hj : k = j
        · rw [if_pos hj]
          exact fun e => by cases e
        · rw [if_neg hj]
          exact hres.windows j (Ne.symm hj)
    simp only [hchans]
    rw [State.settleAll_chan_of_reserved hreserved]
    exact ⟨hrstate, hru, hrc⟩

/-- What the growth of the request leaves in the records and the zones. -/
theorem State.regrown_claims (h : s.ClaimLaws) (hset : ∀ q : ProgId, s.progs[q].settled = true) (hi : s.slots[k].state ≠ .idle)
    (zs : ZoneSet) :
    (s.regrown k zs).progs[progOfSlot k].requested = s.progs[progOfSlot k].requested ||| (zs &&& ~~~s.excludedSet) ∧
      (∀ z : Zone, zs.getLsbD z.val = true → s.zones[z].excluded = false →
        (s.regrown k zs).zones[z].owner = some (progOfSlot k) ∨ (k = 1 ∧ (s.regrown k zs).zones[z].owner = some 0)) ∧
      ∀ z : Zone, s.progs[progOfSlot k].requested.getLsbD z.val = true → (s.regrown k zs).zones[z].owner = s.zones[z].owner := by
  have hgrows := State.grows_of_laws h hset hi
  obtain ⟨hp, hz, -, -⟩ := s.closeWindow_same k
  let w := s.closeWindow k
  let r := w.claimEach false (progOfSlot k) (w.growth (progOfSlot k) zs)
  have hstay := hgrows.staying zs k
  have hzone (z : Zone) : (s.regrown k zs).zones[z].owner = r.zones[z].owner := ((hgrows.grown zs).finish_zone w _ z).1
  have hprog : (s.regrown k zs).progs[progOfSlot k] = r.settleAll.progs[progOfSlot k] := State.finish_state ..
  have hropen : r.progs[progOfSlot k].isOpen = true :=
    (State.isOpen_of_beyond (w.claimEach_beyond ..) _).trans hgrows.isOpen
  obtain ⟨hrtail, hrsome⟩ := hstay hropen
  have hkept (z : Zone) (hr : s.progs[progOfSlot k].requested.getLsbD z.val = true) :
      (s.regrown k zs).zones[z].owner = s.zones[z].owner := by
    have hout : (w.growth (progOfSlot k) zs).getLsbD z.val = false := by
      refine Bool.not_eq_true _ |>.mp fun e => ?_
      have := ((State.growth_iff hgrows.table.agree).mp e).2.2
      simp only [hp] at this
      rw [hr] at this
      cases this
    rw [hzone, show r.zones[z] = w.zones[z] from (State.claimEach_spares hout w false (progOfSlot k)).zone]
    simp only [w, hz]
  refine ⟨?_, fun z hzs hx => ?_, hkept⟩
  · rw [hprog, (State.settleAll_sets hrtail fun h1 h2 h3 => ?_).2.2.2]
    · refine (hgrows.request zs).trans ?_
      rw [State.excludedSet_congr hz]
      simp only [hp]
    · rcases hrsome with e | e | e
      · exact absurd h1 e
      · exact absurd h2 e
      · exact absurd h3 e
  · cases hr : s.progs[progOfSlot k].requested.getLsbD z.val
    · have hin : (w.growth (progOfSlot k) zs).getLsbD z.val = true :=
        (State.growth_iff hgrows.table.agree).mpr ⟨hzs, by simp only [hz]; exact hx, by simp only [hp]; exact hr⟩
      rw [hzone]
      exact hgrows.owner hin
    · rw [hkept z hr]
      obtain ⟨hop, -⟩ := h.slot_program hi
      rcases State.alarmHolds_zone (h.alarms k) hop hr with e | e
      · exact Or.inl e
      · match k with
        | 0 => exact Or.inl e
        | 1 => exact Or.inr ⟨rfl, e⟩

end AlarmAgainEffect

end Sys2Proof.Machine
end

section
namespace Sys2Proof.Machine

section AlarmsStart
variable {s u v : State} {t : Txn} {slot pattern : Byte} {zs : ZoneSet} {k : Fin 2} {pat : PatId} {z : Zone}

theorem State.closed_of_idle (hh : s.alarmHolds k = true) (hi : s.slots[k].state = .idle) :
    s.progs[progOfSlot k].isOpen = false := by
  unfold State.alarmHolds at hh
  rw [if_pos hi, Bool.not_eq_true'] at hh
  exact hh

theorem alarmResults_of (hs : s.slots[k].state = .sounding) : alarmResults s k =
    [1#8] ++ out8 (progStateCode s.progs[progOfSlot k].state) ++ putZones s.progs[progOfSlot k].granted ++
      putZones s.progs[progOfSlot k].waiting := by
  unfold alarmResults
  rw [hs]
  rfl

theorem State.replied_alarmActive {code : Byte} {st : Status} {res : List Byte} :
    (s.replied t code st res).alarmActive = s.alarmActive := by
  unfold State.alarmActive
  simp only [State.replied_slots]

theorem zones_ne_zero_of_left (hz : zs.getLsbD z.val = true) (hx : s.zones[z].excluded = false) :
    zs ≠ 0#64 ∧ zs &&& ~~~s.excludedSet ≠ 0#64 :=
  ⟨ne_zero_of_bit hz, ne_zero_of_bit ((s.freshly_iff zs z).mpr ⟨hz, hx⟩)⟩

theorem and_or_rest (a b : ZoneSet) : a &&& b ||| a &&& ~~~(a &&& b) = a := zoneSet_ext fun z => by
  simp only [BitVec.getLsbD_or, BitVec.getLsbD_and, getLsbD_compl]
  cases a.getLsbD z.val <;> cases b.getLsbD z.val <;> rfl

theorem and_and_rest (a b : ZoneSet) : a &&& b &&& (a &&& ~~~(a &&& b)) = 0#64 := zoneSet_ext fun z => by
  simp only [BitVec.getLsbD_and, getLsbD_compl, BitVec.getLsbD_zero]
  cases a.getLsbD z.val <;> cases b.getLsbD z.val <;> rfl

/-- The record of an alarm's program once it has claimed its zones. -/
theorem alarmRecord_opened {g : Program} {n : Nat} {left got : ZoneSet} {b sk cs : Bool} {st : ProgState} {answered : Prop}
    (h : g = { alarmRecord k with
      arrival := n, requested := left, granted := left &&& got, waiting := left &&& ~~~(left &&& got)
      gotAll := b, state := st, chimeSkipped := sk, clipStarted := cs }) (hst : st = .active ∨ st = .pending) (ha : answered) :
    g.owner = .saf ∧ g.kind = .alarm ∧ g.cls = 0 ∧ g.source = some (56 + k.val) ∧ g.gain = Ramp.still 32768 ∧
      g.arrival = n ∧ (g.state = .active ∨ g.state = .pending) ∧ g.policy = .takeAvailable ∧
      g.waitLimit = none ∧ g.waitTimer = none ∧ g.joinDeadline = none ∧ g.joinTimer = none ∧ g.chime = none ∧
      g.clipPart = none ∧ g.tail = none ∧ g.routeSlot = none ∧ g.endReason = none ∧
      g.requested = left ∧ g.granted ||| g.waiting = g.requested ∧ g.granted &&& g.waiting = 0#64 ∧ g.held = 0#64 ∧ answered := by
  subst h
  exact ⟨rfl, rfl, rfl, rfl, rfl, rfl, hst, rfl, rfl, rfl, rfl, rfl, rfl, rfl, rfl, rfl, rfl, rfl, and_or_rest left got,
    and_and_rest left got, rfl, ha⟩

theorem alarmStart_opens (hl : s.listens t = true) (hp : t.port = .saf) (hslot : slot.toNat = k.val) (hpat : pattern.toNat = pat.val)
    (hsteps : s.patterns[pat].steps ≠ []) (hex : ∃ z : Zone, zs.getLsbD z.val = true ∧ s.zones[z].excluded = false)
    (hi : s.slots[k].state = .idle) (ha : s.claimsAgree = true) (hk : s.kindsLawful = true) (hc : s.classesLawful = true)
    (hh : s.alarmHolds k = true) :
    ∃ u, exec (.alarmStart t slot pattern zs) s = .next u ∧ u.slots[k].state = .sounding ∧
      u.slots[k].pattern = some pat ∧ u.tone[k] = Player.start pat s.patterns[pat] ∧ u.alarmActive = true ∧
      (let g := u.progs[progOfSlot k]
       g.owner = .saf ∧ g.kind = .alarm ∧ g.cls = 0 ∧ g.source = some (56 + k.val) ∧ g.gain = Ramp.still 32768 ∧
       g.arrival = s.arrivals ∧ (g.state = .active ∨ g.state = .pending) ∧ g.policy = .takeAvailable ∧
       g.waitLimit = none ∧ g.waitTimer = none ∧ g.joinDeadline = none ∧ g.joinTimer = none ∧ g.chime = none ∧
       g.clipPart = none ∧ g.tail = none ∧ g.routeSlot = none ∧ g.endReason = none ∧
       g.requested = zs &&& ~~~s.excludedSet ∧ g.granted ||| g.waiting = g.requested ∧
       g.granted &&& g.waiting = 0#64 ∧ g.held = 0#64 ∧
       u.answered t 0x30#8 .ok ([1#8] ++ out8 (progStateCode g.state) ++ putZones g.granted ++ putZones g.waiting)) ∧
      (∀ z : Zone, zs.getLsbD z.val = true → s.zones[z].excluded = false →
        u.zones[z].owner = some (progOfSlot k) ∨ (k = 1 ∧ u.zones[z].owner = some 0)) ∧
      (u.port .ann).has .alarm = true ∧ (u.port .icm).has .alarm = true ∧ (u.port .shw).has .alarm = true := by
  obtain ⟨z0, hz0, hx0⟩ := hex
  obtain ⟨hz, hleft⟩ := zones_ne_zero_of_left hz0 hx0
  obtain ⟨f, -, hf⟩ := exec_alarmStart hl hp hslot hpat hz hsteps
  have hstart : (s.onPort t.port f).alarmStart k pat zs = (s.onPort t.port f).alarmOpen k pat zs := if_pos hi
  rw [hstart] at hf
  obtain ⟨h1, h2, ⟨got, b, st, sk, cs, hrec, hst⟩, hown, hnote⟩ := alarmOpen_effect (s := s.onPort t.port f) (k := k) (zs := zs)
    ha hk hc (State.closed_of_idle hh hi) hleft pat
  generalize (s.onPort t.port f).alarmOpen k pat zs = u at hf h1 h2 hrec hown hnote
  have hsound : u.slots[k].state = .sounding := by rw [h1]
  simp only [alarmResults_of hsound] at hf
  refine ⟨_, hf, ?_⟩
  simp only [State.replied_slots, State.replied_tone, State.replied_progs, State.replied_zones, State.replied_alarmActive,
    State.replied_has]
  exact ⟨hsound, (congrArg AlarmSlot.pattern h1 :), h2, State.alarmActive_of_slot (k := k) (by rw [hsound]; decide),
    alarmRecord_opened hrec hst State.replied_answered,
    fun z hz hx => hown z ((s.freshly_iff zs z).mpr ⟨hz, hx⟩), hnote .ann (by decide), hnote .icm (by decide), hnote .shw (by decide)⟩

theorem alarmStart_excluded (hl : s.listens t = true) (hp : t.port = .saf) (hslot : slot.toNat = k.val)
    (hpat : pattern.toNat = pat.val) (hsteps : s.patterns[pat].steps ≠ []) (hz : zs ≠ 0#64)
    (hx : ∀ z : Zone, zs.getLsbD z.val = true → s.zones[z].excluded = true) (hi : s.slots[k].state = .idle) (hr : s.atRest = true)
    (ha : s.claimsAgree = true) (hk : s.kindsLawful = true) (hh : s.alarmHolds k = true) :
    ∃ u, exec (.alarmStart t slot pattern zs) s = .next u ∧
      u.answered t 0x30#8 .ok ([0#8, 6#8] ++ putZones 0#64 ++ putZones 0#64) ∧
      u.progs[progOfSlot k].state = .ended ∧ u.progs[progOfSlot k].endReason = some .noZones ∧
      u.progs[progOfSlot k].requested = 0#64 ∧ (∀ q : ProgId, q ≠ progOfSlot k → u.progs[q] = s.progs[q]) ∧
      u.slots = s.slots ∧ u.tone = s.tone ∧ u.zones = s.zones := by
  have hleft : zs &&& ~~~s.excludedSet = 0#64 := (zoneSet_eq_zero_iff _).mpr fun z => by
    refine Bool.not_eq_true _ |>.mp fun e => ?_
    obtain ⟨h1, h2⟩ := (s.freshly_iff zs z).mp e
    rw [hx z h1] at h2
    cases h2
  obtain ⟨f, -, hf⟩ := exec_alarmStart hl hp hslot hpat hz hsteps
  have hstart : (s.onPort t.port f).alarmStart k pat zs = (s.onPort t.port f).alarmOpen k pat zs := if_pos hi
  rw [hstart] at hf
  obtain ⟨hrec, hother, h1, h2, h3⟩ := alarmOpen_nothing (s := s.onPort t.port f) (k := k) (zs := zs) hr ha hk
    (State.closed_of_idle hh hi) hi hleft pat
  generalize (s.onPort t.port f).alarmOpen k pat zs = u at hf hrec hother h1 h2 h3
  have hres : alarmResults u k = [0#8, 6#8] ++ putZones 0#64 ++ putZones 0#64 := by
    unfold alarmResults
    simp only [h1, hrec]
    rw [show (s.onPort t.port f).slots[k].state = .idle from hi]
    rfl
  simp only [hres] at hf
  refine ⟨_, hf, ?_⟩
  simp only [State.replied_slots, State.replied_tone, State.replied_progs, State.replied_zones]
  exact ⟨State.replied_answered, by rw [hrec]; rfl, by rw [hrec]; rfl, by rw [hrec]; rfl, hother, h1, h2, h3⟩

theorem alarmStart_again (hl : s.listens t = true) (hp : t.port = .saf) (hslot : slot.toNat = k.val)
    (hpat : pattern.toNat = pat.val) (hsteps : s.patterns[pat].steps ≠ []) (hz : zs ≠ 0#64)
    (hi : s.slots[k].state ≠ .idle) (hs : s.safe = true) :
    let p := progOfSlot k
    ∃ u, exec (.alarmStart t slot pattern zs) s = .next u ∧
      u.answered t 0x30#8 .ok ([1#8] ++ out8 (progStateCode u.progs[p].state) ++ putZones u.progs[p].granted ++
        putZones u.progs[p].waiting) ∧
      u.slots[k] = ⟨.sounding, some pat, none⟩ ∧ (∀ j : Fin 2, j ≠ k → u.slots[j] = s.slots[j]) ∧
      u.tone[k] = Player.start pat s.patterns[pat] ∧
      (∀ w id n ch, s.slots[k].window = some w → w.source = .clip id n ch →
        u.chans[ch].state = .free ∧ u.chans[ch].user = none ∧ u.chans[ch].clip = none) ∧
      u.progs[p].requested = s.progs[p].requested ||| (zs &&& ~~~s.excludedSet) ∧
      (∀ z : Zone, zs.getLsbD z.val = true → s.zones[z].excluded = false →
        u.zones[z].owner = some p ∨ (k = 1 ∧ u.zones[z].owner = some 0)) ∧
      (∀ z : Zone, s.progs[p].requested.getLsbD z.val = true → u.zones[z].owner = s.zones[z].owner) ∧
      (s.slots[k].state ≠ .sounding →
        (u.port .ann).has .alarm = true ∧ (u.port .icm).has .alarm = true ∧ (u.port .shw).has .alarm = true) ∧
      (s.slots[k].state = .sounding → ∀ q : Port, (u.port q).has .alarm = (s.port q).has .alarm) := by
  intro p
  obtain ⟨f, hquiet, hf⟩ := exec_alarmStart hl hp hslot hpat hz hsteps
  have hstart : (s.onPort t.port f).alarmStart k pat zs = (s.onPort t.port f).alarmAgain k pat zs := if_neg hi
  rw [hstart] at hf
  have hlaws := (State.claimLaws_of_safe hs).onPort t.port f
  have hset (q : ProgId) : (s.onPort t.port f).progs[q].settled = true := State.settled_of_safe hs q
  have hgrows := State.grows_of_laws (k := k) hlaws hset hi
  have hsingle : (s.onPort t.port f).progs[progOfSlot k].together = false := by
    have := hgrows.single
    simp only [(State.closeWindow_same (s.onPort t.port f) k).1] at this
    exact this
  obtain ⟨hslots, hpats, hnotes, hchan⟩ := State.regrown_bench hgrows zs
  obtain ⟨hreq, hown, hold⟩ := State.regrown_claims hlaws hset hi zs
  have hagain := State.alarmAgain_eq (zs := zs) hsingle hpats pat
  rw [hagain] at hf
  have hport (q : Port) : ((s.onPort t.port f).port q).has .alarm = (s.port q).has .alarm := by
    unfold PortCtl.has
    rw [State.port_onPort]
    split
    · rw [hquiet]
    · rfl
  have hclosed (j : Fin 2) := State.closeWindow_slot (s.onPort t.port f) k j
  generalize (s.onPort t.port f).regrown k zs = v at hf hslots hpats hnotes hchan hreq hown hold
  let x := (v.onSlot k fun a => { a with state := .sounding, pattern := some pat }).onTone k fun _ => Player.start pat s.patterns[pat]
  let u := if s.slots[k].state = .sounding then x else x.raiseAlarm true
  have hf' : exec (.alarmStart t slot pattern zs) s = .next (u.replied t 0x30#8 .ok (alarmResults u k)) := hf
  have hprogs : u.progs = v.progs := by
    show (if _ then _ else _ : State).progs = _
    split <;> rfl
  have hzones : u.zones = v.zones := by
    show (if _ then _ else _ : State).zones = _
    split <;> rfl
  have hbench : u.slots = x.slots ∧ u.tone = x.tone ∧ u.chans = x.chans := by
    show (if _ then _ else _ : State).slots = _ ∧ (if _ then _ else _ : State).tone = _ ∧ (if _ then _ else _ : State).chans = _
    split <;> exact ⟨rfl, rfl, rfl⟩
  have hslot : u.slots[k] = ⟨.sounding, some pat, none⟩ := by
    simp only [hbench.1]
    refine (State.onSlot_slot v k k _).trans ?_
    rw [if_pos rfl, hslots, hclosed, if_pos rfl]
  rw [alarmResults_of (by rw [hslot])] at hf'
  refine ⟨_, hf', ?_⟩
  simp only [State.replied_slots, State.replied_tone, State.replied_progs, State.replied_zones, State.replied_chans,
    State.replied_has]
  refine ⟨State.replied_answered, hslot, fun j hj => ?_, ?_, fun w id n ch hw hsrc => ?_, ?_, fun z h1 h2 => ?_, fun z hz => ?_,
    fun hne => ?_, fun heq q => ?_⟩
  · simp only [hbench.1]
    refine (State.onSlot_slot v k j _).trans ?_
    rw [if_neg (Ne.symm hj), hslots, hclosed, if_neg (Ne.symm hj)]
    rfl
  · simp only [hbench.2.1]
    exact (State.onTone_player _ k k _).trans (if_pos rfl)
  · have hbind : (s.slots[k].window.bind fun w => w.source.channel) = some ch := by
      rw [hw, Option.bind_some, hsrc]; rfl
    simp only [hbench.2.2]
    have hres := State.reserved_of_users (State.users_of_safe hs) hbind
    exact hchan ch ⟨hres.progs, hres.user, hres.windows⟩ hbind
  · simp only [hprogs]
    exact hreq
  · simp only [hzones]
    exact hown z h1 h2
  · simp only [hzones]
    exact hold z hz
  · have hu : u = x.raiseAlarm true := if_neg hne
    rw [hu]
    exact ⟨State.raiseAlarm_has x true (Or.inr (by decide)), State.raiseAlarm_has x true (Or.inr (by decide)),
      State.raiseAlarm_has x true (Or.inr (by decide))⟩
  · have hu : u = x := if_pos heq
    rw [hu]
    exact (hnotes q).trans (hport q)

end AlarmsStart

/-- Settles O35: an alarm's program takes every zone it claims but those of program 0, and a slot that already sounds grows its
request and starts its pattern again. -/
theorem alarmsStart : Obligations.AlarmsStart := by
  unfold Obligations.AlarmsStart
  refine ⟨fun t slot pattern zones s hl hs => alarmStart_refused hl hs, ?_, ?_, ?_⟩
  · intro t slot pattern zones s k pat hl hp hslot hpat hsteps hex hi ha hk hc hh
    exact alarmStart_opens hl hp hslot hpat hsteps hex hi ha hk hc hh
  · intro t slot pattern zones s k pat hl hp hslot hpat hsteps hz hx hi hr ha hk hh
    exact alarmStart_excluded hl hp hslot hpat hsteps hz hx hi hr ha hk hh
  · intro t slot pattern zones s k pat hl hp hslot hpat hsteps hz hi hs
    exact alarmStart_again hl hp hslot hpat hsteps hz hi hs

end Sys2Proof.Machine
end

section
namespace Sys2Proof.Machine

/-! ### The record of an accepted open (R15, R39, R41) -/

section OpenRecord
variable {s : State} {a : OpenArgs} {x : Port} {k : ProgKind} {p q : ProgId} {pat : PatId} {v w : Fin 4}

/-- The fields of an accepted open are those its kind allows. -/
structure OpenSound (a : OpenArgs) (k : ProgKind) : Prop where
  cls : 1 ≤ a.cls.toNat ∧ a.cls.toNat ≤ 6
  code : a.kind.toNat = kindCode k
  notAlarm : k ≠ .alarm
  formed : OpenFormed a

theorem openSound_of_check (h : openCheck s x a = .ok k) : OpenSound a k := by
  obtain ⟨h0, h6, hok, hk⟩ := openCheck_class h
  have hpair : ClassPaired a.cls.toNat a.kind.toNat x := by
    by_contra hn
    rw [openCheck_of_unpaired hk h6 hn] at h
    cases h
  have hcode := (kind?_eq_some_iff a.kind k).mp hk
  refine ⟨⟨Nat.pos_of_ne_zero h0, h6⟩, hcode, ?_, (hpair.formed_iff hk).mp hok⟩
  rintro rfl
  have := hpair.kind_pos
  rw [hcode] at this
  exact absurd this (by decide)

theorem OpenSound.source (h : OpenSound a k) (hk : k ≠ .clip) : opt a.source = some a.source.toNat := by
  obtain ⟨hlive, -, hcall, hplay, -⟩ := h.formed
  rw [h.code] at hlive hcall hplay
  refine opt_of_lt ?_
  cases k with
  | alarm => exact absurd rfl h.notAlarm
  | live => have := hlive rfl; omega
  | clip => exact absurd rfl hk
  | callOut => have := (hcall rfl).2; omega
  | showSound => have := hplay (by decide); omega
  | bed => have := hplay (by decide); omega

theorem OpenSound.policy (h : OpenSound a k) :
    (policy? a.policy).getD .allOrWait = if a.policy = 0#8 then .allOrWait else .takeAvailable := by
  obtain ⟨-, -, -, -, -, hp, -⟩ := h.formed
  unfold policy?
  by_cases h0 : a.policy = 0#8
  · rw [h0, if_pos rfl]
    rfl
  · rw [if_neg h0]
    have h1 : a.policy.toNat = 1 := by
      have : a.policy.toNat ≠ 0 := fun e => h0 (BitVec.eq_of_toNat_eq e)
      omega
    rw [h1]
    rfl

theorem OpenSound.chime (h : OpenSound a k) :
    ((opt a.chime).bind fun c => if h : c < 16 then some (⟨c, h⟩ : PatId) else none).map (·.val) =
      if a.chime = 0xFF#8 then none else some a.chime.toNat := by
  obtain ⟨-, -, -, -, -, -, -, -, hc, -⟩ := h.formed
  by_cases h0 : a.chime = 0xFF#8
  · rw [if_pos h0, (opt_eq_none_iff a.chime).mpr h0]
    rfl
  · rw [if_neg h0, opt_of_ne (x := a.chime) h0, Option.bind_some, dif_pos]
    · rfl
    · rcases hc.resolve_left h0 with ⟨e | ⟨-, e⟩, -⟩ <;> omega

/-- Only a LIVE or CLIP program has a chime (R10). -/
theorem OpenSound.chimes (h : OpenSound a k) (hc : (openRecord a x k).chime ≠ none) : k = .live ∨ k = .clip := by
  obtain ⟨-, -, -, -, -, -, -, -, hch, -⟩ := h.formed
  rw [h.code] at hch
  rcases hch with e | ⟨-, e⟩
  · exact absurd (openRecord_chimeless e x k) hc
  · revert e
    cases k with
    | alarm => exact absurd rfl h.notAlarm
    | live => exact fun _ => Or.inl rfl
    | clip => exact fun _ => Or.inr rfl
    | callOut => exact fun e => absurd e (by decide)
    | showSound => exact fun e => absurd e (by decide)
    | bed => exact fun e => absurd e (by decide)

/-- The clip part of an accepted CLIP open. -/
theorem OpenSound.clip (h : OpenSound a .clip) : ∃ id : ClipId, a.clip.toNat = id.val ∧
    openClipPart a = some ⟨id, if a.repeats.toNat = 256 then none else some a.repeats.toNat,
      if a.trigger = 0#8 then .free else .gated, none⟩ := by
  obtain ⟨-, -, -, -, -, -, -, -, -, -, hr, -⟩ := h.formed
  obtain ⟨hr1, hr2, ht⟩ := hr h.code
  refine ⟨⟨a.clip.toNat, a.clip.isLt⟩, rfl, ?_⟩
  have hid : idx? 256 a.clip = some ⟨a.clip.toNat, a.clip.isLt⟩ := idx?_of_toNat rfl
  have hrep : repeats? a.repeats = some (if a.repeats.toNat = 256 then none else some a.repeats.toNat) := by
    unfold repeats?
    split
    · rfl
    · rw [if_pos ((inRange_iff _ _ _).mpr ⟨hr1, by omega⟩)]
  have htr : trigger? a.trigger = some (if a.trigger = 0#8 then .free else .gated) := by
    unfold trigger?
    by_cases h0 : a.trigger = 0#8
    · rw [h0, if_pos rfl]
      rfl
    · rw [if_neg h0]
      have h1 : a.trigger.toNat = 1 := by
        have : a.trigger.toNat ≠ 0 := fun e => h0 (BitVec.eq_of_toNat_eq e)
        omega
      rw [h1]
      rfl
  unfold openClipPart
  rw [hid, hrep, htr]

end OpenRecord

/-! ### The chime voice at the grant of a first zone (R101, R104) -/

section FirstGrant
variable {s : State} {p q : ProgId} {pat : PatId} {v w : Fin 4}

/-- The voice bound is the lowest-numbered one without a program. -/
theorem State.bindVoice_of_free (hs : s.patterns[pat].steps ≠ []) (hv : s.voices[v].bound = none)
    (hw : ∀ w : Fin 4, w < v → s.voices[w].bound ≠ none) :
    s.bindVoice p pat = some (s.onVoice v fun _ => ⟨Player.start pat s.patterns[pat], some p⟩) := by
  have hne : ¬(s.patterns[pat].steps.isEmpty = true) := fun e => hs (List.isEmpty_iff.mp e)
  cases hb : s.bindVoice p pat with
  | none =>
    unfold State.bindVoice at hb
    rw [if_neg hne] at hb
    split at hb
    · next hf => exact absurd (List.find?_eq_none.mp hf v (List.mem_finRange v)) (by simpa using hv)
    · cases hb
  | some u =>
    obtain ⟨-, y, hy, hlow, rfl⟩ := State.bindVoice_eq hb
    rcases lt_trichotomy y v with h | rfl | h
    · exact absurd hy (hw y h)
    · rfl
    · exact absurd hv (hlow v h)

theorem State.bindVoice_of_none (h : s.patterns[pat].steps = [] ∨ ∀ v : Fin 4, s.voices[v].bound ≠ none) :
    s.bindVoice p pat = none := by
  cases hb : s.bindVoice p pat with
  | none => rfl
  | some u =>
    obtain ⟨hs, y, hy, -, -⟩ := State.bindVoice_eq hb
    rcases h with h | h
    · exact absurd h hs
    · exact absurd hy (h y)

theorem State.full_of_bindVoice (h : s.bindVoice p pat = none) :
    s.patterns[pat].steps = [] ∨ ∀ v : Fin 4, s.voices[v].bound ≠ none := by
  unfold State.bindVoice at h
  split at h
  · next he => exact Or.inl (List.isEmpty_iff.mp he)
  · split at h
    · next hf =>
      refine Or.inr fun v hv => ?_
      have := List.find?_eq_none.mp hf v (List.mem_finRange v)
      exact this (decide_eq_true hv)
    · cases h

theorem State.onVoice_voice (s : State) (v w : Fin 4) (f : ChimeVoice → ChimeVoice) :
    (s.onVoice v f).voices[w] = if v = w then f s.voices[w] else s.voices[w] := by
  by_cases h : v = w
  · subst h
    rw [if_pos rfl]
    exact getElem_adjust_self ..
  · rw [if_neg h]
    exact getElem_adjust_ne _ _ h

theorem State.startClip_voices (s : State) (p : ProgId) : (s.startClip p).voices = s.voices := by
  unfold State.startClip
  repeat' split
  all_goals rfl

/-- The grant of a first zone to a program with a chime starts the chime on the lowest-numbered free voice, or skips it. -/
theorem enterGranted_chime (hr : s.progs[p].ret = none) (hc : s.progs[p].chime = some pat)
    (hk : s.progs[p].kind = .live ∨ s.progs[p].kind = .clip) :
    let u := s.enterGranted p
    (∀ v : Fin 4, s.patterns[pat].steps ≠ [] → s.voices[v].bound = none → (∀ w : Fin 4, w < v → s.voices[w].bound ≠ none) →
      u.progs[p] = { s.progs[p] with state := .preamble } ∧
      u.voices[v] = ⟨Player.start pat s.patterns[pat], some p⟩ ∧
      (∀ w : Fin 4, w ≠ v → u.voices[w] = s.voices[w]) ∧ (∀ q : ProgId, q ≠ p → u.progs[q] = s.progs[q]) ∧
      u.chans = s.chans) ∧
    (s.patterns[pat].steps = [] ∨ (∀ v : Fin 4, s.voices[v].bound ≠ none) →
      u.progs[p].state = .active ∧ u.progs[p].chimeSkipped = true ∧ u.voices = s.voices ∧
      (∀ q : ProgId, q ≠ p → u.progs[q] = s.progs[q])) := by
  intro u
  have hother (q : ProgId) (hq : q ≠ p) : u.progs[q] = s.progs[q] := (State.Moves.enterGranted p s).other q hq
  have hpat {pat' : PatId} (h : s.progs[p].chimes pat') : pat' = pat := Option.some.inj (h.2.symm.trans hc)
  refine ⟨fun v hs hv hw => ?_, fun hfull => ?_⟩
  · have hbind := State.bindVoice_of_free (p := p) hs hv hw
    rcases State.enterGranted_first hr with ⟨pat', s1, hch, hb, e⟩ | ⟨pat', hch, hb, -⟩ | ⟨hno, -⟩
    · obtain rfl := hpat hch
      rw [hbind] at hb
      obtain rfl := Option.some.inj hb
      have hu : u = _ := e
      refine ⟨?_, ?_, fun w hw => ?_, hother, ?_⟩
      · rw [hu, State.onProg_progs_self]
        rfl
      · rw [hu]
        exact (State.onVoice_voice s v v _).trans (if_pos rfl)
      · rw [hu]
        exact (State.onVoice_voice s v w _).trans (if_neg (Ne.symm hw))
      · rw [hu]
        rfl
    · obtain rfl := hpat hch
      rw [hbind] at hb
      cases hb
    · exact absurd ⟨hk, hc⟩ (hno pat)
  · have hbind := State.bindVoice_of_none (p := p) hfull
    rcases State.enterGranted_first hr with ⟨pat', s1, hch, hb, -⟩ | ⟨pat', hch, hb, e⟩ | ⟨hno, -⟩
    · obtain rfl := hpat hch
      rw [hbind] at hb
      cases hb
    · have hu : u = s.firstActive p true := e
      obtain ⟨c, hrec⟩ := s.firstActive_record p true
      refine ⟨?_, ?_, ?_, hother⟩
      · rw [hu, hrec]
      · rw [hu, hrec]
        exact Bool.or_true _
      · rw [hu]
        exact State.startClip_voices _ p
    · exact absurd ⟨hk, hc⟩ (hno pat)

end FirstGrant

end Sys2Proof.Machine
end

section
namespace Sys2Proof.Machine

/-! ### What the settling of the others leaves to one program (R19, R101, R104) -/

section Turns
variable {s t u : State} {p q : ProgId} {v w : Fin 4} {z : Zone} {kind : ProgKind} {ch : ChanId}

/-- The program was waiting without a zone and has been granted one: it takes PREAMBLE or ACTIVE when it settles. -/
def Program.enters (g : Program) : Prop := (g.state = .pending ∨ g.state = .held) ∧ g.granted ≠ 0#64

/-- What the settling of a program does to a chime voice. -/
def State.Voiced (q : ProgId) (s u : State) : Prop :=
  ∀ w : Fin 4, u.voices[w] = s.voices[w] ∨
    (s.voices[w].bound = some q ∧
      (u.voices[w].bound = some q ∨ (u.voices[w].bound = none ∧ u.progs[q].state = .ended))) ∨
    (s.voices[w].bound = none ∧ s.progs[q].enters)

theorem State.Voiced.of_same (h : u.voices = s.voices) : State.Voiced q s u := fun w => Or.inl (by simp only [h])

theorem State.voiceOf_bound (h : s.voiceOf q = some v) : s.voices[v].bound = some q := by
  simpa using List.find?_some h

theorem State.onBoundVoice_voice (s : State) (q : ProgId) (f : Player → Player) (w : Fin 4) :
    (s.onBoundVoice q f).voices[w] = s.voices[w] ∨
      (s.voices[w].bound = some q ∧ (s.onBoundVoice q f).voices[w].bound = some q) := by
  unfold State.onBoundVoice
  split
  · exact Or.inl rfl
  · next v hv =>
    rw [State.onVoice_voice]
    split
    · next e =>
      subst e
      exact Or.inr ⟨State.voiceOf_bound hv, State.voiceOf_bound hv⟩
    · exact Or.inl rfl

theorem State.endProgram_voices (s : State) (p : ProgId) (why : EndReason) :
    (s.endProgram p why).voices = (s.releaseVoice p).voices := by
  have h2 (s : State) : (s.releaseProgChan p).voices = s.voices := by unfold State.releaseProgChan; (repeat' split) <;> rfl
  have h3 (s : State) : (s.releaseStation p).voices = s.voices := by unfold State.releaseStation; split <;> rfl
  have h4 (s : State) : (s.dropRoute p).voices = s.voices := by unfold State.dropRoute; split <;> rfl
  have h5 (s : State) (k : Fin 2) : (s.closeWindow k).voices = s.voices := by unfold State.closeWindow; (repeat' split) <;> rfl
  have h6 (s : State) : (s.slotProgramEnded p).voices = s.voices := by
    unfold State.slotProgramEnded
    split
    · rfl
    · split
      · rfl
      · exact h5 s _
  rw [State.endProgram_eq, h6, State.unbound, h4, h3, h2]
  exact State.releaseVoice_voices (s := s) (u := s.struck p why) rfl p

theorem State.releaseVoice_voice (s : State) (q : ProgId) (w : Fin 4) : (s.releaseVoice q).voices[w] = s.voices[w] ∨
    (s.voices[w].bound = some q ∧ (s.releaseVoice q).voices[w] = ChimeVoice.released) := by
  unfold State.releaseVoice
  split
  · exact Or.inl rfl
  · next v hv =>
    rw [State.onVoice_voice]
    split
    · next e =>
      subst e
      exact Or.inr ⟨State.voiceOf_bound hv, rfl⟩
    · exact Or.inl rfl

theorem State.Voiced.endProgram (q : ProgId) (why : EndReason) (s : State) : State.Voiced q s (s.endProgram q why) := by
  intro w
  have hended : (s.endProgram q why).progs[q].state = .ended := by rw [State.endProgram_self]; rfl
  simp only [State.endProgram_voices]
  rcases s.releaseVoice_voice q w with h | ⟨hb, h⟩
  · exact Or.inl h
  · exact Or.inr (Or.inl ⟨hb, Or.inr ⟨congrArg ChimeVoice.bound h, hended⟩⟩)

theorem State.gateProgram_voices (s : State) (p : ProgId) (pause : Bool) : (s.gateProgram p pause).voices = s.voices := by
  unfold State.gateProgram
  repeat' split
  all_goals rfl

theorem State.enterUngranted_voice (s : State) (q : ProgId) (w : Fin 4) :
    (s.enterUngranted q).voices[w] = s.voices[w] ∨
      (s.voices[w].bound = some q ∧ (s.enterUngranted q).voices[w].bound = some q) := by
  unfold State.enterUngranted
  simp only
  split
  · exact State.onBoundVoice_voice _ q _ w
  · exact Or.inl (by simp only [State.gateProgram_voices]; rfl)
  all_goals exact Or.inl rfl

theorem State.enterGranted_voice (s : State) (q : ProgId) (w : Fin 4) :
    (s.enterGranted q).voices[w] = s.voices[w] ∨
      (s.voices[w].bound = some q ∧ (s.enterGranted q).voices[w].bound = some q) ∨ s.voices[w].bound = none := by
  have hactive (b : Bool) : (s.firstActive q b).voices = s.voices := State.startClip_voices _ q
  cases hr : s.progs[q].ret with
  | none =>
    rcases State.enterGranted_first hr with ⟨pat, s1, -, hb, e⟩ | ⟨-, -, -, e⟩ | ⟨-, e⟩
    · obtain ⟨-, v, hv, -, rfl⟩ := State.bindVoice_eq hb
      rw [e]
      by_cases hvw : v = w
      · exact Or.inr (Or.inr (hvw ▸ hv))
      · exact Or.inl ((State.onVoice_voice s v w _).trans (if_neg hvw))
    · exact Or.inl (by rw [e]; simp only [hactive])
    · exact Or.inl (by rw [e]; simp only [hactive])
  | some ret =>
    have e : s.enterGranted q = (s.onProg q fun g => { g with state := .preamble, ret := none }).onBoundVoice q Player.continue ∨
        s.enterGranted q = (s.onProg q fun g => { g with state := .active, ret := none }).gateProgram q false := by
      unfold State.enterGranted
      simp only [hr]
      cases ret
      · exact Or.inl rfl
      · exact Or.inr rfl
    rcases e with e | e
    · rw [e]
      rcases State.onBoundVoice_voice (s.onProg q fun g => { g with state := .preamble, ret := none }) q Player.continue w with h | h
      · exact Or.inl h
      · exact Or.inr (Or.inl h)
    · exact Or.inl (by rw [e]; simp only [State.gateProgram_voices]; rfl)

theorem State.settleOpen_voiced (s : State) (q : ProgId) : State.Voiced q s (s.settleOpen q) := by
  intro w
  unfold State.settleOpen
  simp only
  split
  · exact State.Voiced.endProgram q .noZones s w
  · by_cases hg : s.progs[q].granted = 0#64
    · simp only [if_pos hg]
      rcases s.enterUngranted_voice q w with h | ⟨h1, h2⟩
      · exact Or.inl h
      · exact Or.inr (Or.inl ⟨h1, Or.inl h2⟩)
    · simp only [if_neg hg]
      by_cases hst : s.progs[q].state = .pending ∨ s.progs[q].state = .held
      · simp only [if_pos hst]
        rcases s.enterGranted_voice q w with h | ⟨h1, h2⟩ | h
        · exact Or.inl h
        · exact Or.inr (Or.inl ⟨h1, Or.inl h2⟩)
        · exact Or.inr (Or.inr ⟨h, hst, hg⟩)
      · simp only [if_neg hst]
        exact Or.inl rfl

theorem State.settleProgram_voiced (s : State) (q : ProgId) : State.Voiced q s (s.settleProgram q) := by
  rw [State.settleProgram_eq]
  cases s.progs[q].state
  case free | ended => exact .of_same rfl
  case tail =>
    show State.Voiced q s (if _ then _ else _)
    split
    · exact .endProgram q _ s
    · exact .of_same rfl
  all_goals exact s.settleOpen_voiced q

/-- A voice bound to one program is left by the settling of another. -/
theorem State.settleProgram_voice (hq : q ≠ p) (hv : s.voices[v].bound = some p) : (s.settleProgram q).voices[v] = s.voices[v] := by
  rcases s.settleProgram_voiced q v with h | ⟨h, -⟩ | ⟨h, -⟩
  · exact h
  · exact absurd (Option.some.inj (hv.symm.trans h)).symm hq
  · rw [hv] at h
    cases h

theorem foldl_settle_voice {l : List ProgId} (hl : p ∉ l) (hv : s.voices[v].bound = some p) :
    (l.foldl (fun s q => s.settleProgram q) s).voices[v] = s.voices[v] := by
  induction l generalizing s with
  | nil => rfl
  | cons q l ih =>
    rw [List.mem_cons, not_or] at hl
    have h := State.settleProgram_voice (s := s) (Ne.symm hl.1) hv
    exact (ih hl.2 (by rw [h]; exact hv)).trans h

theorem foldl_settle_other {l : List ProgId} (hl : p ∉ l) (s : State) :
    (l.foldl (fun s q => s.settleProgram q) s).progs[p] = s.progs[p] := by
  induction l generalizing s with
  | nil => rfl
  | cons q l ih =>
    rw [List.mem_cons, not_or] at hl
    exact (ih hl.2 _).trans (State.settleProgram_other s hl.1)

/-- The settling of all: those before the program, the program, those after it. -/
theorem State.settleAll_split (s : State) (p : ProgId) : ∃ before after : List ProgId, p ∉ before ∧ before.Nodup ∧ p ∉ after ∧
    s.settleAll = after.foldl (fun s q => s.settleProgram q)
      ((before.foldl (fun s q => s.settleProgram q) s).settleProgram p) := by
  obtain ⟨before, after, hl⟩ := List.append_of_mem (List.mem_finRange p)
  have hn := List.nodup_finRange 32
  rw [hl, List.nodup_append] at hn
  obtain ⟨hbefore, hafter, hdisj⟩ := hn
  refine ⟨before, after, fun h => hdisj p h p List.mem_cons_self rfl, hbefore, (List.nodup_cons.mp hafter).1, ?_⟩
  rw [State.settleAll, hl, List.foldl_append, List.foldl_cons]

/-- Programs that are settled already bind no voice when they settle again; a voice that lost its program lost it by its end. -/
def State.Voiceless (s u : State) : Prop :=
  ∀ w : Fin 4, u.voices[w].bound = s.voices[w].bound ∨
    (u.voices[w].bound = none ∧ ∃ q, s.voices[w].bound = some q ∧ u.progs[q].state = .ended)

theorem State.settleProgram_of_ended (h : s.progs[q].state = .ended) (p : ProgId) : (s.settleProgram p).progs[q].state = .ended := by
  by_cases e : q = p
  · subst e
    rw [State.settleProgram_of_closed (Program.isOpen_of_ended h)]
    exact h
  · rw [State.settleProgram_other s e]
    exact h

theorem foldl_settle_ended {l : List ProgId} (h : s.progs[q].state = .ended) :
    (l.foldl (fun s p => s.settleProgram p) s).progs[q].state = .ended := by
  induction l generalizing s with
  | nil => exact h
  | cons p l ih => exact ih (State.settleProgram_of_ended h p)

theorem State.Voiceless.settle (h : State.Voiceless s u) (hq : ¬u.progs[q].enters) : State.Voiceless s (u.settleProgram q) := by
  intro w
  rcases u.settleProgram_voiced q w with e | ⟨hb, e | ⟨e, hend⟩⟩ | ⟨-, hent⟩
  · rw [e]
    rcases h w with h | ⟨h1, x, h2, h3⟩
    · exact Or.inl h
    · exact Or.inr ⟨h1, x, h2, State.settleProgram_of_ended h3 q⟩
  · rw [e]
    rcases h w with h | ⟨h1, -⟩
    · exact Or.inl (hb.symm.trans h)
    · rw [hb] at h1
      cases h1
  · rcases h w with h | ⟨h1, -⟩
    · exact Or.inr ⟨e, q, h.symm.trans hb, hend⟩
    · rw [hb] at h1
      cases h1
  · exact absurd hent hq

theorem foldl_settle_voiceless {l : List ProgId} (hl : l.Nodup) (h : ∀ q ∈ l, ¬s.progs[q].enters) :
    State.Voiceless s (l.foldl (fun s q => s.settleProgram q) s) := by
  have key (u : State) (hu : State.Voiceless s u) (l : List ProgId) (hl : l.Nodup) (h : ∀ q ∈ l, ¬u.progs[q].enters) :
      State.Voiceless s (l.foldl (fun s q => s.settleProgram q) u) := by
    induction l generalizing u with
    | nil => exact hu
    | cons q l ih =>
      obtain ⟨hq, hl⟩ := List.nodup_cons.mp hl
      refine ih _ (hu.settle (h q List.mem_cons_self)) hl fun x hx => ?_
      have hne : x ≠ q := fun e => hq (e ▸ hx)
      rw [State.settleProgram_other u hne]
      exact h x (List.mem_cons_of_mem _ hx)
  exact key s (fun _ => Or.inl rfl) l hl h

end Turns

end Sys2Proof.Machine
end

section
namespace Sys2Proof.Machine

/-! ### The stages of an open (R41) -/

section OpenStages
variable {s b t u w r : State} {p q : ProgId} {z : Zone} {zs : ZoneSet} {g : Program} {ch : ChanId}
  {chan : Option (ChanId × Option ProgId)}

/-- A record without its claims and without what its states change. -/
def Program.core (g : Program) : Program :=
  { g.bare with state := .free, ret := none, waitTimer := none, joinTimer := none, endReason := none
                chimeSkipped := false, clipStarted := false }

theorem Program.core_of_bare {k : Program} (h : k.bare = g.bare) : k.core = g.core := by
  unfold Program.core
  rw [h]

theorem Program.core_of_steady {k : Program} (h : k.steady = g.steady) : k.core = g.core := by
  have : k.steady.core = g.steady.core := congrArg Program.core h
  exact this

theorem Program.core_finished (h : g.gain.halt = g.gain) (why : EndReason) : (g.finished why).core = g.core := by
  unfold Program.core Program.bare Program.finished
  simp only [h]

theorem State.settleAll_core (h : s.progs[p].gain.halt = s.progs[p].gain) : s.settleAll.progs[p].core = s.progs[p].core := by
  rcases s.settleAll_prog p with ⟨e, -⟩ | ⟨e, -⟩
  · rw [e]
    exact Program.core_finished h _
  · exact Program.core_of_steady e

/-- What an operation that changes claims alone keeps through its end, in one program's record. -/
theorem State.finish_core (hb : r.beyond = w.beyond) (hg : w.progs[p].gain.halt = w.progs[p].gain) (s0 : State) (c : Cause) :
    (State.finish s0 r c).progs[p].core = w.progs[p].core := by
  have hbare := State.bare_apply (State.bare_of_beyond hb) p
  have hgain : r.progs[p].gain = w.progs[p].gain := (congrArg Program.gain hbare :)
  rw [State.finish_state, State.settleAll_core (by rw [hgain]; exact hg)]
  exact Program.core_of_bare hbare

theorem State.settleAll_arrivals (s : State) : s.settleAll.arrivals = s.arrivals := by
  refine List.foldlRecOn (motive := fun u : State => u.arrivals = s.arrivals) _ _ rfl fun u hu q _ => Eq.trans ?_ hu
  rcases u.settleProgram_cases q with ⟨e, -⟩ | ⟨hm, -⟩
  · rw [e]
    exact (congrArg State.arrivals (u.endProgram_books q .noZones) :)
  · exact (congrArg State.arrivals hm.steady :)

theorem State.arrivals_of_lasting (h : u.lasting = s.lasting) : u.arrivals = s.arrivals := (congrArg State.arrivals h :)
theorem State.arrivals_of_beyond (h : u.beyond = s.beyond) : u.arrivals = s.arrivals := (congrArg State.arrivals h :)

theorem State.finish_arrivals (s0 s : State) (c : Cause) : (State.finish s0 s c).arrivals = s.arrivals :=
  (State.arrivals_of_lasting (State.finish_lasting s0 s c)).trans s.settleAll_arrivals

theorem State.settleAll_excluded (s : State) (z : Zone) : s.settleAll.zones[z].excluded = s.zones[z].excluded := by
  refine List.foldlRecOn (motive := fun u : State => u.zones[z].excluded = s.zones[z].excluded) _ _ rfl
    fun u hu q _ => Eq.trans ?_ hu
  rcases u.settleProgram_cases q with ⟨e, -⟩ | ⟨hm, -⟩
  · rw [e, State.endProgram_zone]
    rfl
  · rw [hm.zones]

theorem State.excluded_of_beyond (h : u.beyond = s.beyond) (z : Zone) : u.zones[z].excluded = s.zones[z].excluded :=
  (congrArg ZoneRec.excluded (State.unclaimed_of_beyond h z) :)

theorem State.excluded_of_lasting (h : u.lasting = s.lasting) (z : Zone) : u.zones[z].excluded = s.zones[z].excluded :=
  (congrArg ZoneRec.excluded (State.zone_of_lasting h z) :)

theorem State.finish_excluded (s0 s : State) (c : Cause) (z : Zone) :
    (State.finish s0 s c).zones[z].excluded = s.zones[z].excluded := by
  exact (State.excluded_of_lasting (State.finish_lasting s0 s c) z).trans (s.settleAll_excluded z)

theorem State.endAndRelease_eq (s : State) (p : ProgId) (why : EndReason) (c : Cause) : s.endAndRelease p why c =
    State.finish s ((s.endProgram p why).releaseStep c.quiet (s.ownedBy p) (s.bedsOf p)) c := rfl

theorem State.endAndRelease_arrivals (s : State) (p : ProgId) (why : EndReason) (c : Cause) :
    (s.endAndRelease p why c).arrivals = s.arrivals := by
  rw [State.endAndRelease_eq, State.finish_arrivals, State.arrivals_of_beyond (State.releaseStep_beyond ..)]
  exact (congrArg State.arrivals (s.endProgram_books p why) :)

theorem State.endAndRelease_excluded (s : State) (p : ProgId) (why : EndReason) (c : Cause) (z : Zone) :
    (s.endAndRelease p why c).zones[z].excluded = s.zones[z].excluded := by
  rw [State.endAndRelease_eq, State.finish_excluded, State.excluded_of_beyond (State.releaseStep_beyond ..), State.endProgram_zone]
  rfl

theorem State.Skips.endAndRelease (q : ProgId) (why : EndReason) (c : Cause) (s : State) :
    State.Skips p z s (s.endAndRelease q why c) := by
  rw [State.endAndRelease_eq]
  refine State.Skips.trans (.endProgram q why s) (State.Skips.trans ?_ (.finish s _ c))
  exact .releaseStep c.quiet _ _ _

/-- A program without any place in the zone table. -/
def State.Placeless (s : State) (p : ProgId) : Prop :=
  ∀ z : Zone, s.zones[z].owner ≠ some p ∧ p ∉ s.zones[z].stack ∧ s.zones[z].bed ≠ some p

/-- The end of a program gives no zone to one without claims. -/
theorem State.Placeless.endAndRelease (h : s.Placeless p) (hg : ∀ z : Zone, s.progs[p].bitsAt z = (false, false, false, false))
    (q : ProgId) (why : EndReason) (c : Cause) : (s.endAndRelease q why c).Placeless p := by
  intro z
  obtain ⟨ho, hs, hb⟩ := h z
  obtain ⟨hu, hou, hbu⟩ := State.Skips.endAndRelease q why c s (State.apart_of_none (hg z) ho hs)
  exact ⟨fun e => ho (hou e), hu.stack, fun e => hb (hbu e)⟩

/-- The open's first stage: a CLIP program's channel is bound, from another program where it has to be (R41, R134). -/
def State.bindFor (s : State) (p : ProgId) (g : Program) (chan : Option (ChanId × Option ProgId)) : State :=
  match chan, g.clipPart with
  | some (ch, from?), some part => s.bindPool ch from? (.prog p) part.clip Cause.event
  | _, _ => s

/-- The record with the channel bound for it. -/
def Program.boundTo (g : Program) (chan : Option (ChanId × Option ProgId)) : Program :=
  match chan with
  | none => g
  | some (ch, _) => g.bindChan ch

/-- The open's last stage before its claims: a CALL_OUT's station takes TALKOUT (R115). -/
def State.callFor (s : State) (g : Program) : State :=
  match g.station with
  | none => s
  | some a => s.onStation a fun x => { x with state := .talkout }

/-- The state in which a program just opened claims its zones. -/
def State.opened (s : State) (p : ProgId) (g : Program) (chan : Option (ChanId × Option ProgId)) : State :=
  ((s.bindFor p g chan).takeRecord p (g.boundTo chan)).callFor (g.boundTo chan)

theorem State.openIn_eq (s : State) (p : ProgId) (g : Program) (chan : Option (ChanId × Option ProgId)) (zs : ZoneSet) :
    s.openIn p g chan zs = State.claimOpened (s.bindFor p g chan) (s.opened p g chan) p zs ⟨some p, false⟩ := rfl

theorem State.callFor_books (s : State) (g : Program) : (s.callFor g).books = s.books := by
  unfold State.callFor
  split <;> rfl

theorem State.opened_self (s : State) (p : ProgId) (g : Program) (chan : Option (ChanId × Option ProgId)) :
    (s.opened p g chan).progs[p] = { g.boundTo chan with arrival := (s.bindFor p g chan).arrivals } := by
  have h : (s.opened p g chan).progs = ((s.bindFor p g chan).takeRecord p (g.boundTo chan)).progs :=
    (congrArg State.progs (State.callFor_books _ _) :)
  simp only [h]
  exact State.takeRecord_self _ p _

theorem State.opened_other (s : State) (g : Program) (chan : Option (ChanId × Option ProgId)) (h : q ≠ p) :
    (s.opened p g chan).progs[q] = (s.bindFor p g chan).progs[q] := by
  have hp : (s.opened p g chan).progs = ((s.bindFor p g chan).takeRecord p (g.boundTo chan)).progs :=
    (congrArg State.progs (State.callFor_books _ _) :)
  simp only [hp]
  exact State.takeRecord_other _ h _

theorem State.opened_zones (s : State) (p : ProgId) (g : Program) (chan : Option (ChanId × Option ProgId)) :
    (s.opened p g chan).zones = (s.bindFor p g chan).zones :=
  (congrArg State.zones (State.callFor_books _ _) :)

theorem State.opened_arrivals (s : State) (p : ProgId) (g : Program) (chan : Option (ChanId × Option ProgId)) :
    (s.opened p g chan).arrivals = ((s.bindFor p g chan).arrivals + 1) % 65536 :=
  (congrArg State.arrivals (State.callFor_books _ _) :)

theorem State.bindFor_cases (s : State) (p : ProgId) (g : Program) (chan : Option (ChanId × Option ProgId)) :
    s.bindFor p g chan = s ∨ ∃ ch from? part, chan = some (ch, from?) ∧ g.clipPart = some part ∧
      s.bindFor p g chan = (match from? with
        | none => s
        | some q => s.endAndRelease q .channelTaken Cause.event).onChan ch fun r =>
          { r.stopped with user := some (.prog p), clip := some part.clip } := by
  unfold State.bindFor State.bindPool
  split
  · next h2 => exact Or.inr ⟨_, _, _, rfl, h2, rfl⟩
  · exact Or.inl rfl

theorem State.bindFor_arrivals (s : State) (p : ProgId) (g : Program) (chan : Option (ChanId × Option ProgId)) :
    (s.bindFor p g chan).arrivals = s.arrivals := by
  rcases s.bindFor_cases p g chan with e | ⟨ch, from?, part, -, -, e⟩
  · rw [e]
  · rw [e]
    cases from? with
    | none => rfl
    | some q => exact s.endAndRelease_arrivals q _ _

theorem State.bindFor_excluded (s : State) (p : ProgId) (g : Program) (chan : Option (ChanId × Option ProgId)) (z : Zone) :
    (s.bindFor p g chan).zones[z].excluded = s.zones[z].excluded := by
  rcases s.bindFor_cases p g chan with e | ⟨ch, from?, part, -, -, e⟩
  · rw [e]
  · rw [e]
    cases from? with
    | none => rfl
    | some q => exact s.endAndRelease_excluded q _ _ z

theorem State.bindFor_placeless (h : s.Placeless p) (hg : ∀ z : Zone, s.progs[p].bitsAt z = (false, false, false, false))
    (g : Program) (chan : Option (ChanId × Option ProgId)) : (s.bindFor p g chan).Placeless p := by
  rcases s.bindFor_cases p g chan with e | ⟨ch, from?, part, -, -, e⟩
  · rw [e]
    exact h
  · rw [e]
    cases from? with
    | none => exact h
    | some q => exact h.endAndRelease hg q _ _

/-- Where no channel is taken from another program, the open's first stage touches no program, zone or voice. -/
theorem State.bindFor_untaken (h : ∀ ch q, chan ≠ some (ch, some q)) (s : State) (p : ProgId) (g : Program) :
    (s.bindFor p g chan).progs = s.progs ∧ (s.bindFor p g chan).zones = s.zones ∧ (s.bindFor p g chan).voices = s.voices ∧
      (s.bindFor p g chan).patterns = s.patterns := by
  rcases s.bindFor_cases p g chan with e | ⟨ch, from?, part, hc, -, e⟩
  · rw [e]
    exact ⟨rfl, rfl, rfl, rfl⟩
  · rw [e]
    cases from? with
    | none => exact ⟨rfl, rfl, rfl, rfl⟩
    | some q => exact absurd hc (h ch q)

theorem Program.boundTo_claims (g : Program) (chan : Option (ChanId × Option ProgId)) :
    (g.boundTo chan).requested = g.requested ∧ (g.boundTo chan).granted = g.granted ∧ (g.boundTo chan).held = g.held ∧
      (g.boundTo chan).waiting = g.waiting := by
  unfold Program.boundTo
  split <;> exact ⟨rfl, rfl, rfl, rfl⟩

/-- A program whose record an open has taken has no claim and no place yet. -/
theorem State.opened_newcomer (ha : s.claimsAgree = true) (hk : s.kindsLawful = true) (hop : s.progs[p].isOpen = false)
    (hg : g.requested = 0#64 ∧ g.granted = 0#64 ∧ g.held = 0#64 ∧ g.waiting = 0#64) (chan : Option (ChanId × Option ProgId)) :
    (s.opened p g chan).Newcomer p := by
  obtain ⟨h1, h2, h3, h4⟩ := State.sets_of_closed ha hop
  have hplace := State.bindFor_placeless (s := s) (p := p) (State.absent_of_closed ha hk hop)
    (fun z => by unfold Program.bitsAt; rw [h1, h2, h3, h4, BitVec.getLsbD_zero]) g chan
  obtain ⟨b1, b2, b3, b4⟩ := g.boundTo_claims chan
  have hz := s.opened_zones p g chan
  refine ⟨fun z => ?_, fun z => ?_, fun z => ?_, fun z => ?_⟩
  · rw [s.opened_self]
    exact Program.claim_of_empty (b1.trans hg.1) (b2.trans hg.2.1) (b3.trans hg.2.2.1) (b4.trans hg.2.2.2) z
  all_goals
    simp only [hz]
    obtain ⟨ho, hs, hb⟩ := hplace z
    assumption

theorem State.opened_excludedSet (s : State) (p : ProgId) (g : Program) (chan : Option (ChanId × Option ProgId)) :
    (s.opened p g chan).excludedSet = s.excludedSet := by
  refine zoneSet_ext fun z => ?_
  rw [State.getLsbD_excludedSet, State.getLsbD_excludedSet]
  simp only [s.opened_zones]
  exact s.bindFor_excluded p g chan z

end OpenStages

end Sys2Proof.Machine
end

section
namespace Sys2Proof.Machine

/-! ### The claims and the first state of a program just opened (R31, R32, R41) -/

section OpenClaims
variable {s s0 t u w r : State} {p q : ProgId} {z : Zone} {left got : ZoneSet} {pat : PatId} {v : Fin 4}

/-- The claims to a set of zones under the program's start policy. -/
def State.claimUnder (w : State) (p : ProgId) (left : ZoneSet) : State :=
  if w.progs[p].together then w.claimTogether false p left else w.claimEach false p left

theorem State.claimUnder_beyond (w : State) (p : ProgId) (left : ZoneSet) : (w.claimUnder p left).beyond = w.beyond := by
  unfold State.claimUnder
  split
  · exact w.claimTogether_beyond false p left
  · exact w.claimEach_beyond false p left

theorem State.Calm.claimUnder (w : State) (p : ProgId) (left : ZoneSet) : State.Calm w (w.claimUnder p left) := by
  unfold State.claimUnder
  split
  · exact .claimTogether w false p left
  · exact .claimEach w false p left

theorem State.claimOpened_of_left {zs : ZoneSet} (h : zs &&& ~~~w.excludedSet ≠ 0#64) (s0 : State) (p : ProgId) :
    State.claimOpened s0 w p zs ⟨some p, false⟩ =
      State.finish (s0.onProg p fun _ => Program.free) (w.claimUnder p (zs &&& ~~~w.excludedSet)) ⟨some p, false⟩ := by
  unfold State.claimOpened State.claimUnder
  simp only [h, if_false]

/-- What a newcomer gets: under ALL_OR_WAIT all or nothing, else the zones that let it pass (R31). -/
theorem State.Newcomer.claimUnder (hn : w.Newcomer p) (hl : left ≠ 0#64)
    (hx : ∀ z : Zone, left.getLsbD z.val = true → w.zones[z].excluded = false) :
    ∃ got, State.Claims w (w.claimUnder p left) p left got ∧
      (w.progs[p].together = true → (got = left ∨ got = 0#64) ∧
        (got = left ↔ ∀ z : Zone, left.getLsbD z.val = true → w.passes p z = true)) ∧
      (w.progs[p].together = false → ∀ z : Zone, left.getLsbD z.val = true →
        (got.getLsbD z.val = true ↔ w.passes p z = true)) := by
  unfold State.claimUnder
  cases ht : w.progs[p].together
  · rw [if_neg Bool.false_ne_true]
    refine ⟨_, hn.claimEach hx false, fun e => absurd e Bool.false_ne_true, fun _ z hz => ?_⟩
    rw [BitVec.getLsbD_and, hz, Bool.true_and, getLsbD_zonesWhere]
  · rw [if_pos rfl]
    obtain ⟨hall, hnone⟩ := hn.claimTogether (left := left) false
    by_cases hp : ∀ z : Zone, left.getLsbD z.val = true → w.passes p z = true
    · exact ⟨left, hall hp, fun _ => ⟨Or.inl rfl, iff_of_true rfl hp⟩, fun e => absurd e.symm Bool.false_ne_true⟩
    · exact ⟨0#64, hnone hp, fun _ => ⟨Or.inr rfl, iff_of_false (fun e => hl e.symm) hp⟩, fun e => absurd e.symm Bool.false_ne_true⟩

/-- The turn of one program in the settling of all, with the chime voices. -/
theorem State.settleAll_turn_voices (s : State) (p : ProgId) : ∃ t : State, t.progs[p] = s.progs[p] ∧ t.patterns = s.patterns ∧
    s.settleAll.progs[p] = (t.settleProgram p).progs[p] ∧
    (∀ v : Fin 4, (t.settleProgram p).voices[v].bound = some p → s.settleAll.voices[v] = (t.settleProgram p).voices[v]) ∧
    (∀ q : ProgId, t.progs[q].state = .ended → s.settleAll.progs[q].state = .ended) ∧
    ((∀ q : ProgId, q ≠ p → ¬s.progs[q].enters) → State.Voiceless s t) := by
  obtain ⟨before, after, hb, hnd, ha, e⟩ := s.settleAll_split p
  refine ⟨before.foldl (fun s q => s.settleProgram q) s, foldl_settle_other hb s, foldl_settle_patterns before s, ?_, fun v hv => ?_,
    fun q hq => ?_, fun h => ?_⟩
  · rw [e]
    exact foldl_settle_other ha _
  · rw [e]
    exact foldl_settle_voice ha hv
  · rw [e]
    exact foldl_settle_ended (State.settleProgram_of_ended hq p)
  · exact foldl_settle_voiceless hnd fun q hq => h q fun e => hb (e ▸ hq)

/-- A newcomer that gets no zone waits: PENDING, with its wait timer as its limit says (R37). -/
theorem State.Claims.settle_waits (h : State.Claims w r p left got) (hu : w.progs[p].Unsettled) (hl : left ≠ 0#64)
    (hg : got = 0#64) :
    ∃ b, r.settleAll.progs[p] = { w.progs[p] with
      requested := left, granted := got, waiting := left &&& ~~~got, held := 0#64, gotAll := b
      waitTimer := w.progs[p].waitLimit.map framesOfMs } := by
  obtain ⟨b, hrec⟩ := h.record
  obtain ⟨t, ht, -, hset, -⟩ := r.settleAll_turn_voices p
  have hw : left &&& ~~~got = left := by rw [hg, BitVec.not_zero, BitVec.and_allOnes]
  refine ⟨b, ?_⟩
  rw [hset, (State.settleProgram_waits ?_ ?_ ?_).1, ht, hrec]
  · rw [ht, hrec]
    exact ⟨hu.state, hu.ret, hu.timer, rfl, hu.skipped⟩
  · rw [ht, hrec]
    exact hg
  · rw [ht, hrec]
    show left &&& ~~~got ≠ 0#64
    rw [hw]
    exact hl

/-- The first state of a newcomer that gets a zone: PREAMBLE on a chime voice, or ACTIVE with the chime skipped or without chime. -/
theorem State.Claims.settle_enters (h : State.Claims w r p left got) (hu : w.progs[p].Unsettled) (hg : got ≠ 0#64) :
    ∃ (t : State) (b : Bool), t.patterns = r.patterns ∧
      (∀ q : ProgId, t.progs[q].state = .ended → r.settleAll.progs[q].state = .ended) ∧
      ((∀ q : ProgId, q ≠ p → ¬r.progs[q].enters) → State.Voiceless r t) ∧
      let g := { w.progs[p] with
        requested := left, granted := got, waiting := left &&& ~~~got, held := 0#64, gotAll := b }
      ((∃ (pat : PatId) (v : Fin 4), g.chimes pat ∧ r.settleAll.progs[p] = { g with state := .preamble } ∧
          t.patterns[pat].steps ≠ [] ∧ t.voices[v].bound = none ∧ (∀ x : Fin 4, x < v → t.voices[x].bound ≠ none) ∧
          r.settleAll.voices[v] = ⟨Player.start pat t.patterns[pat], some p⟩) ∨
        ∃ sk cs, r.settleAll.progs[p] = { g with state := .active, chimeSkipped := sk, clipStarted := cs } ∧
          if sk then ∃ pat, g.chimes pat ∧ t.bindVoice p pat = none else ∀ pat, ¬g.chimes pat) := by
  obtain ⟨b, hrec⟩ := h.record
  obtain ⟨t, ht, hpat, hset, hvoice, hended, hvl⟩ := r.settleAll_turn_voices p
  refine ⟨t, b, hpat, hended, hvl, ?_⟩
  have htp := ht.trans hrec
  have hrun : t.progs[p].Unsettled := by
    rw [htp]
    exact ⟨hu.state, hu.ret, hu.timer, rfl, hu.skipped⟩
  rcases State.settleProgram_first hrun (by rw [htp]; exact hg) with ⟨pat, s1, hch, hb, hv, -, hprog⟩ | ⟨sk, cs, hprog, -, -, hsk⟩
  · obtain ⟨hsteps, v, hfree, hlow, rfl⟩ := State.bindVoice_eq hb
    have hbound : (t.settleProgram p).voices[v] = ⟨Player.start pat t.patterns[pat], some p⟩ := by
      simp only [hv]
      exact (State.onVoice_voice t v v _).trans (if_pos rfl)
    refine Or.inl ⟨pat, v, ?_, ?_, hsteps, hfree, hlow, ?_⟩
    · rw [htp] at hch
      exact hch
    · rw [hset, hprog, htp]
    · rw [hvoice v (by rw [hbound]), hbound]
  · refine Or.inr ⟨sk, cs, ?_, ?_⟩
    · rw [hset, hprog, htp]
    · rw [htp] at hsk
      exact hsk

/-- A program that an open leaves without any zone ends at once (R41). -/
theorem State.settleAll_of_nothing (hu : w.progs[p].Unsettled) (hg : w.progs[p].granted = 0#64) (hw : w.progs[p].waiting = 0#64) :
    w.settleAll.progs[p] = w.progs[p].finished .noZones := by
  obtain ⟨t, ht, -, hset, -⟩ := w.settleAll_turn_voices p
  rw [hset, State.settleProgram_of_nothing, State.endProgram_self, ht]
  all_goals rw [ht]
  · exact hu.state
  · exact hg
  · exact hu.held
  · exact hw

theorem State.places_of_lasting (h : u.lasting = s.lasting) (z : Zone) :
    u.zones[z].owner = s.zones[z].owner ∧ u.zones[z].stack = s.zones[z].stack ∧ u.zones[z].bed = s.zones[z].bed :=
  have hz := State.zone_of_lasting h z
  ⟨(congrArg ZoneRec.owner hz :), (congrArg ZoneRec.stack hz :), (congrArg ZoneRec.bed hz :)⟩

/-- Where the program does not end, its places in the zones stand through the end of the operation. -/
theorem State.finish_heldAs (h : r.Staying p) (s0 : State) (c : Cause) (kind : ProgKind) (z : Zone) :
    (State.finish s0 r c).zones[z].HeldAs kind p ↔ r.zones[z].HeldAs kind p := by
  have hsettle : r.settleAll.Staying p ∧ ((r.settleAll.zones[z].owner = some p ↔ r.zones[z].owner = some p) ∧
      (r.settleAll.zones[z].bed = some p ↔ r.zones[z].bed = some p)) := by
    refine List.foldlRecOn (motive := fun u : State => u.Staying p ∧ ((u.zones[z].owner = some p ↔ r.zones[z].owner = some p) ∧
      (u.zones[z].bed = some p ↔ r.zones[z].bed = some p))) _ _ ⟨h, Iff.rfl, Iff.rfl⟩ fun u hu q _ => ?_
    obtain ⟨h1, h2, h3⟩ := hu
    refine ⟨h1.settle q, ?_⟩
    by_cases hq : q = p
    · subst hq
      rw [h1.not_ended.zones]
      exact ⟨h2, h3⟩
    · rcases u.settleProgram_cases q with ⟨e, -⟩ | ⟨hm, -⟩
      · rw [e, State.endProgram_zone, ← h2, ← h3]
        have hne : q ≠ p := hq
        have hstrip (o : Option ProgId) : (if o = some q then none else o) = some p ↔ o = some p := by
          by_cases ho : o = some q
          · rw [if_pos ho, ho]
            exact iff_of_false (fun e => by cases e) fun e => hne (Option.some.inj e)
          · rw [if_neg ho]
        exact ⟨hstrip _, hstrip _⟩
      · rw [hm.zones]
        exact ⟨h2, h3⟩
  obtain ⟨-, howner, hbed⟩ := hsettle
  obtain ⟨ho, -, hb⟩ := State.places_of_lasting (State.finish_lasting s0 r c) z
  unfold ZoneRec.HeldAs
  rw [ho, hb]
  split
  · exact hbed
  · exact howner

end OpenClaims

end Sys2Proof.Machine
end

section
namespace Sys2Proof.Machine

section OpenFields
variable {s u w r : State} {a : OpenArgs} {x : Port} {k : ProgKind} {p q : ProgId} {z : Zone} {n : Nat} {g : Program}
  {chan : Option (ChanId × Option ProgId)} {id : ClipId}

/-- A channel is bound for CLIP programs, and for every one of them (R41). -/
theorem openBlocks_clip (h : s.openBlocks (openRecord a x k) = .ok chan) (hs : OpenSound a k) :
    (chan = none ∧ k ≠ .clip) ∨ (k = .clip ∧ ∃ ch from? part, chan = some (ch, from?) ∧
      (openRecord a x k).clipPart = some part ∧ s.poolRequest part.clip (a.cls.toNat == 1) = .ok (ch, from?)) := by
  unfold State.openBlocks at h
  by_cases hk : k = .clip
  · subst hk
    obtain ⟨id, -, hid⟩ := hs.clip
    have hpart : (openRecord a x .clip).clipPart = some _ := hid
    rw [hpart] at h
    refine Or.inr ⟨rfl, ?_⟩
    cases hreq : s.poolRequest id ((openRecord a x .clip).cls == 1) with
    | error e =>
      simp only [hreq] at h
      cases h
    | ok y =>
      simp only [hreq] at h
      exact ⟨y.1, y.2, _, (Except.ok.inj h).symm, hpart, hreq⟩
  · refine Or.inl ⟨?_, hk⟩
    have hpart : (openRecord a x k).clipPart = none := if_neg hk
    rw [hpart] at h
    simp only at h
    split at h
    · exact (Except.ok.inj h).symm
    · split at h
      · exact (Except.ok.inj h).symm
      · cases h

theorem openRecord_gain (a : OpenArgs) (x : Port) (k : ProgKind) (chan : Option (ChanId × Option ProgId)) :
    ((openRecord a x k).boundTo chan).gain = Ramp.still (clampGain a.gain.toNat) := by
  unfold Program.boundTo
  split <;> rfl

/-- The fields of the record of an accepted open that its claims and its state leave (R41). -/
theorem opened_fields (h : g.core = ({ (openRecord a x k).boundTo chan with arrival := n } : Program).core) (hs : OpenSound a k)
    (hchan : (chan = none ∧ k ≠ .clip) ∨ (k = .clip ∧ ∃ ch from?, chan = some (ch, from?))) :
    (g.owner = x ∧ g.kind = k ∧ g.cls = a.cls.toNat ∧ g.gain.current = min a.gain.toNat 32768 ∧
       g.gain.target = g.gain.current ∧ g.gain.running = false ∧ g.gain.staged = none ∧ g.arrival = n ∧
       g.routeSlot = none ∧ (k ≠ .clip → g.source = some a.source.toNat) ∧
       (∀ ch from?, chan = some (ch, from?) → g.source = some (48 + ch.val)) ∧
       (k = .live → g.tail = some (if a.tail = 0xFFFFFF#24 then 100 else a.tail.toNat))) ∧
      (g.policy = (if a.policy = 0#8 then .allOrWait else .takeAvailable) ∧
       g.waitLimit = (if a.waitLimit = 0xFFFFFF#24 then none else some a.waitLimit.toNat) ∧
       g.joinDeadline = (if a.joinDeadline = 0xFFFFFF#24 then none else some a.joinDeadline.toNat) ∧
       g.chime.map (·.val) = (if a.chime = 0xFF#8 then none else some a.chime.toNat) ∧ (k ≠ .live → g.tail = none) ∧
       (k ≠ .clip → g.clipPart = none) ∧
       (∀ ch from?, chan = some (ch, from?) → ∃ id : ClipId, a.clip.toNat = id.val ∧
         g.clipPart = some ⟨id, if a.repeats.toNat = 256 then none else some a.repeats.toNat,
           if a.trigger = 0#8 then .free else .gated, some ch⟩)) := by
  have hsame : ((openRecord a x k).boundTo chan).owner = x ∧ ((openRecord a x k).boundTo chan).kind = k ∧
      ((openRecord a x k).boundTo chan).cls = a.cls.toNat ∧ ((openRecord a x k).boundTo chan).routeSlot = none ∧
      ((openRecord a x k).boundTo chan).tail = (openRecord a x k).tail ∧
      ((openRecord a x k).boundTo chan).policy = (openRecord a x k).policy ∧
      ((openRecord a x k).boundTo chan).waitLimit = opt a.waitLimit ∧
      ((openRecord a x k).boundTo chan).joinDeadline = opt a.joinDeadline ∧
      ((openRecord a x k).boundTo chan).chime = (openRecord a x k).chime := by
    unfold Program.boundTo
    split <;> exact ⟨rfl, rfl, rfl, rfl, rfl, rfl, rfl, rfl, rfl⟩
  obtain ⟨h1, h2, h3, h4, h5, h6, h7, h8, h9⟩ := hsame
  have hgain : g.gain = Ramp.still (clampGain a.gain.toNat) := (congrArg Program.gain h :).trans (openRecord_gain a x k chan)
  have hsource : g.source = ((openRecord a x k).boundTo chan).source := (congrArg Program.source h :)
  have hclip : g.clipPart = ((openRecord a x k).boundTo chan).clipPart := (congrArg Program.clipPart h :)
  have htail : g.tail = (openRecord a x k).tail := (congrArg Program.tail h :).trans h5
  refine ⟨⟨(congrArg Program.owner h :).trans h1, (congrArg Program.kind h :).trans h2, (congrArg Program.cls h :).trans h3,
    by rw [hgain]; rfl, by rw [hgain]; rfl, by rw [hgain]; rfl, by rw [hgain]; rfl, (congrArg Program.arrival h :),
    (congrArg Program.routeSlot h :).trans h4, fun hk => ?_, fun ch from? hc => ?_, fun hk => ?_⟩,
    (congrArg Program.policy h :).trans (h6.trans hs.policy), (congrArg Program.waitLimit h :).trans h7,
    (congrArg Program.joinDeadline h :).trans h8, ?_, fun hk => ?_, fun hk => ?_, fun ch from? hc => ?_⟩
  · rcases hchan with ⟨hc, -⟩ | ⟨e, -⟩
    · rw [hsource, hc]
      exact hs.source hk
    · exact absurd e hk
  · rw [hsource, hc]
    rfl
  · rw [htail]
    refine (if_pos hk).trans ?_
    by_cases h0 : a.tail = 0xFFFFFF#24
    · rw [if_pos h0, (opt_eq_none_iff a.tail).mpr h0]
      rfl
    · rw [if_neg h0, opt_of_ne (x := a.tail) h0]
      rfl
  · rw [show g.chime = _ from (congrArg Program.chime h :).trans h9]
    exact hs.chime
  · rw [htail]
    exact if_neg hk
  · rcases hchan with ⟨hc, -⟩ | ⟨e, -⟩
    · rw [hclip, hc]
      exact if_neg hk
    · exact absurd e hk
  · rcases hchan with ⟨e, -⟩ | ⟨hk, -⟩
    · rw [e] at hc
      cases hc
    · subst hk
      obtain ⟨id, h1, h2⟩ := hs.clip
      refine ⟨id, h1, ?_⟩
      rw [hclip, hc]
      show ((openRecord a x .clip).clipPart.map fun c => { c with channel := some ch }) = _
      rw [show (openRecord a x .clip).clipPart = some _ from h2]
      rfl

theorem openRecord_unsettled (a : OpenArgs) (x : Port) (k : ProgKind) (chan : Option (ChanId × Option ProgId)) (n : Nat) :
    ({ (openRecord a x k).boundTo chan with arrival := n } : Program).Unsettled := by
  unfold Program.boundTo
  split <;> exact ⟨rfl, rfl, rfl, rfl, rfl⟩

/-- The preemption test of the program just opened, where no channel was taken from another program (R26, R30). -/
theorem opened_passes (hs : OpenSound a k) (hplace : s.Placeless p) (hc : ∀ ch q, chan ≠ some (ch, some q)) (z : Zone) :
    (s.opened p (openRecord a x k) chan).passes p z = true ↔
      if k = .bed then s.zones[z].bed = none else ∀ o, s.zones[z].owner = some o →
        a.cls.toNat < s.progs[o].cls ∧ (a.cls.toNat ≤ 2 ∨ a.cls.toNat < s.zones[z].shield) := by
  obtain ⟨hprogs, hzones, -, -⟩ := State.bindFor_untaken hc s p (openRecord a x k)
  have hself := s.opened_self p (openRecord a x k) chan
  have hrec : ((openRecord a x k).boundTo chan).kind = k ∧ ((openRecord a x k).boundTo chan).cls = a.cls.toNat := by
    unfold Program.boundTo
    split <;> exact ⟨rfl, rfl⟩
  have hkind : (s.opened p (openRecord a x k) chan).progs[p].kind = k := by rw [hself]; exact hrec.1
  have hcls : (s.opened p (openRecord a x k) chan).progs[p].cls = a.cls.toNat := by rw [hself]; exact hrec.2
  have hother (q : ProgId) (hq : q ≠ p) : (s.opened p (openRecord a x k) chan).progs[q] = s.progs[q] := by
    rw [s.opened_other _ chan hq]
    simp only [hprogs]
  have hz : (s.opened p (openRecord a x k) chan).zones = s.zones := (s.opened_zones p _ chan).trans hzones
  by_cases hk : k = .bed
  · rw [State.passes_of_bed (hkind.trans hk), if_pos hk]
    simp only [hz]
  · rw [State.passes_of_foreground (by rw [hkind]; exact hk), if_neg hk]
    simp only [hz]
    refine forall_congr' fun o => forall_congr' fun ho => ?_
    have hne : o ≠ p := fun e => (hplace z).1 (e ▸ ho)
    rw [State.beats_iff, hcls, hother o hne]
    constructor
    · rintro (⟨h0, -⟩ | h)
      · have := hs.cls.1
        omega
      · exact h
    · exact Or.inr

end OpenFields

end Sys2Proof.Machine
end

section
namespace Sys2Proof.Machine

/-! ### Claims grant nothing to the others (R26, R28) -/

section NoGrants
variable {s t u w r : State} {p q o : ProgId} {y z : Zone} {zs : ZoneSet} {quiet : Bool}

/-- No program but `p` has been granted a zone. -/
def State.GrantsOnly (p : ProgId) (s u : State) : Prop :=
  ∀ q : ProgId, q ≠ p → ∀ y : Zone, u.progs[q].granted.getLsbD y.val = true → s.progs[q].granted.getLsbD y.val = true

theorem State.GrantsOnly.refl (p : ProgId) (s : State) : State.GrantsOnly p s s := fun _ _ _ => id

theorem State.GrantsOnly.trans (h : State.GrantsOnly p s t) (k : State.GrantsOnly p t u) : State.GrantsOnly p s u :=
  fun q hq y hy => h q hq y (k q hq y hy)

theorem State.granted_ousted (h : (s.ousted o z q).granted.getLsbD y.val = true) : s.progs[q].granted.getLsbD y.val = true := by
  have hwithout (g : Program) (h : (g.without (zoneBit z)).granted.getLsbD y.val = true) : g.granted.getLsbD y.val = true := by
    simp only [Program.without, BitVec.getLsbD_and, Bool.and_eq_true] at h
    exact h.1
  have hsuspend (g : Program) (h : (g.suspend z).granted.getLsbD y.val = true) : g.granted.getLsbD y.val = true := by
    simp only [Program.suspend, BitVec.getLsbD_and, Bool.and_eq_true] at h
    exact h.1
  unfold State.ousted at h
  simp only at h
  repeat' split at h
  · exact hwithout _ (hsuspend _ h)
  · exact hsuspend _ h
  · exact hwithout _ h
  · exact h
  · exact hwithout _ h
  · exact h

theorem State.GrantsOnly.take (s : State) (quiet : Bool) (p : ProgId) (z : Zone) : State.GrantsOnly p s (s.take quiet p z) := by
  intro q hq y hy
  unfold State.take at hy
  split at hy
  · rw [State.takeBed_prog, if_neg (Ne.symm hq)] at hy
    exact hy
  · rcases Option.eq_none_or_eq_some s.zones[z].owner with ho | ⟨o, ho⟩
    · rw [State.takeForeground_of_unowned ho, State.own_prog, if_neg (Ne.symm hq)] at hy
      exact hy
    · rw [State.takeForeground_prog ho, if_neg (Ne.symm hq)] at hy
      exact State.granted_ousted hy

theorem State.GrantsOnly.onProg (s : State) (p : ProgId) (f : Program → Program) : State.GrantsOnly p s (s.onProg p f) := by
  intro q hq y hy
  rw [State.onProg_progs_ne s hq] at hy
  exact hy

theorem State.GrantsOnly.claimOne (s : State) (quiet : Bool) (p : ProgId) (z : Zone) :
    State.GrantsOnly p s (s.claimOne quiet p z) := by
  unfold State.claimOne
  repeat' split
  · exact .refl p s
  · exact .take s quiet p z
  · exact .onProg s p _

theorem foldl_grantsOnly {f : State → Zone → State} (h : ∀ s z, State.GrantsOnly p s (f s z)) (l : List Zone) (s : State) :
    State.GrantsOnly p s (l.foldl f s) := by
  induction l generalizing s with
  | nil => exact .refl p s
  | cons z l ih => exact (h s z).trans (ih _)

theorem State.GrantsOnly.claimUnder (w : State) (p : ProgId) (left : ZoneSet) : State.GrantsOnly p w (w.claimUnder p left) := by
  unfold State.claimUnder
  split
  · rw [State.claimTogether_eq]
    split
    · rw [State.takeAll_eq]
      exact State.GrantsOnly.trans (.onProg w p _) (foldl_grantsOnly (fun s z => .take s false p z) _ _)
    · exact .onProg w p _
  · exact foldl_grantsOnly (fun s z => .claimOne s false p z) _ w

/-- Where every program has its state, the claims of one let no other enter PREAMBLE or ACTIVE. -/
theorem State.not_enters_of_claims (hs : ∀ q : ProgId, q ≠ p → w.progs[q].settled = true) (left : ZoneSet) (hq : q ≠ p) :
    ¬(w.claimUnder p left).progs[q].enters := by
  rintro ⟨hst, hg⟩
  rw [State.state_of_beyond (w.claimUnder_beyond p left)] at hst
  have hzero : w.progs[q].granted = 0#64 := by
    have hset := hs q hq
    unfold Program.settled at hset
    rcases hst with e | e <;> rw [e] at hset <;> simp only [Bool.and_eq_true, beq_iff_eq] at hset
    · exact hset.1.1.1
    · exact hset.1.1
  refine hg ((zoneSet_eq_zero_iff _).mpr fun y => Bool.not_eq_true _ |>.mp fun e => ?_)
  have := State.GrantsOnly.claimUnder w p left q hq y e
  rw [hzero, BitVec.getLsbD_zero] at this
  cases this

end NoGrants

end Sys2Proof.Machine
end

section
namespace Sys2Proof.Machine

/-! ### What an accepted open leaves in its record (R41) -/

section OpenEffect
variable {s u w r : State} {a : OpenArgs} {x : Port} {k : ProgKind} {p q : ProgId} {z : Zone} {left : ZoneSet} {pat : PatId}
  {chan : Option (ChanId × Option ProgId)}

/-- What the base record of an open says of the fields that its states change. -/
theorem openRecord_base (a : OpenArgs) (x : Port) (k : ProgKind) (chan : Option (ChanId × Option ProgId)) (n : Nat) :
    let b : Program := { (openRecord a x k).boundTo chan with arrival := n }
    b.kind = k ∧ b.ret = none ∧ b.endReason = none ∧ b.joinTimer = b.joinDeadline.map (48 * ·) ∧ b.granted = 0#64 ∧
      b.waiting = 0#64 ∧ b.gotAll = false ∧ b.policy = (openRecord a x k).policy ∧ b.chime = (openRecord a x k).chime := by
  intro b
  unfold b Program.boundTo
  split <;> exact ⟨rfl, rfl, rfl, rfl, rfl, rfl, rfl, rfl, rfl⟩

theorem opened_together (hs : OpenSound a k) (n : Nat) :
    ({ (openRecord a x k).boundTo chan with arrival := n } : Program).together = true ↔ a.policy = 0#8 := by
  obtain ⟨-, -, -, -, -, -, h7, h8, -⟩ := openRecord_base a x k chan n
  have hp : (openRecord a x k).policy = if a.policy = 0#8 then .allOrWait else .takeAvailable := hs.policy
  rw [Program.together_iff, h7, h8, hp]
  by_cases h0 : a.policy = 0#8
  · rw [if_pos h0]
    exact iff_of_true ⟨rfl, rfl⟩ h0
  · rw [if_neg h0]
    exact iff_of_false (fun e => by cases e.1) h0

/-- An open all of whose zones are excluded: its program has ended (R41). -/
theorem openIn_excluded (hl : a.zones &&& ~~~s.excludedSet = 0#64) (x : Port) (k : ProgKind) (p : ProgId)
    (chan : Option (ChanId × Option ProgId)) :
    (s.openIn p (openRecord a x k) chan a.zones).progs[p] =
      ({ (openRecord a x k).boundTo chan with arrival := s.arrivals } : Program).finished .noZones := by
  have hself := s.opened_self p (openRecord a x k) chan
  rw [s.bindFor_arrivals] at hself
  obtain ⟨-, -, -, -, hg, hw, -⟩ := openRecord_base a x k chan s.arrivals
  rw [State.openIn_eq, State.claimOpened_of_none (by rw [s.opened_excludedSet]; exact hl), State.finish_state,
    State.settleAll_of_nothing, hself]
  all_goals rw [hself]
  · exact openRecord_unsettled a x k chan s.arrivals
  · exact hg
  · exact hw

/-- What an open gets, and the record, the places and the chime voice it leaves. -/
structure State.OpenGot (s u : State) (a : OpenArgs) (x : Port) (k : ProgKind) (p : ProgId)
    (chan : Option (ChanId × Option ProgId)) (left got : ZoneSet) : Prop where
  within : ∀ z : Zone, got.getLsbD z.val = true → left.getLsbD z.val = true
  together : a.policy = 0#8 → (got = left ∨ got = 0#64) ∧
    (got = left ↔ ∀ z : Zone, left.getLsbD z.val = true → (s.opened p (openRecord a x k) chan).passes p z = true)
  single : a.policy ≠ 0#8 → ∀ z : Zone, left.getLsbD z.val = true →
    (got.getLsbD z.val = true ↔ (s.opened p (openRecord a x k) chan).passes p z = true)
  placed : ∀ z : Zone, got.getLsbD z.val = true ↔ u.zones[z].HeldAs k p
  waits : got = 0#64 → ∃ b, u.progs[p] = { { (openRecord a x k).boundTo chan with arrival := s.arrivals } with
    requested := left, granted := got, waiting := left &&& ~~~got, held := 0#64, gotAll := b
    waitTimer := ((openRecord a x k).boundTo chan).waitLimit.map framesOfMs }
  enters : got ≠ 0#64 → ∃ (t : State) (b : Bool), t.patterns = (s.opened p (openRecord a x k) chan).patterns ∧
    (∀ q : ProgId, t.progs[q].state = .ended → u.progs[q].state = .ended) ∧
    ((∀ q : ProgId, q ≠ p → ¬((s.opened p (openRecord a x k) chan).claimUnder p left).progs[q].enters) →
      State.Voiceless (s.opened p (openRecord a x k) chan) t) ∧
    let g := { { (openRecord a x k).boundTo chan with arrival := s.arrivals } with
      requested := left, granted := got, waiting := left &&& ~~~got, held := 0#64, gotAll := b }
    ((∃ (pat : PatId) (v : Fin 4), g.chimes pat ∧ u.progs[p] = { g with state := .preamble } ∧
        t.patterns[pat].steps ≠ [] ∧ t.voices[v].bound = none ∧ (∀ y : Fin 4, y < v → t.voices[y].bound ≠ none) ∧
        u.voices[v] = ⟨Player.start pat t.patterns[pat], some p⟩) ∨
      ∃ sk cs, u.progs[p] = { g with state := .active, chimeSkipped := sk, clipStarted := cs } ∧
        if sk then ∃ pat, g.chimes pat ∧ t.bindVoice p pat = none else ∀ pat, ¬g.chimes pat)

theorem State.Voiceless.congr {t : State} (h : State.Voiceless r t) (hv : r.voices = w.voices) : State.Voiceless w t := by
  unfold State.Voiceless at h ⊢
  simp only [hv] at h
  exact h

theorem State.voices_of_lasting (h : u.lasting = s.lasting) : u.voices = s.voices := (congrArg State.voices h :)
theorem State.voices_of_beyond (h : u.beyond = s.beyond) : u.voices = s.voices := (congrArg State.voices h :)
theorem State.patterns_of_beyond (h : u.beyond = s.beyond) : u.patterns = s.patterns := (congrArg State.patterns h :)

theorem State.Claims.staying {got : ZoneSet} (h : State.Claims w r p left got) (hu : w.progs[p].Unsettled) (hl : left ≠ 0#64) :
    r.Staying p := by
  obtain ⟨b, hrec⟩ := h.record
  intro _
  rw [hrec]
  refine ⟨fun e => ProgState.noConfusion (hu.state.symm.trans e), ?_⟩
  by_cases hg : got = 0#64
  · refine Or.inr (Or.inr ?_)
    show left &&& ~~~got ≠ 0#64
    rw [hg, BitVec.not_zero, BitVec.and_allOnes]
    exact hl
  · exact Or.inl hg

theorem openIn_got (hs : OpenSound a k) (ha : s.claimsAgree = true) (hk : s.kindsLawful = true) (hop : s.progs[p].isOpen = false)
    (hl : a.zones &&& ~~~s.excludedSet ≠ 0#64) (x : Port) (chan : Option (ChanId × Option ProgId)) :
    ∃ got, State.OpenGot s (s.openIn p (openRecord a x k) chan a.zones) a x k p chan (a.zones &&& ~~~s.excludedSet) got := by
  let left := a.zones &&& ~~~s.excludedSet
  let w := s.opened p (openRecord a x k) chan
  let r := w.claimUnder p left
  have hself : w.progs[p] = { (openRecord a x k).boundTo chan with arrival := s.arrivals } := by
    rw [s.opened_self, s.bindFor_arrivals]
  obtain ⟨hkind, -⟩ := openRecord_base a x k chan s.arrivals
  have hu : w.progs[p].Unsettled := by rw [hself]; exact openRecord_unsettled a x k chan s.arrivals
  have hleft : a.zones &&& ~~~w.excludedSet = left := by rw [s.opened_excludedSet]
  have hopen : s.openIn p (openRecord a x k) chan a.zones =
      State.finish ((s.bindFor p (openRecord a x k) chan).onProg p fun _ => Program.free) r ⟨some p, false⟩ := by
    rw [State.openIn_eq, State.claimOpened_of_left (by rw [hleft]; exact hl), hleft]
  have hn : w.Newcomer p := State.opened_newcomer ha hk hop ⟨rfl, rfl, rfl, rfl⟩ chan
  have hx (z : Zone) (hz : left.getLsbD z.val = true) : w.zones[z].excluded = false := by
    simp only [w, s.opened_zones]
    rw [s.bindFor_excluded]
    exact ((s.freshly_iff a.zones z).mp hz).2
  obtain ⟨got, hclaims, htog, hsingle⟩ := hn.claimUnder hl hx
  have htogether : w.progs[p].together = true ↔ a.policy = 0#8 := by rw [hself]; exact opened_together hs _
  have hplaced (z : Zone) := State.finish_heldAs (hclaims.staying hu hl)
    ((s.bindFor p (openRecord a x k) chan).onProg p fun _ => Program.free) ⟨some p, false⟩ k z
  have hprog (q : ProgId) : (s.openIn p (openRecord a x k) chan a.zones).progs[q] = r.settleAll.progs[q] := by
    rw [hopen]
    exact State.finish_state _ r _ q
  have hvoices : (s.openIn p (openRecord a x k) chan a.zones).voices = r.settleAll.voices := by
    rw [hopen]
    exact State.voices_of_lasting (State.finish_lasting _ r _)
  rw [← hopen] at hplaced
  generalize s.openIn p (openRecord a x k) chan a.zones = u at hprog hvoices hplaced
  refine ⟨got, hclaims.within, fun h0 => htog (htogether.mpr h0), fun h0 => hsingle ?_, fun z => ?_, fun hg => ?_, fun hg => ?_⟩
  · exact Bool.not_eq_true _ |>.mp fun e => h0 (htogether.mp e)
  · have := hclaims.placed z
    rw [hself, hkind] at this
    exact this.trans (hplaced z).symm
  · obtain ⟨b, hrec⟩ := hclaims.settle_waits hu hl hg
    refine ⟨b, (hprog p).trans (hrec.trans ?_)⟩
    rw [hself]
  · obtain ⟨t, b, hpat, hended, hvl, hcase⟩ := hclaims.settle_enters hu hg
    refine ⟨t, b, hpat.trans (State.patterns_of_beyond (w.claimUnder_beyond p left)),
      fun q hq => by rw [hprog]; exact hended q hq,
      fun hne => (hvl hne).congr (State.voices_of_beyond (w.claimUnder_beyond p left)), ?_⟩
    rw [hself] at hcase
    rw [hprog]
    simp only [hvoices]
    exact hcase

end OpenEffect

end Sys2Proof.Machine
end

section
namespace Sys2Proof.Machine

section OpenClause
variable {s u w r : State} {a : OpenArgs} {x : Port} {k : ProgKind} {p q : ProgId} {z : Zone} {left got : ZoneSet} {pat : PatId}
  {chan : Option (ChanId × Option ProgId)}

theorem State.opened_voices (hc : ∀ ch q, chan ≠ some (ch, some q)) (s : State) (p : ProgId) (g : Program) :
    (s.opened p g chan).voices = s.voices := by
  have h1 : (s.opened p g chan).voices = (s.bindFor p g chan).voices := by
    unfold State.opened State.callFor
    split <;> rfl
  exact h1.trans (State.bindFor_untaken hc s p g).2.2.1

theorem State.opened_patterns (hc : ∀ ch q, chan ≠ some (ch, some q)) (s : State) (p : ProgId) (g : Program) :
    (s.opened p g chan).patterns = s.patterns :=
  (congrArg State.patterns (State.callFor_books _ _) :).trans (State.bindFor_untaken hc s p g).2.2.2

theorem State.opened_untaken (hc : ∀ ch q, chan ≠ some (ch, some q)) (s : State) (g : Program) (hq : q ≠ p) :
    (s.opened p g chan).progs[q] = s.progs[q] := by
  rw [s.opened_other g chan hq]
  simp only [(State.bindFor_untaken hc s p g).1]

/-- A chime of an accepted open is one that its kind allows. -/
theorem opened_chimes (hs : OpenSound a k) {g : Program} (hkind : g.kind = k)
    (hch : g.chime = (openRecord a x k).chime) (hno : ∀ pat, ¬g.chimes pat) : g.chime = none := by
  cases hc : g.chime with
  | none => rfl
  | some pat =>
    refine absurd ⟨?_, hc⟩ (hno pat)
    rw [hkind]
    exact hs.chimes (x := x) (by rw [← hch, hc]; exact Option.some_ne_none _)

/-- The record of an open that got no zone. -/
theorem openWaits_record (hg : got = 0#64) {g : Program} {n : Nat} (h : ∃ b, g =
      { { (openRecord a x k).boundTo chan with arrival := n } with
        requested := left, granted := got, waiting := left &&& ~~~got, held := 0#64, gotAll := b
        waitTimer := ((openRecord a x k).boundTo chan).waitLimit.map framesOfMs }) :
    g.ret = none ∧ g.requested = left ∧ g.granted = got ∧ g.waiting = left &&& ~~~got ∧ g.held = 0#64 ∧ g.endReason = none ∧
      g.joinTimer = g.joinDeadline.map (48 * ·) ∧ g.waitTimer = (if g.granted = 0#64 then g.waitLimit.map (48 * ·) else none) ∧
      g.state = .pending ∧ g.chimeSkipped = false := by
  obtain ⟨b, rfl⟩ := h
  obtain ⟨-, h1, h2, h3, -⟩ := openRecord_base a x k chan n
  have hu := openRecord_unsettled a x k chan n
  exact ⟨h1, rfl, rfl, rfl, rfl, h2, h3, (if_pos hg).symm, hu.state, hu.skipped⟩

/-- The record of an open that got a zone. -/
theorem openEnters_record (hg : got ≠ 0#64) {g : Program} {n : Nat} {b sk cs : Bool} {st : ProgState} (h : g =
      { { (openRecord a x k).boundTo chan with arrival := n } with
        requested := left, granted := got, waiting := left &&& ~~~got, held := 0#64, gotAll := b
        state := st, chimeSkipped := sk, clipStarted := cs }) :
    g.ret = none ∧ g.requested = left ∧ g.granted = got ∧ g.waiting = left &&& ~~~got ∧ g.held = 0#64 ∧ g.endReason = none ∧
      g.joinTimer = g.joinDeadline.map (48 * ·) ∧ g.waitTimer = (if g.granted = 0#64 then g.waitLimit.map (48 * ·) else none) ∧
      g.state = st ∧ g.chimeSkipped = sk ∧ g.chime = (openRecord a x k).chime ∧ g.kind = k := by
  subst h
  obtain ⟨h0, h1, h2, h3, -, -, -, -, h4⟩ := openRecord_base a x k chan n
  have hu := openRecord_unsettled a x k chan n
  exact ⟨h1, rfl, rfl, rfl, rfl, h2, h3, hu.timer.trans (if_neg hg).symm, rfl, rfl, h4, h0⟩

theorem zoneSet_or_rest (h : ∀ z : Zone, got.getLsbD z.val = true → left.getLsbD z.val = true) :
    got ||| (left &&& ~~~got) = left ∧ got &&& (left &&& ~~~got) = 0#64 := by
  constructor
  · refine zoneSet_ext fun z => ?_
    rw [BitVec.getLsbD_or, getLsbD_and_compl]
    cases hg : got.getLsbD z.val
    · rw [Bool.not_false, Bool.and_true, Bool.false_or]
    · rw [h z hg]; rfl
  · refine zoneSet_ext fun z => ?_
    rw [BitVec.getLsbD_and, getLsbD_and_compl, BitVec.getLsbD_zero]
    cases got.getLsbD z.val <;> cases left.getLsbD z.val <;> rfl

/-- What both forms of the record say of an open's claims, sets and timers. -/
structure Program.Claimed (g : Program) (left got : ZoneSet) : Prop where
  ret : g.ret = none
  requested : g.requested = left
  granted : g.granted = got
  waiting : g.waiting = left &&& ~~~got
  held : g.held = 0#64
  reason : g.endReason = none
  join : g.joinTimer = g.joinDeadline.map (48 * ·)
  timer : g.waitTimer = (if g.granted = 0#64 then g.waitLimit.map (48 * ·) else none)

theorem State.OpenGot.claimed (h : State.OpenGot s u a x k p chan left got) : u.progs[p].Claimed left got := by
  by_cases hg : got = 0#64
  · obtain ⟨h1, h2, h3, h4, h5, h6, h7, h8, -⟩ := openWaits_record hg (h.waits hg)
    exact ⟨h1, h2, h3, h4, h5, h6, h7, h8⟩
  · obtain ⟨t, b, -, -, -, ⟨pat, v, -, hrec, -⟩ | ⟨sk, cs, hrec, -⟩⟩ := h.enters hg
    all_goals
      obtain ⟨h1, h2, h3, h4, h5, h6, h7, h8, -⟩ := openEnters_record hg hrec
      exact ⟨h1, h2, h3, h4, h5, h6, h7, h8⟩

/-- The first state of a program just opened that got a zone. -/
theorem State.OpenGot.state (h : State.OpenGot s u a x k p chan left got) (hs : OpenSound a k) (hg : got ≠ 0#64) :
    (u.progs[p].state = .active ∧ u.progs[p].chimeSkipped = u.progs[p].chime.isSome) ∨
      (u.progs[p].state = .preamble ∧ u.progs[p].chime ≠ none ∧ u.progs[p].chimeSkipped = false ∧
        ∃ v : Fin 4, u.voices[v].bound = some p) := by
  obtain ⟨t, b, -, -, -, ⟨pat, v, hch, hrec, -, -, -, hv⟩ | ⟨sk, cs, hrec, hsk⟩⟩ := h.enters hg
  · obtain ⟨-, -, -, -, -, -, -, -, hst, hskip, hchime, -⟩ := openEnters_record hg hrec
    have hbase := (openRecord_base a x k chan s.arrivals).2.2.2.2.2.2.2.2
    refine Or.inr ⟨hst, ?_, hskip.trans (openRecord_unsettled a x k chan s.arrivals).skipped, v, by rw [hv]⟩
    rw [hchime, ← hbase, show ({ (openRecord a x k).boundTo chan with arrival := s.arrivals } : Program).chime = some pat from hch.2]
    exact Option.some_ne_none pat
  · obtain ⟨-, -, -, -, -, -, -, -, hst, hskip, hchime, hkind⟩ := openEnters_record hg hrec
    have hbase := openRecord_base a x k chan s.arrivals
    obtain ⟨hk0, -, -, -, -, -, -, -, hc0⟩ := hbase
    refine Or.inl ⟨hst, ?_⟩
    rw [hskip, hchime]
    cases sk
    · rw [if_neg Bool.false_ne_true] at hsk
      have := opened_chimes (x := x) hs hk0 hc0 hsk
      rw [← hc0, this]
      rfl
    · rw [if_pos rfl] at hsk
      obtain ⟨pat, ⟨-, hch⟩, -⟩ := hsk
      have hch' : ((openRecord a x k).boundTo chan).chime = some pat := hch
      rw [← hc0]
      show true = (((openRecord a x k).boundTo chan).chime).isSome
      rw [hch']
      rfl

/-- The chime voice of a program just opened, where every program had its state and no channel was taken (R101, R104). -/
theorem State.OpenGot.voice (h : State.OpenGot s u a x k p chan left got) (hg : got ≠ 0#64) (hf : s.statesFollow = true)
    (hc : ∀ ch q, chan ≠ some (ch, some q)) (hpat : u.progs[p].chime = some pat) :
    (u.progs[p].state = .preamble →
      s.patterns[pat].steps ≠ [] ∧
      ∃ v : Fin 4, u.voices[v] = ⟨Player.start pat s.patterns[pat], some p⟩ ∧
        (∀ w : Fin 4, w < v → s.voices[w].bound ≠ none) ∧
        (s.voices[v].bound = none ∨ ∃ q, s.voices[v].bound = some q ∧ u.progs[q].state = .ended)) ∧
    (u.progs[p].chimeSkipped = true → s.patterns[pat].steps = [] ∨ ∀ v : Fin 4, s.voices[v].bound ≠ none) := by
  obtain ⟨t, b, hpats, hended, hvl, hcase⟩ := h.enters hg
  have hset (q : ProgId) (hq : q ≠ p) : (s.opened p (openRecord a x k) chan).progs[q].settled = true := by
    rw [State.opened_untaken hc s _ hq]
    exact State.settled_of_follow hf q
  have hquiet := (hvl fun q hq => State.not_enters_of_claims hset left hq).congr (State.opened_voices hc s p _)
  have htpat : t.patterns = s.patterns := hpats.trans (State.opened_patterns hc s p _)
  have hbound (w : Fin 4) (hw : t.voices[w].bound ≠ none) : s.voices[w].bound ≠ none := by
    rcases hquiet w with e | ⟨e, -⟩
    · rw [← e]
      exact hw
    · exact absurd e hw
  have hc0 := (openRecord_base a x k chan s.arrivals).2.2.2.2.2.2.2.2
  rcases hcase with ⟨pat', v, hch, hrec, hsteps, hfree, hlow, hv⟩ | ⟨sk, cs, hrec, hsk⟩
  · obtain ⟨-, -, -, -, -, -, -, -, hst, hskip, hchime, -⟩ := openEnters_record hg hrec
    obtain rfl : pat' = pat := Option.some.inj (hch.2.symm.trans (hc0.trans (hchime.symm.trans hpat)))
    simp only [htpat] at hsteps hv
    refine ⟨fun _ => ⟨hsteps, v, hv, fun w hw => hbound w (hlow w hw), ?_⟩, fun e => ?_⟩
    · rcases hquiet v with e | ⟨-, q, hq, hend⟩
      · exact Or.inl (e.symm.trans hfree)
      · exact Or.inr ⟨q, hq, hended q hend⟩
    · have := hskip.trans (openRecord_unsettled a x k chan s.arrivals).skipped
      rw [e] at this
      cases this
  · obtain ⟨-, -, -, -, -, -, -, -, hst, hskip, hchime, -⟩ := openEnters_record hg hrec
    refine ⟨fun e => ?_, fun e => ?_⟩
    · rw [hst] at e
      cases e
    · rw [hskip] at e
      rw [e, if_pos rfl] at hsk
      obtain ⟨pat', hch, hb⟩ := hsk
      obtain rfl : pat' = pat := Option.some.inj (hch.2.symm.trans (hc0.trans (hchime.symm.trans hpat)))
      have hfull := State.full_of_bindVoice hb
      simp only [htpat] at hfull
      exact hfull.imp id fun hall v => hbound v (hall v)

end OpenClause

end Sys2Proof.Machine
end

section
namespace Sys2Proof.Machine

/-! ### The pool channel of a CLIP open (R134) -/

section PoolChannel
variable {s : State} {ch c : ChanId} {p q x : ProgId} {id : ClipId} {mayTake : Bool} {from? : Option ProgId}

theorem State.freePool_some (h : s.freePool = some ch) :
    ch.val < 4 ∧ s.chans[ch].user = none ∧ ∀ c : ChanId, c < ch → s.chans[c].user ≠ none := by
  obtain ⟨hu, before, after, hl, hb⟩ := List.find?_eq_some_iff_append.mp h
  have hmem : ch ∈ poolChans := hl ▸ List.mem_append_right before List.mem_cons_self
  have hlt : ch.val < 4 := (mem_poolChans ch).mp hmem
  refine ⟨hlt, Option.isNone_iff_eq_none.mp hu, fun c hc hn => ?_⟩
  have hcm : c ∈ poolChans := (mem_poolChans c).mpr (Nat.lt_trans hc hlt)
  have hs : (before ++ ch :: after).Pairwise (· < ·) := hl ▸ (by decide : poolChans.Pairwise (· < ·))
  rw [hl, List.mem_append, List.mem_cons] at hcm
  rcases hcm with hcb | rfl | hca
  · have := hb c hcb
    rw [Bool.not_eq_true', Option.isNone_eq_false_iff, Option.isSome_iff_ne_none] at this
    exact this hn
  · exact absurd hc (lt_irrefl _)
  · exact absurd hc (not_lt_of_gt ((List.pairwise_cons.mp (List.pairwise_append.mp hs).2.1).1 c hca))

/-- The order of the victims: class first, then the order of opening. -/
def State.sparedBy (s : State) (a b : ChanId × ProgId) : Prop :=
  s.progs[b.2].cls < s.progs[a.2].cls ∨ (s.progs[b.2].cls = s.progs[a.2].cls ∧ s.openedAt b.2 ≤ s.openedAt a.2)

theorem State.worse_spares (s : State) (a b : ChanId × ProgId) :
    (s.worse a b = a ∨ s.worse a b = b) ∧ s.sparedBy (s.worse a b) a ∧ s.sparedBy (s.worse a b) b := by
  unfold State.worse State.sparedBy
  simp only
  split
  · exact ⟨Or.inr rfl, by omega, Or.inr ⟨rfl, le_refl _⟩⟩
  · exact ⟨Or.inl rfl, Or.inr ⟨rfl, le_refl _⟩, by omega⟩

theorem State.sparedBy_trans {a b d : ChanId × ProgId} (h : s.sparedBy a b) (k : s.sparedBy b d) : s.sparedBy a d := by
  unfold State.sparedBy at *
  omega

theorem foldl_worse (l : List (ChanId × ProgId)) (a : ChanId × ProgId) :
    l.foldl (fun x y => s.worse x y) a ∈ a :: l ∧ ∀ b ∈ a :: l, s.sparedBy (l.foldl (fun x y => s.worse x y) a) b := by
  induction l generalizing a with
  | nil =>
    refine ⟨List.mem_cons_self, fun b hb => ?_⟩
    rw [List.mem_singleton.mp hb]
    exact Or.inr ⟨rfl, le_refl _⟩
  | cons y l ih =>
    obtain ⟨hm, hall⟩ := ih (s.worse a y)
    obtain ⟨hor, ha, hy⟩ := s.worse_spares a y
    rw [List.foldl_cons]
    refine ⟨?_, fun b hb => ?_⟩
    · rcases List.mem_cons.mp hm with e | e
      · rw [e]
        rcases hor with e | e <;> rw [e]
        · exact List.mem_cons_self
        · exact List.mem_cons_of_mem _ List.mem_cons_self
      · exact List.mem_cons_of_mem _ (List.mem_cons_of_mem _ e)
    · have hmax := hall _ List.mem_cons_self
      rcases List.mem_cons.mp hb with rfl | hb
      · exact State.sparedBy_trans hmax ha
      · rcases List.mem_cons.mp hb with rfl | hb
        · exact State.sparedBy_trans hmax hy
        · exact hall b (List.mem_cons_of_mem _ hb)

theorem Channel.program_eq_some (r : Channel) : r.program = some p ↔ r.user = some (.prog p) := by
  unfold Channel.program
  split
  · next h => rw [h]; simp
  · next h => rw [h]; simp
  · next h => rw [h]; simp
  · next h => rw [h]; simp

/-- The program a pool channel is taken from is of the highest class, and of that class the latest opened. -/
theorem State.victim_some (h : s.victim = some (ch, q)) : ch.val < 4 ∧ s.chans[ch].user = some (.prog q) ∧
    ∀ (c : ChanId) (x : ProgId), c.val < 4 → s.chans[c].user = some (.prog x) → s.sparedBy (ch, q) (c, x) := by
  unfold State.victim at h
  have hmem (c : ChanId) (x : ProgId) : (c, x) ∈ (poolChans.filterMap fun ch => s.chans[ch].program.map fun p => (ch, p)) ↔
      c.val < 4 ∧ s.chans[c].user = some (.prog x) := by
    rw [List.mem_filterMap, ← mem_poolChans, ← Channel.program_eq_some]
    constructor
    · rintro ⟨d, hd, he⟩
      obtain ⟨y, hy, e⟩ := Option.map_eq_some_iff.mp he
      obtain ⟨rfl, rfl⟩ := Prod.mk.inj e
      exact ⟨hd, hy⟩
    · rintro ⟨hc, hx⟩
      exact ⟨c, hc, by rw [hx]; rfl⟩
  split at h
  · cases h
  · next a l hl =>
    rw [hl] at hmem
    obtain ⟨hm, hall⟩ := foldl_worse (s := s) l a
    rw [Option.some.inj h] at hm hall
    obtain ⟨h1, h2⟩ := (hmem ch q).mp hm
    exact ⟨h1, h2, fun c x hc hx => hall _ ((hmem c x).mpr ⟨hc, hx⟩)⟩

theorem State.poolRequest_ok (h : s.poolRequest id mayTake = .ok (ch, from?)) :
    (from? = none ∧ s.freePool = some ch) ∨
      ∃ q, from? = some q ∧ mayTake = true ∧ s.freePool = none ∧ s.victim = some (ch, q) := by
  unfold State.poolRequest at h
  split at h
  · cases h
  · split at h
    · next c hf =>
      cases h
      exact Or.inl ⟨rfl, hf⟩
    · next hf =>
      split at h
      · next hm =>
        split at h
        · next c q hv =>
          cases h
          exact Or.inr ⟨q, rfl, hm, hf, hv⟩
        · cases h
      · cases h

end PoolChannel

end Sys2Proof.Machine
end

section
namespace Sys2Proof.Machine

section OpenChannel
variable {s u w r t : State} {p q x : ProgId} {ch : ChanId} {a : StationId} {j k : Fin 2} {why : EndReason}

theorem State.settleProgram_callStation (s : State) (p q : ProgId) :
    (s.settleProgram p).progs[q].station = s.progs[q].station := by
  by_cases e : q = p
  · subst e
    rcases s.settleProgram_cases q with ⟨he, -⟩ | ⟨hm, -⟩
    · rw [he, State.endProgram_self]; rfl
    · exact (congrArg Program.station hm.self :)
  · rw [State.settleProgram_other s e]

theorem State.isOpen_before (h : (s.settleProgram p).progs[q].isOpen = true) : s.progs[q].isOpen = true := by
  by_cases e : q = p
  · subst e
    exact State.isOpen_of_settleProgram h
  · rwa [State.settleProgram_other s e] at h

/-- No other open program has the station as its source. -/
def State.SoleCaller (s : State) (p : ProgId) (a : StationId) : Prop :=
  ∀ q : ProgId, q ≠ p → s.progs[q].isOpen = true → s.progs[q].station ≠ some a

theorem State.SoleCaller.settle (h : s.SoleCaller p a) (q : ProgId) : (s.settleProgram q).SoleCaller p a := fun y hy hop => by
  rw [State.settleProgram_callStation]
  exact h y hy (State.isOpen_before hop)

theorem State.SoleCaller.of_bare (h : s.SoleCaller p a) (hb : u.bare = s.bare) : u.SoleCaller p a := by
  intro q hq hop
  have hbare := State.bare_apply hb q
  have hst : u.progs[q].state = s.progs[q].state := (congrArg Program.state hbare :)
  have hcall : u.progs[q].station = s.progs[q].station := (congrArg Program.station hbare :)
  rw [hcall]
  refine h q hq ?_
  unfold Program.isOpen at hop ⊢
  rw [← hst]
  exact hop

theorem State.settleProgram_station (h : s.progs[q].isOpen = true → s.progs[q].station ≠ some a) :
    (s.settleProgram q).stations[a] = s.stations[a] := by
  rcases s.settleProgram_cases q with ⟨e, hop, -⟩ | ⟨hm, -⟩
  · rw [e, State.endProgram_station, if_neg fun e => h hop e.1]
  · rw [hm.stations]

theorem foldl_settle_station {l : List ProgId} (hl : p ∉ l) (h : s.SoleCaller p a) :
    (l.foldl (fun s q => s.settleProgram q) s).stations[a] = s.stations[a] ∧
      (l.foldl (fun s q => s.settleProgram q) s).SoleCaller p a := by
  induction l generalizing s with
  | nil => exact ⟨rfl, h⟩
  | cons q l ih =>
    rw [List.mem_cons, not_or] at hl
    obtain ⟨h1, h2⟩ := ih hl.2 (h.settle q)
    exact ⟨h1.trans (State.settleProgram_station (h q (Ne.symm hl.1))), h2⟩

/-- The settling returns the station of a CALL_OUT program that ends to IDLE, and leaves it in TALKOUT otherwise (R115, R116). -/
theorem State.settleAll_caller (h : s.SoleCaller p a) (hst : s.progs[p].station = some a) (ht : s.stations[a].state = .talkout) :
    (s.Staying p → s.settleAll.stations[a] = s.stations[a]) ∧
      (s.progs[p].Unsettled → s.progs[p].granted = 0#64 → s.progs[p].waiting = 0#64 →
        s.settleAll.stations[a] = { s.stations[a] with state := .idle }) := by
  obtain ⟨before, after, hb, -, ha, e⟩ := s.settleAll_split p
  obtain ⟨h1, h2⟩ := foldl_settle_station hb h
  have hprog : (before.foldl (fun s q => s.settleProgram q) s).progs[p] = s.progs[p] := foldl_settle_other hb s
  rw [e]
  generalize before.foldl (fun s q => s.settleProgram q) s = t at h1 h2 hprog
  rw [(foldl_settle_station ha (h2.settle p)).1]
  refine ⟨fun hs => ?_, fun hu hg hw => ?_⟩
  · have hstay : t.Staying p := by
      unfold State.Staying
      rw [hprog]
      exact hs
    rw [hstay.not_ended.stations, h1]
  · rw [State.settleProgram_of_nothing (by rw [hprog]; exact hu.state) (by rw [hprog]; exact hg) (by rw [hprog]; exact hu.held)
      (by rw [hprog]; exact hw), State.endProgram_station, hprog, h1, if_pos ⟨hst, ht⟩]

/-- No window has the channel, and no open program but one may have it. -/
structure State.Sole (s : State) (p : ProgId) (ch : ChanId) : Prop where
  progs : ∀ q : ProgId, q ≠ p → s.progs[q].isOpen = true → s.progs[q].chan ≠ some ch
  windows : ∀ j : Fin 2, (s.slots[j].window.bind fun w => w.source.channel) ≠ some ch

theorem State.Sole.settle (h : s.Sole p ch) (q : ProgId) : (s.settleProgram q).Sole p ch where
  progs y hy hop := by
    rw [State.settleProgram_clipPart]
    exact h.progs y hy (State.isOpen_before hop)
  windows j := State.settleProgram_window (h.windows j) q

theorem State.Sole.of_beyond (h : s.Sole p ch) (hb : u.beyond = s.beyond) : u.Sole p ch where
  progs q hq hop := by
    have hbare := State.bare_apply (State.bare_of_beyond hb) q
    have hc : u.progs[q].chan = s.progs[q].chan := (congrArg Program.chan hbare :)
    rw [hc]
    rw [State.isOpen_of_beyond hb] at hop
    exact h.progs q hq hop
  windows j := by
    have hs : u.slots = s.slots := (congrArg State.slots hb :)
    simp only [hs]
    exact h.windows j

theorem foldl_settle_sole {l : List ProgId} (hl : p ∉ l) (h : s.Sole p ch)
    (hu : s.chans[ch].user = some (.prog p) ∨ s.chans[ch].user = none) :
    (l.foldl (fun s q => s.settleProgram q) s).chans[ch] = s.chans[ch] ∧
      (l.foldl (fun s q => s.settleProgram q) s).Sole p ch := by
  induction l generalizing s with
  | nil => exact ⟨rfl, h⟩
  | cons q l ih =>
    rw [List.mem_cons, not_or] at hl
    have hne : q ≠ p := Ne.symm hl.1
    have hchan : (s.settleProgram q).chans[ch] = s.chans[ch] := by
      refine State.settleProgram_chan (h.progs q hne) (fun e => ?_) fun j _ _ => h.windows j
      rcases hu with hu | hu
      · rw [hu] at e
        exact hne (ChanUser.prog.inj (Option.some.inj e)).symm
      · rw [hu] at e
        cases e
    obtain ⟨h1, h2⟩ := ih hl.2 (h.settle q) (by rw [hchan]; exact hu)
    exact ⟨h1.trans hchan, h2⟩

theorem State.Sole.settleAll (h : s.Sole p ch) : s.settleAll.Sole p ch :=
  List.foldlRecOn (motive := fun u : State => u.Sole p ch) _ _ h fun _ hu q _ => hu.settle q

/-- The end of a program that is not a slot's releases its channel. -/
theorem State.endProgram_ownChan (hp : ∀ j, p ≠ progOfSlot j) (hc : s.progs[p].chan = some ch)
    (hu : s.chans[ch].user = some (.prog p)) (why : EndReason) :
    (s.endProgram p why).chans[ch] = { s.chans[ch].stopped with user := none, clip := none } := by
  rw [State.endProgram_eq, State.slotProgramEnded_of_ne hp, State.unbound]
  have h1 (s : State) : (s.releaseStation p).chans = s.chans := by unfold State.releaseStation; split <;> rfl
  have h2 (s : State) : (s.dropRoute p).chans = s.chans := by unfold State.dropRoute; split <;> rfl
  have h3 (s : State) : (s.releaseVoice p).chans = s.chans := by unfold State.releaseVoice; split <;> rfl
  have h4 (s : State) : (s.releaseVoice p).progs = s.progs := by unfold State.releaseVoice; split <;> rfl
  simp only [h2, h1]
  have hpart : (((s.struck p why).releaseVoice p).progs[p].clipPart.bind fun c => c.channel) = some ch := by
    simp only [h4]
    rw [show (s.struck p why).progs[p] = s.progs[p].finished why from getElem_adjust_self ..]
    exact hc
  have huser : ((s.struck p why).releaseVoice p).chans[ch].user = some (.prog p) := by
    simp only [h3]
    exact hu
  unfold State.releaseProgChan
  rw [hpart]
  simp only
  rw [if_pos huser, State.releaseChan_chan, if_pos rfl]
  simp only [h3]
  rfl

theorem State.startClip_ownChan {part : ClipPart} (hp : s.progs[p].clipPart = some part) (hc : part.channel = some ch)
    (hs : s.progs[p].clipStarted = false) :
    ∃ last, (s.startClip p).chans[ch] = s.chans[ch].started last part.repeats part.trigger := by
  unfold State.startClip
  simp only [hp, hc, hs, Bool.false_eq_true, if_false]
  refine ⟨(s.chanEntry s.chans[ch]).lastOffset, ?_⟩
  exact (getElem_adjust_self ..)

/-- The channel of a CLIP program that takes its first state: released where the program ends, primed where it is ACTIVE, and
bound and unstarted otherwise (R134, R136). -/
theorem State.settleAll_channel {part : ClipPart} (h : r.Sole p ch) (hp : ∀ j, p ≠ progOfSlot j)
    (hu : r.chans[ch].user = some (.prog p)) (hfree : r.chans[ch].state = .free) (hun : r.progs[p].Unsettled)
    (hpart : r.progs[p].clipPart = some part) (hpc : part.channel = some ch) (hcs : r.progs[p].clipStarted = false) :
    (r.settleAll.progs[p].state = .ended → r.settleAll.chans[ch].state = .free ∧ r.settleAll.chans[ch].user = none ∧
      r.settleAll.chans[ch].clip = none) ∧
    (r.settleAll.progs[p].state ≠ .ended → r.settleAll.chans[ch].user = some (.prog p) ∧
      r.settleAll.chans[ch].clip = r.chans[ch].clip ∧
      (r.settleAll.progs[p].state = .active → r.settleAll.chans[ch].state = .priming ∧
        r.settleAll.chans[ch].nextFetch = some (0, 1) ∧ r.settleAll.chans[ch].ahead = [] ∧
        r.settleAll.chans[ch].repeats = part.repeats ∧ r.settleAll.chans[ch].trigger = part.trigger) ∧
      (r.settleAll.progs[p].state ≠ .active → r.settleAll.chans[ch].state = .free)) := by
  obtain ⟨before, after, hb, -, ha, e⟩ := r.settleAll_split p
  obtain ⟨h1, h2⟩ := foldl_settle_sole hb h (Or.inl hu)
  have hprog : (before.foldl (fun s q => s.settleProgram q) r).progs[p] = r.progs[p] := foldl_settle_other hb r
  have hlast : r.settleAll.progs[p] = ((before.foldl (fun s q => s.settleProgram q) r).settleProgram p).progs[p] := by
    rw [e]
    exact foldl_settle_other ha _
  generalize before.foldl (fun s q => s.settleProgram q) r = t at e h1 h2 hprog hlast
  have hafter (hv : (t.settleProgram p).chans[ch].user = some (.prog p) ∨ (t.settleProgram p).chans[ch].user = none) :
      r.settleAll.chans[ch] = (t.settleProgram p).chans[ch] := by
    rw [e]
    exact (foldl_settle_sole ha (h2.settle p) hv).1
  have htu : t.chans[ch].user = some (.prog p) := by rw [h1]; exact hu
  have htn : t.progs[p].Unsettled := by rw [hprog]; exact hun
  have hkept (hc : (t.settleProgram p).chans = t.chans) : r.settleAll.chans[ch] = r.chans[ch] := by
    have hcc : (t.settleProgram p).chans[ch] = t.chans[ch] := by simp only [hc]
    rw [hafter (Or.inl (by rw [hcc]; exact htu)), hcc, h1]
  rw [hlast]
  by_cases hg : t.progs[p].granted = 0#64
  · by_cases hw : t.progs[p].waiting = 0#64
    · have hend := State.settleProgram_of_nothing htn.state hg htn.held hw
      have hchan := State.endProgram_ownChan (s := t) (p := p) (ch := ch) hp
        (by rw [hprog]; unfold Program.chan; rw [hpart]; exact hpc) htu .noZones
      rw [← hend] at hchan
      have hfin := hafter (Or.inr (by rw [hchan]))
      refine ⟨fun _ => ?_, fun hne => ?_⟩
      · rw [hfin, hchan]
        exact ⟨rfl, rfl, rfl⟩
      · refine absurd ?_ hne
        rw [hend, State.endProgram_self]
        rfl
    · obtain ⟨hrec, -, hc⟩ := State.settleProgram_waits htn hg hw
      have hst : (t.settleProgram p).progs[p].state = .pending := by rw [hrec]; exact htn.state
      rw [hst, hkept hc]
      exact ⟨fun e => (by cases e), fun _ => ⟨hu, rfl, fun e => (by cases e), fun _ => hfree⟩⟩
  · rcases State.settleProgram_first htn hg with ⟨-, -, -, -, -, hc, hrec⟩ | ⟨sk, cs, hrec, -, hc, -⟩
    · have hst : (t.settleProgram p).progs[p].state = .preamble := by rw [hrec]
      rw [hst, hkept hc]
      exact ⟨fun e => (by cases e), fun _ => ⟨hu, rfl, fun e => (by cases e), fun _ => hfree⟩⟩
    · have hst : (t.settleProgram p).progs[p].state = .active := by rw [hrec]
      obtain ⟨last, hstart⟩ := State.startClip_ownChan (s := t) (by rw [hprog]; exact hpart) hpc (by rw [hprog]; exact hcs)
      have hcc : (t.settleProgram p).chans[ch] = t.chans[ch].started last part.repeats part.trigger := by
        simp only [hc]
        exact hstart
      have hfin := hafter (Or.inl (by rw [hcc]; exact htu))
      rw [hst, hfin, hcc]
      refine ⟨fun e => (by cases e), fun _ => ⟨htu, ?_, fun _ => ⟨rfl, rfl, rfl, rfl, rfl⟩, fun hne => absurd rfl hne⟩⟩
      show t.chans[ch].clip = _
      rw [h1]

end OpenChannel

end Sys2Proof.Machine
end

section
namespace Sys2Proof.Machine

/-! ### What an accepted open leaves to the others (R41, R134) -/

section OpenOthers
variable {s u v w r t b : State} {p q x y : ProgId} {z : Zone} {zs left : ZoneSet} {ch : ChanId} {a : StationId} {j k : Fin 2}
  {why : EndReason} {g : Program} {from? : Option ProgId} {chan : Option (ChanId × Option ProgId)}

/-- The claims of an open to the zones that are not excluded; none where all are. -/
def State.claimLeft (w : State) (p : ProgId) (left : ZoneSet) : State := if left = 0#64 then w else w.claimUnder p left

theorem State.openIn_finish (s : State) (p : ProgId) (g : Program) (chan : Option (ChanId × Option ProgId)) (zs : ZoneSet) :
    s.openIn p g chan zs = State.finish ((s.bindFor p g chan).onProg p fun _ => Program.free)
      ((s.opened p g chan).claimLeft p (zs &&& ~~~s.excludedSet)) ⟨some p, false⟩ := by
  rw [State.openIn_eq, State.claimLeft]
  by_cases h : zs &&& ~~~s.excludedSet = 0#64
  · rw [if_pos h, State.claimOpened_of_none (by rw [s.opened_excludedSet]; exact h)]
  · rw [if_neg h, State.claimOpened_of_left (by rw [s.opened_excludedSet]; exact h), s.opened_excludedSet]

theorem State.claimLeft_beyond (w : State) (p : ProgId) (left : ZoneSet) : (w.claimLeft p left).beyond = w.beyond := by
  unfold State.claimLeft
  split
  · rfl
  · exact w.claimUnder_beyond p left

theorem State.Calm.claimLeft (w : State) (p : ProgId) (left : ZoneSet) : State.Calm w (w.claimLeft p left) := by
  unfold State.claimLeft
  split
  · exact .refl w
  · exact .claimUnder w p left

/-- The claims of one program give another no part in a zone. -/
theorem State.Skips.claimLeft (hq : p ≠ q) (w : State) (left : ZoneSet) : State.Skips q z w (w.claimLeft p left) := by
  have honProg (s : State) (f : Program → Program) : State.Skips q z s (s.onProg p f) := by
    have h := State.onProg_progs_ne s (Ne.symm hq) f
    exact .of_same (by rw [h]) (by rw [h]) ⟨rfl, rfl, rfl⟩
  unfold State.claimLeft State.claimUnder
  split
  · exact .refl q z w
  · split
    · rw [State.claimTogether_eq]
      split
      · exact .takeAll (Or.inl hq) false w
      · exact honProg w _
    · refine foldl_skips (fun s y _ => ?_) w
      unfold State.claimOne
      split
      · exact .refl q z s
      · split
        · exact .take (Or.inl hq) false s
        · exact honProg s _

theorem State.openIn_arrivals (s : State) (p : ProgId) (g : Program) (chan : Option (ChanId × Option ProgId)) (zs : ZoneSet) :
    (s.openIn p g chan zs).arrivals = (s.arrivals + 1) % 65536 := by
  rw [State.openIn_finish, State.finish_arrivals, State.arrivals_of_beyond (State.claimLeft_beyond ..), s.opened_arrivals,
    s.bindFor_arrivals]

theorem State.openIn_core (hg : (g.boundTo chan).gain.halt = (g.boundTo chan).gain) (s : State) (p : ProgId) (zs : ZoneSet) :
    (s.openIn p g chan zs).progs[p].core = ({ g.boundTo chan with arrival := s.arrivals } : Program).core := by
  have hself := s.opened_self p g chan
  rw [s.bindFor_arrivals] at hself
  rw [State.openIn_finish, State.finish_core (State.claimLeft_beyond ..) (by rw [hself]; exact hg), hself]

/-! The program a channel is taken from. -/

theorem State.opened_ports (s : State) (p : ProgId) (g : Program) (chan : Option (ChanId × Option ProgId)) :
    (s.opened p g chan).ports = (s.bindFor p g chan).ports ∧ (s.opened p g chan).slots = (s.bindFor p g chan).slots ∧
      (s.opened p g chan).chans = (s.bindFor p g chan).chans := by
  unfold State.opened State.callFor
  split <;> exact ⟨rfl, rfl, rfl⟩

theorem State.bindFor_taken {part : ClipPart} (hp : g.clipPart = some part) (s : State) (p : ProgId) (ch : ChanId) (from? : Option ProgId) :
    s.bindFor p g (some (ch, from?)) = (match from? with
      | none => s
      | some q => s.endAndRelease q .channelTaken Cause.event).onChan ch fun r =>
        { r.stopped with user := some (.prog p), clip := some part.clip } := by
  unfold State.bindFor
  simp only [hp]
  rfl

/-- A program whose channel an open takes has ended CHANNEL_TAKEN, off every zone, with a notice at its port. -/
theorem State.openIn_victim {part : ClipPart} (hp : g.clipPart = some part) (hq : q ≠ p) (hop : s.progs[q].isOpen = true) (zs : ZoneSet) :
    let u := s.openIn p g (some (ch, some q)) zs
    u.progs[q].state = .ended ∧ u.progs[q].endReason = some .channelTaken ∧ u.progs[q].requested = 0#64 ∧
      (∀ z : Zone, u.zones[z].owner ≠ some q ∧ q ∉ u.zones[z].stack) ∧
      (u.port s.progs[q].owner).has .program = true ∧ (u.port s.progs[q].owner).changed.getLsbD q.val = true := by
  intro u
  let e := s.endAndRelease q .channelTaken Cause.event
  let w := s.opened p g (some (ch, some q))
  let r := w.claimLeft p (zs &&& ~~~s.excludedSet)
  have hb : s.bindFor p g (some (ch, some q)) = e.onChan ch fun r => { r.stopped with user := some (.prog p), clip := some part.clip } :=
    State.bindFor_taken hp s p ch (some q)
  have hu : u = State.finish ((s.bindFor p g (some (ch, some q))).onProg p fun _ => Program.free) r ⟨some p, false⟩ :=
    s.openIn_finish p g _ zs
  have hwq : w.progs[q] = e.progs[q] := by
    rw [show w.progs[q] = _ from s.opened_other g _ hq, hb]
    rfl
  have hwz : w.zones = e.zones := by
    rw [show w.zones = _ from s.opened_zones p g _, hb]
    rfl
  obtain ⟨hst, hwhy, hreq, hplace⟩ := s.out_endAndRelease q .channelTaken Cause.event
  have hrb : r.beyond = w.beyond := w.claimLeft_beyond p _
  have hrbare := State.bare_apply (State.bare_of_beyond hrb) q
  have hrst : r.progs[q].state = .ended := (State.state_of_beyond hrb q).trans (by rw [hwq]; exact hst)
  have hrwhy : r.progs[q].endReason = some .channelTaken := by
    have h1 : r.progs[q].endReason = w.progs[q].endReason := (congrArg Program.endReason hrbare :)
    rw [h1, hwq]
    exact hwhy
  have hwapart (z : Zone) : w.Apart q z := by
    obtain ⟨ha, ho, -⟩ := s.apart_endAndRelease q .channelTaken Cause.event z
    refine State.apart_of_none (by rw [hwq]; exact ha.bits) ?_ ?_
    · simp only [hwz]; exact ho
    · simp only [hwz]; exact ha.stack
  have hrapart (z : Zone) := State.Skips.claimLeft (z := z) (Ne.symm hq) w (zs &&& ~~~s.excludedSet) (hwapart z)
  have hprog : u.progs[q] = r.progs[q] := by
    rw [hu]
    exact (State.finish_state _ r _ q).trans (State.settleAll_of_closed (Program.isOpen_of_ended hrst))
  have hloud : State.Louder e u := by
    rw [hu]
    have h1 : State.Louder e w := by
      refine .of_ports ?_
      rw [show w.ports = _ from (s.opened_ports p g _).1, hb]
      rfl
    exact h1.trans ((State.Calm.claimLeft w p _).louder.trans (State.finish_louder _ r _))
  obtain ⟨hnote, hset⟩ := State.endAndRelease_raised (s := s) hop .channelTaken (c := Cause.event) (fun e => by cases e)
  refine ⟨by rw [hprog]; exact hrst, by rw [hprog]; exact hrwhy, ?_, fun z => ?_, (hloud _).1 _ hnote, (hloud _).2 _ hset⟩
  · rw [hprog]
    refine (zoneSet_eq_zero_iff _).mpr fun z => ?_
    exact (hrapart z).1.requested
  · obtain ⟨har, hor, -⟩ := hrapart z
    obtain ⟨hau, hou, -⟩ := State.Skips.finish ((s.bindFor p g (some (ch, some q))).onProg p fun _ => Program.free) r ⟨some p, false⟩ har
    rw [← hu] at hau hou
    refine ⟨fun e => ?_, hau.stack⟩
    have := hor (hou e)
    simp only [hwz] at this
    exact (hplace z).1 this

/-! The channel is nobody else's. -/

theorem State.Sole.congr (h : s.Sole p ch) (hp : ∀ q : ProgId, q ≠ x → u.progs[q] = s.progs[q]) (hs : u.slots = s.slots)
    (hx : x = p ∨ u.progs[x].isOpen = false) : u.Sole p ch where
  progs q hq hop := by
    by_cases e : q = x
    · subst e
      rcases hx with hx | hx
      · exact absurd hx hq
      · rw [hx] at hop
        cases hop
    · rw [hp q e] at hop ⊢
      exact h.progs q hq hop
  windows j := by
    simp only [hs]
    exact h.windows j

theorem State.Sole.endAndRelease (h : s.Sole q ch) (why : EndReason) (c : Cause) : (s.endAndRelease q why c).Sole q ch := by
  rw [State.endAndRelease_eq]
  have h1 : (s.endProgram q why).Sole q ch :=
    ⟨fun x hx hop => by rw [State.endProgram_other s hx] at hop ⊢; exact h.progs x hx hop,
      fun j => State.endProgram_window (h.windows j) q why⟩
  have h2 := (h1.of_beyond (State.releaseStep_beyond (s.endProgram q why) c.quiet (s.ownedBy q) (s.bedsOf q))).settleAll
  refine h2.congr (x := q) (fun x _ => State.finish_state ..) ?_ (Or.inl rfl)
  exact (State.bench_of_lasting (State.finish_lasting ..)).1

theorem State.users_cases (h : s.usersLawful = true) (p : ProgId) (hop : s.progs[p].isOpen = true) (hc : s.progs[p].chan = some ch) :
    s.chans[ch].user = some (.prog p) := by
  simp only [State.usersLawful, Bool.and_eq_true, List.all_eq_true, List.mem_finRange, true_implies] at h
  obtain ⟨⟨hprog, -⟩, -⟩ := h
  have h := hprog p
  have hc' : (s.progs[p].clipPart.bind fun c => c.channel) = some ch := hc
  rw [hop, Bool.not_true, Bool.false_or, hc'] at h
  simp only [Option.all_some, Bool.and_eq_true, beq_iff_eq] at h
  exact h.2

theorem State.window_user (h : s.usersLawful = true) (j : Fin 2) (hw : (s.slots[j].window.bind fun w => w.source.channel) = some ch) :
    s.chans[ch].user = some (.window j) := by
  simp only [State.usersLawful, Bool.and_eq_true, List.all_eq_true, List.mem_finRange, true_implies] at h
  obtain ⟨⟨-, hwin⟩, -⟩ := h
  have := hwin j
  rw [hw] at this
  exact beq_iff_eq.mp this

theorem State.user_open (h : s.usersLawful = true) (hu : s.chans[ch].user = some (.prog q)) :
    s.progs[q].isOpen = true ∧ s.progs[q].kind = .clip := by
  simp only [State.usersLawful, Bool.and_eq_true, List.all_eq_true, List.mem_finRange, true_implies] at h
  obtain ⟨-, huser⟩ := h
  have := huser ch
  rw [hu] at this
  simp only [Bool.and_eq_true, beq_iff_eq] at this
  exact ⟨this.1.1.2, this.1.2⟩

theorem State.sole_of_free (h : s.usersLawful = true) (hu : s.chans[ch].user = none) (p : ProgId) : s.Sole p ch :=
  ⟨fun q _ hop hc => (nomatch (State.users_cases h q hop hc).symm.trans hu),
    fun j hw => (nomatch (State.window_user h j hw).symm.trans hu)⟩

theorem State.sole_of_user (h : s.usersLawful = true) (hu : s.chans[ch].user = some (.prog q)) : s.Sole q ch :=
  ⟨fun x hx hop hc => hx (ChanUser.prog.inj (Option.some.inj ((State.users_cases h x hop hc).symm.trans hu))),
    fun j hw => (nomatch (State.window_user h j hw).symm.trans hu)⟩

/-- The channel that an open binds is the opened program's alone, stopped. -/
theorem State.opened_channel {part : ClipPart} (h : s.usersLawful = true) (hp : g.clipPart = some part)
    (hu : s.chans[ch].user = from?.map .prog) :
    (s.opened p g (some (ch, from?))).Sole p ch ∧ (s.opened p g (some (ch, from?))).chans[ch].user = some (.prog p) ∧
      (s.opened p g (some (ch, from?))).chans[ch].clip = some part.clip ∧
      (s.opened p g (some (ch, from?))).chans[ch].state = .free := by
  let b := s.bindFor p g (some (ch, from?))
  have hb : b = _ := State.bindFor_taken hp s p ch from?
  obtain ⟨-, hslots, hchans⟩ := s.opened_ports p g (some (ch, from?))
  have hbch : b.chans[ch] = { (match from? with
      | none => s
      | some q => s.endAndRelease q .channelTaken Cause.event).chans[ch].stopped with
        user := some (.prog p), clip := some part.clip } := by
    rw [hb]
    exact getElem_adjust_self ..
  have hbsole : b.Sole p ch := by
    rw [hb]
    cases from? with
    | none => exact ⟨(State.sole_of_free h hu p).progs, (State.sole_of_free h hu p).windows⟩
    | some q =>
      have hq := (State.sole_of_user h hu).endAndRelease (s := s) .channelTaken Cause.event
      have hclosed : (s.endAndRelease q .channelTaken Cause.event).progs[q].isOpen = false :=
        Program.isOpen_of_ended (s.out_endAndRelease q .channelTaken Cause.event).state
      refine ⟨fun y _ hop => hq.progs y (fun e => ?_) hop, hq.windows⟩
      subst e
      have hop' : (s.endAndRelease y .channelTaken Cause.event).progs[y].isOpen = true := hop
      rw [hclosed] at hop'
      cases hop'
  refine ⟨hbsole.congr (x := p) (fun q hq => s.opened_other g _ hq) hslots (Or.inl rfl), ?_⟩
  simp only [hchans]
  rw [show (s.bindFor p g (some (ch, from?))).chans[ch] = _ from hbch]
  exact ⟨rfl, rfl, rfl⟩

end OpenOthers

end Sys2Proof.Machine
end

section
namespace Sys2Proof.Machine

section AcceptedOpen
variable {s u w r : State} {t : Txn} {a : OpenArgs} {x : Port} {k : ProgKind} {p q : ProgId} {z : Zone} {st : StationId} {ch : ChanId}
  {chan : Option (ChanId × Option ProgId)} {from? : Option ProgId}

theorem State.callouts_of_safe (h : s.safe = true) : s.calloutsLawful = true := by
  unfold State.safe at h
  simp only [Bool.and_eq_true] at h
  obtain ⟨⟨⟨⟨⟨⟨⟨⟨⟨⟨-, h⟩, -⟩, -⟩, -⟩, -⟩, -⟩, -⟩, -⟩, -⟩, -⟩ := h
  exact h

/-- A station that is IDLE is no open program's source. -/
theorem State.no_caller (h : s.calloutsLawful = true) (hs : s.stations[st].state = .idle) (q : ProgId)
    (hop : s.progs[q].isOpen = true) : s.progs[q].station ≠ some st := by
  unfold State.calloutsLawful at h
  simp only [Bool.and_eq_true, List.all_eq_true, List.mem_finRange, true_implies] at h
  have hcount := beq_iff_eq.mp (h.1 st)
  rw [if_neg (by rw [hs]; exact fun e => by cases e), List.countP_eq_zero] at hcount
  intro e
  refine hcount q (List.mem_finRange q) ?_
  rw [hop, Bool.true_and]
  exact beq_iff_eq.mpr e

theorem State.opened_staying (ha : s.claimsAgree = true) (hk : s.kindsLawful = true)
    (hop : s.progs[p].isOpen = false) (hl : a.zones &&& ~~~s.excludedSet ≠ 0#64) (x : Port)
    (chan : Option (ChanId × Option ProgId)) :
    ((s.opened p (openRecord a x k) chan).claimUnder p (a.zones &&& ~~~s.excludedSet)).Staying p := by
  have hself := s.opened_self p (openRecord a x k) chan
  have hx (z : Zone) (hz : (a.zones &&& ~~~s.excludedSet).getLsbD z.val = true) :
      (s.opened p (openRecord a x k) chan).zones[z].excluded = false := by
    simp only [s.opened_zones]
    rw [s.bindFor_excluded]
    exact ((s.freshly_iff a.zones z).mp hz).2
  obtain ⟨got, hclaims, -⟩ := (State.opened_newcomer ha hk hop (g := openRecord a x k) ⟨rfl, rfl, rfl, rfl⟩ chan).claimUnder hl hx
  exact hclaims.staying (by rw [hself]; exact openRecord_unsettled a x k chan _) hl

/-- The station of a CALL_OUT that is opened: in TALKOUT, or IDLE again where the program ended at once (R115, R116). -/
theorem openIn_station (hs : OpenSound a k) (hkind : k = .callOut) (hsrc : a.source.toNat = 16 + st.val) (hlaw : s.calloutsLawful = true)
    (ha : s.claimsAgree = true) (hk : s.kindsLawful = true) (hop : s.progs[p].isOpen = false)
    (hb : s.openBlocks (openRecord a x k) = .ok chan) :
    (s.openIn p (openRecord a x k) chan a.zones).stations[st] = { s.stations[st] with
      state := if a.zones &&& ~~~s.excludedSet = 0#64 then .idle else .talkout } := by
  subst hkind
  have hstation : (openRecord a x .callOut).station = some st :=
    Program.station_of_callOut rfl ((hs.source (by decide)).trans (congrArg some hsrc))
  have hchan : chan = none := by
    rcases openBlocks_clip hb hs with ⟨e, -⟩ | ⟨e, -⟩
    · exact e
    · cases e
  subst hchan
  have hidle : s.stations[st].state = .idle := by
    unfold State.openBlocks at hb
    have hpart : (openRecord a x .callOut).clipPart = none := rfl
    rw [hpart] at hb
    simp only [hstation] at hb
    by_contra hne
    rw [if_neg hne] at hb
    cases hb
  let w := s.opened p (openRecord a x .callOut) none
  have hself : w.progs[p] = { openRecord a x .callOut with arrival := s.arrivals } := by
    rw [show w.progs[p] = _ from s.opened_self p _ none, s.bindFor_arrivals]
    rfl
  have hwst : w.stations[st] = { s.stations[st] with state := .talkout } := by
    have hw : w = (s.takeRecord p (openRecord a x .callOut)).onStation st fun y => { y with state := .talkout } := by
      show ((s.bindFor p _ none).takeRecord p _).callFor _ = _
      unfold State.callFor
      rw [show ((openRecord a x .callOut).boundTo none).station = some st from hstation]
      rfl
    rw [hw]
    exact getElem_adjust_self ..
  have hsole : w.SoleCaller p st := fun q hq hqo => by
    rw [State.opened_untaken (fun _ _ e => by cases e) s _ hq] at hqo ⊢
    exact State.no_caller hlaw hidle q hqo
  have hwstation : w.progs[p].station = some st := by rw [hself]; exact hstation
  rw [State.openIn_finish, State.stations_of_lasting (State.finish_lasting ..)]
  by_cases hl : a.zones &&& ~~~s.excludedSet = 0#64
  · rw [State.claimLeft, if_pos hl, if_pos hl]
    have h := (State.settleAll_caller hsole hwstation (by rw [hwst])).2 (by rw [hself]; exact openRecord_unsettled a x .callOut none _)
      (by rw [hself]; rfl) (by rw [hself]; rfl)
    rw [h, hwst]
  · rw [State.claimLeft, if_neg hl, if_neg hl]
    have hbey := w.claimUnder_beyond p (a.zones &&& ~~~s.excludedSet)
    have hrst : (w.claimUnder p (a.zones &&& ~~~s.excludedSet)).stations = w.stations := State.stations_of_beyond hbey
    have hrprog := State.bare_apply (State.bare_of_beyond hbey) p
    have hrstation : (w.claimUnder p (a.zones &&& ~~~s.excludedSet)).progs[p].station = some st :=
      (congrArg Program.station hrprog :).trans hwstation
    have h := (State.settleAll_caller (hsole.of_bare (State.bare_of_beyond hbey)) hrstation
      (by simp only [hrst]; rw [hwst])).1 (State.opened_staying ha hk hop hl x none)
    rw [h]
    simp only [hrst]
    exact hwst

/-- The channel of a CLIP program that is opened (R134). -/
theorem openIn_channel {part : ClipPart} (ha : s.claimsAgree = true) (hk : s.kindsLawful = true)
    (hu : s.usersLawful = true) (hop : s.progs[p].isOpen = false) (h2 : 2 ≤ p.val) (hch : ch.val < 4)
    (hpart : (openRecord a x .clip).clipPart = some part) (huser : s.chans[ch].user = from?.map .prog) :
    let v := s.openIn p (openRecord a x .clip) (some (ch, from?)) a.zones
    (v.progs[p].state = .ended → v.chans[ch].state = .free ∧ v.chans[ch].user = none ∧ v.chans[ch].clip = none) ∧
    (v.progs[p].state ≠ .ended → v.chans[ch].user = some (.prog p) ∧ v.chans[ch].clip = some part.clip ∧
      (v.progs[p].state = .active → v.chans[ch].state = .priming ∧ v.chans[ch].nextFetch = some (0, 1) ∧
        v.chans[ch].ahead = [] ∧ v.chans[ch].repeats = part.repeats ∧ v.chans[ch].trigger = part.trigger) ∧
      (v.progs[p].state ≠ .active → v.chans[ch].state = .free)) := by
  intro v
  let w := s.opened p (openRecord a x .clip) (some (ch, from?))
  let r := w.claimLeft p (a.zones &&& ~~~s.excludedSet)
  obtain ⟨hsole, hwuser, hwclip, hwstate⟩ := State.opened_channel hu hpart huser (p := p)
  have hself : w.progs[p] = { (openRecord a x .clip).boundTo (some (ch, from?)) with arrival := s.arrivals } := by
    rw [show w.progs[p] = _ from s.opened_self p _ _, s.bindFor_arrivals]
  have hb : r.beyond = w.beyond := w.claimLeft_beyond p _
  have hpool : r.chans[ch] = w.chans[ch] := (State.Calm.claimLeft w p _).pool ch hch
  have hbare := State.bare_apply (State.bare_of_beyond hb) p
  have hslot (j : Fin 2) : p ≠ progOfSlot j := fun e => by
    have hv : p.val = j.val := congrArg Fin.val e
    have := j.isLt
    omega
  have hrpart : r.progs[p].clipPart = some { part with channel := some ch } := by
    have h1 : r.progs[p].clipPart = w.progs[p].clipPart := (congrArg Program.clipPart hbare :)
    rw [h1, hself]
    show ((openRecord a x .clip).clipPart.map fun c => { c with channel := some ch }) = _
    rw [hpart]
    rfl
  have hrstarted : r.progs[p].clipStarted = false := by
    have h1 : r.progs[p].clipStarted = w.progs[p].clipStarted := (congrArg Program.clipStarted hbare :)
    rw [h1, hself]
    rfl
  have hrunsettled : r.progs[p].Unsettled := by
    have hwu : w.progs[p].Unsettled := by rw [hself]; exact openRecord_unsettled a x .clip _ _
    obtain ⟨h1, h2, h3, h4, h5⟩ := hwu
    have hheld : r.progs[p].held = 0#64 := by
      by_cases hl : a.zones &&& ~~~s.excludedSet = 0#64
      · have hr : r = w := if_pos hl
        rw [hr]
        exact h4
      · have hx (z : Zone) (hz : (a.zones &&& ~~~s.excludedSet).getLsbD z.val = true) : w.zones[z].excluded = false := by
          simp only [w, s.opened_zones]
          rw [s.bindFor_excluded]
          exact ((s.freshly_iff a.zones z).mp hz).2
        obtain ⟨got, hclaims, -⟩ := (State.opened_newcomer ha hk hop (g := openRecord a x .clip) ⟨rfl, rfl, rfl, rfl⟩
          (some (ch, from?))).claimUnder hl hx
        obtain ⟨b, hrec⟩ := hclaims.record
        have hr : r = w.claimUnder p (a.zones &&& ~~~s.excludedSet) := if_neg hl
        rw [hr, hrec]
    exact ⟨(congrArg Program.state hbare :).trans h1, (congrArg Program.ret hbare :).trans h2,
      (congrArg Program.waitTimer hbare :).trans h3, hheld, (congrArg Program.chimeSkipped hbare :).trans h5⟩
  have hfin := State.settleAll_channel (hsole.of_beyond hb) hslot (by rw [hpool]; exact hwuser) (by rw [hpool]; exact hwstate)
    hrunsettled hrpart rfl hrstarted
  have hv : v = State.finish ((s.bindFor p (openRecord a x .clip) (some (ch, from?))).onProg p fun _ => Program.free) r
      ⟨some p, false⟩ := s.openIn_finish p _ _ _
  have hvp : v.progs[p] = r.settleAll.progs[p] := by rw [hv]; exact State.finish_state _ r _ p
  have hvc : v.chans = r.settleAll.chans := by rw [hv]; exact (State.bench_of_lasting (State.finish_lasting _ r _)).2.2
  rw [hvp]
  simp only [hvc]
  rw [hpool, hwclip] at hfin
  exact hfin

end AcceptedOpen

end Sys2Proof.Machine
end

section
namespace Sys2Proof.Machine

section OpenSettled
variable {s u : State} {t : Txn} {a : OpenArgs} {x : Port} {k : ProgKind} {p q : ProgId} {ch : ChanId}
  {chan : Option (ChanId × Option ProgId)} {from? : Option ProgId}

/-- The zones, the timers and the first state of a program just opened (R31, R37, R41, R104). -/
theorem openIn_claims (hs : OpenSound a k) (ha : s.claimsAgree = true) (hk : s.kindsLawful = true) (hop : s.progs[p].isOpen = false)
    (x : Port) (chan : Option (ChanId × Option ProgId)) :
    let u := s.openIn p (openRecord a x k) chan a.zones
    let g := u.progs[p]
    let left := a.zones &&& ~~~s.excludedSet
    g.ret = none ∧
    (left = 0#64 → g.state = .ended ∧ g.endReason = some .noZones ∧ g.requested = 0#64 ∧ g.granted = 0#64 ∧
      g.held = 0#64 ∧ g.waiting = 0#64 ∧ g.chimeSkipped = false ∧ g.waitTimer = none ∧ g.joinTimer = none) ∧
    (left ≠ 0#64 →
      g.requested = left ∧ g.granted ||| g.waiting = left ∧ g.granted &&& g.waiting = 0#64 ∧ g.held = 0#64 ∧
      (∀ z : Zone, g.granted.getLsbD z.val = true ↔ if k = .bed then u.zones[z].bed = some p else u.zones[z].owner = some p) ∧
      (a.policy = 0#8 → g.granted = left ∨ g.granted = 0#64) ∧
      ((∀ ch q, chan ≠ some (ch, some q)) →
        let passes := fun z : Zone => if k = .bed then s.zones[z].bed = none else ∀ o, s.zones[z].owner = some o →
          a.cls.toNat < s.progs[o].cls ∧ (a.cls.toNat ≤ 2 ∨ a.cls.toNat < s.zones[z].shield)
        (a.policy ≠ 0#8 → ∀ z : Zone, left.getLsbD z.val = true → (g.granted.getLsbD z.val = true ↔ passes z)) ∧
        (a.policy = 0#8 → (g.granted = left ↔ ∀ z : Zone, left.getLsbD z.val = true → passes z))) ∧
      g.endReason = none ∧ g.joinTimer = g.joinDeadline.map (48 * ·) ∧
      g.waitTimer = (if g.granted = 0#64 then g.waitLimit.map (48 * ·) else none) ∧
      (g.granted = 0#64 → g.state = .pending ∧ g.chimeSkipped = false) ∧
      (g.granted ≠ 0#64 →
        (g.state = .active ∧ g.chimeSkipped = g.chime.isSome) ∨
        (g.state = .preamble ∧ g.chime ≠ none ∧ g.chimeSkipped = false ∧ ∃ v : Fin 4, u.voices[v].bound = some p)) ∧
      (∀ pat, s.statesFollow = true → (∀ ch q, chan ≠ some (ch, some q)) → g.granted ≠ 0#64 → g.chime = some pat →
        (g.state = .preamble →
          s.patterns[pat].steps ≠ [] ∧
          ∃ v : Fin 4, u.voices[v] = ⟨Player.start pat s.patterns[pat], some p⟩ ∧
            (∀ w : Fin 4, w < v → s.voices[w].bound ≠ none) ∧
            (s.voices[v].bound = none ∨ ∃ q, s.voices[v].bound = some q ∧ u.progs[q].state = .ended)) ∧
        (g.chimeSkipped = true → s.patterns[pat].steps = [] ∨ ∀ v : Fin 4, s.voices[v].bound ≠ none))) := by
  intro u g left
  by_cases hl : left = 0#64
  · have hrec : g = _ := openIn_excluded hl x k p chan
    obtain ⟨-, hret, -⟩ := openRecord_base a x k chan s.arrivals
    have hskip := (openRecord_unsettled a x k chan s.arrivals).skipped
    rw [hrec]
    exact ⟨hret, fun _ => ⟨rfl, rfl, rfl, rfl, rfl, rfl, hskip, rfl, rfl⟩, fun hne => absurd hl hne⟩
  · obtain ⟨got, hgot⟩ := openIn_got hs ha hk hop hl x chan
    have hc : g.Claimed left got := hgot.claimed
    obtain ⟨hor, hand⟩ := zoneSet_or_rest hgot.within
    refine ⟨hc.ret, fun e => absurd e hl, fun _ => ⟨hc.requested, ?_, ?_, hc.held, ?_, ?_, ?_, hc.reason, hc.join, hc.timer, ?_, ?_, ?_⟩⟩
    · rw [hc.granted, hc.waiting]
      exact hor
    · rw [hc.granted, hc.waiting]
      exact hand
    · rw [hc.granted]
      exact hgot.placed
    · rw [hc.granted]
      exact fun h0 => (hgot.together h0).1
    · intro hno passes
      have hpass (z : Zone) : _ ↔ passes z := opened_passes (x := x) hs (State.absent_of_closed ha hk hop) hno z
      rw [hc.granted]
      refine ⟨fun h0 z hz => (hgot.single h0 z hz).trans (hpass z), fun h0 => (hgot.together h0).2.trans ?_⟩
      exact forall_congr' fun z => forall_congr' fun _ => hpass z
    · rw [hc.granted]
      intro h0
      obtain ⟨-, -, -, -, -, -, -, -, h1, h2⟩ := openWaits_record h0 (hgot.waits h0)
      exact ⟨h1, h2⟩
    · rw [hc.granted]
      exact hgot.state hs
    · rw [hc.granted]
      exact fun pat hf hno hne hpat => hgot.voice hne hf hno hpat

/-- The pool channel that an open binds, and the program it takes it from (R134). -/
theorem openIn_bound (hs : OpenSound a k) (hsafe : s.safe = true) (hop : s.progs[p].isOpen = false) (h2 : 2 ≤ p.val)
    (hc : chan = some (ch, from?)) (hb : s.openBlocks (openRecord a x k) = .ok chan) :
    let u := s.openIn p (openRecord a x k) chan a.zones
    let g := u.progs[p]
    ch.val < 4 ∧
    (from? = none → s.chans[ch].user = none ∧ ∀ c : ChanId, c < ch → s.chans[c].user ≠ none) ∧
    (∀ q, from? = some q →
      a.cls = 1#8 ∧ (∀ c : ChanId, c.val < 4 → s.chans[c].user ≠ none) ∧ s.chans[ch].user = some (.prog q) ∧
      (∀ (c : ChanId) (r : ProgId), c.val < 4 → s.chans[c].user = some (.prog r) → r ≠ q →
        s.progs[r].cls < s.progs[q].cls ∨
          (s.progs[r].cls = s.progs[q].cls ∧ s.openOrder.idxOf r < s.openOrder.idxOf q)) ∧
      u.progs[q].state = .ended ∧ u.progs[q].endReason = some .channelTaken ∧ u.progs[q].requested = 0#64 ∧
      (∀ z : Zone, u.zones[z].owner ≠ some q ∧ q ∉ u.zones[z].stack) ∧
      (u.port s.progs[q].owner).has .program = true ∧ (u.port s.progs[q].owner).changed.getLsbD q.val = true) ∧
    (g.state = .ended → u.chans[ch].state = .free ∧ u.chans[ch].user = none ∧ u.chans[ch].clip = none) ∧
    (g.state ≠ .ended → u.chans[ch].user = some (.prog p) ∧ u.chans[ch].clip.map (·.val) = some a.clip.toNat ∧
      (g.state = .active → u.chans[ch].state = .priming ∧ u.chans[ch].nextFetch = some (0, 1) ∧
        u.chans[ch].ahead = [] ∧
        u.chans[ch].repeats = (if a.repeats.toNat = 256 then none else some a.repeats.toNat) ∧
        u.chans[ch].trigger = (if a.trigger = 0#8 then .free else .gated)) ∧
      (g.state ≠ .active → u.chans[ch].state = .free)) := by
  subst hc
  intro u g
  have hlaws := State.claimLaws_of_safe hsafe
  have hu := State.users_of_safe hsafe
  rcases openBlocks_clip hb hs with ⟨e, -⟩ | ⟨rfl, ch', from', part, e, hpart, hreq⟩
  · cases e
  · obtain ⟨rfl, rfl⟩ : ch = ch' ∧ from? = from' := by cases e; exact ⟨rfl, rfl⟩
    have hpool := State.poolRequest_ok hreq
    have huser : ch.val < 4 ∧ s.chans[ch].user = from?.map .prog := by
      rcases hpool with ⟨rfl, hf⟩ | ⟨q, rfl, -, -, hv⟩
      · obtain ⟨h1, h2, -⟩ := State.freePool_some hf
        exact ⟨h1, h2⟩
      · obtain ⟨h1, h2, -⟩ := State.victim_some hv
        exact ⟨h1, h2⟩
    obtain ⟨hend, hbound⟩ := openIn_channel (a := a) (x := x) hlaws.agree hlaws.kinds hu hop h2 huser.1 hpart huser.2
    obtain ⟨id, hid, hclip⟩ := hs.clip
    obtain rfl : part = _ := Option.some.inj (hpart.symm.trans hclip)
    refine ⟨huser.1, fun e => ?_, fun q e => ?_, hend, fun hne => ?_⟩
    · rcases hpool with ⟨-, hf⟩ | ⟨q, e', -⟩
      · exact (State.freePool_some hf).2
      · rw [e] at e'
        cases e'
    · subst e
      rcases hpool with ⟨e', -⟩ | ⟨q', e', hcls, hfull, hv⟩
      · cases e'
      · obtain rfl := Option.some.inj e'
        obtain ⟨-, hq, hmax⟩ := State.victim_some hv
        obtain ⟨hqop, -⟩ := State.user_open hu hq
        have hne : q ≠ p := fun e => by rw [e, hop] at hqop; cases hqop
        refine ⟨BitVec.eq_of_toNat_eq (beq_iff_eq.mp hcls), (s.freePool_eq_none_iff).mp hfull, hq, fun c r hc hr hrq => ?_,
          State.openIn_victim hpart hne hqop a.zones⟩
        have hrank : s.progs[r].cls < s.progs[q].cls ∨
            (s.progs[r].cls = s.progs[q].cls ∧ s.openOrder.idxOf r ≤ s.openOrder.idxOf q) := hmax c r hc hr
        refine hrank.imp (fun h => h) fun ⟨h1, h2⟩ => ⟨h1, lt_of_le_of_ne h2 fun e => hrq ?_⟩
        have hmem : r ∈ s.openOrder := ((State.listed_of_lawful hlaws.orders r).1).mpr
          ((Program.isOpen_iff _).mp (State.user_open hu hr).1).1
        exact (List.idxOf_inj hmem).mp e
    · obtain ⟨h1, h2, h3, h4⟩ := hbound hne
      refine ⟨h1, ?_, h3, h4⟩
      rw [h2]
      exact congrArg some hid.symm

end OpenSettled

/-- Settles O28: a program just opened has no claim yet, so what it gets is what its zones let pass; at its turn in the settling
it takes its first state, and no other program's turn touches its zones, its voice or its channel. -/
theorem anAcceptedOpenTakesItsRecord : Obligations.AnAcceptedOpenTakesItsRecord := by
  unfold Obligations.AnAcceptedOpenTakesItsRecord
  refine ⟨fun s p pat hr hc hk => enterGranted_chime hr hc hk, ?_⟩
  intro t a s k p chan hl ha hend hnd hcheck hp hb
  have hs := openSound_of_check hcheck
  obtain ⟨hclosed, hlow⟩ := State.allocate_some hend hp
  have hop := Program.isOpen_of_free_or_ended hclosed
  have h2 : 2 ≤ p.val := by
    unfold recordLow at hlow
    split at hlow <;> omega
  have hchan : (chan = none ∧ k ≠ .clip) ∨ (k = .clip ∧ ∃ ch from?, chan = some (ch, from?)) := by
    rcases openBlocks_clip hb hs with h | ⟨h1, ch, from?, -, h2, -⟩
    · exact Or.inl h
    · exact Or.inr ⟨h1, ch, from?, h2⟩
  obtain ⟨f, hf⟩ := exec_openProgram hl hcheck hp hb
  let s' := s.onPort t.port f
  have hcore := State.openIn_core (g := openRecord a t.port k) (chan := chan)
    (by rw [openRecord_gain]; rfl) s' p a.zones
  have harr := State.openIn_arrivals s' p (openRecord a t.port k) chan a.zones
  have hclaims (hk : s.kindsLawful = true) := openIn_claims (s := s') (p := p) hs ha hk hop t.port chan
  have hstation (hsafe : s.safe = true) (st : StationId) (hk : k = .callOut) (hsrc : a.source.toNat = 16 + st.val) :=
    openIn_station (s := s') (p := p) hs hk hsrc (State.callouts_of_safe hsafe) ha (State.claimLaws_of_safe hsafe).kinds hop hb
  have hbound (hsafe : s.safe = true) (ch : ChanId) (from? : Option ProgId) (hc : chan = some (ch, from?)) :=
    openIn_bound (s := s') (p := p) hs hsafe hop h2 hc hb
  obtain ⟨hfields, hrest⟩ := opened_fields hcore hs hchan
  generalize hu : s'.openIn p (openRecord a t.port k) chan a.zones = u at hcore harr hclaims hstation hbound hfields hrest
  have hexec : exec (.openProgram t a) s = .next (u.replied t 0x10#8 .ok (openResults u p)) := by
    rw [← hu]
    exact hf
  refine ⟨_, hexec, ?_⟩
  simp only [State.replied_progs, State.replied_zones, State.replied_arrivals, State.replied_voices, State.replied_stations,
    State.replied_chans, State.replied_has, State.replied_changed]
  exact ⟨State.replied_answered, hfields, harr, hrest, hclaims, fun hsafe => ⟨hstation hsafe, hbound hsafe⟩⟩

end Sys2Proof.Machine
end

section
namespace Sys2Proof.Machine

/-! ### What the laws of the blocks read of the state

The laws of the slots, channels, stations, calls, routes and clips (R14, R52, R87, R99, R122 to R134, R146 to R151, R172) read
little of each record. The gist of a state keeps just that, so that an operation which leaves the gist alone keeps these laws. -/

/-- FREE, ENDED or open. -/
def Program.status (g : Program) : ProgState :=
  match g.state with
  | .free => .free
  | .ended => .ended
  | .pending | .preamble | .active | .held | .tail => .active

/-- What the blocks know of a program; its timers only where it is not open, when none may run. -/
def Program.face (g : Program) : Program :=
  { Program.free with
    kind := g.kind, policy := g.policy, source := g.source, clipPart := g.clipPart, routeSlot := g.routeSlot, state := g.status
    waitTimer := if g.isOpen then none else g.waitTimer.map fun _ => 0
    joinTimer := if g.isOpen then none else g.joinTimer.map fun _ => 0 }

/-- A slot without the frames that its window has left. -/
def AlarmSlot.untimed (a : AlarmSlot) : AlarmSlot := { a with window := a.window.map fun w => { w with timer := none } }

/-- A call's state, priority and parties without their ring timers. -/
def Call.gist (c : Call) : Call :=
  { Call.free with state := c.state, priority := c.priority, parties := c.parties.map fun p => { p with timer := none } }

/-- The erase step on the link, if one is. -/
def Link.erasing (l : Link) : Option Link :=
  match l.op with
  | .erase id _ => some ⟨0, 0, .erase id 0⟩
  | .scanRead _ | .fetch _ _ _ _ _ | .directory _ _ | .programBlock _ _ _ _ => none

/-- The directory, the clip being loaded, the erase list, the image block being scanned and the erase step on the link. -/
def ClipEngine.gist (c : ClipEngine) : ClipEngine :=
  { ClipEngine.reset 0 with
    dir := c.dir, load := c.load.map fun l => Load.begun l.clip 0 0, eraseList := c.eraseList
    link := c.link.bind Link.erasing, scan := c.scan.map fun sc => ⟨sc.img, 0, false⟩ }

/-- What the laws of the blocks read. -/
def State.gist (s : State) : State :=
  { State.reset with
    resetLeft := s.resetLeft.map fun _ => 0
    progs := remap s.progs fun _ g => g.face
    openOrder := s.openOrder, endOrder := s.endOrder
    slots := remap s.slots fun _ a => a.untimed
    patterns := s.patterns
    tone := remap s.tone fun _ pl => { Player.stopped with cond := pl.cond }
    ring := { Player.stopped with cond := s.ring.cond, pattern := s.ring.pattern }
    clips := s.clips.gist
    chans := remap s.chans fun _ c => c.binding
    stations := s.stations
    calls := remap s.calls fun _ c => c.gist
    callEnds := s.callEnds
    cue := { CueEngine.reset with slots := remap s.cue.slots fun _ r => { r with source := none } } }

section Faces
variable (g : Program)

@[simp] theorem Program.status_eq_free : g.status = .free ↔ g.state = .free := by
  unfold Program.status; cases g.state <;> simp

@[simp] theorem Program.status_eq_ended : g.status = .ended ↔ g.state = .ended := by
  unfold Program.status; cases g.state <;> simp

@[simp] theorem Program.face_isOpen : g.face.isOpen = g.isOpen := by
  have : (g.status != .free && g.status != .ended) = (g.state != .free && g.state != .ended) := by
    unfold Program.status; cases g.state <;> rfl
  exact this

@[simp] theorem Program.face_station : g.face.station = g.station := rfl

end Faces

section Tables
variable (s : State)

@[simp] theorem State.gist_prog (p : ProgId) : s.gist.progs[p.val] = s.progs[p.val].face := getElem_remap ..
@[simp] theorem State.gist_slot (k : Fin 2) : s.gist.slots[k.val] = s.slots[k.val].untimed := getElem_remap ..
@[simp] theorem State.gist_tone (k : Fin 2) : s.gist.tone[k.val] = { Player.stopped with cond := s.tone[k.val].cond } :=
  getElem_remap ..
@[simp] theorem State.gist_chan (ch : ChanId) : s.gist.chans[ch.val] = s.chans[ch.val].binding := getElem_remap ..
@[simp] theorem State.gist_call (x : CallId) : s.gist.calls[x.val] = s.calls[x.val].gist := getElem_remap ..
@[simp] theorem State.gist_route (k : Fin 8) : s.gist.cue.slots[k.val] = { s.cue.slots[k.val] with source := none } :=
  getElem_remap ..

end Tables

/-! ### Each law of the blocks is a law of the gist -/

section Gists
variable (s : State)

theorem State.gist_orders : s.gist.ordersLawful = s.ordersLawful := by
  have hf (p : ProgId) : (s.progs[p.val].face.state != .free) = (s.progs[p.val].state != .free) := by
    show (s.progs[p.val].status != .free) = _
    unfold Program.status; cases s.progs[p.val].state <;> rfl
  have he (p : ProgId) : (s.progs[p.val].face.state == .ended) = (s.progs[p.val].state == .ended) := by
    show (s.progs[p.val].status == .ended) = _
    unfold Program.status; cases s.progs[p.val].state <;> rfl
  simp only [State.ordersLawful, Fin.getElem_fin, State.gist_prog, State.gist_call, hf, he]
  rfl

theorem State.gist_slotLawful (k : Fin 2) : s.gist.slotLawful k = s.slotLawful k := by
  simp only [State.slotLawful, Fin.getElem_fin, State.gist_prog, State.gist_slot, Program.face_isOpen]
  rfl

theorem State.gist_toneFollows (k : Fin 2) : s.gist.toneFollows k = s.toneFollows k := by
  simp only [State.toneFollows, Fin.getElem_fin, State.gist_slot, State.gist_tone]
  rfl

theorem AlarmSlot.untimed_windowLawful (a : AlarmSlot) : a.untimed.windowLawful = a.windowLawful := by
  unfold AlarmSlot.windowLawful AlarmSlot.untimed
  simp

theorem AlarmSlot.untimed_channel (a : AlarmSlot) :
    (a.untimed.window.bind fun w => w.source.channel) = a.window.bind fun w => w.source.channel := by
  unfold AlarmSlot.untimed; cases a.window <;> rfl

theorem Call.gist_party (c : Call) (a : StationId) : c.gist.party a = (c.party a).map fun p => { p with timer := none } := by
  unfold Call.party Call.gist
  simp only [List.find?_map]
  rfl

theorem Call.gist_lawful (c : Call) : c.gist.lawful = c.lawful := by
  have hs : c.gist.stations = c.stations := by simp [Call.stations, Call.gist]
  have hst : c.gist.standing = c.standing := by simp [Call.standing, Call.gist, List.countP_map, Function.comp_def]
  have hr : c.gist.ringing = c.ringing := by simp [Call.ringing, Call.gist, List.countP_map, Function.comp_def]
  have hl : c.gist.parties.length = c.parties.length := by simp [Call.gist]
  unfold Call.lawful
  rw [hs, hst, hr, hl]
  rfl

theorem State.gist_intercom : s.gist.intercomLawful = s.intercomLawful := by
  have hst (a : StationId) : s.gist.stationAgrees a = s.stationAgrees a := by
    have hcur : s.gist.stations = s.stations := rfl
    simp only [State.stationAgrees, Fin.getElem_fin, hcur, State.gist_call, Call.gist_party, Option.any_map]
    rfl
  have hp (x : CallId) : s.gist.partiesAgree x = s.partiesAgree x := by
    have hcur : s.gist.stations = s.stations := rfl
    simp only [State.partiesAgree, Fin.getElem_fin, hcur, State.gist_call]
    refine congrArg₂ _ rfl ?_
    simp only [Call.gist, List.all_map]
    rfl
  simp only [State.intercomLawful, hst, hp, Fin.getElem_fin, State.gist_call, Call.gist_lawful]
  rfl

theorem State.gist_cadence : s.gist.cadenceLawful = s.cadenceLawful := rfl

theorem State.gist_callouts : s.gist.calloutsLawful = s.calloutsLawful := by
  simp only [State.calloutsLawful, Fin.getElem_fin, State.gist_prog, Program.face_isOpen, Program.face_station]
  rfl

theorem State.gist_resetLawful : s.gist.resetLawful = s.resetLawful := by
  have h1 : s.gist.resetLeft.isNone = s.resetLeft.isNone := by simp [State.gist]
  have h2 : s.gist.clips.scan.isNone = s.clips.scan.isNone := by simp [State.gist, ClipEngine.gist]
  unfold State.resetLawful
  rw [h1, h2]
  rfl

theorem State.gist_channelsReady : s.gist.channelsReady = s.channelsReady := by
  simp only [State.channelsReady, Fin.getElem_fin, State.gist_chan]
  rfl

theorem State.gist_users : s.gist.usersLawful = s.usersLawful := by
  simp only [State.usersLawful, Fin.getElem_fin, State.gist_prog, State.gist_chan, State.gist_slot, Program.face_isOpen,
    AlarmSlot.untimed_channel]
  rfl

theorem all_map_of_forall {α : Type} (o : Option α) {e : α → α} {f : α → Bool} (h : ∀ a, f (e a) = f a) :
    (o.map e).all f = o.all f := by
  cases o <;> simp [h]

theorem ClipEngine.gist_entries (c : ClipEngine) : c.gist.entriesLawful = c.entriesLawful := by
  have h1 : (c.load.map fun l => Load.begun l.clip 0 0).all (fun l => c.dir[l.clip].state == .loading) =
      c.load.all fun l => c.dir[l.clip].state == .loading :=
    all_map_of_forall (f := fun l : Load => c.dir[l.clip].state == .loading) c.load fun l => by
      simp only [Load.begun]
  have h2 : (c.link.bind Link.erasing).all (fun l => match l.op with
      | .erase id _ => c.eraseList.contains id
      | .scanRead _ | .fetch _ _ _ _ _ | .directory _ _ | .programBlock _ _ _ _ => true) =
      c.link.all fun l => match l.op with
      | .erase id _ => c.eraseList.contains id
      | .scanRead _ | .fetch _ _ _ _ _ | .directory _ _ | .programBlock _ _ _ _ => true := by
    cases c.link with
    | none => rfl
    | some l => obtain ⟨n, t, op⟩ := l; cases op <;> rfl
  unfold ClipEngine.entriesLawful
  refine congrArg₂ _ (congrArg₂ _ (congrArg₂ _ (congrArg₂ _ h1 rfl) rfl) h2) ?_
  exact all_map_of_forall (f := fun sc : Scan => (List.finRange 256).all fun id =>
    decide (id.val / 128 < sc.img.val) || c.dir[id].state == .empty) c.scan fun _ => rfl

theorem State.gist_routes : s.gist.routesLawful = s.routesLawful := by
  simp only [State.routesLawful, Fin.getElem_fin, State.gist_prog, State.gist_route, Program.face_isOpen]
  rfl

end Gists

end Sys2Proof.Machine
end

section
namespace Sys2Proof.Machine

/-! ### The laws of the blocks (R14, R22, R52, R77, R87, R93, R99, R115, R122 to R134, R146 to R151, R172)

`loose` are the slots that a command is about to set, which keep neither the law of their generator nor that of their window
meanwhile; `opening` those whose program may be open while they are IDLE, as it is until a command's claims are settled. -/

structure State.Blocks (loose opening : Fin 2 → Prop) (s : State) : Prop where
  orders : s.ordersLawful = true
  slots : ∀ k, s.slotLawful k = true
  tones : ∀ k, ¬loose k → s.toneFollows k = true
  windows : ∀ k : Fin 2, ¬loose k → s.slots[k].windowLawful = true
  sounds : ∀ k : Fin 2, s.slots[k].state ≠ .idle → s.progs[progOfSlot k].isOpen = true
  idles : ∀ k : Fin 2, ¬opening k → s.slots[k].state = .idle → s.progs[progOfSlot k].isOpen = false
  timers : ∀ p : ProgId, s.progs[p].isOpen = false → s.progs[p].waitTimer = none ∧ s.progs[p].joinTimer = none
  cadence : s.cadenceLawful = true
  intercom : s.intercomLawful = true
  callouts : s.calloutsLawful = true
  reset : s.resetLawful = true
  ready : s.channelsReady = true
  users : s.usersLawful = true
  ranges : s.clips.rangesApart = true
  entries : s.clips.entriesLawful = true
  routes : s.routesLawful = true

abbrev noSlot : Fin 2 → Prop := fun _ => False

section Congruence
variable {loose opening : Fin 2 → Prop} {s u : State}

theorem State.prog_of_gist (h : u.gist = s.gist) (p : ProgId) : u.progs[p.val].face = s.progs[p.val].face := by
  rw [← State.gist_prog, h, State.gist_prog]

theorem State.isOpen_of_gist (h : u.gist = s.gist) (p : ProgId) : u.progs[p.val].isOpen = s.progs[p.val].isOpen := by
  rw [← Program.face_isOpen, State.prog_of_gist h, Program.face_isOpen]

theorem State.slot_of_gist (h : u.gist = s.gist) (k : Fin 2) : u.slots[k.val].untimed = s.slots[k.val].untimed := by
  rw [← State.gist_slot, h, State.gist_slot]

theorem State.slotState_of_gist (h : u.gist = s.gist) (k : Fin 2) : u.slots[k.val].state = s.slots[k.val].state :=
  (congrArg AlarmSlot.state (State.slot_of_gist h k) :)

/-- What leaves the gist alone keeps the laws of the blocks. -/
theorem State.Blocks.congr (h : s.Blocks loose opening) (hg : u.gist = s.gist) : u.Blocks loose opening where
  orders := by rw [← State.gist_orders, hg, State.gist_orders]; exact h.orders
  slots k := by rw [← State.gist_slotLawful, hg, State.gist_slotLawful]; exact h.slots k
  tones k hk := by rw [← State.gist_toneFollows, hg, State.gist_toneFollows]; exact h.tones k hk
  windows k hk := by
    show u.slots[k.val].windowLawful = true
    rw [← AlarmSlot.untimed_windowLawful, State.slot_of_gist hg, AlarmSlot.untimed_windowLawful]; exact h.windows k hk
  sounds k hk := (State.isOpen_of_gist hg _).trans (h.sounds k fun e => hk ((State.slotState_of_gist hg k).trans e))
  idles k ho hk := (State.isOpen_of_gist hg _).trans (h.idles k ho ((State.slotState_of_gist hg k).symm.trans hk))
  timers p hp := by
    have hf := State.prog_of_gist hg p
    have hop := (State.isOpen_of_gist hg p).symm.trans hp
    have hw : (if u.progs[p.val].isOpen then none else u.progs[p.val].waitTimer.map fun _ => 0) = _ :=
      congrArg Program.waitTimer hf
    have hj : (if u.progs[p.val].isOpen then none else u.progs[p.val].joinTimer.map fun _ => 0) = _ :=
      congrArg Program.joinTimer hf
    simp only [Program.face, hop, show u.progs[p.val].isOpen = false from hp, Bool.false_eq_true, if_false] at hw hj
    obtain ⟨h1, h2⟩ := h.timers p hop
    rw [show s.progs[p.val].waitTimer = none from h1, Option.map_none, Option.map_eq_none_iff] at hw
    rw [show s.progs[p.val].joinTimer = none from h2, Option.map_none, Option.map_eq_none_iff] at hj
    exact ⟨hw, hj⟩
  cadence := by rw [← State.gist_cadence, hg, State.gist_cadence]; exact h.cadence
  intercom := by rw [← State.gist_intercom, hg, State.gist_intercom]; exact h.intercom
  callouts := by rw [← State.gist_callouts, hg, State.gist_callouts]; exact h.callouts
  reset := by rw [← State.gist_resetLawful, hg, State.gist_resetLawful]; exact h.reset
  ready := by rw [← State.gist_channelsReady, hg, State.gist_channelsReady]; exact h.ready
  users := by rw [← State.gist_users, hg, State.gist_users]; exact h.users
  ranges := by
    have : u.clips.dir = s.clips.dir := (congrArg (fun v : State => v.clips.dir) hg :)
    unfold ClipEngine.rangesApart ClipEngine.ranges
    rw [this]
    exact h.ranges
  entries := by
    have : u.clips.gist = s.clips.gist := (congrArg State.clips hg :)
    rw [← ClipEngine.gist_entries, this, ClipEngine.gist_entries]; exact h.entries
  routes := by rw [← State.gist_routes, hg, State.gist_routes]; exact h.routes

end Congruence

/-! ### The laws in the terms that operations change -/

section Terms
variable {s : State}

theorem State.callouts_iff (s : State) : s.calloutsLawful = true ↔
    (∀ a : StationId, (List.finRange 32).countP (fun p => s.progs[p].isOpen && s.progs[p].station == some a) =
      if s.stations[a].state = .talkout then 1 else 0) ∧
    ∀ p : ProgId, s.progs[p].isOpen = true → s.progs[p].kind = .callOut → s.progs[p].station.isSome = true := by
  simp only [State.calloutsLawful, Bool.and_eq_true, List.all_eq_true, List.mem_finRange, true_imp_iff, beq_iff_eq,
    Bool.or_eq_true, Bool.not_eq_true', bne_iff_ne, ne_eq, or_assoc]
  refine and_congr Iff.rfl (forall_congr' fun p => ?_)
  cases s.progs[p].isOpen <;> simp [imp_iff_not_or]

theorem State.ready_iff (s : State) : s.channelsReady = true ↔
    ∀ (ch : ChanId) (id : ClipId), s.chans[ch].clip = some id → s.clips.dir[id].state = .ready := by
  simp only [State.channelsReady, List.all_eq_true, List.mem_finRange, true_imp_iff, Option.all_eq_true, beq_iff_eq]

/-- The laws of the channels' users, one per kind of user (R87, R133, R134). -/
structure State.Users (s : State) : Prop where
  clip : ∀ (p : ProgId) (ch : ChanId), s.progs[p].isOpen = true → s.progs[p].chan = some ch →
    ch.val < 4 ∧ s.chans[ch].user = some (.prog p)
  window : ∀ (k : Fin 2) (ch : ChanId), (s.slots[k].window.bind fun w => w.source.channel) = some ch →
    s.chans[ch].user = some (.window k)
  none : ∀ ch : ChanId, s.chans[ch].user = none → ch.val < 4
  prog : ∀ (ch : ChanId) (p : ProgId), s.chans[ch].user = some (.prog p) →
    ch.val < 4 ∧ s.progs[p].isOpen = true ∧ s.progs[p].kind = .clip ∧ s.progs[p].chan = some ch
  slot : ∀ (ch : ChanId) (k : Fin 2), s.chans[ch].user = some (.window k) →
    ch.val < 4 ∧ (s.slots[k].window.bind fun w => w.source.channel) = some ch
  cue : ∀ ch : ChanId, s.chans[ch].user = some .cue → 4 ≤ ch.val

/-- The law of one channel's user. -/
theorem State.user_iff (s : State) (ch : ChanId) : (match s.chans[ch].user with
    | none => decide (ch.val < 4)
    | some (.prog p) => decide (ch.val < 4) && s.progs[p].isOpen && s.progs[p].kind == .clip &&
      s.progs[p].clipPart.bind (·.channel) == some ch
    | some (.window k) => decide (ch.val < 4) && (s.slots[k].window.bind fun w => w.source.channel) == some ch
    | some .cue => decide (4 ≤ ch.val)) = true ↔
    (s.chans[ch].user = none → ch.val < 4) ∧
    (∀ p, s.chans[ch].user = some (.prog p) →
      ch.val < 4 ∧ s.progs[p].isOpen = true ∧ s.progs[p].kind = .clip ∧ s.progs[p].chan = some ch) ∧
    (∀ k, s.chans[ch].user = some (.window k) →
      ch.val < 4 ∧ (s.slots[k].window.bind fun w => w.source.channel) = some ch) ∧
    (s.chans[ch].user = some .cue → 4 ≤ ch.val) := by
  cases s.chans[ch].user with
  | none => simp
  | some u => cases u <;> simp [and_assoc, Program.chan]

theorem State.users_iff (s : State) : s.usersLawful = true ↔ s.Users := by
  have hchan (p : ProgId) : (s.progs[p].clipPart.bind fun c => c.channel) = s.progs[p].chan := rfl
  unfold State.usersLawful
  simp only [Bool.and_eq_true, List.all_eq_true, List.mem_finRange, true_imp_iff, Option.all_eq_true, Bool.or_eq_true,
    Bool.not_eq_true', decide_eq_true_eq, beq_iff_eq, hchan]
  constructor
  · rintro ⟨⟨hc, hw⟩, hu⟩
    have key (ch : ChanId) := (s.user_iff ch).mp (hu ch)
    exact ⟨fun p ch ho he => (hc p).resolve_left (by rw [ho]; decide) ch he, fun k ch he => hw k ch he, fun ch => (key ch).1,
      fun ch => (key ch).2.1, fun ch => (key ch).2.2.1, fun ch => (key ch).2.2.2⟩
  · intro h
    refine ⟨⟨fun p => ?_, fun k ch he => h.window k ch he⟩, fun ch =>
      (s.user_iff ch).mpr ⟨h.none ch, h.prog ch, h.slot ch, h.cue ch⟩⟩
    cases ho : s.progs[p].isOpen with
    | false => exact Or.inl rfl
    | true => exact Or.inr fun ch he => h.clip p ch ho he

/-- A route slot's references (R172). -/
theorem State.routes_iff (s : State) : s.routesLawful = true ↔ ∀ k : Fin 8,
    (∀ p : ProgId, s.cue.slots[k].showProg = some p →
      s.progs[p].isOpen = true ∧ s.progs[p].routeSlot = some k ∧ s.progs[p].kind = .showSound) ∧
    ∀ p : ProgId, s.cue.slots[k].bedProg = some p →
      s.progs[p].isOpen = true ∧ s.progs[p].routeSlot = some k ∧ s.progs[p].kind = .bed := by
  simp only [State.routesLawful, List.all_eq_true, List.mem_finRange, true_imp_iff, Bool.and_eq_true, Option.all_eq_true,
    beq_iff_eq, and_assoc]

theorem State.orders_iff (s : State) : s.ordersLawful = true ↔
    s.openOrder.Nodup ∧ s.endOrder.Nodup ∧ s.callEnds.Nodup ∧
    (∀ p : ProgId, (p ∈ s.openOrder ↔ s.progs[p].state ≠ .free) ∧ (p ∈ s.endOrder ↔ s.progs[p].state = .ended)) ∧
    ∀ x : CallId, x ∈ s.callEnds ↔ s.calls[x].state = .ended := by
  have hb (a b : Bool) : (a == b) = true ↔ (a = true ↔ b = true) := by cases a <;> cases b <;> simp
  simp only [State.ordersLawful, Bool.and_eq_true, decide_eq_true_eq, List.all_eq_true, List.mem_finRange, true_imp_iff, hb,
    List.contains_iff_mem, bne_iff_ne, beq_iff_eq, and_assoc]

theorem State.slotLawful_iff (s : State) (k : Fin 2) : s.slotLawful k = true ↔
    (s.progs[progOfSlot k].isOpen = true → s.progs[progOfSlot k].kind = .alarm ∧ s.progs[progOfSlot k].policy = .takeAvailable) ∧
    (s.slots[k].state ≠ .idle → s.slots[k].pattern.isSome = true) := by
  simp only [State.slotLawful, Bool.and_eq_true, Bool.or_eq_true, Bool.not_eq_true', beq_iff_eq]
  refine and_congr ?_ (by rw [imp_iff_not_or, not_not])
  cases s.progs[progOfSlot k].isOpen <;> simp

end Terms

end Sys2Proof.Machine
end

section
namespace Sys2Proof.Machine

/-! ### What a program's end does to the blocks (R21, R52) -/

section Ends
variable {s : State} {p : ProgId} {why : EndReason}

theorem Link.erasing_onOp (l : Link) {f : StoreOp → StoreOp}
    (hf : ∀ op, (Link.erasing ⟨0, 0, f op⟩) = Link.erasing ⟨0, 0, op⟩) : Link.erasing { l with op := f l.op } = l.erasing := by
  have key (op : StoreOp) (l : Link) (h : l.op = op) : l.erasing = Link.erasing ⟨0, 0, op⟩ := by
    unfold Link.erasing; rw [h]
  rw [key _ _ rfl, hf, ← key l.op l rfl]

theorem ClipEngine.onOp_gist (c : ClipEngine) {f : StoreOp → StoreOp}
    (hf : ∀ op, (Link.erasing ⟨0, 0, f op⟩) = Link.erasing ⟨0, 0, op⟩) : (c.onOp f).gist = c.gist := by
  have : (c.onOp f).link.bind Link.erasing = c.link.bind Link.erasing := by
    unfold ClipEngine.onOp
    cases c.link with
    | none => rfl
    | some l => exact Link.erasing_onOp l hf
  unfold ClipEngine.gist
  rw [this]
  rfl

theorem StoreOp.dropFetch_erasing (ch : ChanId) (op : StoreOp) :
    Link.erasing ⟨0, 0, op.dropFetch ch⟩ = Link.erasing ⟨0, 0, op⟩ := by
  cases op <;> rfl

theorem State.stopChan_clips (s : State) (ch : ChanId) : (s.stopChan ch).clips.gist = s.clips.gist :=
  ClipEngine.onOp_gist s.clips (StoreOp.dropFetch_erasing ch)

theorem State.releaseChan_clips (s : State) (ch : ChanId) : (s.releaseChan ch).clips.gist = s.clips.gist := s.stopChan_clips ch

theorem State.closeWindow_clips (s : State) (k : Fin 2) : (s.closeWindow k).clips.gist = s.clips.gist := by
  unfold State.closeWindow
  simp only
  repeat' split
  any_goals rfl
  exact State.releaseChan_clips _ _

theorem State.idleSlot_clips (s : State) (k : Fin 2) (named : Bool) : (s.idleSlot k named).clips.gist = s.clips.gist := by
  rw [← s.closeWindow_clips k]
  cases named <;> rfl

theorem State.slotProgramEnded_clips (s : State) (p : ProgId) : (s.slotProgramEnded p).clips.gist = s.clips.gist := by
  unfold State.slotProgramEnded
  repeat' split
  any_goals rfl
  exact s.idleSlot_clips _ _

theorem State.unbound_clips (s : State) (p : ProgId) (why : EndReason) : (s.unbound p why).clips.gist = s.clips.gist := by
  have hd (v : State) : (v.dropRoute p).clips = v.clips := by unfold State.dropRoute; split <;> rfl
  have hs (v : State) : (v.releaseStation p).clips = v.clips := by unfold State.releaseStation; split <;> rfl
  have hc (v : State) : (v.releaseProgChan p).clips.gist = v.clips.gist := by
    unfold State.releaseProgChan
    repeat' split
    any_goals rfl
    exact State.releaseChan_clips _ _
  have hv (v : State) : (v.releaseVoice p).clips = v.clips := by unfold State.releaseVoice; split <;> rfl
  unfold State.unbound
  rw [hd, hs, hc, hv]
  rfl

theorem State.endProgram_clips (s : State) (p : ProgId) (why : EndReason) : (s.endProgram p why).clips.gist = s.clips.gist := by
  rw [State.endProgram_eq, State.slotProgramEnded_clips, State.unbound_clips]

theorem State.slotProgramEnded_cue (s : State) (p : ProgId) : (s.slotProgramEnded p).cue = s.cue := by
  have hw (k : Fin 2) : (s.closeWindow k).cue = s.cue := by
    unfold State.closeWindow; simp only; (repeat' split) <;> rfl
  unfold State.slotProgramEnded
  repeat' split
  any_goals rfl
  exact hw _

/-- The cue engine of a program's end: the route slot that the program was opened through has lost it (R172). -/
theorem State.endProgram_cue (s : State) (p : ProgId) (why : EndReason) : (s.endProgram p why).cue =
    match s.progs[p].routeSlot with
    | none => s.cue
    | some k => s.cue.onRoute k fun r => r.drop p := by
  have hc (v : State) : (v.releaseProgChan p).cue = v.cue := by
    unfold State.releaseProgChan; (repeat' split) <;> rfl
  have hs (v : State) : (v.releaseStation p).cue = v.cue := by unfold State.releaseStation; split <;> rfl
  have hv (v : State) : (v.releaseVoice p).cue = v.cue := by unfold State.releaseVoice; split <;> rfl
  have hr (v : State) : (v.dropRoute p).cue = match v.progs[p].routeSlot with
      | none => v.cue
      | some k => v.cue.onRoute k fun r => r.drop p := by
    unfold State.dropRoute
    cases v.progs[p].routeSlot <;> rfl
  have hp : ((((s.struck p why).releaseVoice p).releaseProgChan p).releaseStation p).progs = (s.struck p why).progs := by
    have := congrArg State.progs (((s.struck p why).releaseVoice p).releaseProgChan p |>.releaseStation_books p)
    have h2 := congrArg State.progs (((s.struck p why).releaseVoice p).releaseProgChan_books p)
    have h3 := congrArg State.progs ((s.struck p why).releaseVoice_books p)
    exact this.trans (h2.trans h3)
  rw [State.endProgram_eq, State.slotProgramEnded_cue]
  unfold State.unbound
  rw [hr, hp, hs, hc, hv]
  have : (s.struck p why).progs[p].routeSlot = s.progs[p].routeSlot :=
    (congrArg Program.routeSlot (getElem_adjust_self s.progs p fun g => g.finished why) :)
  rw [this]
  rfl

theorem State.releaseProgChan_chan (s : State) (p : ProgId) (ch : ChanId) : (s.releaseProgChan p).chans[ch] =
    if s.progs[p].chan = some ch ∧ s.chans[ch].user = some (.prog p) then
      { s.chans[ch].stopped with user := none, clip := none } else s.chans[ch] := by
  unfold State.releaseProgChan
  rw [show (s.progs[p].clipPart.bind fun c => c.channel) = s.progs[p].chan from rfl]
  cases hc : s.progs[p].chan with
  | none => rw [if_neg (by simp)]
  | some c =>
    by_cases e : c = ch
    · subst e
      by_cases hu : s.chans[c].user = some (.prog p)
      · rw [if_pos ⟨rfl, hu⟩]
        simp only [hu, if_true, State.releaseChan_chan]
      · rw [if_neg fun h => hu h.2]
        simp only [hu, if_false]
    · rw [if_neg fun h => e (Option.some.inj h.1)]
      by_cases hu : s.chans[c].user = some (.prog p)
      · simp only [hu, if_true, State.releaseChan_chan, e, if_false]
      · simp only [hu, if_false]

theorem State.unbound_channel (s : State) (p : ProgId) (why : EndReason) (ch : ChanId) : (s.unbound p why).chans[ch] =
    if s.progs[p].chan = some ch ∧ s.chans[ch].user = some (.prog p) then
      { s.chans[ch].stopped with user := none, clip := none } else s.chans[ch] := by
  have hd (v : State) : (v.dropRoute p).chans = v.chans := by unfold State.dropRoute; split <;> rfl
  have hs (v : State) : (v.releaseStation p).chans = v.chans := by unfold State.releaseStation; split <;> rfl
  have hv : ((s.struck p why).releaseVoice p).chans = s.chans := by unfold State.releaseVoice; split <;> rfl
  have hp : ((s.struck p why).releaseVoice p).progs[p].chan = s.progs[p].chan := by
    have h1 : ((s.struck p why).releaseVoice p).progs = (s.struck p why).progs :=
      (congrArg State.progs ((s.struck p why).releaseVoice_books p) :)
    rw [h1]
    exact (congrArg Program.chan (getElem_adjust_self s.progs p fun g => g.finished why) :)
  unfold State.unbound
  simp only [hd, hs, State.releaseProgChan_chan, hv, hp]

/-- A program's end releases the channel that serves it, and that of its slot's window; no other channel's user or clip
changes (R52, R84). -/
theorem State.endProgram_channel (s : State) (p : ProgId) (why : EndReason) (ch : ChanId) :
    (s.endProgram p why).chans[ch].binding = if (s.progs[p].chan = some ch ∧ s.chans[ch].user = some (.prog p)) ∨
      (∃ k, p = progOfSlot k ∧ s.slots[k].state ≠ .idle ∧ (s.slots[k].window.bind fun w => w.source.channel) = some ch) then
      Channel.reset none else s.chans[ch].binding := by
  rw [State.endProgram_eq]
  have hu := s.unbound_channel p why ch
  have key : (s.unbound p why).chans[ch].binding =
      if s.progs[p].chan = some ch ∧ s.chans[ch].user = some (.prog p) then Channel.reset none else s.chans[ch].binding := by
    rw [hu]; split <;> rfl
  by_cases hp : ∃ k, p = progOfSlot k ∧ s.slots[k].state ≠ .idle
  · obtain ⟨k, rfl, hk⟩ := hp
    have hk' : (s.unbound (progOfSlot k) why).slots[k].state ≠ .idle := by rw [State.unbound_slots]; exact hk
    have hex : (∃ j, progOfSlot k = progOfSlot j ∧ s.slots[j].state ≠ .idle ∧
        (s.slots[j].window.bind fun w => w.source.channel) = some ch) ↔
        (s.slots[k].window.bind fun w => w.source.channel) = some ch := by
      refine ⟨fun ⟨j, hj, _, h⟩ => ?_, fun h => ⟨k, rfl, hk, h⟩⟩
      rwa [progOfSlot_injective hj]
    rw [State.slotProgramEnded_slot, if_neg hk', State.idleSlot_chan, State.unbound_slots]
    simp only [hex]
    by_cases hw : (s.slots[k].window.bind fun w => w.source.channel) = some ch
    · rw [if_pos hw, if_pos (Or.inr hw)]; rfl
    · rw [if_neg hw, key]; simp only [hw, or_false]
  · have hsame : (s.unbound p why).slotProgramEnded p = s.unbound p why := by
      by_cases hq : ∃ k, p = progOfSlot k
      · obtain ⟨k, rfl⟩ := hq
        have hk : s.slots[k].state = .idle := by
          by_contra h; exact hp ⟨k, rfl, h⟩
        rw [State.slotProgramEnded_slot, if_pos (by rw [State.unbound_slots]; exact hk)]
      · exact State.slotProgramEnded_of_ne fun k e => hq ⟨k, e⟩
    rw [hsame, key]
    have : ¬∃ k, p = progOfSlot k ∧ s.slots[k].state ≠ .idle ∧
        (s.slots[k].window.bind fun w => w.source.channel) = some ch := fun ⟨k, e, h, _⟩ => hp ⟨k, e, h⟩
    simp only [this, or_false]

/-- The slot and the generator of an alarm's program that ends are idle; the others stay (R84). -/
theorem State.endProgram_slot (s : State) (p : ProgId) (why : EndReason) (k : Fin 2) :
    if p = progOfSlot k ∧ s.slots[k].state ≠ .idle then
      (s.endProgram p why).slots[k] = AlarmSlot.idle ∧ (s.endProgram p why).tone[k] = Player.stopped
    else (s.endProgram p why).slots[k] = s.slots[k] ∧ (s.endProgram p why).tone[k] = s.tone[k] := by
  split
  · next h =>
    obtain ⟨rfl, hk⟩ := h
    rw [State.endProgram_of_slot hk, State.idleSlot_slot, State.idleSlot_tone, if_pos rfl, if_pos rfl]
    exact ⟨rfl, rfl⟩
  · next h =>
    by_cases hp : p = progOfSlot k
    · subst hp
      have hk : s.slots[k].state = .idle := by
        by_contra hne; exact h ⟨rfl, hne⟩
      rw [State.endProgram_eq, State.slotProgramEnded_slot, if_pos (by rw [State.unbound_slots]; exact hk), State.unbound_slots,
        State.unbound_tone]
      exact ⟨rfl, rfl⟩
    · exact State.endProgram_aside hp why

theorem State.endProgram_far (s : State) (p : ProgId) (why : EndReason) :
    (s.endProgram p why).calls = s.calls ∧ (s.endProgram p why).callEnds = s.callEnds ∧
    (s.endProgram p why).patterns = s.patterns ∧ (s.endProgram p why).ring = s.ring ∧
    (s.endProgram p why).resetLeft = s.resetLeft := by
  have h := s.endProgram_books p why
  exact ⟨(congrArg State.calls h :), (congrArg State.callEnds h :), (congrArg State.patterns h :), (congrArg State.ring h :),
    (congrArg State.resetLeft h :)⟩

end Ends

end Sys2Proof.Machine
end

section
namespace Sys2Proof.Machine

/-! ### A program's end keeps the laws of the blocks -/

section Ends
variable {loose opening : Fin 2 → Prop} {s : State} {p : ProgId}

theorem State.endProgram_isOpen (s : State) (p q : ProgId) (why : EndReason) :
    (s.endProgram p why).progs[q].isOpen = if q = p then false else s.progs[q].isOpen := by
  split
  · next e => subst e; rw [State.endProgram_self]; rfl
  · next e => rw [State.endProgram_other s e]

/-- What a record says but for its claims, timers, state, reason and gain outlives its program. -/
theorem State.endProgram_kept (s : State) (p q : ProgId) (why : EndReason) :
    (s.endProgram p why).progs[q].kind = s.progs[q].kind ∧ (s.endProgram p why).progs[q].policy = s.progs[q].policy ∧
    (s.endProgram p why).progs[q].routeSlot = s.progs[q].routeSlot ∧ (s.endProgram p why).progs[q].chan = s.progs[q].chan ∧
    (s.endProgram p why).progs[q].station = s.progs[q].station := by
  by_cases e : q = p
  · subst e; rw [State.endProgram_self]; exact ⟨rfl, rfl, rfl, rfl, rfl⟩
  · rw [State.endProgram_other s e]; exact ⟨rfl, rfl, rfl, rfl, rfl⟩

theorem State.endProgram_orders (h : s.ordersLawful = true) (hp : s.progs[p].isOpen = true) (why : EndReason) :
    (s.endProgram p why).ordersLawful = true := by
  obtain ⟨ho, he, hc, hl, hx⟩ := s.orders_iff.mp h
  obtain ⟨hcalls, hends, -⟩ := s.endProgram_far p why
  obtain ⟨hfree, hended⟩ := (Program.isOpen_iff _).mp hp
  refine (State.orders_iff _).mpr ⟨by rwa [State.endProgram_openOrder], ?_, by rwa [hends], fun q => ?_, fun x => ?_⟩
  · rw [State.endProgram_endOrder]
    exact he.append (List.nodup_singleton p) (List.disjoint_singleton.mpr fun hm => hended ((hl p).2.mp hm))
  · rw [State.endProgram_openOrder, State.endProgram_endOrder]
    by_cases e : q = p
    · subst e
      rw [State.endProgram_self]
      exact ⟨⟨fun _ => (nomatch ·), fun _ => (hl q).1.mpr hfree⟩, ⟨fun _ => rfl, fun _ => by simp⟩⟩
    · rw [State.endProgram_other s e, List.mem_append, List.mem_singleton]
      exact ⟨(hl q).1, by rw [or_iff_left e]; exact (hl q).2⟩
  · rw [hcalls, hends]; exact hx x

theorem State.endProgram_slots (h : s.Blocks loose opening) (p : ProgId) (why : EndReason) (k : Fin 2) :
    (s.endProgram p why).slotLawful k = true ∧ (¬loose k → (s.endProgram p why).toneFollows k = true) ∧
    (¬loose k → (s.endProgram p why).slots[k].windowLawful = true) ∧
    ((s.endProgram p why).slots[k].state ≠ .idle → (s.endProgram p why).progs[progOfSlot k].isOpen = true) ∧
    (¬opening k → (s.endProgram p why).slots[k].state = .idle → (s.endProgram p why).progs[progOfSlot k].isOpen = false) := by
  obtain ⟨hkind, hpol, -⟩ := s.endProgram_kept p (progOfSlot k) why
  obtain ⟨hl, hpat⟩ := (s.slotLawful_iff k).mp (h.slots k)
  have hop := s.endProgram_isOpen p (progOfSlot k) why
  have hslot := s.endProgram_slot p why k
  have hrole : (s.endProgram p why).progs[progOfSlot k].isOpen = true →
      (s.endProgram p why).progs[progOfSlot k].kind = .alarm ∧
      (s.endProgram p why).progs[progOfSlot k].policy = .takeAvailable := fun ho => by
    rw [hkind, hpol]
    refine hl ?_
    rw [hop] at ho
    split at ho
    · cases ho
    · exact ho
  split at hslot
  · next hc =>
    obtain ⟨hs, ht⟩ := hslot
    refine ⟨(State.slotLawful_iff _ k).mpr ⟨hrole, fun hn => absurd (by rw [hs]; rfl) hn⟩, fun _ => ?_, fun _ => ?_,
      fun hn => absurd (by rw [hs]; rfl) hn, fun _ _ => by rw [hop, if_pos hc.1.symm]⟩
    · unfold State.toneFollows; rw [hs, ht]; rfl
    · rw [hs]; rfl
  · next hc =>
    obtain ⟨hs, ht⟩ := hslot
    rw [hs]
    refine ⟨(State.slotLawful_iff _ k).mpr ⟨hrole, by rw [hs]; exact hpat⟩, fun hk => ?_, h.windows k, fun hn => ?_, fun ho hi => ?_⟩
    · unfold State.toneFollows; rw [hs, ht]; exact h.tones k hk
    · rw [hop, if_neg fun e => hc ⟨e.symm, hn⟩]; exact h.sounds k hn
    · rw [hop]
      split
      · rfl
      · exact h.idles k ho hi

/-! The intercom's laws (R103, R146, R147, R149, R150). -/

structure State.Intercom (s : State) : Prop where
  free : ∀ a : StationId, s.stations[a].current = none →
    s.stations[a].state = .idle ∨ s.stations[a].state = .talkout ∨ s.stations[a].state = .disabled
  current : ∀ (a : StationId) (x : CallId), s.stations[a].current = some x → s.calls[x].live = true ∧
    ∃ q, s.calls[x].party a = some q ∧ q.state ≠ .suspended ∧ q.state.stationState = s.stations[a].state
  suspended : ∀ (a : StationId) (y : CallId), s.stations[a].suspended = some y → s.calls[y].live = true ∧
    (∃ q, s.calls[y].party a = some q ∧ q.state = .suspended) ∧ s.calls[y].priority ≠ .emergency ∧
    ∃ x, s.stations[a].current = some x ∧ s.calls[x].priority = .emergency
  calls : ∀ x : CallId, s.calls[x].lawful = true
  parties : ∀ x : CallId, s.calls[x].live = true → ∀ q ∈ s.calls[x].parties,
    if q.state = .suspended then s.stations[q.station].suspended = some x else s.stations[q.station].current = some x
  ring : s.ring.cond = if s.ringingStations = 0 then .stopped else .running

theorem State.intercom_iff (s : State) : s.intercomLawful = true ↔ s.Intercom := by
  have hst (a : StationId) : s.stationAgrees a = true ↔
      (s.stations[a].current = none →
        s.stations[a].state = .idle ∨ s.stations[a].state = .talkout ∨ s.stations[a].state = .disabled) ∧
      (∀ x, s.stations[a].current = some x → s.calls[x].live = true ∧
        ∃ q, s.calls[x].party a = some q ∧ q.state ≠ .suspended ∧ q.state.stationState = s.stations[a].state) ∧
      (∀ y, s.stations[a].suspended = some y → s.calls[y].live = true ∧
        (∃ q, s.calls[y].party a = some q ∧ q.state = .suspended) ∧ s.calls[y].priority ≠ .emergency ∧
        ∃ x, s.stations[a].current = some x ∧ s.calls[x].priority = .emergency) := by
    unfold State.stationAgrees
    simp only
    generalize s.stations[a] = r
    rcases r with ⟨st, -, -, -, cur, sus⟩
    cases cur <;> cases sus <;> simp [and_assoc, or_assoc, Option.any_eq_true]
  have hp (x : CallId) : s.partiesAgree x = true ↔ (s.calls[x].live = true → ∀ q ∈ s.calls[x].parties,
      if q.state = .suspended then s.stations[q.station].suspended = some x else s.stations[q.station].current = some x) := by
    unfold State.partiesAgree
    cases s.calls[x].live
    · simp
    · simp only [Bool.not_true, Bool.false_or, List.all_eq_true, true_imp_iff]
      refine forall₂_congr fun q _ => ?_
      split <;> exact beq_iff_eq
  simp only [State.intercomLawful, Bool.and_eq_true, List.all_eq_true, List.mem_finRange, true_imp_iff, hst, hp, beq_iff_eq]
  exact ⟨fun ⟨⟨ha, hx⟩, hr⟩ => ⟨fun a => (ha a).1, fun a => (ha a).2.1, fun a => (ha a).2.2, fun x => (hx x).1, fun x => (hx x).2, hr⟩,
    fun h => ⟨⟨fun a => ⟨h.free a, h.current a, h.suspended a⟩, fun x => ⟨h.calls x, h.parties x⟩⟩, h.ring⟩⟩

theorem State.Intercom.current_of_free (h : s.Intercom) {a : StationId}
    (hs : s.stations[a].state = .talkout ∨ s.stations[a].state = .idle ∨ s.stations[a].state = .disabled) :
    s.stations[a].current = none := by
  cases hc : s.stations[a].current with
  | none => rfl
  | some x =>
    obtain ⟨-, q, -, hq, he⟩ := h.current a x hc
    exfalso
    rcases hs with hs | hs | hs <;> rw [hs] at he <;> cases hqs : q.state <;> rw [hqs] at he hq <;>
      simp [PartyState.stationState] at he hq

/-- A station that moves between IDLE, TALKOUT and DISABLED is all the same to the intercom's calls. -/
theorem State.Intercom.moved {u : State} (h : s.Intercom) (hc : u.calls = s.calls) (hr : u.ring = s.ring)
    (hcur : ∀ a : StationId, u.stations[a].current = s.stations[a].current ∧ u.stations[a].suspended = s.stations[a].suspended)
    (hst : ∀ a : StationId, u.stations[a].state = s.stations[a].state ∨
      (s.stations[a].current = none ∧
        (u.stations[a].state = .idle ∨ u.stations[a].state = .talkout ∨ u.stations[a].state = .disabled))) :
    u.Intercom where
  free a ha := by
    rcases hst a with e | ⟨-, e⟩
    · rw [e]; exact h.free a ((hcur a).1.symm.trans ha)
    · exact e
  current a x ha := by
    rw [hc]
    have hx := (hcur a).1.symm.trans ha
    rcases hst a with e | ⟨e, -⟩
    · rw [e]; exact h.current a x hx
    · rw [e] at hx; cases hx
  suspended a y ha := by
    rw [hc, (hcur a).1]
    exact h.suspended a y ((hcur a).2.symm.trans ha)
  calls x := by rw [hc]; exact h.calls x
  parties x := by
    rw [hc]
    intro hx q hq
    have := h.parties x hx q hq
    rw [(hcur q.station).1, (hcur q.station).2]
    exact this
  ring := by
    have hn : u.ringingStations = s.ringingStations := by
      unfold State.ringingStations
      refine List.countP_congr fun a _ => ?_
      rcases hst a with e | ⟨e, hu⟩
      · rw [e]
      · have key {st : StationState} (hs : st = .idle ∨ st = .talkout ∨ st = .disabled) :
            (st == .ringing || st == .calling) = false := by
          rcases hs with rfl | rfl | rfl <;> rfl
        rw [key hu, key (h.free a e)]
    rw [hn, hr]; exact h.ring

end Ends

end Sys2Proof.Machine
end

section
namespace Sys2Proof.Machine

/-- One member less to count. -/
theorem countP_without {α : Type} [DecidableEq α] {l : List α} (hl : l.Nodup) {p : α} (hp : p ∈ l) (f : α → Bool) :
    l.countP (fun q => if q = p then false else f q) + (if f p then 1 else 0) = l.countP f := by
  induction l with
  | nil => cases hp
  | cons a l ih =>
    obtain ⟨ha, hl⟩ := List.nodup_cons.mp hl
    rw [List.countP_cons, List.countP_cons]
    by_cases e : a = p
    · subst e
      have hsame : l.countP (fun q => if q = a then false else f q) = l.countP f :=
        List.countP_congr fun q hq => by rw [if_neg fun (e : q = a) => ha (e ▸ hq)]
      rw [hsame, if_pos rfl]
      simp
    · have := ih hl ((List.mem_cons.mp hp).resolve_left fun e' => e e'.symm)
      rw [if_neg e]
      omega

section Ends
variable {loose opening : Fin 2 → Prop} {s u : State} {p : ProgId}

theorem State.endProgram_callouts (h : s.calloutsLawful = true) (hp : s.progs[p].isOpen = true) (why : EndReason) :
    (s.endProgram p why).calloutsLawful = true := by
  obtain ⟨hc, hk⟩ := s.callouts_iff.mp h
  refine (State.callouts_iff _).mpr ⟨fun a => ?_, fun q ho hq => ?_⟩
  · have hcount := countP_without (List.nodup_finRange 32) (List.mem_finRange p)
      fun q => s.progs[q].isOpen && s.progs[q].station == some a
    have hnew : (fun q : ProgId => (s.endProgram p why).progs[q].isOpen && (s.endProgram p why).progs[q].station == some a) =
        fun q => if q = p then false else s.progs[q].isOpen && s.progs[q].station == some a := by
      funext q
      rw [State.endProgram_isOpen, (s.endProgram_kept p q why).2.2.2.2]
      split <;> rfl
    have hst : (s.endProgram p why).stations[a].state =
        if s.progs[p].station = some a ∧ s.stations[a].state = .talkout then .idle else s.stations[a].state := by
      rw [State.endProgram_station]; split <;> rfl
    rw [hnew, hst]
    rw [hc a, hp, Bool.true_and] at hcount
    by_cases hs : s.progs[p].station = some a
    · simp only [hs, beq_self_eq_true, if_true] at hcount
      by_cases ht : s.stations[a].state = .talkout
      · simp only [hs, ht, and_self, if_true, reduceCtorEq, if_false] at hcount ⊢
        exact Nat.succ.inj hcount
      · rw [if_neg ht] at hcount
        omega
    · have hb : (s.progs[p].station == some a) = false := beq_eq_false_iff_ne.mpr hs
      simp only [hb, Bool.false_eq_true, if_false, Nat.add_zero] at hcount
      rw [hcount, if_neg fun e : s.progs[p].station = some a ∧ _ => hs e.1]
  · rw [State.endProgram_isOpen] at ho
    split at ho
    · cases ho
    · rw [(s.endProgram_kept p q why).1] at hq
      rw [(s.endProgram_kept p q why).2.2.2.2]
      exact hk q ho hq

theorem State.endProgram_intercom (h : s.intercomLawful = true) (p : ProgId) (why : EndReason) :
    (s.endProgram p why).intercomLawful = true := by
  have hi := s.intercom_iff.mp h
  obtain ⟨hc, -, -, hr, -⟩ := s.endProgram_far p why
  refine (State.intercom_iff _).mpr (hi.moved hc hr (fun a => ?_) fun a => ?_)
  · rw [State.endProgram_station]; split <;> exact ⟨rfl, rfl⟩
  · rw [State.endProgram_station]
    split
    · next e => exact Or.inr ⟨hi.current_of_free (Or.inl e.2), Or.inl rfl⟩
    · exact Or.inl rfl

theorem State.endProgram_dir (s : State) (p : ProgId) (why : EndReason) :
    (s.endProgram p why).clips.dir = s.clips.dir := (congrArg ClipEngine.dir (s.endProgram_clips p why) :)

theorem State.resetLawful_congr (hr : u.resetLeft = s.resetLeft) (hc : u.clips.gist = s.clips.gist) :
    u.resetLawful = s.resetLawful := by
  have hd : u.clips.dir = s.clips.dir := (congrArg ClipEngine.dir hc :)
  have hs : u.clips.scan.isNone = s.clips.scan.isNone := by
    have := congrArg (fun c : ClipEngine => c.scan.isNone) hc
    simpa [ClipEngine.gist] using this
  unfold State.resetLawful
  rw [hr, hd, hs]

theorem ClipEngine.laws_congr {c d : ClipEngine} (h : c.gist = d.gist) :
    c.rangesApart = d.rangesApart ∧ c.entriesLawful = d.entriesLawful := by
  have hd : c.dir = d.dir := (congrArg ClipEngine.dir h :)
  refine ⟨?_, by rw [← ClipEngine.gist_entries, h, ClipEngine.gist_entries]⟩
  unfold ClipEngine.rangesApart ClipEngine.ranges
  rw [hd]

theorem Channel.user_of_binding {c d : Channel} (h : c.binding = d.binding) : c.user = d.user ∧ c.clip = d.clip :=
  ⟨(congrArg Channel.user h :), (congrArg Channel.clip h :)⟩

/-- A channel after a program's end: released, when it served that program or the window of its slot, or bound as before. -/
theorem State.endProgram_binding (s : State) (p : ProgId) (why : EndReason) (ch : ChanId) :
    ((s.endProgram p why).chans[ch].user = none ∧ (s.endProgram p why).chans[ch].clip = none ∧
      ((s.progs[p].chan = some ch ∧ s.chans[ch].user = some (.prog p)) ∨
        ∃ k, p = progOfSlot k ∧ s.slots[k].state ≠ .idle ∧ (s.slots[k].window.bind fun w => w.source.channel) = some ch)) ∨
    ((s.endProgram p why).chans[ch].user = s.chans[ch].user ∧ (s.endProgram p why).chans[ch].clip = s.chans[ch].clip ∧
      ¬(s.progs[p].chan = some ch ∧ s.chans[ch].user = some (.prog p)) ∧
      ¬∃ k, p = progOfSlot k ∧ s.slots[k].state ≠ .idle ∧ (s.slots[k].window.bind fun w => w.source.channel) = some ch) := by
  have h := s.endProgram_channel p why ch
  split at h
  · next hc => exact Or.inl ⟨(congrArg Channel.user h :), (congrArg Channel.clip h :), hc⟩
  · next hc =>
    obtain ⟨hu, hcl⟩ := Channel.user_of_binding h
    exact Or.inr ⟨hu, hcl, not_or.mp hc⟩

theorem State.endProgram_ready (h : s.channelsReady = true) (p : ProgId) (why : EndReason) :
    (s.endProgram p why).channelsReady = true := by
  rw [State.ready_iff] at h ⊢
  intro ch id hid
  rw [State.endProgram_dir]
  rcases s.endProgram_binding p why ch with ⟨-, hc, -⟩ | ⟨-, hc, -⟩
  · rw [hc] at hid; cases hid
  · exact h ch id (hc ▸ hid)

/-- The window of a slot after a program's end: gone with its slot, or as it was. -/
theorem State.endProgram_windowOf (s : State) (p : ProgId) (why : EndReason) (k : Fin 2) :
    (p = progOfSlot k ∧ s.slots[k].state ≠ .idle ∧ (s.endProgram p why).slots[k] = AlarmSlot.idle) ∨
    (¬(p = progOfSlot k ∧ s.slots[k].state ≠ .idle) ∧ (s.endProgram p why).slots[k] = s.slots[k]) := by
  have h := s.endProgram_slot p why k
  split at h
  · next hc => exact Or.inl ⟨hc.1, hc.2, h.1⟩
  · next hc => exact Or.inr ⟨hc, h.1⟩

theorem State.endProgram_users (h : s.Users) (p : ProgId) (why : EndReason) :
    (s.endProgram p why).Users := by
  have hkept (q : ProgId) := s.endProgram_kept p q why
  have hopen (q : ProgId) := s.endProgram_isOpen p q why
  refine ⟨fun q ch ho hc => ?_, fun k ch hc => ?_, fun ch hu => ?_, fun ch q hu => ?_, fun ch k hu => ?_, fun ch hu => ?_⟩
  · rw [(hkept q).2.2.2.1] at hc
    rw [hopen] at ho
    split at ho
    · cases ho
    · next hne =>
      obtain ⟨h4, hu⟩ := h.clip q ch ho hc
      refine ⟨h4, ?_⟩
      rcases s.endProgram_binding p why ch with ⟨-, -, hb⟩ | ⟨e, -⟩
      · rcases hb with ⟨-, he⟩ | ⟨k, -, -, he⟩
        · rw [hu] at he; cases he; exact absurd rfl hne
        · rw [h.window k ch he] at hu; cases hu
      · rw [e]; exact hu
  · rcases s.endProgram_windowOf p why k with ⟨-, -, e⟩ | ⟨hn, e⟩
    · rw [e] at hc; cases hc
    · rw [e] at hc
      have hu := h.window k ch hc
      rcases s.endProgram_binding p why ch with ⟨-, -, hb⟩ | ⟨e, -⟩
      · rcases hb with ⟨-, he⟩ | ⟨j, hj, hi, he⟩
        · rw [hu] at he; cases he
        · have hu' := h.window j ch he
          rw [hu] at hu'
          cases hu'
          exact absurd ⟨hj, hi⟩ hn
      · rw [e]; exact hu
  · rcases s.endProgram_binding p why ch with ⟨-, -, hb⟩ | ⟨e, -⟩
    · rcases hb with ⟨-, he⟩ | ⟨k, -, -, he⟩
      · exact (h.prog ch p he).1
      · exact (h.slot ch k (h.window k ch he)).1
    · exact h.none ch (e ▸ hu)
  · rcases s.endProgram_binding p why ch with ⟨e, -⟩ | ⟨e, -, hn, -⟩
    · rw [e] at hu; cases hu
    · rw [e] at hu
      obtain ⟨h4, ho, hk, hc⟩ := h.prog ch q hu
      have hne : q ≠ p := fun eq => hn ⟨eq ▸ hc, eq ▸ hu⟩
      rw [hopen, if_neg hne, (hkept q).1, (hkept q).2.2.2.1]
      exact ⟨h4, ho, hk, hc⟩
  · rcases s.endProgram_binding p why ch with ⟨e, -⟩ | ⟨e, -, -, hn⟩
    · rw [e] at hu; cases hu
    · rw [e] at hu
      obtain ⟨h4, hw⟩ := h.slot ch k hu
      refine ⟨h4, ?_⟩
      rcases s.endProgram_windowOf p why k with ⟨hpk, hi, -⟩ | ⟨-, e⟩
      · exact absurd ⟨k, hpk, hi, hw⟩ hn
      · rw [e]; exact hw
  · rcases s.endProgram_binding p why ch with ⟨e, -⟩ | ⟨e, -⟩
    · rw [e] at hu; cases hu
    · exact h.cue ch (e ▸ hu)

theorem State.endProgram_route (s : State) (p : ProgId) (why : EndReason) (k : Fin 8) :
    (s.endProgram p why).cue.slots[k] = if s.progs[p].routeSlot = some k then s.cue.slots[k].drop p else s.cue.slots[k] := by
  rw [State.endProgram_cue]
  cases s.progs[p].routeSlot with
  | none => rfl
  | some j =>
    simp only [CueEngine.onRoute, Fin.getElem_fin, getElem_adjust_fin]
    by_cases e : j = k
    · rw [if_pos e, if_pos (congrArg some e)]
    · rw [if_neg e, if_neg fun h => e (Option.some.inj h)]

theorem State.endProgram_routes (h : s.routesLawful = true) (p : ProgId) (why : EndReason) :
    (s.endProgram p why).routesLawful = true := by
  rw [State.routes_iff] at h ⊢
  intro k
  have hkept (q : ProgId) := s.endProgram_kept p q why
  have key {q : ProgId} {kind : ProgKind} (hne : q ≠ p)
      (hq : s.progs[q].isOpen = true ∧ s.progs[q].routeSlot = some k ∧ s.progs[q].kind = kind) :
      (s.endProgram p why).progs[q].isOpen = true ∧ (s.endProgram p why).progs[q].routeSlot = some k ∧
        (s.endProgram p why).progs[q].kind = kind := by
    rw [State.endProgram_isOpen, if_neg hne, (hkept q).1, (hkept q).2.2.1]
    exact hq
  have hdrop {o : Option ProgId} {q : ProgId} (e : (if o = some p then none else o) = some q) : o = some q ∧ q ≠ p := by
    split at e
    · cases e
    · next hn => exact ⟨e, fun eq => hn (eq ▸ e)⟩
  rw [State.endProgram_route]
  split
  · refine ⟨fun q hq => ?_, fun q hq => ?_⟩
    · obtain ⟨e, hne⟩ := hdrop hq; exact key hne ((h k).1 q e)
    · obtain ⟨e, hne⟩ := hdrop hq; exact key hne ((h k).2 q e)
  · next hn =>
    refine ⟨fun q hq => ?_, fun q hq => ?_⟩
    · exact key (fun e => hn (e ▸ ((h k).1 q hq).2.1)) ((h k).1 q hq)
    · exact key (fun e => hn (e ▸ ((h k).2 q hq).2.1)) ((h k).2 q hq)

/-- A program's end keeps the laws of the blocks (R21, R52, R84, R116, R135, R172). -/
theorem State.Blocks.endProgram (h : s.Blocks loose opening) (hp : s.progs[p].isOpen = true) (why : EndReason) :
    (s.endProgram p why).Blocks loose opening where
  orders := State.endProgram_orders h.orders hp why
  slots k := (State.endProgram_slots h p why k).1
  tones k := (State.endProgram_slots h p why k).2.1
  windows k := (State.endProgram_slots h p why k).2.2.1
  sounds k := (State.endProgram_slots h p why k).2.2.2.1
  idles k := (State.endProgram_slots h p why k).2.2.2.2
  timers q hq := by
    by_cases e : q = p
    · subst e; rw [State.endProgram_self]; exact ⟨rfl, rfl⟩
    · rw [State.endProgram_other s e] at hq ⊢; exact h.timers q hq
  cadence := by
    obtain ⟨-, -, hpat, hring, -⟩ := s.endProgram_far p why
    have hc := h.cadence
    unfold State.cadenceLawful at hc ⊢
    rwa [hpat, hring]
  intercom := State.endProgram_intercom h.intercom p why
  callouts := State.endProgram_callouts h.callouts hp why
  reset := by
    rw [State.resetLawful_congr (s.endProgram_far p why).2.2.2.2 (s.endProgram_clips p why)]; exact h.reset
  ready := State.endProgram_ready h.ready p why
  users := (State.users_iff _).mpr (State.endProgram_users (s.users_iff.mp h.users) p why)
  ranges := by rw [(ClipEngine.laws_congr (s.endProgram_clips p why)).1]; exact h.ranges
  entries := by rw [(ClipEngine.laws_congr (s.endProgram_clips p why)).2]; exact h.entries
  routes := State.endProgram_routes h.routes p why

end Ends

end Sys2Proof.Machine
end

section
namespace Sys2Proof.Machine

/-! ### Gains in range (R65), law by law -/

structure State.Gains (s : State) : Prop where
  progs : ∀ p : ProgId, s.progs[p].gain.inRange = true
  zones : ∀ z : Zone, s.zones[z].gainsInRange = true
  stations : ∀ a : StationId, s.stations[a].receive ≤ unity ∧ s.stations[a].feed ≤ unity
  under : s.alarmUnder ≤ unity
  pilot : s.survey.pilotLevel ≤ unity
  patterns : ∀ k : PatId, s.patterns[k].levelsInRange = true

theorem State.gains_iff (s : State) : s.gainsInRange = true ↔ s.Gains := by
  simp only [State.gainsInRange, Bool.and_eq_true, List.all_eq_true, List.mem_finRange, true_imp_iff, decide_eq_true_eq]
  exact ⟨fun ⟨⟨⟨⟨⟨hp, hz⟩, ha⟩, hu⟩, hv⟩, hk⟩ => ⟨hp, hz, ha, hu, hv, hk⟩,
    fun h => ⟨⟨⟨⟨⟨h.progs, h.zones⟩, h.stations⟩, h.under⟩, h.pilot⟩, h.patterns⟩⟩

/-! ### The survey's flags (R189, R191)

The law of the survey but for the class of the zone's owner, which the end of a claim manager's operation sees to. -/

structure State.Flags (s : State) : Prop where
  flagged : ∀ z : Zone, s.zones[z].underSurvey = (s.survey.zone == some z)
  zone : s.survey.zone.isSome = (s.survey.state != .idle)
  pilot : s.survey.pgRunning = (s.survey.state != .idle)
  queue : (s.survey.queue.map (·.zone)).Nodup
  unqueued : ∀ z, s.survey.zone = some z → ∀ e ∈ s.survey.queue, e.zone ≠ z
  idle : s.survey.state = .idle → s.survey.queue = []

theorem State.survey_iff (s : State) : s.surveyLawful = true ↔ s.Flags ∧ s.surveyClear = true := by
  simp only [State.surveyLawful, Bool.and_eq_true, List.all_eq_true, List.mem_finRange, true_imp_iff, beq_iff_eq,
    decide_eq_true_eq, Bool.or_eq_true, bne_iff_ne, List.isEmpty_iff]
  have hq : (s.survey.zone.all fun z => !(s.survey.queue.any fun e => e.zone == z)) = true ↔
      ∀ z, s.survey.zone = some z → ∀ e ∈ s.survey.queue, e.zone ≠ z := by
    simp only [Option.all_eq_true, Bool.not_eq_true', List.any_eq_false, beq_iff_eq]
  have hi : (s.survey.state ≠ .idle ∨ s.survey.queue = []) ↔ (s.survey.state = .idle → s.survey.queue = []) := by
    rw [imp_iff_not_or]
  rw [hq, hi]
  exact ⟨fun ⟨⟨⟨⟨⟨⟨hf, hz⟩, hp⟩, hc⟩, hn⟩, hu⟩, he⟩ => ⟨⟨hf, hz, hp, hn, hu, he⟩, hc⟩,
    fun ⟨h, hc⟩ => ⟨⟨⟨⟨⟨⟨h.flagged, h.zone⟩, h.pilot⟩, hc⟩, h.queue⟩, h.unqueued⟩, h.idle⟩⟩

section Congruence
variable {s u : State}

theorem State.Gains.congr (h : s.Gains) (hp : ∀ p : ProgId, u.progs[p].gain = s.progs[p].gain)
    (hz : ∀ z : Zone, u.zones[z].master = s.zones[z].master ∧ u.zones[z].duck = s.zones[z].duck ∧
      u.zones[z].emergency = s.zones[z].emergency ∧ u.zones[z].duckLevel = s.zones[z].duckLevel)
    (ha : ∀ a : StationId, u.stations[a].receive = s.stations[a].receive ∧ u.stations[a].feed = s.stations[a].feed)
    (hu : u.alarmUnder = s.alarmUnder) (hv : u.survey.pilotLevel = s.survey.pilotLevel) (hk : u.patterns = s.patterns) :
    u.Gains where
  progs p := by rw [hp]; exact h.progs p
  zones z := by
    obtain ⟨h1, h2, h3, h4⟩ := hz z
    have := h.zones z
    unfold ZoneRec.gainsInRange at this ⊢
    rwa [h1, h2, h3, h4]
  stations a := by rw [(ha a).1, (ha a).2]; exact h.stations a
  under := by rw [hu]; exact h.under
  pilot := by rw [hv]; exact h.pilot
  patterns k := by rw [hk]; exact h.patterns k

theorem State.Flags.congr (h : s.Flags) (hz : ∀ z : Zone, u.zones[z].underSurvey = s.zones[z].underSurvey)
    (hv : u.survey.zone = s.survey.zone ∧ u.survey.state = s.survey.state ∧ u.survey.pgRunning = s.survey.pgRunning ∧
      u.survey.queue = s.survey.queue) : u.Flags := by
  obtain ⟨h1, h2, h3, h4⟩ := hv
  exact ⟨fun z => by rw [hz, h1]; exact h.flagged z, by rw [h1, h2]; exact h.zone, by rw [h3, h2]; exact h.pilot,
    by rw [h4]; exact h.queue, by rw [h1, h4]; exact h.unqueued, by rw [h2, h4]; exact h.idle⟩

end Congruence

/-! ### What a takeover does to the cue engine (R181) -/

/-- The cue engine at a report of a takeover. -/
def CueEngine.taken (c : CueEngine) : CueEngine :=
  match c.state with
  | .standby | .following | .finished =>
    { c with state := .held, ret := some c.state, countdown := c.countdown.map fun d => { d with frozen := true } }
  | .priming => { c with holdPending := true }
  | .held | .empty => c

theorem CueEngine.taken_taken (c : CueEngine) : c.taken.taken = c.taken := by
  obtain ⟨cues, slots, state⟩ := c
  cases state <;> rfl

theorem CueEngine.taken_of_priming {c : CueEngine} (h : c.state = .priming) : c.taken = { c with holdPending := true } := by
  unfold CueEngine.taken; rw [h]

theorem CueEngine.taken_of_held {c : CueEngine} (h : c.state = .standby ∨ c.state = .following ∨ c.state = .finished) :
    c.taken = { c with
      state := .held, ret := some c.state, countdown := c.countdown.map fun d => { d with frozen := true } } := by
  unfold CueEngine.taken; rcases h with h | h | h <;> rw [h]

theorem CueEngine.taken_of_rest {c : CueEngine} (h : c.state = .held ∨ c.state = .empty) : c.taken = c := by
  unfold CueEngine.taken; rcases h with h | h <;> rw [h]

/-- The cue engine has taken no report of a takeover, or some: a second one finds it as the first has left it. -/
def State.CueTaken (s u : State) : Prop := u.cue = s.cue ∨ u.cue = s.cue.taken

section Taking
variable {s t u : State} {p : ProgId} {z : Zone} {quiet : Bool}

theorem State.CueTaken.of_cue (h : u.cue = s.cue) : State.CueTaken s u := Or.inl h

theorem State.CueTaken.trans (h : State.CueTaken s t) (k : State.CueTaken t u) : State.CueTaken s u := by
  rcases h with h | h <;> rcases k with k | k
  · exact Or.inl (k.trans h)
  · exact Or.inr (by rw [k, h])
  · exact Or.inr (k.trans h)
  · exact Or.inr (by rw [k, h, CueEngine.taken_taken])

theorem foldl_cueTaken {α : Type} {f : State → α → State} (h : ∀ s a, State.CueTaken s (f s a)) (l : List α) (s : State) :
    State.CueTaken s (l.foldl f s) := by
  induction l generalizing s with
  | nil => exact Or.inl rfl
  | cons a l ih => exact (h s a).trans (ih _)

theorem State.reportTakeover_cue (s : State) (quiet : Bool) : (s.reportTakeover quiet).cue = s.cue.taken := by
  unfold State.reportTakeover
  cases h : s.cue.state with
  | standby | following | finished =>
    refine Eq.trans ?_ (CueEngine.taken_of_held (by simp [h])).symm
    rw [h]; cases quiet <;> rfl
  | priming => exact (CueEngine.taken_of_priming h).symm
  | held | empty => exact (CueEngine.taken_of_rest (by simp [h])).symm

theorem State.CueTaken.evict (s : State) (z : Zone) : State.CueTaken s (s.evict z) := by
  unfold State.evict; split <;> exact Or.inl rfl

theorem State.CueTaken.displace (s : State) (o : ProgId) (z : Zone) : State.CueTaken s (s.displace o z) := by
  unfold State.displace
  split
  · refine State.CueTaken.trans (t := if (s.zones[z].evicted).isSome then s.evict z else s) ?_ (Or.inl rfl)
    split
    · exact .evict s z
    · exact Or.inl rfl
  · exact Or.inl rfl

theorem State.CueTaken.takeForeground (s : State) (quiet : Bool) (p : ProgId) (z : Zone) :
    State.CueTaken s (s.takeForeground quiet p z) := by
  unfold State.takeForeground
  split
  · exact Or.inl rfl
  · next o _ =>
    have hown : State.CueTaken s ((s.displace o z).own p z) := (State.CueTaken.displace s o z).trans (Or.inl rfl)
    simp only
    split
    · exact hown.trans (Or.inr (State.reportTakeover_cue ..))
    · exact hown

theorem State.CueTaken.take (s : State) (quiet : Bool) (p : ProgId) (z : Zone) : State.CueTaken s (s.take quiet p z) := by
  unfold State.take
  split
  · exact Or.inl rfl
  · exact .takeForeground s quiet p z

theorem State.CueTaken.claimOne (s : State) (quiet : Bool) (p : ProgId) (z : Zone) : State.CueTaken s (s.claimOne quiet p z) := by
  unfold State.claimOne
  split
  · exact Or.inl rfl
  · split
    · exact .take s quiet p z
    · exact Or.inl rfl

theorem State.CueTaken.claimEach (s : State) (quiet : Bool) (p : ProgId) (zs : ZoneSet) :
    State.CueTaken s (s.claimEach quiet p zs) := foldl_cueTaken (fun s z => .claimOne s quiet p z) _ s

theorem State.CueTaken.takeAll (s : State) (quiet : Bool) (p : ProgId) (zs : ZoneSet) :
    State.CueTaken s (s.takeAll quiet p zs) :=
  State.CueTaken.trans (Or.inl rfl) (foldl_cueTaken (fun s z => .take s quiet p z) _ _)

theorem State.CueTaken.claimTogether (s : State) (quiet : Bool) (p : ProgId) (zs : ZoneSet) :
    State.CueTaken s (s.claimTogether quiet p zs) := by
  unfold State.claimTogether
  split
  · exact .takeAll s quiet p zs
  · exact Or.inl rfl

theorem State.CueTaken.claimMore (s : State) (quiet : Bool) (p : ProgId) (zs : ZoneSet) :
    State.CueTaken s (s.claimMore quiet p zs) := by
  unfold State.claimMore
  simp only
  split
  · exact .claimTogether ..
  · exact .claimEach ..

theorem State.CueTaken.grantWaiter (s : State) (quiet : Bool) (w : ProgId) (z : Zone) :
    State.CueTaken s (s.grantWaiter quiet w z) := by
  unfold State.grantWaiter
  split
  · exact .takeAll ..
  · exact Or.inl rfl

theorem State.CueTaken.popStack (s : State) (z : Zone) : State.CueTaken s (s.popStack z) := by
  unfold State.popStack; split <;> exact Or.inl rfl

theorem State.CueTaken.succeed (s : State) (quiet : Bool) (rs : ZoneSet) (z : Zone) :
    State.CueTaken s (s.succeed quiet rs z) := by
  unfold State.succeed
  split
  · exact Or.inl rfl
  · exact .grantWaiter ..
  · exact .popStack ..
  · split
    · exact .grantWaiter ..
    · exact .popStack ..

theorem State.CueTaken.fillBed (s : State) (quiet : Bool) (z : Zone) : State.CueTaken s (s.fillBed quiet z) := by
  unfold State.fillBed
  split
  · exact Or.inl rfl
  · split
    · exact .takeAll ..
    · exact Or.inl rfl

theorem State.CueTaken.releaseZone (s : State) (quiet : Bool) (rs beds : ZoneSet) (z : Zone) :
    State.CueTaken s (s.releaseZone quiet rs beds z) := by
  have hsucc : State.CueTaken s (if s.zones[z].owner.isNone then s.succeed quiet rs z else s) := by
    split
    · exact .succeed ..
    · exact Or.inl rfl
  unfold State.releaseZone
  generalize (if s.zones[z].owner.isNone then s.succeed quiet rs z else s) = t at hsucc
  simp only
  split
  · exact hsucc.trans (.fillBed ..)
  · exact hsucc

theorem State.CueTaken.releaseStep (s : State) (quiet : Bool) (fg beds : ZoneSet) :
    State.CueTaken s (s.releaseStep quiet fg beds) := foldl_cueTaken (fun s z => .releaseZone s quiet _ beds z) _ s

end Taking

/-! ### The laws of the parts but for the claim table

`K` is the law of the cue engine, which while a cue is executed is not that of the engine at rest. -/

/-- What the claim manager does to the cue engine keeps the law. -/
structure CueEngine.Stable (K : CueEngine → Prop) : Prop where
  taken : ∀ c, K c → K c.taken
  route : ∀ c k f, K c → K (c.onRoute k f)

/-- A wait timer runs only where there is a wait limit; a program in TAIL waits for nothing any more (R37). -/
def Program.Clocked (g : Program) : Prop := g.state ≠ .tail → g.waitTimer.isSome = true → g.waitLimit.isSome = true

structure State.Sound (K : CueEngine → Prop) (loose opening : Fin 2 → Prop) (s : State) : Prop where
  blocks : s.Blocks loose opening
  gains : s.Gains
  flags : s.Flags
  clocks : ∀ p : ProgId, s.progs[p].Clocked
  cue : K s.cue

section Sounds
variable {K : CueEngine → Prop} {loose opening : Fin 2 → Prop} {s t u : State} {p : ProgId}

theorem State.gist_beyond (s : State) : s.beyond.gist = s.gist := by
  unfold State.gist State.beyond
  simp only [remap_remap Program.face s.progs (f := fun _ g => g.bare) fun _ _ => rfl,
    remap_remap Channel.binding s.chans (f := fun _ c => c.binding) fun _ _ => rfl]
  rfl

theorem State.gist_of_beyond (h : u.beyond = s.beyond) : u.gist = s.gist := by
  rw [← State.gist_beyond, h, State.gist_beyond]

theorem State.gist_of_lasting (h : u.lasting = s.lasting) : u.gist = s.gist := (congrArg State.gist h :)

/-- Taking, granting and releasing zones keep every law but those of the table. -/
theorem State.Sound.of_beyond (h : s.Sound K loose opening) (hK : CueEngine.Stable K) (hb : u.beyond = s.beyond)
    (hc : State.CueTaken s u) : u.Sound K loose opening where
  blocks := h.blocks.congr (State.gist_of_beyond hb)
  gains := by
    have hz (z : Zone) := State.unclaimed_of_beyond hb z
    refine h.gains.congr (fun p => ?_) (fun z => ⟨?_, ?_, ?_, ?_⟩) (fun a => ?_) ?_ ?_ ?_
    · exact (congrArg (fun f => (f p).gain) (State.bare_of_beyond hb) :)
    · exact (congrArg ZoneRec.master (hz z) :)
    · exact (congrArg ZoneRec.duck (hz z) :)
    · exact (congrArg ZoneRec.emergency (hz z) :)
    · exact (congrArg ZoneRec.duckLevel (hz z) :)
    · have : u.stations = s.stations := (congrArg State.stations hb :)
      rw [this]; exact ⟨rfl, rfl⟩
    · exact (congrArg State.alarmUnder hb :)
    · exact (congrArg (fun v : State => v.survey.pilotLevel) hb :)
    · exact (congrArg State.patterns hb :)
  flags := by
    have hv : u.survey = s.survey := (congrArg State.survey hb :)
    refine h.flags.congr (fun z => (congrArg ZoneRec.underSurvey (State.unclaimed_of_beyond hb z) :)) ?_
    rw [hv]; exact ⟨rfl, rfl, rfl, rfl⟩
  clocks p := by
    have he : u.progs[p].bare = s.progs[p].bare := congrFun (State.bare_of_beyond hb) p
    intro hst
    have ht : u.progs[p].waitTimer = s.progs[p].waitTimer := (congrArg Program.waitTimer he :)
    have hl : u.progs[p].waitLimit = s.progs[p].waitLimit := (congrArg Program.waitLimit he :)
    rw [ht, hl]
    exact h.clocks p fun e => hst ((congrArg Program.state he :).trans e)
  cue := by
    rcases hc with e | e <;> rw [e]
    · exact h.cue
    · exact hK.taken _ h.cue

theorem Ramp.halt_inRange {r : Ramp} (h : r.inRange = true) : r.halt.inRange = true := by
  rw [Ramp.inRange_iff] at h ⊢
  exact ⟨h.1, h.2.1, h.2.2.1, fun _ ht => by cases ht⟩

/-- A program's end keeps every law but those of the table. -/
theorem State.Sound.endProgram (h : s.Sound K loose opening) (hK : CueEngine.Stable K) (hp : s.progs[p].isOpen = true)
    (why : EndReason) : (s.endProgram p why).Sound K loose opening where
  blocks := h.blocks.endProgram hp why
  gains := by
    have hb := s.endProgram_books p why
    refine ⟨fun q => ?_, fun z => ?_, fun a => ?_, ?_, ?_, ?_⟩
    · by_cases e : q = p
      · subst e; rw [State.endProgram_self]; exact Ramp.halt_inRange (h.gains.progs q)
      · rw [State.endProgram_other s e]; exact h.gains.progs q
    · rw [State.endProgram_zone]; exact h.gains.zones z
    · rw [State.endProgram_station]; split <;> exact h.gains.stations a
    · have : (s.endProgram p why).alarmUnder = s.alarmUnder := (congrArg State.alarmUnder hb :)
      rw [this]; exact h.gains.under
    · rw [State.endProgram_survey]; exact h.gains.pilot
    · rw [(s.endProgram_far p why).2.2.1]; exact h.gains.patterns
  flags := h.flags.congr (fun z => by rw [State.endProgram_zone]; rfl) (by rw [State.endProgram_survey]; exact ⟨rfl, rfl, rfl, rfl⟩)
  clocks q := by
    by_cases e : q = p
    · subst e; rw [State.endProgram_self]; exact fun _ hw => nomatch hw
    · rw [State.endProgram_other s e]; exact h.clocks q
  cue := by
    rw [State.endProgram_cue]
    split
    · exact h.cue
    · exact hK.route _ _ _ h.cue

/-- The face of an open program with these settings. -/
def Program.openFace (g : Program) : Program :=
  { Program.free with
    kind := g.kind, policy := g.policy, source := g.source, clipPart := g.clipPart, routeSlot := g.routeSlot, state := .active }

theorem Program.face_of_open {g : Program} (ho : g.isOpen = true) : g.face = g.steady.openFace := by
  have hst : g.status = .active := by
    obtain ⟨h1, h2⟩ := (Program.isOpen_iff _).mp ho
    unfold Program.status
    cases hg : g.state <;> simp_all
  unfold Program.face
  rw [hst, ho]
  rfl

/-- The gist that a program's own moves leave, while it stays open. -/
theorem State.Moves.gist (h : State.Moves p s u) (hs : s.progs[p].isOpen = true) (hu : u.progs[p].isOpen = true) :
    u.gist = s.gist := by
  have hface : remap u.progs (fun _ g => g.face) = remap s.progs fun _ g => g.face := by
    apply table_ext
    intro q
    simp only [getElem_remap]
    by_cases e : q = p
    · subst e
      exact (Program.face_of_open hu).trans ((congrArg Program.openFace h.self).trans (Program.face_of_open hs).symm)
    · exact congrArg Program.face (h.other q e)
  have hst := h.steady
  have hg (v : State) : ({ v.steady.gist with progs := remap v.progs fun _ g => g.face } : State) = v.gist := by
    unfold State.gist State.steady
    simp only [remap_remap Channel.binding v.chans (f := fun _ c => c.binding) fun _ _ => rfl]
  rw [← hg u, ← hg s, hface, hst]

end Sounds

end Sys2Proof.Machine
end

section
namespace Sys2Proof.Machine

/-! ### Settling keeps the laws, and leaves every program settled (R19, R37) -/

section Settling
variable {K : CueEngine → Prop} {loose opening : Fin 2 → Prop} {s t u : State} {p : ProgId}

theorem State.enterUngranted_timer (s : State) (p : ProgId) :
    (s.enterUngranted p).progs[p].waitTimer = s.progs[p].waitTimer := by
  unfold State.enterUngranted
  simp only
  split
  · rw [State.onBoundVoice_progs, State.onProg_progs_self]
  · rw [State.gateProgram_progs, State.onProg_progs_self]
  all_goals rw [State.onProg_progs_self]

theorem Program.settled_of_clock {g : Program} (hs : g.waitClock.state = .preamble ∨ g.waitClock.state = .active)
    (hg : g.granted ≠ 0#64) : g.waitClock.settled = true := by
  rw [Program.waitClock_state] at hs
  rcases hs with hs | hs <;> simp [Program.waitClock, hs, Program.settled, hg]

theorem Program.waitClock_timer {g : Program} (hs : g.state = .pending ∨ g.state = .held) :
    g.waitClock.waitTimer.isSome = (g.waitTimer.isSome || g.waitLimit.isSome) := by
  unfold Program.waitClock
  rcases hs with hs | hs <;> rw [hs] <;> cases g.waitTimer <;> simp

theorem Program.waitClock_rest (g : Program) : g.waitClock.granted = g.granted ∧ g.waitClock.held = g.held ∧
    g.waitClock.waiting = g.waiting ∧ g.waitClock.waitLimit = g.waitLimit := by
  have h := g.waitClock_steady
  exact ⟨(congrArg Program.granted h :), (congrArg Program.held h :), (congrArg Program.waiting h :),
    (congrArg Program.waitLimit h :)⟩

theorem Program.settled_of_closed {g : Program} (h : g.isOpen = false) : g.settled = true := by
  unfold Program.isOpen at h
  unfold Program.settled
  cases hs : g.state <;> simp_all

theorem Program.settled_of_wait {g : Program} (hs : g.state = if g.held = 0#64 then .pending else .held)
    (hg : g.granted = 0#64) (hw : g.held = 0#64 → g.waiting ≠ 0#64) (hc : g.Clocked) : g.waitClock.settled = true := by
  obtain ⟨h1, h2, h3, h4⟩ := g.waitClock_rest
  have hor : g.state = .pending ∨ g.state = .held := by rw [hs]; split <;> simp
  have hclock : g.waitClock.waitTimer.isSome = g.waitClock.waitLimit.isSome := by
    rw [Program.waitClock_timer hor, h4]
    cases ht : g.waitTimer.isSome with
    | false => rfl
    | true => rw [hc (by rcases hor with e | e <;> rw [e] <;> decide) ht]; rfl
  unfold Program.settled
  rw [Program.waitClock_state, h1, h2, h3, hclock]
  by_cases hh : g.held = 0#64
  · rw [hs, if_pos hh]; simp [hg, hh, hw hh]
  · rw [hs, if_neg hh]; simp [hg, hh]

/-- An open program that is not in TAIL is settled by its settling. -/
theorem State.settleOpen_settled (hc : s.progs[p].Clocked) (ht : s.progs[p].state ≠ .tail) :
    (s.settleOpen p).progs[p].settled = true := by
  unfold State.settleOpen
  simp only
  split
  · rw [State.endProgram_self]; rfl
  · next hz =>
    rw [State.onProg_progs_self]
    by_cases hg : s.progs[p].granted = 0#64
    · rw [if_pos hg]
      have hm := (State.Moves.enterUngranted p s).self
      refine Program.settled_of_wait ?_ ((congrArg Program.granted hm :).trans hg) ?_ ?_
      · rw [State.enterUngranted_state]
        have hh : (s.enterUngranted p).progs[p].held = s.progs[p].held := (congrArg Program.held hm :)
        rw [hh]
      · intro hh hw
        exact hz ⟨hg, (congrArg Program.held hm :).symm.trans hh, (congrArg Program.waiting hm :).symm.trans hw⟩
      · intro _ hw
        rw [State.enterUngranted_timer] at hw
        exact (congrArg (fun g : Program => g.waitLimit.isSome) hm :).trans (hc ht hw)
    · rw [if_neg hg]
      split
      · have hm := (State.Moves.enterGranted p s).self
        refine Program.settled_of_clock ?_ (fun e => hg ((congrArg Program.granted hm :).symm.trans e))
        rw [Program.waitClock_state]
        exact State.enterGranted_state s p
      · next hs =>
        by_cases hop : s.progs[p].isOpen = true
        · refine Program.settled_of_clock ?_ hg
          rw [Program.waitClock_state]
          obtain ⟨h1, h2⟩ := (Program.isOpen_iff _).mp hop
          cases e : s.progs[p].state <;> simp_all
        · exact Program.settled_of_closed ((congrArg (fun x => x != ProgState.free && x != ProgState.ended)
            (Program.waitClock_state _)).trans (Bool.not_eq_true _ ▸ hop))

/-- A program is settled by its settling (R19, R37). -/
theorem State.settleProgram_settled (hc : s.progs[p].Clocked) : (s.settleProgram p).progs[p].settled = true := by
  rw [State.settleProgram_eq]
  cases hst : s.progs[p].state
  case free | ended => simp only; unfold Program.settled; rw [hst]
  case tail =>
    simp only
    split
    · rw [State.endProgram_self]; rfl
    · next hg => unfold Program.settled; rw [hst]; simpa using hg
  all_goals exact State.settleOpen_settled hc (by rw [hst]; decide)

theorem Program.clocked_of_settled {g : Program} (hs : g.settled = true) (ht : g.isOpen = false → g.waitTimer = none) :
    g.Clocked := by
  intro hn hw
  unfold Program.settled at hs
  cases hst : g.state <;> rw [hst] at hs <;> simp only [Bool.and_eq_true, beq_iff_eq] at hs
  case free | ended => rw [ht (by unfold Program.isOpen; rw [hst]; rfl)] at hw; cases hw
  case tail => exact absurd hst hn
  case pending | held => rw [← hs.2]; exact hw
  case preamble | active => rw [Option.isNone_iff_eq_none.mp hs.2] at hw; cases hw

theorem State.Moves.gains (h : State.Moves p s u) (hg : s.Gains) : u.Gains := by
  have hst := h.steady
  have hz : u.zones = s.zones := (congrArg State.zones hst :)
  have ha : u.stations = s.stations := (congrArg State.stations hst :)
  refine hg.congr (fun q => ?_) (fun z => ?_) (fun a => ?_) ?_ ?_ ?_
  · by_cases e : q = p
    · subst e; exact (congrArg Program.gain h.self :)
    · rw [h.other q e]
  · rw [hz]; exact ⟨rfl, rfl, rfl, rfl⟩
  · rw [ha]; exact ⟨rfl, rfl⟩
  · exact (congrArg State.alarmUnder hst :)
  · exact (congrArg (fun v : State => v.survey.pilotLevel) hst :)
  · exact (congrArg State.patterns hst :)

theorem State.Moves.flags (h : State.Moves p s u) (hf : s.Flags) : u.Flags := by
  have hz : u.zones = s.zones := (congrArg State.zones h.steady :)
  have hv : u.survey = s.survey := (congrArg State.survey h.steady :)
  refine hf.congr (fun z => by rw [hz]) ?_
  rw [hv]; exact ⟨rfl, rfl, rfl, rfl⟩

/-- An open program that does not end at its settling is open after it. -/
theorem State.settleProgram_stays_open (hp : s.progs[p].isOpen = true) (hm : s.settleProgram p ≠ s.endProgram p .noZones) :
    (s.settleProgram p).progs[p].isOpen = true := by
  rcases s.settleProgram_state p hm with e | ⟨-, -, e⟩
  · unfold Program.isOpen at hp ⊢; rw [e]; exact hp
  · rw [Program.isOpen_iff]; rcases e with e | e | e | e <;> rw [e] <;> decide

theorem State.Sound.settleProgram (h : s.Sound K loose opening) (hK : CueEngine.Stable K) (p : ProgId) :
    (s.settleProgram p).Sound K loose opening := by
  by_cases hp : s.progs[p].isOpen = true
  · by_cases hm : s.settleProgram p = s.endProgram p .noZones
    · rw [hm]; exact h.endProgram hK hp .noZones
    · have hmv : State.Moves p s (s.settleProgram p) := by
        rcases s.settleProgram_cases p with ⟨e, -⟩ | ⟨e, -⟩
        · exact absurd e hm
        · exact e
      have hop := State.settleProgram_stays_open hp hm
      refine ⟨h.blocks.congr (hmv.gist hp hop), hmv.gains h.gains, hmv.flags h.flags, fun q => ?_, ?_⟩
      · by_cases e : q = p
        · subst e
          exact Program.clocked_of_settled (State.settleProgram_settled (h.clocks q))
            fun hno => by rw [hop] at hno; cases hno
        · rw [hmv.other q e]; exact h.clocks q
      · have hc : (s.settleProgram p).cue = s.cue := (congrArg State.cue hmv.steady :)
        rw [hc]; exact h.cue
  · rw [State.settleProgram_of_closed (Bool.not_eq_true _ ▸ hp)]; exact h

theorem foldl_settle_sound (l : List ProgId) (h : s.Sound K loose opening) (hK : CueEngine.Stable K) :
    (l.foldl (fun s p => s.settleProgram p) s).Sound K loose opening ∧
    ∀ p ∈ l, (l.foldl (fun s p => s.settleProgram p) s).progs[p].settled = true := by
  induction l generalizing s with
  | nil => exact ⟨h, fun _ hp => nomatch hp⟩
  | cons q l ih =>
    obtain ⟨hs, hset⟩ := ih (h.settleProgram hK q)
    refine ⟨hs, fun p hp => ?_⟩
    by_cases hl : p ∈ l
    · exact hset p hl
    · obtain rfl : p = q := (List.mem_cons.mp hp).resolve_right hl
      show (l.foldl _ (s.settleProgram p)).progs[p].settled = true
      rw [foldl_settle_other hl]
      exact State.settleProgram_settled (h.clocks p)

theorem State.Sound.settleAll (h : s.Sound K loose opening) (hK : CueEngine.Stable K) :
    s.settleAll.Sound K loose opening ∧ ∀ p : ProgId, s.settleAll.progs[p].settled = true := by
  obtain ⟨h1, h2⟩ := foldl_settle_sound (List.finRange 32) h hK
  exact ⟨h1, fun p => h2 p (List.mem_finRange p)⟩

end Settling

end Sys2Proof.Machine
end

section
namespace Sys2Proof.Machine

/-! ### What a claim manager's operation ends with (R52) -/

/-- The laws at rest but for the link: those of the parts, those of the claim table, every program in its state, and no survey
that a program of class 0 to 2 has to abort. -/
structure State.Rests (K : CueEngine → Prop) (loose opening : Fin 2 → Prop) (s : State) : Prop where
  sound : s.Sound K loose opening
  table : s.Table noZone
  settled : ∀ p : ProgId, s.progs[p].settled = true
  clear : s.surveyClear = true

theorem State.onZone_self (s : State) (z : Zone) (f : ZoneRec → ZoneRec) : (s.onZone z f).zones[z] = f s.zones[z] :=
  getElem_adjust_self ..

theorem State.onZone_other (s : State) {z y : Zone} (h : z ≠ y) (f : ZoneRec → ZoneRec) :
    (s.onZone z f).zones[y] = s.zones[y] := getElem_adjust_ne _ f h

theorem remap_at {α : Type} {n : Nat} (v : Vector α n) (f : Fin n → α → α) (i : Fin n) : (remap v f)[i] = f i v[i] :=
  getElem_remap ..

section Closing
variable {K : CueEngine → Prop} {loose opening : Fin 2 → Prop} {s s0 t u : State} {p : ProgId} {z : Zone}

/-- Ramps, results and flags of zones, and the survey, are not the table's. -/
theorem State.Table.of_lasting {pend : Zone → Prop} (h : s.Table pend) (hl : u.lasting = s.lasting) : u.Table pend := by
  have hp : u.progs = s.progs := (congrArg State.progs hl :)
  have ho : u.openOrder = s.openOrder := (congrArg State.openOrder hl :)
  have hcell (z : Zone) : u.cell z = s.cell z := by
    obtain ⟨h1, h2, h3⟩ := State.places_of_lasting hl z
    refine Cell.ext h1 h2 h3 (State.excluded_of_lasting hl z) (funext fun q => ?_)
    rw [State.cell_claim, State.cell_claim, hp]
  have hr : u.roles = s.roles := by unfold State.roles; rw [hp]
  exact ⟨fun z => by rw [hcell, hr]; exact h.cell z, by rw [hr]; exact h.roles, by rw [hp]; exact h.whole,
    by rw [hp]; exact h.alone, by rw [hp, ho]; exact h.listed⟩

theorem ZoneRec.duckFor_gains {r : ZoneRec} (h : r.gainsInRange = true) (cls : Option Nat) : (r.duckFor cls).gainsInRange = true := by
  simp only [ZoneRec.gainsInRange, Bool.and_eq_true, decide_eq_true_eq] at h ⊢
  obtain ⟨⟨⟨h1, h2⟩, h3⟩, h4⟩ := h
  refine ⟨⟨⟨h1, Ramp.retarget_inRange h2 false _ _⟩, h3⟩, h4⟩

theorem State.Gains.duckHandOff (h : s.Gains) (s0 : State) : (State.duckHandOff s0 s).Gains := by
  refine { h with zones := fun z => ?_ }
  unfold State.duckHandOff
  simp only [remap_at]
  split
  · exact h.zones z
  · exact ZoneRec.duckFor_gains (h.zones z) _

theorem State.Flags.duckHandOff (h : s.Flags) (s0 : State) : (State.duckHandOff s0 s).Flags := by
  refine h.congr (fun z => ?_) ⟨rfl, rfl, rfl, rfl⟩
  unfold State.duckHandOff
  simp only [remap_at]
  split <;> rfl

theorem State.Gains.onZone (h : s.Gains) (z : Zone) {f : ZoneRec → ZoneRec}
    (hf : (f s.zones[z]).gainsInRange = true) : (s.onZone z f).Gains := by
  refine { h with zones := fun y => ?_ }
  by_cases e : z = y
  · subst e; rw [State.onZone_self]; exact hf
  · rw [State.onZone_other s e]; exact h.zones y

theorem State.Gains.onSurvey (h : s.Gains) {f : Survey → Survey} (hf : (f s.survey).pilotLevel ≤ unity) :
    (s.onSurvey f).Gains := { h with pilot := hf }

theorem State.Gains.of_silent (h : s.Gains) (he : u.silent = s.silent) : u.Gains := by
  refine h.congr (fun p => ?_) (fun z => ?_) (fun a => ?_) ?_ ?_ ?_
  · rw [State.progs_of_silent he]
  · rw [State.zones_of_silent he]; exact ⟨rfl, rfl, rfl, rfl⟩
  · have : u.stations = s.stations := (congrArg State.stations he :)
    rw [this]; exact ⟨rfl, rfl⟩
  · exact (congrArg State.alarmUnder he :)
  · exact (congrArg (fun v : State => v.survey.pilotLevel) he :)
  · exact (congrArg State.patterns he :)

theorem State.Flags.of_silent (h : s.Flags) (he : u.silent = s.silent) : u.Flags := by
  have hv : u.survey = s.survey := (congrArg State.survey he :)
  refine h.congr (fun z => by rw [State.zones_of_silent he]) ?_
  rw [hv]; exact ⟨rfl, rfl, rfl, rfl⟩

theorem State.raiseSurvey_silent (s : State) (r : Requesters) (spare : Option Port) : (s.raiseSurvey r spare).silent = s.silent := by
  unfold State.raiseSurvey
  generalize Port.saf :: r.ports = l
  induction l generalizing s with
  | nil => rfl
  | cons p l ih =>
    rw [List.foldl_cons, ih]
    split <;> rfl

/-! The survey engine takes its next zone (R191). -/

theorem State.Gains.beginSurvey (h : s.Gains) (e : QueueEntry) : (s.beginSurvey e).Gains :=
  (h.onSurvey h.pilot).onZone e.zone (h.zones e.zone)

theorem State.Gains.takeHeads (h : s.Gains) (q : List QueueEntry) : (s.takeHeads q).Gains := by
  induction q generalizing s with
  | nil => exact h.onSurvey h.pilot
  | cons e rest ih =>
    unfold State.takeHeads
    split
    · split
      · refine ih (State.Gains.of_silent ?_ (State.raiseSurvey_silent ..))
        exact h.onZone e.zone (h.zones e.zone)
      · exact (h.onSurvey h.pilot).beginSurvey e
    · exact (h.onSurvey h.pilot).beginSurvey e

theorem State.Gains.takeHead (h : s.Gains) : s.takeHead.Gains := by
  unfold State.takeHead
  split
  · exact h.takeHeads _
  · exact h

theorem State.Gains.abortSurvey (h : s.Gains) (spare : Option Port) : (s.abortSurvey spare).Gains := by
  unfold State.abortSurvey
  split
  · exact h
  · next z _ =>
    have h1 : (s.onZone z fun r => { r with lastResult := some (SurveyResult.without .aborted), underSurvey := false }).Gains :=
      h.onZone z (h.zones z)
    exact ((h1.onSurvey h1.pilot).of_silent (State.raiseSurvey_silent ..)).takeHead

theorem State.Gains.surveyCheck (h : s.Gains) : s.surveyCheck.Gains := by
  unfold State.surveyCheck
  split
  · exact h
  · split
    · split
      · exact h.abortSurvey none
      · exact h
    · exact h

/-- No zone is under survey. -/
structure State.NoSurvey (s : State) : Prop where
  flags : ∀ z : Zone, s.zones[z].underSurvey = false
  state : s.survey.state = .idle
  zone : s.survey.zone = none
  pilot : s.survey.pgRunning = false

theorem State.NoSurvey.of_silent (h : s.NoSurvey) (he : u.silent = s.silent) : u.NoSurvey := by
  have hv : u.survey = s.survey := (congrArg State.survey he :)
  exact ⟨fun z => by rw [State.zones_of_silent he]; exact h.flags z, by rw [hv]; exact h.state, by rw [hv]; exact h.zone,
    by rw [hv]; exact h.pilot⟩

/-- A survey begins on a zone that no class 0 to 2 owns. -/
theorem State.NoSurvey.begin (h : s.NoSurvey) {e : QueueEntry} {rest : List QueueEntry} (hq : ((e :: rest).map (·.zone)).Nodup)
    (hc : ∀ c, s.ownerClass e.zone = some c → 2 < c) :
    ((s.onSurvey fun v => { v with queue := rest }).beginSurvey e).Flags ∧
    ((s.onSurvey fun v => { v with queue := rest }).beginSurvey e).surveyClear = true := by
  obtain ⟨hne, hrest⟩ := List.nodup_cons.mp hq
  refine ⟨⟨fun z => ?_, rfl, rfl, hrest, fun z hz x hx hxz => ?_, fun hi => ?_⟩, ?_⟩
  · show ((s.onZone e.zone _).zones[z]).underSurvey = (some e.zone == some z)
    by_cases e' : e.zone = z
    · subst e'; rw [State.onZone_self]; simp
    · rw [State.onZone_other s e', h.flags z]; simp [e']
  · obtain rfl : e.zone = z := Option.some.inj hz
    exact hne (List.mem_map.mpr ⟨x, hx, hxz⟩)
  · cases hi
  · have hcls : ((s.onSurvey fun v => { v with queue := rest }).beginSurvey e).ownerClass e.zone = s.ownerClass e.zone := by
      have ho : ((s.onSurvey fun v => { v with queue := rest }).beginSurvey e).zones[e.zone].owner = s.zones[e.zone].owner := by
        unfold State.beginSurvey
        rw [State.onZone_self]
        rfl
      unfold State.ownerClass
      rw [ho]
      rfl
    show (some e.zone).all _ = true
    rw [Option.all_some, hcls, Option.all_eq_true]
    exact fun c hcc => decide_eq_true (hc c hcc)

theorem State.takeHeads_flags (h : s.NoSurvey) (q : List QueueEntry) (hq : (q.map (·.zone)).Nodup) :
    (s.takeHeads q).Flags ∧ (s.takeHeads q).surveyClear = true := by
  induction q generalizing s with
  | nil =>
    have hz : (s.takeHeads []).survey.zone = none := h.zone
    refine ⟨⟨fun z => ?_, ?_, ?_, List.nodup_nil, fun z hz' => ?_, fun _ => rfl⟩, ?_⟩
    · rw [hz]; exact h.flags z
    · rw [hz]; exact (congrArg (fun x => x != SurveyState.idle) h.state :).symm
    · exact h.pilot.trans (congrArg (fun x => x != SurveyState.idle) h.state :).symm
    · rw [hz] at hz'; cases hz'
    · unfold State.surveyClear; rw [hz]; rfl
  | cons e rest ih =>
    unfold State.takeHeads
    split
    · next c hc =>
      split
      · have h1 : (s.onZone e.zone fun z => { z with lastResult := some (SurveyResult.without .skipped) }).NoSurvey :=
          ⟨fun z => ?_, h.state, h.zone, h.pilot⟩
        · exact ih (h1.of_silent (State.raiseSurvey_silent ..)) (List.nodup_cons.mp hq).2
        by_cases e' : e.zone = z
        · subst e'; rw [State.onZone_self]; exact h.flags _
        · rw [State.onZone_other s e']; exact h.flags z
      · next hle => exact h.begin hq fun c' hc' => by rw [hc] at hc'; cases hc'; exact Nat.lt_of_not_le hle
    · next hc => exact h.begin hq fun c' hc' => by rw [hc] at hc'; cases hc'

theorem State.takeHead_flags (h : s.NoSurvey) (hq : (s.survey.queue.map (·.zone)).Nodup) :
    s.takeHead.Flags ∧ s.takeHead.surveyClear = true := by
  unfold State.takeHead
  rw [if_pos h.state]
  exact State.takeHeads_flags h _ hq

/-- The survey of a zone given up. -/
def State.unsurveyed (s : State) (z : Zone) : State :=
  (s.onZone z fun r => { r with lastResult := some (SurveyResult.without .aborted), underSurvey := false }).onSurvey fun v =>
    v.idle false

/-- An aborted survey leaves the engine IDLE or with a zone that no class 0 to 2 owns (R198). -/
theorem State.abortSurvey_flags (h : s.Flags) (hz : s.survey.zone = some z) (spare : Option Port) :
    (s.abortSurvey spare).Flags ∧ (s.abortSurvey spare).surveyClear = true := by
  unfold State.abortSurvey
  rw [hz]
  simp only
  have h1 : (s.unsurveyed z).NoSurvey := by
    refine ⟨fun y => ?_, rfl, rfl, rfl⟩
    show (s.onZone z _).zones[y].underSurvey = false
    by_cases e : z = y
    · subst e; rw [State.onZone_self]
    · rw [State.onZone_other s e, h.flagged y, hz]; simp [e]
  have hs := State.raiseSurvey_silent (s.unsurveyed z) s.survey.requesters spare
  refine State.takeHead_flags (h1.of_silent hs) ?_
  have hv : (State.raiseSurvey (s.unsurveyed z) s.survey.requesters spare).survey = (s.unsurveyed z).survey :=
    (congrArg State.survey hs :)
  show ((State.raiseSurvey (s.unsurveyed z) s.survey.requesters spare).survey.queue.map (·.zone)).Nodup
  rw [hv]
  exact h.queue

/-- After the check of the survey none is to be aborted (R52, R198). -/
theorem State.surveyCheck_flags (h : s.Flags) : s.surveyCheck.Flags ∧ s.surveyCheck.surveyClear = true := by
  unfold State.surveyCheck
  split
  · next hz => exact ⟨h, by unfold State.surveyClear; rw [hz]; rfl⟩
  · next z hz =>
    split
    · next c hc =>
      split
      · exact State.abortSurvey_flags h hz none
      · next hle =>
        refine ⟨h, ?_⟩
        unfold State.surveyClear
        rw [hz, Option.all_some, hc]
        exact decide_eq_true (Nat.lt_of_not_le hle)
    · next hc =>
      refine ⟨h, ?_⟩
      unfold State.surveyClear
      rw [hz, Option.all_some, hc]
      rfl

theorem State.surveyClear_of_silent (he : u.silent = s.silent) : u.surveyClear = s.surveyClear :=
  (congrArg State.surveyClear he :)

/-- The end of an operation of the claim manager leaves the part at rest. -/
theorem State.Sound.finish (h : s.Sound K loose opening) (hK : CueEngine.Stable K) (ht : s.Table noZone) (s0 : State)
    (c : Cause) : (State.finish s0 s c).Rests K loose opening := by
  generalize hu : State.finish s0 s c = u
  obtain ⟨ha, hset⟩ := h.settleAll hK
  have htab := ht.settleAll.1
  have hl : u.lasting = s.settleAll.lasting := hu ▸ State.finish_lasting s0 s c
  have hsil : u.silent = (State.duckHandOff s0 s.settleAll).surveyCheck.silent := hu ▸ State.finish_silent s0 s c
  clear hu ht
  generalize s.settleAll = v at *
  have hp : u.progs = v.progs := (congrArg State.progs hl :)
  have hflags := State.surveyCheck_flags (ha.flags.duckHandOff s0)
  refine ⟨⟨ha.blocks.congr (State.gist_of_lasting hl), ?_, ?_, fun p => ?_, ?_⟩, htab.of_lasting hl, fun p => ?_, ?_⟩
  · exact (ha.gains.duckHandOff s0).surveyCheck.of_silent hsil
  · exact hflags.1.of_silent hsil
  · rw [hp]; exact ha.clocks p
  · have hc : u.cue = v.cue := (congrArg State.cue hl :)
    rw [hc]; exact ha.cue
  · rw [hp]; exact hset p
  · rw [State.surveyClear_of_silent hsil]; exact hflags.2

end Closing

end Sys2Proof.Machine
end

section
namespace Sys2Proof.Machine

/-! ### The safety predicate, law by law -/

/-- The laws of the cue engine at rest (R169, R173, R181). -/
def CueEngine.Lawful (c : CueEngine) : Prop := c.listLawful = true ∧ c.stateLawful = true

section SafeLaws
variable {s : State} {p o : ProgId} {z : Zone}

/-- An alarm's program that has a part in a zone owns it, or program 0 does (R27). -/
theorem State.Table.alarm_owner (h : s.Table noZone) (hp : p.val < 2) (hc : s.progs[p].claim z ≠ .none) :
    s.zones[z].owner = some p ∨ s.zones[z].owner = some 0 := by
  have hcell := h.cell z
  have hop : s.progs[p].isOpen = true := hcell.closed p hc
  have hkind : s.roles.kind p ≠ .bed := by
    rw [h.roles.alarm p hp hop]; decide
  have hpp : p = 0 ∨ p = 1 := by
    rcases Nat.lt_or_ge p.val 1 with h0 | h1
    · exact Or.inl (Fin.ext (by show p.val = 0; omega))
    · exact Or.inr (Fin.ext (by show p.val = 1; omega))
  cases hcl : s.progs[p].claim z with
  | none => exact absurd hcl hc
  | unsound => exact absurd hcl (hcell.sound p)
  | granted => exact Or.inl (hcell.owner_of_granted hkind hcl)
  | waiting =>
    rcases hpp with rfl | rfl
    · exact absurd hcl hcell.first.2
    · rcases hcell.second hcl with e | ⟨-, e⟩
      · exact Or.inr e
      · exact e.elim
  | held =>
    have hmem : p ∈ (s.cell z).stack := (hcell.held p).mp hcl
    cases ho : s.zones[z].owner with
    | none => rcases hcell.vacant ho with e | e
              · rw [e] at hmem; cases hmem
              · exact e.elim
    | some o =>
      right
      have hle : s.roles.cls o ≤ s.roles.cls p := by
        have := hcell.rising
        rw [show (s.cell z).owner = some o from ho] at this
        exact (List.pairwise_append.mp this).2.2 o (by simp) p hmem
      have hz : s.roles.cls p = 0 := (h.roles.class_zero p hop).mpr hp
      have ho2 : o.val < 2 := (h.roles.class_zero o (hcell.owner_open ho)).mp (by omega)
      have hne : o ≠ p := fun e => hcell.owner_not_held ho (e ▸ hmem)
      rcases hpp with rfl | rfl
      · exact absurd hcl hcell.first.1
      · refine congrArg some (Fin.ext ?_)
        have : o.val ≠ 1 := fun e => hne (Fin.ext e)
        show o.val = 0
        omega

theorem State.Table.alarmHolds (h : s.Table noZone) (hb : s.Blocks noSlot noSlot) (k : Fin 2) : s.alarmHolds k = true := by
  unfold State.alarmHolds
  simp only
  split
  · next hi => rw [hb.idles k id hi]; rfl
  · next hi =>
    rw [hb.sounds k hi, Bool.true_and, List.all_eq_true]
    intro z hz
    have hlt : (progOfSlot k).val < 2 := k.isLt
    have hc : s.progs[progOfSlot k].claim z ≠ .none := by
      have := (Program.bits_of_claim ((h.cell z).sound (progOfSlot k))).1
      rw [(mem_zonesOf _ _).mp hz] at this
      exact of_decide_eq_true this.symm
    rw [Bool.or_eq_true, beq_iff_eq, beq_iff_eq]
    exact h.alarm_owner hlt hc

theorem State.Table.zonesLawful (h : s.Table noZone) (hb : s.Blocks noSlot noSlot) : s.zonesLawful = true := by
  unfold State.zonesLawful
  rw [Bool.and_eq_true, List.all_eq_true, List.all_eq_true]
  refine ⟨fun p _ => ?_, fun z _ => h.zone z⟩
  unfold Program.claimsLawful
  cases hop : s.progs[p].isOpen with
  | false =>
    obtain ⟨h1, h2⟩ := hb.timers p hop
    rw [h1, h2]; rfl
  | true =>
    cases ht : s.progs[p].together with
    | false => rfl
    | true =>
      have hz (z : Zone) := Program.bits_of_claim ((h.cell z).sound p)
      have hg : s.progs[p].granted = 0#64 := (zoneSet_eq_zero_iff _).mpr fun z => by
        rw [(hz z).2.1]; exact decide_eq_false (h.whole p z ht).1
      have hh : s.progs[p].held = 0#64 := (zoneSet_eq_zero_iff _).mpr fun z => by
        rw [(hz z).2.2.1]; exact decide_eq_false (h.whole p z ht).2
      rw [hg, hh]; rfl

/-- The laws of a safe state, apart from what the arbiter leaves and what the outputs carry. -/
abbrev State.AtLaw (s : State) : Prop := s.Rests CueEngine.Lawful noSlot noSlot

theorem State.safe_iff (s : State) : s.safe = true ↔ s.AtLaw ∧ s.served = true ∧ s.lanes.outputsInRange = true := by
  constructor
  · intro h
    have htab := (State.claimLaws_of_safe h).table
    have hset := State.settled_of_safe h
    simp only [State.safe, State.atRest, Bool.and_eq_true, List.all_eq_true, List.mem_finRange, true_imp_iff] at h
    obtain ⟨⟨⟨⟨⟨⟨⟨⟨⟨⟨⟨⟨⟨⟨⟨⟨⟨⟨⟨⟨⟨⟨⟨hrest, hserved⟩, -⟩, hzones⟩, -⟩, -⟩, -⟩, -⟩, horders⟩, hslots⟩, hgains⟩, hout⟩, hcad⟩, hicm⟩, hcall⟩, hres⟩,
      hready⟩, husers⟩, hranges⟩, hentries⟩, hlist⟩, hstate⟩, hroutes⟩, hsurvey⟩ := h
    have hz : ∀ p : ProgId, s.progs[p].isOpen = false → s.progs[p].waitTimer = none ∧ s.progs[p].joinTimer = none := fun p hp => by
      unfold State.zonesLawful at hzones
      rw [Bool.and_eq_true, List.all_eq_true] at hzones
      have := hzones.1 p (List.mem_finRange p)
      unfold Program.claimsLawful at this
      rw [hp] at this
      simpa using this
    have hidle (k : Fin 2) : s.slots[k].state = .idle ↔ s.progs[progOfSlot k].isOpen = false := by
      obtain ⟨⟨⟨-, hk⟩, -⟩, -⟩ := hslots k
      unfold State.alarmHolds at hk
      simp only at hk
      by_cases e : s.slots[k].state = .idle
      · rw [if_pos e, Bool.not_eq_true'] at hk; exact iff_of_true e hk
      · rw [if_neg e, Bool.and_eq_true] at hk
        exact iff_of_false e (by rw [hk.1]; decide)
    have hblocks : s.Blocks noSlot noSlot :=
      ⟨horders, fun k => (hslots k).1.1.1, fun k _ => (hslots k).1.2, fun k _ => (hslots k).2,
        fun k hk => Bool.not_eq_false _ ▸ fun e => hk ((hidle k).mpr e), fun k _ => (hidle k).mp, hz, hcad, hicm, hcall, hres,
        hready, husers, hranges, hentries, hroutes⟩
    have hv := (State.survey_iff s).mp hsurvey
    exact ⟨⟨⟨hblocks, (State.gains_iff s).mp hgains, hv.1, fun p => Program.clocked_of_settled (hset p) fun hn => (hz p hn).1,
      hlist, hstate⟩, htab, hset, hv.2⟩, hserved, hout⟩
  · rintro ⟨h, hserved, hout⟩
    have hb := h.sound.blocks
    have hfollow : s.statesFollow = true := by
      unfold State.statesFollow
      rw [List.all_eq_true]
      exact fun p _ => h.settled p
    simp only [State.safe, State.atRest, Bool.and_eq_true, List.all_eq_true, List.mem_finRange, true_imp_iff]
    exact ⟨⟨⟨⟨⟨⟨⟨⟨⟨⟨⟨⟨⟨⟨⟨⟨⟨⟨⟨⟨⟨⟨⟨⟨hfollow, h.clear⟩, hserved⟩, h.table.agree⟩, h.table.zonesLawful hb⟩, h.table.kinds⟩, h.table.tails⟩,
      h.table.classes⟩, h.table.stacks⟩, hb.orders⟩,
      fun k => ⟨⟨⟨hb.slots k, h.table.alarmHolds hb k⟩, hb.tones k id⟩, hb.windows k id⟩⟩, (State.gains_iff s).mpr h.sound.gains⟩,
      hout⟩, hb.cadence⟩, hb.intercom⟩, hb.callouts⟩, hb.reset⟩, hb.ready⟩, hb.users⟩, hb.ranges⟩, hb.entries⟩, h.sound.cue.1⟩,
      h.sound.cue.2⟩, hb.routes⟩, (State.survey_iff s).mpr ⟨h.sound.flags, h.clear⟩⟩

end SafeLaws

end Sys2Proof.Machine
end

section
namespace Sys2Proof.Machine

/-! ### What no law reads

The ports, the running numbers and counters, the frames left on timers, players beyond their condition, channels beyond user and
clip, and the settings of zones that no law names: an operation that changes these alone keeps every law. -/

/-- What the laws read of a program. -/
def Program.ruled (g : Program) : Program :=
  { g with
    owner := .saf, joinDeadline := none, waitTimer := g.waitTimer.map fun _ => 0, joinTimer := g.joinTimer.map fun _ => 0
    chime := none, tail := none, arrival := 0, ret := none, endReason := none, chimeSkipped := false
    clipStarted := false }

/-- What the laws read of a zone. -/
def ZoneRec.ruled (r : ZoneRec) : ZoneRec :=
  { ZoneRec.reset with
    owner := r.owner, stack := r.stack, bed := r.bed, excluded := r.excluded, master := r.master, emergency := r.emergency
    duckLevel := r.duckLevel, duck := r.duck, underSurvey := r.underSurvey }

/-- What the laws read of the survey engine. -/
def Survey.ruled (v : Survey) : Survey :=
  { Survey.reset with state := v.state, zone := v.zone, queue := v.queue, pilotLevel := v.pilotLevel, pgRunning := v.pgRunning }

/-- What the laws read of the state. -/
def State.ruled (s : State) : State :=
  { s.gist with
    progs := remap s.progs fun _ g => g.ruled, zones := remap s.zones fun _ r => r.ruled, alarmUnder := s.alarmUnder
    cue := s.cue, survey := s.survey.ruled }

section Ruled
variable {K : CueEngine → Prop} {loose opening : Fin 2 → Prop} {s u : State} {p : ProgId} {z : Zone}

theorem State.prog_of_ruled (h : u.ruled = s.ruled) (p : ProgId) : u.progs[p].ruled = s.progs[p].ruled := by
  have hp (v : State) : v.ruled.progs[p] = v.progs[p].ruled := remap_at ..
  rw [← hp u, ← hp s, h]

theorem State.zone_of_ruled (h : u.ruled = s.ruled) (z : Zone) : u.zones[z].ruled = s.zones[z].ruled := by
  have hp (v : State) : v.ruled.zones[z] = v.zones[z].ruled := remap_at ..
  rw [← hp u, ← hp s, h]

theorem Program.ruled_face (g : Program) : g.ruled.face = g.face := by
  have ho : g.ruled.isOpen = g.isOpen := rfl
  have hs : g.ruled.status = g.status := rfl
  unfold Program.face
  rw [ho, hs]
  cases g.isOpen <;> simp [Program.ruled, Option.map_map, Function.comp_def]

theorem State.gist_of_ruled (h : u.ruled = s.ruled) : u.gist = s.gist := by
  have hprogs (v : State) : remap v.ruled.progs (fun _ g => g.face) = remap v.progs fun _ g => g.face :=
    remap_remap Program.face v.progs (f := fun _ g => g.ruled) fun _ g => g.ruled_face
  have hg (v : State) : v.gist = { v.ruled with
      progs := remap v.ruled.progs fun _ g => g.face, zones := State.reset.zones, alarmUnder := State.reset.alarmUnder
      cue := { CueEngine.reset with slots := remap v.ruled.cue.slots fun _ r => { r with source := none } }
      survey := State.reset.survey } := by
    rw [hprogs]; rfl
  rw [hg u, hg s, h]

theorem State.Gains.of_ruled (h : s.Gains) (he : u.ruled = s.ruled) : u.Gains := by
  have hz (z : Zone) := State.zone_of_ruled he z
  refine h.congr (fun p => ?_) (fun z => ⟨?_, ?_, ?_, ?_⟩) (fun a => ?_) ?_ ?_ ?_
  · exact (congrArg Program.gain (State.prog_of_ruled he p) :)
  · exact (congrArg ZoneRec.master (hz z) :)
  · exact (congrArg ZoneRec.duck (hz z) :)
  · exact (congrArg ZoneRec.emergency (hz z) :)
  · exact (congrArg ZoneRec.duckLevel (hz z) :)
  · have : u.stations = s.stations := (congrArg State.stations he :)
    rw [this]; exact ⟨rfl, rfl⟩
  · exact (congrArg State.alarmUnder he :)
  · exact (congrArg (fun v : State => v.survey.pilotLevel) he :)
  · exact (congrArg State.patterns he :)

theorem State.Flags.of_ruled (h : s.Flags) (he : u.ruled = s.ruled) : u.Flags :=
  h.congr (fun z => (congrArg ZoneRec.underSurvey (State.zone_of_ruled he z) :))
    ⟨(congrArg (fun v : State => v.survey.zone) he :), (congrArg (fun v : State => v.survey.state) he :),
      (congrArg (fun v : State => v.survey.pgRunning) he :), (congrArg (fun v : State => v.survey.queue) he :)⟩

theorem isSome_of_ruled {a b : Option Nat} (h : (a.map fun _ => 0) = b.map fun _ => 0) : a.isSome = b.isSome := by
  cases a <;> cases b <;> simp_all

theorem Program.clocked_of_ruled {g k : Program} (h : g.ruled = k.ruled) (hc : k.Clocked) : g.Clocked := by
  intro ht hw
  have hs : g.state = k.state := (congrArg Program.state h :)
  have hl : g.waitLimit = k.waitLimit := (congrArg Program.waitLimit h :)
  have htm : g.waitTimer.isSome = k.waitTimer.isSome := isSome_of_ruled (congrArg Program.waitTimer h :)
  rw [hl]
  exact hc (hs ▸ ht) (htm ▸ hw)

theorem Program.settled_of_ruled {g k : Program} (h : g.ruled = k.ruled) : g.settled = k.settled := by
  have hs : g.state = k.state := (congrArg Program.state h :)
  have hl : g.waitLimit = k.waitLimit := (congrArg Program.waitLimit h :)
  have htm : g.waitTimer.isSome = k.waitTimer.isSome := isSome_of_ruled (congrArg Program.waitTimer h :)
  have hn : g.waitTimer.isNone = k.waitTimer.isNone := by
    rw [← Option.not_isSome, ← Option.not_isSome, htm]
  have h1 : g.granted = k.granted := (congrArg Program.granted h :)
  have h2 : g.held = k.held := (congrArg Program.held h :)
  have h3 : g.waiting = k.waiting := (congrArg Program.waiting h :)
  unfold Program.settled
  rw [hs, hl, htm, hn, h1, h2, h3]

theorem State.Sound.of_ruled (h : s.Sound K loose opening) (he : u.ruled = s.ruled) : u.Sound K loose opening where
  blocks := h.blocks.congr (State.gist_of_ruled he)
  gains := h.gains.of_ruled he
  flags := h.flags.of_ruled he
  clocks p := Program.clocked_of_ruled (State.prog_of_ruled he p) (h.clocks p)
  cue := by
    have hc : u.cue = s.cue := (congrArg State.cue he :)
    rw [hc]; exact h.cue

/-- The table's laws by what they read. -/
theorem State.Table.of_cells {pend : Zone → Prop} (h : s.Table pend) (hc : ∀ z, u.cell z = s.cell z) (hr : u.roles = s.roles)
    (ht : ∀ p : ProgId, u.progs[p].together = s.progs[p].together)
    (ho : u.openOrder = s.openOrder) (hs : ∀ p : ProgId, u.progs[p].state = s.progs[p].state) : u.Table pend where
  cell z := by rw [hc, hr]; exact h.cell z
  roles := by rw [hr]; exact h.roles
  whole p z hp := by
    have := h.whole p z ((ht p).symm.trans hp)
    have hcl : u.progs[p].claim z = s.progs[p].claim z := congrFun (congrArg Cell.claim (hc z)) p
    rw [hcl]; exact this
  alone p hp hop := (ht p).trans (h.alone p hp ((congrFun (congrArg Roles.isOpen hr) p).symm.trans hop))
  listed p := by rw [ho, hs]; exact h.listed p

theorem State.roles_of_ruled (he : u.ruled = s.ruled) : u.roles = s.roles := by
  have hp (p : ProgId) := State.prog_of_ruled he p
  unfold State.roles
  congr 1 <;> funext p
  · exact (congrArg Program.kind (hp p) :)
  · exact (congrArg Program.cls (hp p) :)
  · exact (congrArg Program.isOpen (hp p) :)
  · exact (congrArg (fun g : Program => g.state == .tail) (hp p) :)

theorem State.cell_of_ruled (he : u.ruled = s.ruled) (z : Zone) : u.cell z = s.cell z := by
  have hz := State.zone_of_ruled he z
  refine Cell.ext (congrArg ZoneRec.owner hz :) (congrArg ZoneRec.stack hz :) (congrArg ZoneRec.bed hz :)
    (congrArg ZoneRec.excluded hz :) (funext fun p => ?_)
  have hp := State.prog_of_ruled he p
  exact congrFun (Program.claim_congr (congrArg Program.requested hp :) (congrArg Program.granted hp :)
    (congrArg Program.held hp :) (congrArg Program.waiting hp :)) z

theorem State.Table.of_ruled {pend : Zone → Prop} (h : s.Table pend) (he : u.ruled = s.ruled) : u.Table pend :=
  h.of_cells (State.cell_of_ruled he) (State.roles_of_ruled he)
    (fun p => (congrArg Program.together (State.prog_of_ruled he p) :)) (congrArg State.openOrder he :)
    (fun p => (congrArg Program.state (State.prog_of_ruled he p) :))

theorem State.surveyClear_of_cells (hc : ∀ z, u.cell z = s.cell z) (hr : u.roles = s.roles)
    (hv : u.survey.zone = s.survey.zone) : u.surveyClear = s.surveyClear := by
  have ho (z : Zone) : u.ownerClass z = s.ownerClass z := by
    have h1 : u.zones[z].owner = s.zones[z].owner := congrArg Cell.owner (hc z)
    have h2 (p : ProgId) : u.progs[p].cls = s.progs[p].cls := congrFun (congrArg Roles.cls hr) p
    unfold State.ownerClass
    rw [h1]
    cases s.zones[z].owner with
    | none => rfl
    | some o => exact congrArg some (h2 o)
  unfold State.surveyClear
  rw [hv]
  simp only [ho]

/-- What changes nothing that a law reads keeps the part at rest. -/
theorem State.Rests.of_ruled (h : s.Rests K loose opening) (he : u.ruled = s.ruled) : u.Rests K loose opening where
  sound := h.sound.of_ruled he
  table := h.table.of_ruled he
  settled p := (Program.settled_of_ruled (State.prog_of_ruled he p)).trans (h.settled p)
  clear := (State.surveyClear_of_cells (State.cell_of_ruled he) (State.roles_of_ruled he)
    (congrArg (fun v : State => v.survey.zone) he :)).trans h.clear

theorem State.ruled_of_silent (he : u.silent = s.silent) : u.ruled = s.ruled := (congrArg State.ruled he :)

theorem State.Rests.of_silent (h : s.Rests K loose opening) (he : u.silent = s.silent) : u.Rests K loose opening :=
  h.of_ruled (State.ruled_of_silent he)

end Ruled

end Sys2Proof.Machine
end

section
namespace Sys2Proof.Machine

/-! ### Transactions, resets and the arbiter keep the laws (R14, R132, R205, R211) -/

section Framework
variable {K : CueEngine → Prop} {loose opening : Fin 2 → Prop} {s u v : State} {p : ProgId} {z : Zone}

/-- A change of the clip engine that keeps its own laws keeps all: the directory's clips that channels are bound to are still
READY, and a reset interval still finds it empty. -/
theorem State.Rests.onClips (h : s.Rests K loose opening) {f : ClipEngine → ClipEngine}
    (hr : (f s.clips).rangesApart = true) (he : (f s.clips).entriesLawful = true) (hc : (s.onClips f).channelsReady = true)
    (hl : (s.onClips f).resetLawful = true) : (s.onClips f).Rests K loose opening where
  sound := { h.sound with
    blocks := { h.sound.blocks with reset := hl, ready := hc, ranges := hr, entries := he }
    gains := { h.sound.gains with }
    flags := { h.sound.flags with } }
  table := { h.table with }
  settled := h.settled
  clear := h.clear

theorem ClipEngine.startOp_entries {c : ClipEngine} (h : c.entriesLawful = true) {op : StoreOp}
    (ho : ∀ id b, op = .erase id b → id ∈ c.eraseList) : (c.startOp op).entriesLawful = true := by
  simp only [ClipEngine.entriesLawful, Bool.and_eq_true] at h ⊢
  obtain ⟨⟨⟨⟨h1, h2⟩, h3⟩, -⟩, h5⟩ := h
  refine ⟨⟨⟨⟨h1, h2⟩, h3⟩, ?_⟩, h5⟩
  unfold ClipEngine.startOp
  cases op with
  | erase id b => exact List.contains_iff_mem.mpr (ho id b rfl)
  | _ => rfl

/-- An erase step that waits is for the head of the erase list (R130). -/
theorem State.firstWaiting_erase {id : ClipId} {b : Nat} (h : s.firstWaiting = some (.erase id b)) :
    id ∈ s.clips.eraseList := by
  unfold State.firstWaiting at h
  split at h
  · cases h
  · split at h
    · obtain ⟨f, -, hf⟩ := Option.map_eq_some_iff.mp h
      cases hf
    · split at h
      · cases h
      · split at h
        · cases h
        · split at h
          · cases h
          · unfold ClipEngine.eraseStep at h
            split at h
            · cases h
            · next hl => cases h; rw [hl]; exact List.mem_cons_self

theorem State.Rests.arbitrate (h : s.Rests K loose opening) : s.arbitrate.Rests K loose opening := by
  unfold State.arbitrate
  split
  · exact h
  · split
    · exact h
    · next op hop =>
      have hb := h.sound.blocks
      refine h.onClips hb.ranges (ClipEngine.startOp_entries hb.entries fun id b e => ?_) hb.ready hb.reset
      exact State.firstWaiting_erase (e ▸ hop)

theorem State.clockThrough_silent (s : State) (p : Port) (n : Nat) : (s.clockThrough p n).silent = s.silent := by
  unfold State.clockThrough; split <;> rfl

theorem State.reset_atLaw : State.reset.AtLaw := ((State.safe_iff _).mp theResetStateIsSafe.1).1

/-- The reset interval begins with every law kept. -/
theorem State.blocksReset_atLaw (cause : ResetCause) (n : Nat) : (State.blocksReset cause n).AtLaw := by
  have h := State.reset_atLaw
  have hb := h.sound.blocks
  exact {
    sound := { h.sound with
      blocks := { hb with
        reset := by
          have hd (id : ClipId) : (State.blocksReset cause n).clips.dir[id.val] = DirEntry.empty :=
            Vector.getElem_replicate id.isLt
          simp [State.resetLawful, hd, DirEntry.empty, show (State.blocksReset cause n).clips.scan = none from rfl]
        ready := hb.ready
        ranges := hb.ranges
        entries := by
          have := hb.entries
          simp only [ClipEngine.entriesLawful, Bool.and_eq_true] at this ⊢
          obtain ⟨⟨⟨⟨h1, h2⟩, h3⟩, -⟩, -⟩ := this
          exact ⟨⟨⟨⟨h1, h2⟩, h3⟩, rfl⟩, rfl⟩ }
      gains := { h.sound.gains with }
      flags := { h.sound.flags with } }
    table := { h.table with }
    settled := h.settled
    clear := h.clear }

theorem State.restartNow_atLaw (s : State) : s.restartNow.AtLaw := (State.blocksReset_atLaw .restart s.clips.opNo).of_ruled rfl

theorem State.powerOn_atLaw (s : State) : s.powerOn.AtLaw := (State.blocksReset_atLaw .powerOn s.clips.opNo).of_ruled rfl

/-- The answer of a port command keeps the laws when its body does, which runs outside the reset interval alone. -/
theorem State.transact_listening (h : s.AtLaw) (t : Txn) (code : Byte) (n : Nat) {body : State → Reply}
    (hb : ∀ v : State, v.AtLaw → v.resetLeft = none → (body v).1.AtLaw) : (s.transact t code n body).AtLaw := by
  have hs := s.clockThrough_silent t.port (n + 3 + t.extra)
  have h1 : (s.clockThrough t.port (n + 3 + t.extra)).AtLaw := h.of_silent hs
  unfold State.transact
  simp only
  split
  · exact h1
  · next hr =>
    split
    · exact State.restartNow_atLaw _
    · have hleft : (s.clockThrough t.port (n + 3 + t.extra)).resetLeft = s.resetLeft := (congrArg State.resetLeft hs :)
      rw [← hleft, Option.not_isSome_iff_eq_none] at hr
      exact (hb _ h1 hr).of_silent rfl

theorem portCommand_listening (h : s.AtLaw) {t : Txn} {code : Byte} {n : Nat} {body : State → Reply}
    (hb : ∀ v : State, v.AtLaw → v.resetLeft = none → (body v).1.AtLaw) (he : portCommand s t code n body = .next u) : u.AtLaw := by
  cases he
  exact (State.transact_listening h t code n hb).arbitrate

theorem portCommand_atLaw (h : s.AtLaw) {t : Txn} {code : Byte} {n : Nat} {body : State → Reply}
    (hb : ∀ v : State, v.AtLaw → (body v).1.AtLaw) (he : portCommand s t code n body = .next u) : u.AtLaw :=
  portCommand_listening h (fun v hv _ => hb v hv) he

theorem partEvent_atLaw (h : v.AtLaw) (he : partEvent v = .next u) : u.AtLaw := by
  cases he
  exact h.arbitrate

end Framework

end Sys2Proof.Machine
end

section
namespace Sys2Proof.Machine

/-! ### The claim manager's operations keep the laws (R21, R33, R38, R42 to R44, R48) -/

section ClaimOps
variable {K : CueEngine → Prop} {loose opening : Fin 2 → Prop} {s t u : State} {p : ProgId} {z : Zone}

theorem State.getLsbD_ownedBy (s : State) (p : ProgId) (z : Zone) :
    (s.ownedBy p).getLsbD z.val = (s.zones[z].owner == some p) := getLsbD_zonesWhere ..

/-- The laws of the parts by what they read. -/
theorem State.Sound.congr (h : s.Sound K loose opening) (hg : u.gist = s.gist)
    (hp : ∀ p : ProgId, u.progs[p].gain = s.progs[p].gain)
    (hc : ∀ p : ProgId, u.progs[p].Clocked) (hz : ∀ z : Zone, u.zones[z].master = s.zones[z].master ∧
      u.zones[z].duck = s.zones[z].duck ∧ u.zones[z].emergency = s.zones[z].emergency ∧
      u.zones[z].duckLevel = s.zones[z].duckLevel ∧ u.zones[z].underSurvey = s.zones[z].underSurvey)
    (hu : u.alarmUnder = s.alarmUnder) (hv : u.survey.ruled = s.survey.ruled) (hk : u.cue = s.cue) :
    u.Sound K loose opening where
  blocks := h.blocks.congr hg
  gains := h.gains.congr hp (fun z => ⟨(hz z).1, (hz z).2.1, (hz z).2.2.1, (hz z).2.2.2.1⟩)
    (fun a => by
      have : u.stations = s.stations := (congrArg State.stations hg :)
      rw [this]; exact ⟨rfl, rfl⟩)
    hu (congrArg Survey.pilotLevel hv :) (congrArg State.patterns hg :)
  flags := h.flags.congr (fun z => (hz z).2.2.2.2)
    ⟨(congrArg Survey.zone hv :), (congrArg Survey.state hv :), (congrArg Survey.pgRunning hv :), (congrArg Survey.queue hv :)⟩
  clocks := hc
  cue := by rw [hk]; exact h.cue

/-- A release step, and what an operation ends with, after a change that leaves zones to be filled. -/
theorem State.Sound.released {fg beds : ZoneSet} (h : s.Sound K loose opening) (hK : CueEngine.Stable K)
    (ht : s.Table fun z => (fg ||| beds).getLsbD z.val = true) (s0 : State) (c : Cause) :
    (State.finish s0 (s.releaseStep c.quiet fg beds) c).Rests K loose opening :=
  (h.of_beyond hK (State.releaseStep_beyond ..) (.releaseStep ..)).finish hK (ht.releaseStep c.quiet) s0 c

/-- An open program that is ended with its release step leaves the part at rest (R21, R33). -/
theorem State.Sound.endAndRelease (h : s.Sound K loose opening) (hK : CueEngine.Stable K) (ht : s.Table noZone)
    (hp : s.progs[p].isOpen = true) (why : EndReason) (c : Cause) : (s.endAndRelease p why c).Rests K loose opening := by
  rw [State.endAndRelease_eq]
  refine (h.endProgram hK hp why).released hK ?_ s c
  refine (ht.endProgram ((Program.isOpen_iff _).mp hp).1 why).mono fun z _ hz => ?_
  rcases hz with hz | hz
  · exact hz.elim
  · rw [BitVec.getLsbD_or, State.getLsbD_ownedBy, hz]; simp

theorem State.Rests.endAndRelease (h : s.Rests K loose opening) (hK : CueEngine.Stable K) (hp : s.progs[p].isOpen = true)
    (why : EndReason) (c : Cause) : (s.endAndRelease p why c).Rests K loose opening :=
  h.sound.endAndRelease hK h.table hp why c

theorem State.dropped_beyond (s : State) (p : ProgId) (zs : ZoneSet) : (s.dropped p zs).beyond = s.beyond := by
  unfold State.dropped
  rw [State.onProg_beyond _ p fun g => ?_, State.onZones_beyond s zs fun r => ?_]
  · rfl
  · rfl

/-- Zones dropped from a program's request leave the part at rest (R43). -/
theorem State.Rests.dropZonesOf (h : s.Rests K loose opening) (hK : CueEngine.Stable K) (p : ProgId) (zs : ZoneSet) (c : Cause) :
    (s.dropZonesOf p zs c).Rests K loose opening := by
  rw [State.dropZonesOf_eq]
  refine (h.sound.of_beyond hK (s.dropped_beyond p zs) (.of_cue rfl)).released hK ?_ s c
  refine (h.table.dropped p zs).mono fun z _ hz => ?_
  rcases hz with hz | ⟨hz, ho⟩
  · exact hz.elim
  · rw [BitVec.getLsbD_or, BitVec.getLsbD_and, State.getLsbD_ownedBy, ho, hz]; simp

/-- Zones added to a program's request leave the part at rest (R42). -/
theorem State.Rests.addZonesTo (h : s.Rests K loose opening) (hK : CueEngine.Stable K) (hp : s.progs[p].isOpen = true)
    (ht : s.progs[p].state ≠ .tail) (zs : ZoneSet) (c : Cause) : (s.addZonesTo p zs c).Rests K loose opening :=
  (h.sound.of_beyond hK (State.claimMore_beyond ..) (.claimMore ..)).finish hK (h.table.claimMore hp ht zs c.quiet) s c

/-- The cell of an excluded zone. -/
def Cell.barred : Cell := { owner := none, stack := [], bed := none, excluded := true, claim := fun _ => .none }

theorem CellOk.barred (r : Roles) (pend : Prop) : CellOk r pend Cell.barred where
  sound _ := by simp [Cell.barred]
  granted _ := by simp [Cell.barred]
  held _ := by simp [Cell.barred]
  nodup := List.nodup_nil
  depth := by simp [Cell.barred]
  rising := List.Pairwise.nil
  ownerKind _ e := nomatch e
  stackKind _ e := nomatch e
  bedKind _ e := nomatch e
  closed _ e := absurd rfl e
  tail _ _ := Or.inl rfl
  excluded _ := ⟨rfl, rfl, fun _ => rfl⟩
  vacant _ := Or.inl rfl
  first := by simp [Cell.barred]
  second e := nomatch e

theorem State.barred_bare (s : State) (zs : ZoneSet) (p : ProgId) : (s.barred zs).progs[p].bare = s.progs[p].bare := by
  rw [State.barred_prog]; rfl

theorem State.Table.barred (h : s.Table noZone) (zs : ZoneSet) : (s.barred zs).Table noZone where
  cell z := by
    have hr : (s.barred zs).roles = s.roles := State.roles_of_bare (funext fun p => s.barred_bare zs p)
    have hcl (q : ProgId) : (s.barred zs).progs[q].claim z =
        if (zs &&& ~~~s.excludedSet).getLsbD z.val then .none else s.progs[q].claim z := by
      rw [State.barred_prog, Program.claim_without]
    have hz := s.barred_zone zs z
    rw [hr]
    by_cases hzs : (zs &&& ~~~s.excludedSet).getLsbD z.val = true
    · rw [if_pos hzs] at hz
      have hc : (s.barred zs).cell z = Cell.barred :=
        Cell.ext (congrArg ZoneRec.owner hz :) (congrArg ZoneRec.stack hz :) (congrArg ZoneRec.bed hz :)
          (congrArg ZoneRec.excluded hz :) (funext fun q => (hcl q).trans (if_pos hzs))
      rw [hc]; exact .barred ..
    · rw [if_neg hzs] at hz
      have hc : (s.barred zs).cell z = s.cell z :=
        Cell.ext (congrArg ZoneRec.owner hz :) (congrArg ZoneRec.stack hz :) (congrArg ZoneRec.bed hz :)
          (congrArg ZoneRec.excluded hz :) (funext fun q => (hcl q).trans (if_neg hzs))
      rw [hc]; exact h.cell z
  roles := by rw [State.roles_of_bare (funext fun p => s.barred_bare zs p)]; exact h.roles
  whole p z ht := by
    have htog : s.progs[p].together = true := by
      rw [State.barred_prog] at ht; exact ht
    have := h.whole p z htog
    rw [State.barred_prog, Program.claim_without]
    split
    · decide
    · exact this
  alone p hp hop := by
    rw [State.barred_prog] at hop ⊢
    exact h.alone p hp hop
  listed p := by
    rw [show (s.barred zs).progs[p].state = s.progs[p].state from (congrArg Program.state (s.barred_bare zs p) :)]
    exact h.listed p

theorem State.gist_of_bare (hp : u.bare = s.bare) (hr : { u with progs := s.progs }.gist = s.gist) : u.gist = s.gist := by
  have hg (v : State) : v.gist.progs = remap (remap v.progs fun _ g => g.bare) fun _ g => g.face :=
    (remap_remap Program.face v.progs (f := fun _ g => g.bare) fun _ _ => rfl).symm
  have he (v : State) : v.gist = { ({ v with progs := s.progs } : State).gist with progs := v.gist.progs } := rfl
  have hbare : (remap u.progs fun _ g => g.bare) = remap s.progs fun _ g => g.bare := table_ext fun q => by
    rw [getElem_remap, getElem_remap]; exact congrFun hp q
  rw [he u, hr, hg u, hbare, ← hg s]

theorem State.Sound.barred (h : s.Sound K loose opening) (zs : ZoneSet) : (s.barred zs).Sound K loose opening := by
  refine h.congr (State.gist_of_bare (funext fun p => s.barred_bare zs p) rfl)
    (fun p => (congrArg Program.gain (s.barred_bare zs p) :)) (fun p => ?_) (fun z => ?_) rfl rfl rfl
  · rw [State.barred_prog]; exact h.clocks p
  · rw [State.barred_zone]; split <;> exact ⟨rfl, rfl, rfl, rfl, rfl⟩

/-- Excluded zones leave the part at rest (R48). -/
theorem State.Rests.exclude (h : s.Rests K loose opening) (hK : CueEngine.Stable K) (zs : ZoneSet) :
    (s.exclude zs).Rests K loose opening := by
  rw [State.exclude_eq]
  exact (h.sound.barred zs).finish hK (h.table.barred zs) s Cause.event

end ClaimOps

end Sys2Proof.Machine
end

section
namespace Sys2Proof.Machine

section Records
variable {K : CueEngine → Prop} {loose opening : Fin 2 → Prop} {s t u : State} {p : ProgId} {z : Zone}

/-- A change of one open program's record that keeps it open, with its kind, policy, source, clip part and route slot. -/
theorem State.gist_onProg {f : Program → Program} (ho : s.progs[p].isOpen = true) (ho' : (f s.progs[p]).isOpen = true)
    (hf : (f s.progs[p]).openFace = s.progs[p].openFace) : (s.onProg p f).gist = s.gist := by
  have hface : remap (s.onProg p f).progs (fun _ g => g.face) = remap s.progs fun _ g => g.face := by
    apply table_ext
    intro q
    rw [getElem_remap, getElem_remap]
    by_cases e : q = p
    · subst e
      have hself : (s.onProg q f).progs[q.val] = f s.progs[q] := s.onProg_progs_self q f
      rw [hself]
      exact (Program.face_of_open ho').trans (Eq.trans hf (Program.face_of_open ho).symm)
    · exact congrArg Program.face (s.onProg_progs_ne e f)
  have hg (v : State) : v.gist = { ({ v with progs := s.progs } : State).gist with progs := remap v.progs fun _ g => g.face } :=
    rfl
  rw [hg (s.onProg p f), hface]
  rfl

theorem State.Sound.onProg (h : s.Sound K loose opening) {f : Program → Program} (ho : s.progs[p].isOpen = true)
    (ho' : (f s.progs[p]).isOpen = true) (hf : (f s.progs[p]).openFace = s.progs[p].openFace)
    (hg : (f s.progs[p]).gain.inRange = true) (hc : (f s.progs[p]).Clocked) : (s.onProg p f).Sound K loose opening where
  blocks := h.blocks.congr (State.gist_onProg ho ho' hf)
  gains := { h.gains with
    progs := fun q => by
      by_cases e : q = p
      · subst e; rw [State.onProg_progs_self]; exact hg
      · rw [s.onProg_progs_ne e]; exact h.gains.progs q }
  flags := { h.flags with }
  clocks q := by
    by_cases e : q = p
    · subst e; rw [State.onProg_progs_self]; exact hc
    · rw [s.onProg_progs_ne e]; exact h.clocks q
  cue := h.cue

/-! #### A program enters TAIL (R44, R109) -/

theorem Program.claim_intoTail {g : Program} {z : Zone} (hs : g.claim z ≠ .unsound) :
    g.intoTail.claim z = if g.claim z = .waiting then .none else g.claim z := by
  have h1 : g.intoTail.requested.getLsbD z.val = (g.requested.getLsbD z.val && !g.waiting.getLsbD z.val) := by
    show (g.requested &&& ~~~g.waiting).getLsbD z.val = _
    rw [BitVec.getLsbD_and, getLsbD_compl]
  have h2 : g.intoTail.waiting.getLsbD z.val = false := BitVec.getLsbD_zero
  have h3 : g.intoTail.granted.getLsbD z.val = g.granted.getLsbD z.val := rfl
  have h4 : g.intoTail.held.getLsbD z.val = g.held.getLsbD z.val := rfl
  unfold Program.claim at hs ⊢
  rw [h1, h2, h3, h4]
  cases hr : g.requested.getLsbD z.val <;> cases hg : g.granted.getLsbD z.val <;> cases hh : g.held.getLsbD z.val <;>
    cases hw : g.waiting.getLsbD z.val <;> simp [-BitVec.getLsbD_eq_getElem, hr, hg, hh, hw] at hs ⊢

theorem CellOk.without_waiting {r : Roles} {c : Cell} {pend : Prop} (h : CellOk r pend c) (p : ProgId) :
    CellOk r pend { c with claim := fun q => if q = p ∧ c.claim q = .waiting then .none else c.claim q } where
  sound q := by
    simp only
    split
    · decide
    · exact h.sound q
  granted q := by
    rw [← h.granted q]
    simp only
    split
    · next e => rw [e.2]; simp
    · rfl
  held q := by
    rw [← h.held q]
    simp only
    split
    · next e => rw [e.2]; simp
    · rfl
  nodup := h.nodup
  depth := h.depth
  rising := h.rising
  ownerKind := h.ownerKind
  stackKind := h.stackKind
  bedKind := h.bedKind
  closed q hq := by
    simp only at hq
    split at hq
    · exact absurd rfl hq
    · exact h.closed q hq
  tail q hq := by
    simp only
    split
    · exact Or.inl rfl
    · exact h.tail q hq
  excluded hx := by
    obtain ⟨h1, h2, h3⟩ := h.excluded hx
    refine ⟨h1, h2, fun q => ?_⟩
    simp only
    split
    · rfl
    · exact h3 q
  vacant := h.vacant
  first := by
    simp only
    split
    · simp
    · exact h.first
  second hq := by
    simp only at hq
    split at hq
    · cases hq
    · exact h.second hq

/-- Another program in TAIL, which has no part but what it owns. -/
theorem CellOk.of_tail {r r' : Roles} {c : Cell} {pend : Prop} (h : CellOk r pend c) (hk : r'.kind = r.kind)
    (hc : r'.cls = r.cls) (ho : r'.isOpen = r.isOpen) (ht : ∀ q, r'.tail q = true → c.claim q = .none ∨ c.claim q = .granted) :
    CellOk r' pend c :=
  { h with
    granted := by rw [hk]; exact h.granted
    rising := by rw [hc]; exact h.rising
    ownerKind := by rw [hk]; exact h.ownerKind
    stackKind := by rw [hk]; exact h.stackKind
    bedKind := by rw [hk]; exact h.bedKind
    closed := by rw [ho]; exact h.closed
    tail := ht }

theorem CellOk.intoTail {r r' : Roles} {c : Cell} {pend : Prop} (h : CellOk r pend c) (hl : r.kind p = .live)
    (hk : r'.kind = r.kind) (hc : r'.cls = r.cls) (ho : r'.isOpen = r.isOpen)
    (ht : ∀ q, q ≠ p → r'.tail q = r.tail q) :
    CellOk r' pend { c with claim := fun q => if q = p ∧ c.claim q = .waiting then .none else c.claim q } := by
  refine (h.without_waiting p).of_tail hk hc ho fun q hq => ?_
  by_cases e : q = p
  · subst e
    cases hcl : c.claim q with
    | none => simp [hcl]
    | granted => simp [hcl]
    | waiting => simp [hcl]
    | held =>
      have := h.stackKind q ((h.held q).mp hcl)
      rw [hl] at this; cases this
    | unsound => exact absurd hcl (h.sound q)
  · exact (h.without_waiting p).tail q (ht q e ▸ hq)

theorem State.Table.intoTail {pend : Zone → Prop} (h : s.Table pend) (hk : s.progs[p].kind = .live) (ho : s.progs[p].isOpen = true) :
    (s.onProg p Program.intoTail).Table pend := by
  have hself := s.onProg_progs_self p Program.intoTail
  have hother {q : ProgId} (e : q ≠ p) := s.onProg_progs_ne e Program.intoTail
  have hkind : (s.onProg p Program.intoTail).roles.kind = s.roles.kind := funext fun q => by
    show (s.onProg p Program.intoTail).progs[q].kind = s.progs[q].kind
    by_cases e : q = p
    · subst e; rw [hself]; rfl
    · rw [hother e]
  have hcls : (s.onProg p Program.intoTail).roles.cls = s.roles.cls := funext fun q => by
    show (s.onProg p Program.intoTail).progs[q].cls = s.progs[q].cls
    by_cases e : q = p
    · subst e; rw [hself]; rfl
    · rw [hother e]
  have hopen : (s.onProg p Program.intoTail).roles.isOpen = s.roles.isOpen := funext fun q => by
    show (s.onProg p Program.intoTail).progs[q].isOpen = s.progs[q].isOpen
    by_cases e : q = p
    · subst e; rw [hself, ho]; rfl
    · rw [hother e]
  have htail (q : ProgId) (e : q ≠ p) : (s.onProg p Program.intoTail).roles.tail q = s.roles.tail q := by
    show ((s.onProg p Program.intoTail).progs[q].state == .tail) = (s.progs[q].state == .tail)
    rw [hother e]
  have hclaim (q : ProgId) (z : Zone) : (s.onProg p Program.intoTail).progs[q].claim z =
      if q = p ∧ s.progs[q].claim z = .waiting then .none else s.progs[q].claim z := by
    by_cases e : q = p
    · subst e
      rw [hself, Program.claim_intoTail ((h.cell z).sound q)]
      simp only [true_and]
    · rw [hother e, if_neg fun e' => e e'.1]
  have htog (q : ProgId) : (s.onProg p Program.intoTail).progs[q].together = s.progs[q].together := by
    by_cases e : q = p
    · subst e; rw [hself]; rfl
    · rw [hother e]
  refine ⟨fun z => ?_, ⟨fun q hq => ?_, ?_, ?_⟩, fun q z ht => ?_, fun q h2 hq => ?_, fun q => ?_⟩
  · have hc : (s.onProg p Program.intoTail).cell z =
        { s.cell z with claim := fun q => if q = p ∧ (s.cell z).claim q = .waiting then .none else (s.cell z).claim q } :=
      Cell.ext rfl rfl rfl rfl (funext fun q => hclaim q z)
    rw [hc]
    exact (h.cell z).intoTail hk hkind hcls hopen htail
  · rw [hkind]
    by_cases e : q = p
    · subst e; exact hk
    · exact h.roles.tail_live q (htail q e ▸ hq)
  · rw [hcls, hopen]; exact h.roles.class_zero
  · rw [hkind, hopen]; exact h.roles.alarm
  · have := h.whole q z ((htog q).symm.trans ht)
    rw [hclaim]
    split
    · decide
    · exact this
  · rw [htog]; exact h.alone q h2 ((congrFun hopen q).symm.trans hq)
  · have hst : (s.onProg p Program.intoTail).progs[q].state ≠ .free ↔ s.progs[q].state ≠ .free := by
      by_cases e : q = p
      · subst e; rw [hself]
        exact iff_of_true (fun e => nomatch e) ((Program.isOpen_iff _).mp ho).1
      · rw [hother e]
    rw [hst]; exact h.listed q

theorem State.releaseVoice_ruled (s : State) (p : ProgId) : (s.releaseVoice p).ruled = s.ruled := by
  unfold State.releaseVoice; split <;> rfl

theorem State.Sound.intoTail (h : s.Sound K loose opening) (ho : s.progs[p].isOpen = true) :
    ((s.onProg p Program.intoTail).releaseVoice p).Sound K loose opening :=
  (h.onProg (f := Program.intoTail) ho rfl rfl (Ramp.retarget_inRange (h.gains.progs p) false _ _)
    fun _ hw => nomatch hw).of_ruled (State.releaseVoice_ruled ..)

/-- A close leaves the part at rest (R44, R109). -/
theorem State.Rests.closeProg (h : s.Rests K loose opening) (hK : CueEngine.Stable K) (ho : s.progs[p].isOpen = true)
    (c : Cause) : (s.closeProg p c).Rests K loose opening := by
  unfold State.closeProg
  simp only
  split
  · next hk =>
    have hs := h.sound.intoTail ho
    have ht := (h.table.intoTail hk.1 ho).of_ruled (State.releaseVoice_ruled (s.onProg p Program.intoTail) p)
    split
    · exact hs.finish hK ht s c
    · refine hs.endAndRelease hK ht ?_ .closed c
      have hp : ((s.onProg p Program.intoTail).releaseVoice p).progs = (s.onProg p Program.intoTail).progs := by
        unfold State.releaseVoice; split <;> rfl
      rw [hp, State.onProg_progs_self]
      rfl
  · exact h.endAndRelease hK ho .closed c

/-! #### A join deadline (R38) -/

theorem State.Sound.joined (h : s.Sound K loose opening) (ho : s.progs[p].isOpen = true) :
    (s.onProg p Program.joined).Sound K loose opening :=
  h.onProg ho ho rfl (h.gains.progs p) (h.clocks p)

theorem State.Table.joined (h : s.Table noZone) (p : ProgId) : (s.onProg p Program.joined).Table noZone := by
  have hself := s.onProg_progs_self p Program.joined
  have hbare (q : ProgId) : (s.onProg p Program.joined).progs[q].kind = s.progs[q].kind ∧
      (s.onProg p Program.joined).progs[q].cls = s.progs[q].cls ∧
      (s.onProg p Program.joined).progs[q].state = s.progs[q].state ∧
      (s.onProg p Program.joined).progs[q].together = s.progs[q].together := by
    by_cases e : q = p
    · subst e; rw [hself]; exact ⟨rfl, rfl, rfl, rfl⟩
    · rw [s.onProg_progs_ne e]; exact ⟨rfl, rfl, rfl, rfl⟩
  have hroles : (s.onProg p Program.joined).roles = s.roles := by
    unfold State.roles Program.isOpen
    simp only [(hbare _).1, (hbare _).2.1, (hbare _).2.2.1]
  have hclaim (q : ProgId) (z : Zone) : (s.onProg p Program.joined).progs[q].claim z =
      if q = p ∧ s.progs[q].claim z = .waiting then .none else s.progs[q].claim z := by
    by_cases e : q = p
    · subst e
      have hw := (Program.bits_of_claim ((h.cell z).sound q)).2.2.2
      have hj : s.progs[q].joined.claim z = (s.progs[q].without s.progs[q].waiting).claim z := rfl
      rw [hself, hj, Program.claim_without]
      by_cases hc : s.progs[q].claim z = .waiting
      · rw [if_pos (hw.trans (decide_eq_true hc)), if_pos ⟨rfl, hc⟩]
      · rw [if_neg fun e => hc (of_decide_eq_true (hw.symm.trans e)), if_neg fun e => hc e.2]
    · rw [s.onProg_progs_ne e, if_neg fun e' => e e'.1]
  refine ⟨fun z => ?_, by rw [hroles]; exact h.roles, fun q z ht => ?_, fun q h2 hq => ?_, fun q => ?_⟩
  · have hc : (s.onProg p Program.joined).cell z =
        { s.cell z with claim := fun q => if q = p ∧ (s.cell z).claim q = .waiting then .none else (s.cell z).claim q } :=
      Cell.ext rfl rfl rfl rfl (funext fun q => hclaim q z)
    rw [hc, hroles]
    exact (h.cell z).without_waiting p
  · have := h.whole q z ((hbare q).2.2.2.symm.trans ht)
    rw [hclaim]
    split
    · decide
    · exact this
  · rw [(hbare q).2.2.2]
    exact h.alone q h2 ((congrFun (congrArg Roles.isOpen hroles) q).symm.trans hq)
  · rw [(hbare q).2.2.1]; exact h.listed q

theorem State.Rests.joinDone (h : s.Rests K loose opening) (hK : CueEngine.Stable K) (ho : s.progs[p].isOpen = true) :
    (s.joinDone p).Rests K loose opening :=
  (h.sound.joined ho).finish hK (h.table.joined p) s Cause.event

/-! #### An ENDED record read by its owner becomes FREE (R22, R50) -/

theorem State.freeRecord_orders (h : s.ordersLawful = true) (p : ProgId) : (s.freeRecord p).ordersLawful = true := by
  obtain ⟨h1, h2, h3, h4, h5⟩ := (State.orders_iff s).mp h
  refine (State.orders_iff _).mpr ⟨h1.erase p, h2.erase p, h3, fun q => ?_, h5⟩
  have hm : (q ∈ s.openOrder.erase p ↔ q ≠ p ∧ q ∈ s.openOrder) ∧ (q ∈ s.endOrder.erase p ↔ q ≠ p ∧ q ∈ s.endOrder) :=
    ⟨h1.mem_erase_iff, h2.mem_erase_iff⟩
  by_cases e : q = p
  · subst e
    have hs : (s.freeRecord q).progs[q] = Program.free := s.onProg_progs_self q fun _ => Program.free
    rw [hs]
    exact ⟨iff_of_false (fun hq => (hm.1.mp hq).1 rfl) (fun hq => hq rfl),
      iff_of_false (fun hq => (hm.2.mp hq).1 rfl) (fun hq => nomatch hq)⟩
  · have hs : (s.freeRecord p).progs[q] = s.progs[q] := s.onProg_progs_ne e fun _ => Program.free
    rw [hs]
    exact ⟨hm.1.trans ((and_iff_right e).trans (h4 q).1), hm.2.trans ((and_iff_right e).trans (h4 q).2)⟩

/-- Records that are not open may change, where no timer runs and the orders follow. -/
theorem State.Blocks.of_closed (h : s.Blocks loose opening)
    (hg : ({ u with progs := s.progs, openOrder := s.openOrder, endOrder := s.endOrder } : State).gist = s.gist)
    (ho : u.ordersLawful = true) (hp : ∀ p : ProgId, u.progs[p].isOpen = s.progs[p].isOpen ∧
      (s.progs[p].isOpen = true → u.progs[p] = s.progs[p]) ∧
      (s.progs[p].isOpen = false → u.progs[p].waitTimer = none ∧ u.progs[p].joinTimer = none)) :
    u.Blocks loose opening := by
  have hb := h.congr hg
  have hop (p : ProgId) := (hp p).1
  have heq {p : ProgId} (e : u.progs[p].isOpen = true) : u.progs[p] = s.progs[p] := (hp p).2.1 ((hop p).symm.trans e)
  refine {
    orders := ho
    slots := fun k => ?_
    tones := hb.tones
    windows := hb.windows
    sounds := fun k hk => (hop _).trans (hb.sounds k hk)
    idles := fun k hk hi => (hop _).trans (hb.idles k hk hi)
    timers := fun p hn => (hp p).2.2 ((hop p).symm.trans hn)
    cadence := hb.cadence
    intercom := hb.intercom
    callouts := ?_
    reset := hb.reset
    ready := hb.ready
    users := ?_
    ranges := hb.ranges
    entries := hb.entries
    routes := ?_ }
  · obtain ⟨h1, h2⟩ := (State.slotLawful_iff _ k).mp (hb.slots k)
    refine (State.slotLawful_iff _ k).mpr ⟨fun e => ?_, h2⟩
    rw [heq e]
    exact h1 ((hop _).symm.trans e)
  · obtain ⟨h1, h2⟩ := (State.callouts_iff _).mp hb.callouts
    refine (State.callouts_iff _).mpr ⟨fun a => (Eq.trans ?_ (h1 a)), fun p e hk => ?_⟩
    · refine List.countP_congr fun p _ => ?_
      show (u.progs[p].isOpen && u.progs[p].station == some a) = true ↔
        (s.progs[p].isOpen && s.progs[p].station == some a) = true
      cases e : u.progs[p].isOpen with
      | false => rw [← hop p, e]; simp
      | true => rw [heq e, ← heq e, e]
    · rw [heq e] at hk ⊢
      exact h2 p ((hop p).symm.trans e) hk
  · have hu := (State.users_iff _).mp hb.users
    refine (State.users_iff u).mpr { hu with
      clip := fun p ch e hc => ?_
      prog := fun ch p hc => ?_ }
    · rw [heq e] at hc
      exact hu.clip p ch ((hop p).symm.trans e) hc
    · obtain ⟨h1, h2, h3, h4⟩ := hu.prog ch p hc
      have e : u.progs[p].isOpen = true := (hop p).trans h2
      rw [heq e]
      exact ⟨h1, h2, h3, h4⟩
  · refine (State.routes_iff u).mpr fun k => ?_
    obtain ⟨h1, h2⟩ := (State.routes_iff _).mp hb.routes k
    refine ⟨fun p hk => ?_, fun p hk => ?_⟩
    · obtain ⟨e1, e2⟩ := h1 p hk
      have e : u.progs[p].isOpen = true := (hop p).trans e1
      rw [heq e]; exact ⟨e1, e2⟩
    · obtain ⟨e1, e2⟩ := h2 p hk
      have e : u.progs[p].isOpen = true := (hop p).trans e1
      rw [heq e]; exact ⟨e1, e2⟩

theorem Program.claim_free (z : Zone) : Program.free.claim z = .none := by
  unfold Program.claim
  rw [show Program.free.requested = 0#64 from rfl, show Program.free.granted = 0#64 from rfl,
    show Program.free.held = 0#64 from rfl, show Program.free.waiting = 0#64 from rfl, BitVec.getLsbD_zero]

theorem State.Table.claim_closed {pend : Zone → Prop} (h : s.Table pend) (hp : s.progs[p].isOpen = false) (z : Zone) :
    s.progs[p].claim z = .none := by
  by_contra hc
  have : s.progs[p].isOpen = true := (h.cell z).closed p hc
  rw [hp] at this; cases this

/-- The kind and the class of a program that is not open are nothing to a cell. -/
theorem CellOk.of_roles {r r' : Roles} {c : Cell} {pend : Prop} (h : CellOk r pend c)
    (ho : ∀ q, r.isOpen q = true → r'.isOpen q = true) (hr : ∀ q, r.isOpen q = true → r'.kind q = r.kind q ∧ r'.cls q = r.cls q ∧ r'.tail q = r.tail q)
    (ht : ∀ q, r.isOpen q = false → r'.tail q = false) : CellOk r' pend c := by
  have howner {o : ProgId} (e : c.owner = some o) : r.isOpen o = true := h.owner_open e
  have hstack {q : ProgId} (e : q ∈ c.stack) : r.isOpen q = true := h.held_open e
  have hbed {b : ProgId} (e : c.bed = some b) : r.isOpen b = true := by
    refine h.closed b ?_
    have := (h.granted b).mpr (by rw [if_pos (h.bedKind b e)]; exact e)
    rw [this]; decide
  refine { h with
    granted := fun p => ?_
    rising := ?_
    ownerKind := fun o e => (hr o (howner e)).1 ▸ h.ownerKind o e
    stackKind := fun q e => by rw [(hr q (hstack e)).1]; exact h.stackKind q e
    bedKind := fun b e => (hr b (hbed e)).1.trans (h.bedKind b e)
    closed := fun p e => ho p (h.closed p e)
    tail := fun p e => ?_ }
  · cases hp : r.isOpen p with
    | true => rw [(hr p hp).1]; exact h.granted p
    | false =>
      have hn : c.claim p = .none := by
        by_contra hc
        rw [h.closed p hc] at hp; cases hp
      rw [hn]
      refine iff_of_false (by decide) ?_
      split
      · exact fun e => by rw [hbed e] at hp; cases hp
      · exact fun e => by rw [howner e] at hp; cases hp
  · have hall : ∀ q ∈ c.owner.toList ++ c.stack, r.isOpen q = true := by
      intro q hq
      rcases List.mem_append.mp hq with e | e
      · exact howner (Option.mem_toList.mp e)
      · exact hstack e
    exact h.rising.imp_of_mem fun ha hb hab => by
      rw [(hr _ (hall _ ha)).2.1, (hr _ (hall _ hb)).2.1]; exact hab
  · cases hp : r.isOpen p with
    | true => exact h.tail p ((hr p hp).2.2 ▸ e)
    | false => rw [ht p hp] at e; cases e

end Records

end Sys2Proof.Machine
end

section
namespace Sys2Proof.Machine

section Freeing
variable {K : CueEngine → Prop} {loose opening : Fin 2 → Prop} {s t u : State} {p : ProgId} {z : Zone}

/-- Records that are not open may change, where they claim nothing and the order of opening follows. -/
theorem State.Table.of_closed {pend : Zone → Prop} (h : s.Table pend) (hz : u.zones = s.zones)
    (hp : ∀ p : ProgId, u.progs[p].isOpen = s.progs[p].isOpen ∧ (s.progs[p].isOpen = true → u.progs[p] = s.progs[p]) ∧
      (s.progs[p].isOpen = false → ∀ z, u.progs[p].claim z = .none))
    (hl : ∀ p : ProgId, p ∈ u.openOrder ↔ u.progs[p].state ≠ .free) : u.Table pend := by
  have hopen : u.roles.isOpen = s.roles.isOpen := funext fun p => (hp p).1
  have hclaim (p : ProgId) (z : Zone) : u.progs[p].claim z = s.progs[p].claim z := by
    cases e : s.progs[p].isOpen with
    | true => rw [(hp p).2.1 e]
    | false => rw [(hp p).2.2 e z, h.claim_closed e z]
  have hcell (z : Zone) : u.cell z = s.cell z := by
    refine Cell.ext ?_ ?_ ?_ ?_ (funext fun p => hclaim p z)
    all_goals (unfold State.cell; rw [hz])
  have heq {q : ProgId} (e : u.roles.isOpen q = true) : u.progs[q] = s.progs[q] := (hp q).2.1 ((hp q).1.symm.trans e)
  have hkind {q : ProgId} (e : u.roles.isOpen q = true) : u.roles.kind q = s.roles.kind q := congrArg Program.kind (heq e)
  have htail (q : ProgId) (e : s.progs[q].isOpen = false) : u.roles.tail q = false := by
    have hn : u.progs[q].isOpen = false := (hp q).1.trans e
    show (u.progs[q].state == .tail) = false
    cases hs : u.progs[q].state with
    | tail => unfold Program.isOpen at hn; rw [hs] at hn; cases hn
    | _ => rfl
  refine ⟨fun z => ?_, ⟨fun q hq => ?_, fun q hq => ?_, fun q h2 hq => ?_⟩, fun q z ht => ?_, fun q h2 hq => ?_, hl⟩
  · rw [hcell]
    refine (h.cell z).of_roles (fun q hq => (congrFun hopen q).trans hq) (fun q hq => ?_) htail
    have e : u.roles.isOpen q = true := (congrFun hopen q).trans hq
    exact ⟨hkind e, congrArg Program.cls (heq e), congrArg (fun g : Program => g.state == .tail) (heq e)⟩
  · have e : u.roles.isOpen q = true := by
      cases hs : s.progs[q].isOpen with
      | true => exact (congrFun hopen q).trans hs
      | false => rw [htail q hs] at hq; cases hq
    rw [hkind e]
    exact h.roles.tail_live q ((congrArg (fun g : Program => g.state == .tail) (heq e) :).symm.trans hq)
  · rw [show u.roles.cls q = s.roles.cls q from congrArg Program.cls (heq hq)]
    exact h.roles.class_zero q ((congrFun hopen q).symm.trans hq)
  · rw [hkind hq]
    exact h.roles.alarm q h2 ((congrFun hopen q).symm.trans hq)
  · rw [hclaim]
    cases e : s.progs[q].isOpen with
    | true => exact h.whole q z ((congrArg Program.together ((hp q).2.1 e)).symm.trans ht)
    | false => rw [h.claim_closed e z]; decide
  · rw [heq hq]; exact h.alone q h2 ((congrFun hopen q).symm.trans hq)

/-- What becomes of the records that are not open leaves the part at rest. -/
theorem State.Rests.freeRecord (h : s.Rests K loose opening) (hp : s.progs[p].state = .ended) :
    (s.freeRecord p).Rests K loose opening := by
  have hclosed : s.progs[p].isOpen = false := by unfold Program.isOpen; rw [hp]; rfl
  have hself : (s.freeRecord p).progs[p] = Program.free := s.onProg_progs_self p fun _ => Program.free
  have hother {q : ProgId} (e : q ≠ p) : (s.freeRecord p).progs[q] = s.progs[q] := s.onProg_progs_ne e fun _ => Program.free
  have hopen (q : ProgId) : (s.freeRecord p).progs[q].isOpen = s.progs[q].isOpen := by
    by_cases e : q = p
    · subst e; rw [hself, hclosed]; rfl
    · rw [hother e]
  have hsame (q : ProgId) (hq : s.progs[q].isOpen = true) : (s.freeRecord p).progs[q] = s.progs[q] :=
    hother fun e => by rw [e, hclosed] at hq; cases hq
  have horders := State.freeRecord_orders h.sound.blocks.orders p
  have hclear : (s.freeRecord p).surveyClear = true := by
    have hcls (z : Zone) : (s.freeRecord p).ownerClass z = s.ownerClass z := by
      unfold State.ownerClass
      show (match s.zones[z].owner with
        | none => none
        | some o => some (s.freeRecord p).progs[o].cls) = _
      cases ho : s.zones[z].owner with
      | none => rfl
      | some o =>
        have hop : s.progs[o].isOpen = true := (h.table.cell z).owner_open ho
        simp only [hsame o hop]
    have hc := h.clear
    unfold State.surveyClear at hc ⊢
    simp only [hcls]
    exact hc
  refine ⟨⟨h.sound.blocks.of_closed rfl horders fun q => ⟨hopen q, hsame q, fun hq => ?_⟩, { h.sound.gains with progs := fun q => ?_ },
    { h.sound.flags with }, fun q => ?_, h.sound.cue⟩, h.table.of_closed rfl (fun q => ⟨hopen q, hsame q, fun hq z => ?_⟩) ?_,
    fun q => ?_, hclear⟩
  · by_cases e : q = p
    · subst e; rw [hself]; exact ⟨rfl, rfl⟩
    · rw [hother e]; exact h.sound.blocks.timers q hq
  · by_cases e : q = p
    · subst e; rw [hself]; rfl
    · rw [hother e]; exact h.sound.gains.progs q
  · by_cases e : q = p
    · subst e; rw [hself]; exact fun _ hw => nomatch hw
    · rw [hother e]; exact h.sound.clocks q
  · by_cases e : q = p
    · subst e; rw [hself]; exact Program.claim_free z
    · rw [hother e]; exact h.table.claim_closed hq z
  · exact fun q => (((State.orders_iff _).mp horders).2.2.2.1 q).1
  · by_cases e : q = p
    · subst e; rw [hself]; rfl
    · rw [hother e]; exact h.settled q

/-! ### Zones readmitted (R49) -/

theorem State.ownerClass_congr (ho : u.zones[z].owner = s.zones[z].owner) (hp : u.progs = s.progs) :
    u.ownerClass z = s.ownerClass z := by
  unfold State.ownerClass
  rw [ho, hp]

theorem State.Rests.readmit (h : s.Rests K loose opening) (zs : ZoneSet) :
    (s.onZones zs fun r => { r with excluded := false }).Rests K loose opening := by
  have hz (z : Zone) : (s.onZones zs fun r => { r with excluded := false }).zones[z] =
      if zs.getLsbD z.val then { s.zones[z] with excluded := false } else s.zones[z] := remap_at ..
  have hcls (z : Zone) : (s.onZones zs fun r => { r with excluded := false }).ownerClass z = s.ownerClass z := by
    refine State.ownerClass_congr ?_ rfl
    rw [hz]
    split <;> rfl
  have hclear : (s.onZones zs fun r => { r with excluded := false }).surveyClear = true := by
    have hc := h.clear
    unfold State.surveyClear at hc ⊢
    simp only [hcls]
    exact hc
  refine ⟨h.sound.congr rfl (fun _ => rfl) h.sound.clocks (fun z => ?_) rfl rfl rfl, { h.table with cell := fun z => ?_ },
    h.settled, hclear⟩
  · rw [hz]; split <;> exact ⟨rfl, rfl, rfl, rfl, rfl⟩
  · have hcell : (s.onZones zs fun r => { r with excluded := false }).cell z =
        if zs.getLsbD z.val then { s.cell z with excluded := false } else s.cell z := by
      unfold State.cell
      rw [hz]
      split <;> rfl
    rw [hcell]
    split
    · exact { h.table.cell z with excluded := fun e => nomatch e }
    · exact h.table.cell z

/-- Settings of zones that no law reads. -/
theorem State.Rests.onZones (h : s.Rests K loose opening) (zs : ZoneSet) {f : ZoneRec → ZoneRec}
    (hf : ∀ r, (f r).ruled = r.ruled) : (s.onZones zs f).Rests K loose opening := by
  refine h.of_ruled ?_
  have hz : remap (s.onZones zs f).zones (fun _ r => r.ruled) = remap s.zones fun _ r => r.ruled := by
    apply table_ext
    intro z
    unfold State.onZones
    rw [getElem_remap, getElem_remap, getElem_remap]
    simp only
    split
    · exact hf _
    · rfl
  have he (v : State) : v.ruled = { ({ v with zones := s.zones } : State).ruled with zones := remap v.zones fun _ r => r.ruled } :=
    rfl
  rw [he (s.onZones zs f), hz]
  rfl

end Freeing

end Sys2Proof.Machine
end

section
namespace Sys2Proof.Machine

/-! ### Gains and levels move within their range (R65 to R76) -/

section Levels
variable {K : CueEngine → Prop} {loose opening : Fin 2 → Prop} {s t u : State} {p : ProgId} {z : Zone}

/-- The laws hold of other gains of programs in range. -/
theorem State.Rests.of_progGains (h : s.Rests K loose opening) (hu : ({ u with progs := s.progs } : State) = s)
    (hp : ∀ p : ProgId, ({ u.progs[p] with gain := s.progs[p].gain } : Program) = s.progs[p])
    (hg : ∀ p : ProgId, u.progs[p].gain.inRange = true) : u.Rests K loose opening := by
  have hrest {β : Type} (f : State → β) (hf : f u = f { u with progs := s.progs }) : f u = f s := hf.trans (congrArg f hu)
  have hbare (p : ProgId) {β : Type} (f : Program → β) (hf : ∀ g r, f { g with gain := r } = f g) : f u.progs[p] = f s.progs[p] :=
    (hf u.progs[p] s.progs[p].gain).symm.trans (congrArg f (hp p))
  have hz : u.zones = s.zones := hrest State.zones rfl
  have hgist : u.gist = s.gist := by
    have hface : remap u.progs (fun _ g => g.face) = remap s.progs fun _ g => g.face := table_ext fun q => by
      rw [getElem_remap, getElem_remap]; exact hbare q Program.face fun _ _ => rfl
    have hg (v : State) : v.gist = { ({ v with progs := s.progs } : State).gist with progs := remap v.progs fun _ g => g.face } :=
      rfl
    rw [hg u, hface, hu]
    rfl
  have hcell (z : Zone) : u.cell z = s.cell z := by
    refine Cell.ext ?_ ?_ ?_ ?_ (funext fun q => hbare q (fun g => g.claim z) fun _ _ => rfl)
    all_goals (unfold State.cell; rw [hz])
  have hroles : u.roles = s.roles := by
    unfold State.roles
    congr 1 <;> funext q
    · exact hbare q Program.kind fun _ _ => rfl
    · exact hbare q Program.cls fun _ _ => rfl
    · exact hbare q Program.isOpen fun _ _ => rfl
    · exact hbare q (fun g => g.state == .tail) fun _ _ => rfl
  have hsv : u.survey = s.survey := hrest State.survey rfl
  refine ⟨⟨h.sound.blocks.congr hgist, ?_, ?_, fun q => ?_, ?_⟩, h.table.of_cells hcell hroles
    (fun q => hbare q Program.together fun _ _ => rfl) (hrest State.openOrder rfl) (fun q => hbare q Program.state fun _ _ => rfl),
    fun q => (hbare q Program.settled fun _ _ => rfl).trans (h.settled q),
    (State.surveyClear_of_cells hcell hroles (by rw [hsv])).trans h.clear⟩
  · have hg0 := h.sound.gains
    refine ⟨hg, fun z => by rw [hz]; exact hg0.zones z, fun a => ?_, ?_, ?_, fun k => ?_⟩
    · rw [hrest State.stations rfl]; exact hg0.stations a
    · rw [hrest State.alarmUnder rfl]; exact hg0.under
    · rw [hsv]; exact hg0.pilot
    · rw [hrest State.patterns rfl]; exact hg0.patterns k
  · exact h.sound.flags.congr (fun z => by rw [hz]) (by rw [hsv]; exact ⟨rfl, rfl, rfl, rfl⟩)
  · have : u.progs[q].Clocked = s.progs[q].Clocked := hbare q Program.Clocked fun _ _ => rfl
    rw [this]; exact h.sound.clocks q
  · rw [hrest State.cue rfl]; exact h.sound.cue

/-- What the claim table and the survey say of a zone. -/
def ZoneRec.placed (r : ZoneRec) : ZoneRec :=
  { ZoneRec.reset with owner := r.owner, stack := r.stack, bed := r.bed, excluded := r.excluded, underSurvey := r.underSurvey }

/-- The laws hold of other levels of zones in range. -/
theorem State.Rests.of_zoneGains (h : s.Rests K loose opening) (hu : ({ u with zones := s.zones } : State) = s)
    (hz : ∀ z : Zone, u.zones[z].placed = s.zones[z].placed)
    (hg : ∀ z : Zone, u.zones[z].gainsInRange = true) : u.Rests K loose opening := by
  have hrest {β : Type} (f : State → β) (hf : f u = f { u with zones := s.zones }) : f u = f s := hf.trans (congrArg f hu)
  have hp : u.progs = s.progs := hrest State.progs rfl
  have hcell (z : Zone) : u.cell z = s.cell z := by
    refine Cell.ext (congrArg ZoneRec.owner (hz z) :) (congrArg ZoneRec.stack (hz z) :) (congrArg ZoneRec.bed (hz z) :)
      (congrArg ZoneRec.excluded (hz z) :) (funext fun q => ?_)
    unfold State.cell; rw [hp]
  have hroles : u.roles = s.roles := by unfold State.roles; rw [hp]
  have hsv : u.survey = s.survey := hrest State.survey rfl
  refine ⟨⟨h.sound.blocks.congr (hrest State.gist rfl), ?_, ?_, fun q => ?_, ?_⟩, h.table.of_cells hcell hroles
    (fun q => by rw [hp]) (hrest State.openOrder rfl) (fun q => by rw [hp]),
    fun q => by rw [hp]; exact h.settled q, (State.surveyClear_of_cells hcell hroles (by rw [hsv])).trans h.clear⟩
  · have hg0 := h.sound.gains
    refine ⟨fun q => by rw [hp]; exact hg0.progs q, hg, fun a => ?_, ?_, ?_, fun k => ?_⟩
    · rw [hrest State.stations rfl]; exact hg0.stations a
    · rw [hrest State.alarmUnder rfl]; exact hg0.under
    · rw [hsv]; exact hg0.pilot
    · rw [hrest State.patterns rfl]; exact hg0.patterns k
  · exact h.sound.flags.congr (fun z => (congrArg ZoneRec.underSurvey (hz z) :)) (by rw [hsv]; exact ⟨rfl, rfl, rfl, rfl⟩)
  · rw [hp]; exact h.sound.clocks q
  · rw [hrest State.cue rfl]; exact h.sound.cue

/-- A change of every zone's levels that keeps places, flags and range. -/
theorem State.Rests.remapZones (h : s.Rests K loose opening) {f : Zone → ZoneRec → ZoneRec}
    (hf : ∀ z r, (f z r).placed = r.placed) (hg : ∀ z r, r.gainsInRange = true → (f z r).gainsInRange = true) :
    ({ s with zones := remap s.zones f } : State).Rests K loose opening :=
  h.of_zoneGains rfl (fun z => by rw [remap_at]; exact hf z _) fun z => by
    rw [remap_at]; exact hg z _ (h.sound.gains.zones z)

theorem ZoneRec.gains_iff (r : ZoneRec) : r.gainsInRange = true ↔
    r.master.inRange = true ∧ r.duck.inRange = true ∧ r.emergency ≤ unity ∧ r.duckLevel ≤ unity := by
  simp only [ZoneRec.gainsInRange, Bool.and_eq_true, decide_eq_true_eq, and_assoc]

theorem State.Rests.retarget (h : s.Rests K loose opening) (p : ProgId) (b : Bool) (n d : Nat) :
    (s.onProg p fun g => { g with gain := g.gain.retarget b n d }).Rests K loose opening := by
  refine h.of_progGains rfl (fun q => ?_) fun q => ?_
  · by_cases e : q = p
    · subst e; rw [State.onProg_progs_self]
    · rw [s.onProg_progs_ne e]
  · by_cases e : q = p
    · subst e; rw [State.onProg_progs_self]; exact Ramp.retarget_inRange (h.sound.gains.progs q) b n d
    · rw [s.onProg_progs_ne e]; exact h.sound.gains.progs q

/-- Every running ramp moves (R67). -/
theorem State.Rests.tickRamps (h : s.Rests K loose opening) : s.tickRamps.Rests K loose opening := by
  have h1 : ({ s with progs := remap s.progs fun _ g => if g.ramps then { g with gain := g.gain.tick } else g } : State).Rests
      K loose opening := by
    refine h.of_progGains rfl (fun q => ?_) fun q => ?_
    · rw [remap_at]; split <;> rfl
    · rw [remap_at]
      split
      · exact Ramp.tick_inRange (h.sound.gains.progs q)
      · exact h.sound.gains.progs q
  have h2 := h1.remapZones (f := fun _ r => { r with master := r.master.tick, duck := r.duck.tick }) (fun _ _ => rfl)
    fun _ r hr => by
      rw [ZoneRec.gains_iff] at hr ⊢
      exact ⟨Ramp.tick_inRange hr.1, Ramp.tick_inRange hr.2.1, hr.2.2⟩
  exact h2.of_ruled rfl

theorem ZoneRec.profiled_placed (r : ZoneRec) (cls : Option Nat) (a b c : Nat) : (r.profiled cls a b c).placed = r.placed := by
  unfold ZoneRec.profiled
  (repeat' split) <;> rfl

theorem ZoneRec.profiled_gains {r : ZoneRec} (h : r.gainsInRange = true) (cls : Option Nat) (a b c : Nat) :
    (r.profiled cls a b c).gainsInRange = true := by
  have h1 : ({ r with
      duckLevel := clampGain a, duckAttack := min b Config.maxRampMs
      duckRelease := min c Config.maxRampMs } : ZoneRec).gainsInRange = true := by
    rw [ZoneRec.gains_iff] at h ⊢
    exact ⟨h.1, h.2.1, h.2.2.1, Nat.min_le_right _ _⟩
  unfold ZoneRec.profiled
  (repeat' split)
  · exact h1
  · exact ZoneRec.duckFor_gains h1 _
  · exact h1

theorem State.Rests.onZoneLevels (h : s.Rests K loose opening) (zs : ZoneSet) {f : ZoneRec → ZoneRec}
    (hf : ∀ r, (f r).placed = r.placed) (hg : ∀ r, r.gainsInRange = true → (f r).gainsInRange = true) :
    (s.onZones zs f).Rests K loose opening := by
  refine h.remapZones (fun z r => ?_) fun z r hr => ?_
  · split
    · exact hf r
    · rfl
  · split
    · exact hg r hr
    · exact hr

theorem State.Rests.onAlarmUnder (h : s.Rests K loose opening) (n : Nat) :
    ({ s with alarmUnder := clampGain n } : State).Rests K loose opening :=
  ⟨⟨h.sound.blocks.congr rfl, { h.sound.gains with under := Nat.min_le_right _ _ }, { h.sound.flags with },
    h.sound.clocks, h.sound.cue⟩, { h.table with }, h.settled, h.clear⟩

end Levels

/-! ### The cue engine's laws bear what the claim manager does to it (R172, R181) -/

theorem CueEngine.stateLawful_iff (c : CueEngine) : c.stateLawful = true ↔
    (c.executing.isSome = true ↔ c.state = .priming) ∧
    (c.state = .priming → c.bound.isSome = true ∧ c.startSet ≠ []) ∧
    (c.state = .held → ∃ e, c.ret = some e ∧ c.fits e = true) ∧
    (c.state ≠ .priming → c.state ≠ .held → c.fits c.state = true) ∧
    (c.countdown.isSome = true ↔ c.state = .following ∨ (c.state = .held ∧ c.ret = some .following)) ∧
    (∀ n, c.standby = some n → (c.find n).isSome = true) ∧ ∀ n, c.executing = some n → (c.find n).isSome = true := by
  have hb (a b : Bool) : (a == b) = true ↔ (a = true ↔ b = true) := by cases a <;> cases b <;> simp
  have hm : (match c.state with
      | .priming => c.bound.isSome && !c.startSet.isEmpty
      | .held => c.ret.any c.fits
      | .empty | .standby | .following | .finished => c.fits c.state) = true ↔
      (c.state = .priming → c.bound.isSome = true ∧ c.startSet ≠ []) ∧
      (c.state = .held → ∃ e, c.ret = some e ∧ c.fits e = true) ∧
      (c.state ≠ .priming → c.state ≠ .held → c.fits c.state = true) := by
    cases c.state <;> simp [Option.any_eq_true]
  unfold CueEngine.stateLawful
  rw [Bool.and_eq_true, Bool.and_eq_true, Bool.and_eq_true, Bool.and_eq_true]
  refine (and_congr_left' (and_congr_left' (and_congr (and_congr (hb _ _) hm) (hb _ _)))).trans ?_
  simp only [Bool.or_eq_true, Bool.and_eq_true, beq_iff_eq, Option.all_eq_true, and_assoc]

theorem CueEngine.lawful_stable : CueEngine.Stable CueEngine.Lawful where
  taken c hc := by
    obtain ⟨hl, hs⟩ := hc
    cases hst : c.state with
    | priming =>
      rw [CueEngine.taken_of_priming hst]
      exact ⟨hl, hs⟩
    | held => rw [CueEngine.taken_of_rest (Or.inl hst)]; exact ⟨hl, hs⟩
    | empty => rw [CueEngine.taken_of_rest (Or.inr hst)]; exact ⟨hl, hs⟩
    | standby | following | finished =>
      rw [CueEngine.taken_of_held (by simp [hst])]
      refine ⟨hl, (CueEngine.stateLawful_iff _).mpr ?_⟩
      obtain ⟨h1, -, -, h4, h5, h6, h7⟩ := (CueEngine.stateLawful_iff c).mp hs
      refine ⟨?_, (fun e => nomatch e), fun _ => ⟨c.state, rfl, h4 (by rw [hst]; decide) (by rw [hst]; decide)⟩,
        fun _ e => absurd rfl e, ?_, h6, h7⟩
      · rw [h1, hst]; simp
      · rw [Option.isSome_map, h5, hst]; simp
  route c k f hc := hc

end Sys2Proof.Machine
end

section
namespace Sys2Proof.Machine

/-! ### The commands of the claim manager and of the mixer, and their events (sections 2.8 to 2.11, 3.1 to 3.5, 10.4) -/

section Commands
variable {s u v : State} {p : ProgId} {t : Txn}

theorem State.open_of_owned {port : Port} {prog : Byte} {bad : Bool} (h : s.ownedProgram port prog bad = .ok p)
    (he : s.progs[p].state ≠ .ended) : s.progs[p].isOpen = true := by
  refine (Program.isOpen_iff _).mpr ⟨fun hf => ?_, he⟩
  unfold State.ownedProgram at h
  split at h
  · cases h
  · simp only at h
    split at h
    · cases h
    · split at h
      · cases h
      · next hn =>
        split at h
        · cases h
        · cases h; exact hn hf

theorem State.open_of_running (h : s.AtLaw) (hw : s.progs[p].waitTimer ≠ none ∨ s.progs[p].joinTimer ≠ none) :
    s.progs[p].isOpen = true := by
  by_contra hno
  obtain ⟨h1, h2⟩ := h.sound.blocks.timers p (Bool.not_eq_true _ ▸ hno)
  rcases hw with e | e
  · exact e h1
  · exact e h2

theorem execClearNotices_atLaw (h : s.AtLaw) {kinds : BitVec 16} (he : execClearNotices t kinds s = .next u) : u.AtLaw := by
  refine portCommand_atLaw h (fun v hv => ?_) he
  simp only
  split
  · exact hv
  · exact hv.of_ruled rfl

theorem execSetNoticeMask_atLaw (h : s.AtLaw) {mask : BitVec 16} {enable : Byte} (he : execSetNoticeMask t mask enable s = .next u) :
    u.AtLaw := by
  refine portCommand_atLaw h (fun v hv => ?_) he
  split
  · exact hv.of_ruled rfl
  · exact hv

theorem execRestart_atLaw (h : s.AtLaw) (he : execRestart t s = .next u) : u.AtLaw := by
  refine portCommand_atLaw h (fun v hv => ?_) he
  split
  · exact hv
  · exact hv.of_ruled rfl

theorem execAddZones_atLaw (h : s.AtLaw) {prog : Byte} {zs : ZoneSet} (he : execAddZones t prog zs s = .next u) : u.AtLaw := by
  refine portCommand_atLaw h (fun v hv => ?_) he
  simp only
  split
  · exact hv
  · next r hr =>
    split
    · exact hv
    · split
      · exact hv
      · next hst =>
        rw [not_or] at hst
        exact hv.addZonesTo CueEngine.lawful_stable (State.open_of_owned hr hst.2) hst.1 zs _

theorem execDropZones_atLaw (h : s.AtLaw) {prog : Byte} {zs : ZoneSet} (he : execDropZones t prog zs s = .next u) : u.AtLaw := by
  refine portCommand_atLaw h (fun v hv => ?_) he
  simp only
  split
  · exact hv
  · split
    · exact hv
    · exact hv.dropZonesOf CueEngine.lawful_stable _ zs _

theorem execCloseProgram_atLaw (h : s.AtLaw) {prog : Byte} (he : execCloseProgram t prog s = .next u) : u.AtLaw := by
  refine portCommand_atLaw h (fun v hv => ?_) he
  simp only
  split
  · exact hv
  · next r hr =>
    split
    · exact hv
    · next hst => exact hv.closeProg CueEngine.lawful_stable (State.open_of_owned hr hst) _

theorem execForceClose_atLaw (h : s.AtLaw) {prog : Byte} (he : execForceClose t prog s = .next u) : u.AtLaw := by
  refine portCommand_atLaw h (fun v hv => ?_) he
  simp only
  split
  · exact hv
  · split
    · exact hv
    · split
      · exact hv
      · next hf =>
        split
        · exact hv
        · next hn => exact hv.endAndRelease CueEngine.lawful_stable ((Program.isOpen_iff _).mpr ⟨hf, hn⟩) .forced _

theorem execReadProgram_atLaw (h : s.AtLaw) {prog : Byte} (he : execReadProgram t prog s = .next u) : u.AtLaw := by
  refine portCommand_atLaw h (fun v hv => ?_) he
  simp only
  split
  · exact hv
  · next r _ =>
    split
    · exact hv
    · have h1 : (v.onPort t.port fun c => { c with changed := c.changed &&& ~~~progBit r }).AtLaw := hv.of_ruled rfl
      simp only [okWith]
      split
      · next hst => exact h1.freeRecord hst.1
      · exact h1

theorem execSetShield_atLaw (h : s.AtLaw) {zs : ZoneSet} {level : Byte} (he : execSetShield t zs level s = .next u) : u.AtLaw := by
  refine portCommand_atLaw h (fun v hv => ?_) he
  repeat' split
  iterate 3 exact hv
  exact hv.onZones zs fun _ => rfl

theorem execSetShowZones_atLaw (h : s.AtLaw) {zs : ZoneSet} (he : execSetShowZones t zs s = .next u) : u.AtLaw := by
  refine portCommand_atLaw h (fun v hv => ?_) he
  split
  · exact hv
  · exact hv.remapZones (fun _ _ => rfl) fun _ _ hr => hr

theorem execExcludeZones_atLaw (h : s.AtLaw) {zs : ZoneSet} (he : execExcludeZones t zs s = .next u) : u.AtLaw := by
  refine portCommand_atLaw h (fun v hv => ?_) he
  repeat' split
  iterate 2 exact hv
  exact hv.exclude CueEngine.lawful_stable zs

theorem execReadmitZones_atLaw (h : s.AtLaw) {zs : ZoneSet} (he : execReadmitZones t zs s = .next u) : u.AtLaw := by
  refine portCommand_atLaw h (fun v hv => ?_) he
  repeat' split
  iterate 2 exact hv
  exact hv.readmit zs

theorem execSetProgramGain_atLaw (h : s.AtLaw) {prog : Byte} {target : BitVec 16} {duration : BitVec 24} {mode : Byte}
    (he : execSetProgramGain t prog target duration mode s = .next u) : u.AtLaw := by
  refine portCommand_atLaw h (fun v hv => ?_) he
  simp only
  repeat' split
  iterate 3 exact hv
  exact hv.retarget _ _ _ _

theorem execSetZoneLevel_atLaw (h : s.AtLaw) {zs : ZoneSet} {target : BitVec 16} {duration : BitVec 24} {mode : Byte}
    (he : execSetZoneLevel t zs target duration mode s = .next u) : u.AtLaw := by
  refine portCommand_atLaw h (fun v hv => ?_) he
  repeat' split
  iterate 3 exact hv
  refine hv.onZoneLevels zs (fun _ => rfl) fun r hr => ?_
  rw [ZoneRec.gains_iff] at hr ⊢
  exact ⟨Ramp.retarget_inRange hr.1 _ _ _, hr.2⟩

theorem execSetEmergencyLevel_atLaw (h : s.AtLaw) {zs : ZoneSet} {level : BitVec 16}
    (he : execSetEmergencyLevel t zs level s = .next u) : u.AtLaw := by
  refine portCommand_atLaw h (fun v hv => ?_) he
  repeat' split
  iterate 2 exact hv
  refine hv.onZoneLevels zs (fun _ => rfl) fun r hr => ?_
  rw [ZoneRec.gains_iff] at hr ⊢
  exact ⟨hr.1, hr.2.1, Nat.min_le_right _ _, hr.2.2.2⟩

theorem execSetDuckProfile_atLaw (h : s.AtLaw) {zs : ZoneSet} {level : BitVec 16} {attack release : BitVec 24}
    (he : execSetDuckProfile t zs level attack release s = .next u) : u.AtLaw := by
  refine portCommand_atLaw h (fun v hv => ?_) he
  repeat' split
  iterate 2 exact hv
  refine hv.remapZones (fun z r => ?_) fun z r hr => ?_
  · split
    · exact r.profiled_placed _ _ _ _
    · rfl
  · split
    · exact ZoneRec.profiled_gains hr _ _ _ _
    · exact hr

theorem execSetAlarmUnder_atLaw (h : s.AtLaw) {level : BitVec 16} (he : execSetAlarmUnder t level s = .next u) : u.AtLaw := by
  refine portCommand_atLaw h (fun v hv => ?_) he
  split
  · exact hv
  · exact hv.onAlarmUnder _

theorem execReadOverload_atLaw (h : s.AtLaw) {zone : Byte} (he : execReadOverload t zone s = .next u) : u.AtLaw := by
  refine portCommand_atLaw h (fun v hv => ?_) he
  split
  · exact hv
  · split
    · exact hv
    · next z _ =>
      refine hv.of_zoneGains rfl (fun y => ?_) fun y => ?_
      · by_cases e : z = y
        · subst e; exact (congrArg ZoneRec.placed (v.onZone_self z _) :)
        · exact congrArg ZoneRec.placed (v.onZone_other e _)
      · by_cases e : z = y
        · subst e
          have : ((v.onZone z fun r => { r with overload := 0 }).zones[z]).gainsInRange = v.zones[z].gainsInRange :=
            (congrArg ZoneRec.gainsInRange (v.onZone_self z _) :)
          exact this.trans (hv.sound.gains.zones z)
        · exact (congrArg ZoneRec.gainsInRange (v.onZone_other e _)).trans (hv.sound.gains.zones y)

theorem execWaitLimitExpiry_atLaw (h : s.AtLaw) (he : execWaitLimitExpiry p s = .next u) : u.AtLaw := by
  refine partEvent_atLaw ?_ he
  split
  · next hw => exact h.endAndRelease CueEngine.lawful_stable (State.open_of_running h (Or.inl (by rw [hw]; simp))) _ _
  · exact h

theorem execJoinDeadlineExpiry_atLaw (h : s.AtLaw) (he : execJoinDeadlineExpiry p s = .next u) : u.AtLaw := by
  refine partEvent_atLaw ?_ he
  split
  · next hw => exact h.joinDone CueEngine.lawful_stable (State.open_of_running h (Or.inr (by rw [hw]; simp)))
  · exact h

theorem State.Rests.endTails {K : CueEngine → Prop} {loose opening : Fin 2 → Prop} (h : s.Rests K loose opening)
    (hK : CueEngine.Stable K) : s.endTails.Rests K loose opening := by
  unfold State.endTails
  generalize List.finRange 32 = l
  induction l generalizing s with
  | nil => exact h
  | cons q l ih =>
    rw [List.foldl_cons]
    refine ih ?_
    split
    · next hd =>
      refine h.endAndRelease hK ?_ _ _
      unfold Program.tailDone at hd
      rw [Bool.and_eq_true, Bool.and_eq_true, beq_iff_eq] at hd
      exact (Program.isOpen_iff _).mpr (by rw [hd.1.1]; decide)
    · exact h

theorem execRampTick_atLaw (h : s.AtLaw) (he : execRampTick s = .next u) : u.AtLaw := by
  refine partEvent_atLaw ?_ he
  split
  · exact h.tickRamps.endTails CueEngine.lawful_stable
  · exact h

theorem execPowerOnReset_atLaw (he : execPowerOnReset s = .next u) : u.AtLaw := partEvent_atLaw s.powerOn_atLaw he

theorem execRestartBegin_atLaw (h : s.AtLaw) {clocked : Nat} (he : execRestartBegin clocked s = .next u) : u.AtLaw := by
  refine partEvent_atLaw ?_ he
  split
  · exact State.restartNow_atLaw _
  · exact h

end Commands

end Sys2Proof.Machine
end

section
namespace Sys2Proof.Machine

/-! ### A record taken for a new program (R17, R40, R41) -/

section Opening
variable {K : CueEngine → Prop} {loose opening : Fin 2 → Prop} {s t u : State} {p q : ProgId} {z : Zone} {g : Program}

/-- A program that is open claims no zone yet, and is of a kind and class that its record allows. -/
structure Program.Fresh (g : Program) (p : ProgId) : Prop where
  state : g.state = .pending
  claim : ∀ z : Zone, g.claim z = .none
  cls : g.cls = 0 ↔ p.val < 2
  alarm : p.val < 2 → g.kind = .alarm ∧ g.policy = .takeAvailable
  gain : g.gain.inRange = true
  timer : g.waitTimer = none

theorem Program.Fresh.isOpen (h : g.Fresh p) : g.isOpen = true := by
  rw [Program.isOpen_iff, h.state]; decide

theorem State.Table.opened {pend : Zone → Prop} (h : s.Table pend) (hp : s.progs[p].isOpen = false) (hg : g.Fresh p)
    (hz : u.zones = s.zones) (hself : u.progs[p] = g) (hother : ∀ q : ProgId, q ≠ p → u.progs[q] = s.progs[q])
    (hl : ∀ q : ProgId, q ∈ u.openOrder ↔ u.progs[q].state ≠ .free) : u.Table pend := by
  have hne {q : ProgId} (hq : s.progs[q].isOpen = true) : q ≠ p := fun e => by rw [e, hp] at hq; cases hq
  have hclaim (q : ProgId) (z : Zone) : u.progs[q].claim z = s.progs[q].claim z := by
    by_cases e : q = p
    · rw [e, hself, hg.claim z, h.claim_closed hp z]
    · rw [hother q e]
  have hcell (z : Zone) : u.cell z = s.cell z := by
    refine Cell.ext ?_ ?_ ?_ ?_ (funext fun q => hclaim q z)
    all_goals (unfold State.cell; rw [hz])
  have htail (q : ProgId) (hq : u.roles.tail q = true) : s.roles.tail q = true ∧ q ≠ p := by
    by_cases e : q = p
    · have : (u.progs[q].state == .tail) = true := hq
      rw [e, hself, hg.state] at this; cases this
    · exact ⟨(congrArg (fun g : Program => g.state == .tail) (hother q e) :).symm.trans hq, e⟩
  have hopen (q : ProgId) (hq : u.progs[q].isOpen = true) (e : q ≠ p) : s.progs[q].isOpen = true := by
    rw [← hother q e]; exact hq
  refine ⟨fun z => ?_, ⟨fun q hq => ?_, fun q hq => ?_, fun q h2 hq => ?_⟩, fun q z ht => ?_, fun q h2 hq => ?_, hl⟩
  · rw [hcell]
    refine (h.cell z).of_roles (fun q hq => ?_) (fun q hq => ?_) fun q hq => ?_
    · exact (congrArg Program.isOpen (hother q (hne hq))).trans hq
    · have e := hother q (hne hq)
      exact ⟨congrArg Program.kind e, congrArg Program.cls e, congrArg (fun g : Program => g.state == .tail) e⟩
    · cases ht : u.roles.tail q with
      | false => rfl
      | true =>
        have : s.progs[q].state = .tail := beq_iff_eq.mp (htail q ht).1
        have hn : s.progs[q].isOpen = false := hq
        unfold Program.isOpen at hn
        rw [this] at hn; cases hn
  · obtain ⟨h1, e⟩ := htail q hq
    exact (congrArg Program.kind (hother q e)).trans (h.roles.tail_live q h1)
  · by_cases e : q = p
    · show u.progs[q].cls = 0 ↔ q.val < 2
      rw [e, hself]; exact hg.cls
    · rw [show u.roles.cls q = s.roles.cls q from congrArg Program.cls (hother q e)]
      exact h.roles.class_zero q (hopen q hq e)
  · by_cases e : q = p
    · subst e
      exact (congrArg Program.kind hself).trans (hg.alarm h2).1
    · exact (congrArg Program.kind (hother q e)).trans (h.roles.alarm q h2 (hopen q hq e))
  · rw [hclaim]
    by_cases e : q = p
    · rw [e, h.claim_closed hp z]; decide
    · exact h.whole q z ((congrArg Program.together (hother q e)).symm.trans ht)
  · by_cases e : q = p
    · rw [e, hself]
      unfold Program.together
      rw [(hg.alarm (e ▸ h2)).2]; rfl
    · rw [hother q e]; exact h.alone q h2 (hopen q hq e)

theorem State.takeRecord_orders (h : s.ordersLawful = true) (p : ProgId) (hg : g.state = .pending) :
    (s.takeRecord p g).ordersLawful = true := by
  obtain ⟨h1, h2, h3, h4, h5⟩ := (State.orders_iff s).mp h
  refine (State.orders_iff _).mpr ⟨?_, h2.erase p, h3, fun q => ?_, h5⟩
  · exact List.Nodup.append (h1.erase p) (List.nodup_singleton p) fun q hq e => by
      obtain rfl := List.mem_singleton.mp e
      exact (h1.mem_erase_iff.mp hq).1 rfl
  · have hm : (q ∈ (s.takeRecord p g).openOrder ↔ (q ≠ p ∧ q ∈ s.openOrder) ∨ q = p) ∧
        (q ∈ (s.takeRecord p g).endOrder ↔ q ≠ p ∧ q ∈ s.endOrder) :=
      ⟨List.mem_append.trans (or_congr h1.mem_erase_iff List.mem_singleton), h2.mem_erase_iff⟩
    by_cases e : q = p
    · subst e
      rw [State.takeRecord_self]
      exact ⟨iff_of_true (hm.1.mpr (Or.inr rfl)) (fun e => by rw [show g.state = _ from hg] at e; cases e),
        iff_of_false (fun hq => (hm.2.mp hq).1 rfl) (fun e => by rw [show g.state = _ from hg] at e; cases e)⟩
    · rw [State.takeRecord_other s e]
      exact ⟨hm.1.trans ((or_iff_left e).trans ((and_iff_right e).trans (h4 q).1)),
        hm.2.trans ((and_iff_right e).trans (h4 q).2)⟩

/-- The laws of the blocks after an open, where the stations' and the channels' laws hold. -/
theorem State.Blocks.opened (h : s.Blocks loose opening) (hp : s.progs[p].isOpen = false) (hg : g.Fresh p)
    (hslot : ∀ k, p = progOfSlot k → opening k)
    (hrest : ({ u with progs := s.progs, openOrder := s.openOrder, endOrder := s.endOrder, stations := s.stations
                       chans := s.chans } : State).gist = s.gist)
    (hself : u.progs[p] = g) (hother : ∀ q : ProgId, q ≠ p → u.progs[q] = s.progs[q])
    (ho : u.ordersLawful = true) (hi : u.intercomLawful = true) (hc : u.calloutsLawful = true)
    (hr : u.channelsReady = true) (hu : u.Users) : u.Blocks loose opening := by
  have hb := h.congr hrest
  have hne {q : ProgId} (hq : s.progs[q].isOpen = true) : q ≠ p := fun e => by rw [e, hp] at hq; cases hq
  have hopen {q : ProgId} (hq : s.progs[q].isOpen = true) : u.progs[q].isOpen = true := by
    rw [hother q (hne hq)]; exact hq
  refine {
    orders := ho
    slots := fun k => ?_
    tones := hb.tones
    windows := hb.windows
    sounds := fun k hk => hopen (hb.sounds k hk)
    idles := fun k hk hi => ?_
    timers := fun q hq => ?_
    cadence := hb.cadence
    intercom := hi
    callouts := hc
    reset := hb.reset
    ready := hr
    users := (State.users_iff u).mpr hu
    ranges := hb.ranges
    entries := hb.entries
    routes := ?_ }
  · obtain ⟨h1, h2⟩ := (State.slotLawful_iff _ k).mp (hb.slots k)
    refine (State.slotLawful_iff _ k).mpr ⟨fun e => ?_, h2⟩
    by_cases ep : progOfSlot k = p
    · subst ep
      rw [hself]
      exact hg.alarm k.isLt
    · rw [hother _ ep] at e ⊢
      exact h1 e
  · have ep : progOfSlot k ≠ p := fun e => hk (hslot k e.symm)
    rw [hother _ ep]
    exact hb.idles k hk hi
  · by_cases e : q = p
    · rw [e, hself, hg.isOpen] at hq; cases hq
    · rw [hother q e] at hq ⊢
      exact hb.timers q hq
  · refine (State.routes_iff u).mpr fun k => ?_
    obtain ⟨h1, h2⟩ := (State.routes_iff _).mp hb.routes k
    refine ⟨fun q hk => ?_, fun q hk => ?_⟩
    · have := h1 q hk
      rw [hother q (hne this.1)]; exact this
    · have := h2 q hk
      rw [hother q (hne this.1)]; exact this

/-! #### What an open asks of the stations and the channels -/

/-- A program that is no CALL_OUT changes no station's law. -/
theorem State.callouts_opened (h : s.calloutsLawful = true) (hp : s.progs[p].isOpen = false) (hk : g.kind ≠ .callOut)
    (hself : u.progs[p] = g) (hother : ∀ q : ProgId, q ≠ p → u.progs[q] = s.progs[q]) (hst : u.stations = s.stations) :
    u.calloutsLawful = true := by
  have hstation : g.station = none := by
    unfold Program.station
    split
    · next e _ => exact absurd e hk
    · rfl
  obtain ⟨h1, h2⟩ := (State.callouts_iff _).mp h
  refine (State.callouts_iff u).mpr ⟨fun a => ?_, fun q hq hkq => ?_⟩
  · rw [hst, ← h1 a]
    refine List.countP_congr fun q _ => ?_
    by_cases e : q = p
    · rw [e, hself, hp, hstation]; simp
    · rw [hother q e]
  · by_cases e : q = p
    · rw [e, hself] at hkq; exact absurd hkq hk
    · rw [hother q e] at hq hkq ⊢
      exact h2 q hq hkq

theorem countP_with {α : Type} [DecidableEq α] {l : List α} (hl : l.Nodup) {p : α} (hp : p ∈ l) {f g : α → Bool}
    (hf : f p = false) (hg : g p = true) (ho : ∀ q, q ≠ p → g q = f q) : l.countP g = l.countP f + 1 := by
  have h1 := countP_without hl hp g
  rw [hg, if_pos rfl] at h1
  rw [← h1]
  congr 1
  refine List.countP_congr fun q _ => ?_
  by_cases e : q = p
  · subst e; rw [if_pos rfl, hf]
  · rw [if_neg e, ho q e]

/-- A CALL_OUT takes its station, which was IDLE, to TALKOUT (R115). -/
theorem State.callouts_called {a : StationId} (h : s.calloutsLawful = true) (hp : s.progs[p].isOpen = false) (hg : g.isOpen = true)
    (ha : g.station = some a) (hidle : s.stations[a].state = .idle)
    (hself : u.progs[p] = g) (hother : ∀ q : ProgId, q ≠ p → u.progs[q] = s.progs[q])
    (hst : u.stations = adjust s.stations a fun x => { x with state := .talkout }) : u.calloutsLawful = true := by
  obtain ⟨h1, h2⟩ := (State.callouts_iff _).mp h
  refine (State.callouts_iff u).mpr ⟨fun b => ?_, fun q hq hkq => ?_⟩
  · have hb : u.stations[b].state = if a = b then .talkout else s.stations[b].state := by
      rw [hst]
      show (adjust s.stations a _)[b.val].state = _
      rw [getElem_adjust_fin]
      split <;> rfl
    rw [hb]
    by_cases e : a = b
    · subst e
      rw [if_pos rfl, if_pos rfl]
      have h0 := h1 a
      rw [hidle, if_neg (by decide)] at h0
      rw [countP_with (List.nodup_finRange 32) (List.mem_finRange p)
        (f := fun q => s.progs[q].isOpen && s.progs[q].station == some a) ?_ ?_ fun q hq => ?_, h0]
      · rw [hp]; rfl
      · rw [hself, hg, ha]; simp
      · rw [hother q hq]
    · rw [if_neg e, ← h1 b]
      refine List.countP_congr fun q _ => ?_
      by_cases e' : q = p
      · rw [e', hself, hp, ha]; simp [e]
      · rw [hother q e']
  · by_cases e : q = p
    · rw [e, hself, ha]; rfl
    · rw [hother q e] at hq hkq ⊢
      exact h2 q hq hkq

theorem State.intercom_called {a : StationId} (h : s.intercomLawful = true) (hidle : s.stations[a].state = .idle)
    (hst : u.stations = adjust s.stations a fun x => { x with state := .talkout }) (hc : u.calls = s.calls)
    (hr : u.ring = s.ring) : u.intercomLawful = true := by
  have hi := (State.intercom_iff s).mp h
  have hb (b : StationId) : u.stations[b] = if a = b then { s.stations[b] with state := .talkout } else s.stations[b] := by
    rw [hst]; exact getElem_adjust_fin ..
  refine (State.intercom_iff u).mpr (hi.moved hc hr (fun b => ?_) fun b => ?_)
  · rw [hb]; split <;> exact ⟨rfl, rfl⟩
  · rw [hb]
    split
    · next e => subst e; exact Or.inr ⟨hi.current_of_free (Or.inr (Or.inl hidle)), Or.inr (Or.inl rfl)⟩
    · exact Or.inl rfl

/-- A program without channel changes no channel's law. -/
theorem State.Users.opened (h : s.Users) (hp : s.progs[p].isOpen = false) (hc : g.chan = Option.none) (hself : u.progs[p] = g)
    (hother : ∀ q : ProgId, q ≠ p → u.progs[q] = s.progs[q]) (hch : u.chans = s.chans) (hsl : u.slots = s.slots) : u.Users := by
  have hne {q : ProgId} (hq : s.progs[q].isOpen = true) : q ≠ p := fun e => by rw [e, hp] at hq; cases hq
  refine ⟨fun q ch hq he => ?_, fun k ch he => ?_, fun ch he => ?_, fun ch q he => ?_, fun ch k he => ?_, fun ch he => ?_⟩
  · by_cases e : q = p
    · rw [e, hself, hc] at he; cases he
    · rw [hother q e] at hq he
      rw [hch]; exact h.clip q ch hq he
  · rw [hsl] at he; rw [hch]; exact h.window k ch he
  · rw [hch] at he; exact h.none ch he
  · rw [hch] at he
    have := h.prog ch q he
    rw [hother q (hne this.2.1)]; exact this
  · rw [hch] at he; rw [hsl]; exact h.slot ch k he
  · rw [hch] at he; exact h.cue ch he

/-- A CLIP program has bound a pool channel without user (R134). -/
theorem State.Users.bound {ch : ChanId} (h : s.Users) (hp : s.progs[p].isOpen = false) (hg : g.isOpen = true)
    (hk : g.kind = .clip) (hc : g.chan = some ch) (hself : u.progs[p] = g)
    (hother : ∀ q : ProgId, q ≠ p → u.progs[q] = s.progs[q]) (hfree : s.chans[ch].user = Option.none)
    (hch : u.chans[ch].user = some (.prog p)) (hchs : ∀ c : ChanId, c ≠ ch → u.chans[c].user = s.chans[c].user)
    (hsl : u.slots = s.slots) : u.Users := by
  have hne {q : ProgId} (hq : s.progs[q].isOpen = true) : q ≠ p := fun e => by rw [e, hp] at hq; cases hq
  have hlt : ch.val < 4 := h.none ch hfree
  refine ⟨fun q c hq he => ?_, fun k c he => ?_, fun c he => ?_, fun c q he => ?_, fun c k he => ?_, fun c he => ?_⟩
  · by_cases e : q = p
    · rw [e, hself, hc] at he
      cases he
      rw [e]; exact ⟨hlt, hch⟩
    · rw [hother q e] at hq he
      obtain ⟨h1, h2⟩ := h.clip q c hq he
      have : c ≠ ch := fun e => by rw [e, hfree] at h2; cases h2
      rw [hchs c this]; exact ⟨h1, h2⟩
  · rw [hsl] at he
    have h2 := h.window k c he
    have : c ≠ ch := fun e => by rw [e, hfree] at h2; cases h2
    rw [hchs c this]; exact h2
  · by_cases e : c = ch
    · rw [e]; exact hlt
    · rw [hchs c e] at he; exact h.none c he
  · by_cases e : c = ch
    · rw [e, hch] at he
      cases he
      rw [hself, e]; exact ⟨hlt, hg, hk, hc⟩
    · rw [hchs c e] at he
      have := h.prog c q he
      rw [hother q (hne this.2.1)]; exact this
  · by_cases e : c = ch
    · rw [e, hch] at he; cases he
    · rw [hchs c e] at he
      rw [hsl]; exact h.slot c k he
  · by_cases e : c = ch
    · rw [e, hch] at he; cases he
    · rw [hchs c e] at he; exact h.cue c he

end Opening

end Sys2Proof.Machine
end

section
namespace Sys2Proof.Machine

/-! ### A program just opened claims its zones (R41) -/

section Claiming
variable {K : CueEngine → Prop} {loose opening : Fin 2 → Prop} {s t u w : State} {p q : ProgId} {z : Zone} {g : Program}
  {zs left : ZoneSet}

theorem State.Table.claimBoth (h : w.Table noZone) (ho : w.progs[p].isOpen = true) (ht : w.progs[p].state ≠ .tail)
    (hc : ∀ z : Zone, w.progs[p].claim z = .none) (hx : ∀ z : Zone, left.getLsbD z.val = true → w.zones[z].excluded = false)
    (quiet : Bool) : (if w.progs[p].together then w.claimTogether quiet p left else w.claimEach quiet p left).Table noZone := by
  split
  · next hg => exact h.claimTogether ho ht hg hx (fun z hz => by rw [hc z] at hz; cases hz) quiet
  · next hg =>
    exact h.claimEach (fun z _ => ⟨ho, ht, Bool.not_eq_true _ ▸ hg, Or.inl (hc z)⟩) quiet

theorem State.not_excluded_of_left (h : (zs &&& ~~~w.excludedSet).getLsbD z.val = true) : w.zones[z].excluded = false :=
  ((State.freshly_iff w zs z).mp h).2

/-- What an open ends with leaves the part at rest, where the open itself kept the laws (R41). -/
theorem State.Sound.claimOpened (h : w.Sound K loose opening) (hK : CueEngine.Stable K) (ht : w.Table noZone)
    (ho : w.progs[p].isOpen = true) (hn : w.progs[p].state ≠ .tail) (hc : ∀ z : Zone, w.progs[p].claim z = .none)
    (s0 : State) (zs : ZoneSet) (c : Cause) : (State.claimOpened s0 w p zs c).Rests K loose opening := by
  have htab := ht.claimBoth ho hn hc (fun z => State.not_excluded_of_left (zs := zs)) c.quiet
  unfold State.claimOpened
  simp only
  split
  · exact h.finish hK ht _ c
  · split at htab
    · next hg =>
      rw [if_pos hg]
      exact (h.of_beyond hK (State.claimTogether_beyond ..) (.claimTogether ..)).finish hK htab _ c
    · next hg =>
      rw [if_neg hg]
      exact (h.of_beyond hK (State.claimEach_beyond ..) (.claimEach ..)).finish hK htab _ c

/-- The laws of the parts after an open, where those of its blocks hold. -/
theorem State.Sound.opened (h : s.Sound K loose opening) (hb : u.Blocks loose opening) (hg : g.Fresh p) (hself : u.progs[p] = g)
    (hother : ∀ q : ProgId, q ≠ p → u.progs[q] = s.progs[q]) (hz : u.zones = s.zones)
    (hst : ∀ a : StationId, u.stations[a].receive = s.stations[a].receive ∧ u.stations[a].feed = s.stations[a].feed)
    (hu : u.alarmUnder = s.alarmUnder) (hv : u.survey = s.survey) (hpat : u.patterns = s.patterns) (hc : K u.cue) :
    u.Sound K loose opening where
  blocks := hb
  gains := by
    refine ⟨fun q => ?_, fun z => by rw [hz]; exact h.gains.zones z, fun a => ?_, by rw [hu]; exact h.gains.under,
      by rw [hv]; exact h.gains.pilot, fun k => by rw [hpat]; exact h.gains.patterns k⟩
    · by_cases e : q = p
      · rw [e, hself]; exact hg.gain
      · rw [hother q e]; exact h.gains.progs q
    · rw [(hst a).1, (hst a).2]; exact h.gains.stations a
  flags := h.flags.congr (fun z => by rw [hz]) (by rw [hv]; exact ⟨rfl, rfl, rfl, rfl⟩)
  clocks q := by
    by_cases e : q = p
    · rw [e, hself]; exact fun _ hw => by rw [hg.timer] at hw; cases hw
    · rw [hother q e]; exact h.clocks q
  cue := hc

/-! #### The three kinds of open: without block, with a station, with a channel -/

theorem Program.Fresh.arrive (h : g.Fresh p) (n : Nat) : ({ g with arrival := n } : Program).Fresh p :=
  ⟨h.state, h.claim, h.cls, h.alarm, h.gain, h.timer⟩

theorem State.takeRecord_listed (h : s.ordersLawful = true) (p : ProgId) (hg : g.state = .pending) (q : ProgId) :
    q ∈ (s.takeRecord p g).openOrder ↔ (s.takeRecord p g).progs[q].state ≠ .free :=
  (((State.orders_iff _).mp (State.takeRecord_orders h p hg)).2.2.2.1 q).1

/-- An open that needs no other block. -/
theorem State.Sound.takeRecord (h : s.Sound K loose opening) (ht : s.Table noZone) (hp : s.progs[p].isOpen = false) (hg : g.Fresh p)
    (hslot : ∀ k, p = progOfSlot k → opening k) (hk : g.kind ≠ .callOut) (hc : g.chan = none) :
    (s.takeRecord p g).Sound K loose opening ∧ (s.takeRecord p g).Table noZone := by
  have hself := s.takeRecord_self p g
  have hother (q : ProgId) (e : q ≠ p) := s.takeRecord_other e g
  have hg' := hg.arrive s.arrivals
  have hb := h.blocks
  have hblocks : (s.takeRecord p g).Blocks loose opening :=
    hb.opened hp hg' hslot rfl hself hother (State.takeRecord_orders hb.orders p hg.state) hb.intercom
      (State.callouts_opened (g := { g with arrival := s.arrivals }) hb.callouts hp hk hself hother rfl) hb.ready
      (((State.users_iff s).mp hb.users).opened (g := { g with arrival := s.arrivals }) hp hc hself hother rfl rfl)
  exact ⟨h.opened hblocks hg' hself hother rfl (fun _ => ⟨rfl, rfl⟩) rfl rfl rfl h.cue,
    ht.opened hp hg' rfl hself hother (State.takeRecord_listed hb.orders p hg.state)⟩

/-- The open of a CALL_OUT, whose station is IDLE (R115). -/
theorem State.Sound.takeStation {a : StationId} (h : s.Sound K loose opening) (ht : s.Table noZone) (hp : s.progs[p].isOpen = false)
    (hg : g.Fresh p) (hslot : ∀ k, p = progOfSlot k → opening k) (ha : g.station = some a)
    (hidle : s.stations[a].state = .idle) (hc : g.chan = none) :
    ((s.takeRecord p g).onStation a fun x => { x with state := .talkout }).Sound K loose opening ∧
    ((s.takeRecord p g).onStation a fun x => { x with state := .talkout }).Table noZone := by
  have hself := s.takeRecord_self p g
  have hother (q : ProgId) (e : q ≠ p) := s.takeRecord_other e g
  have hg' := hg.arrive s.arrivals
  have hb := h.blocks
  have hst : ((s.takeRecord p g).onStation a fun x => { x with state := .talkout }).stations =
      adjust s.stations a fun x => { x with state := .talkout } := rfl
  have hblocks : ((s.takeRecord p g).onStation a fun x => { x with state := .talkout }).Blocks loose opening :=
    hb.opened hp hg' hslot rfl hself hother (State.takeRecord_orders hb.orders p hg.state)
      (State.intercom_called hb.intercom hidle hst rfl rfl)
      (State.callouts_called hb.callouts hp hg'.isOpen ha hidle hself hother hst) hb.ready
      (((State.users_iff s).mp hb.users).opened (g := { g with arrival := s.arrivals }) hp hc hself hother rfl rfl)
  refine ⟨h.opened hblocks hg' hself hother rfl (fun b => ?_) rfl rfl rfl h.cue,
    ht.opened hp hg' rfl hself hother (State.takeRecord_listed hb.orders p hg.state)⟩
  have hb : ((s.takeRecord p g).onStation a fun x => { x with state := .talkout }).stations[b] =
      if a = b then { s.stations[b] with state := .talkout } else s.stations[b] := by
    rw [hst]; exact getElem_adjust_fin ..
  rw [hb]; split <;> exact ⟨rfl, rfl⟩

/-- The open of a CLIP program on a pool channel without user (R134). -/
theorem State.Sound.takeChannel {ch : ChanId} {id : ClipId} (h : s.Sound K loose opening) (ht : s.Table noZone)
    (hp : s.progs[p].isOpen = false) (hg : g.Fresh p) (hslot : ∀ k, p = progOfSlot k → opening k) (hk : g.kind = .clip)
    (hc : g.chan = some ch) (hfree : s.chans[ch].user = none) (hid : s.clips.dir[id].state = .ready) :
    ((s.onChan ch fun r => { r.stopped with user := some (.prog p), clip := some id }).takeRecord p g).Sound K loose opening ∧
    ((s.onChan ch fun r => { r.stopped with user := some (.prog p), clip := some id }).takeRecord p g).Table noZone := by
  generalize hv : (s.onChan ch fun r => { r.stopped with user := some (.prog p), clip := some id }) = v
  have hvp : v.progs = s.progs := hv ▸ rfl
  have hvo : v.openOrder = s.openOrder := hv ▸ rfl
  have hve : v.endOrder = s.endOrder := hv ▸ rfl
  have hchan (c : ChanId) : v.chans[c] =
      if ch = c then { s.chans[c].stopped with user := some (.prog p), clip := some id } else s.chans[c] := by
    rw [← hv]; exact getElem_adjust_fin ..
  have hgist : ({ v.takeRecord p g with
      progs := s.progs, openOrder := s.openOrder, endOrder := s.endOrder, stations := s.stations, chans := s.chans } : State).gist =
      s.gist := by rw [← hv]; rfl
  have hself := v.takeRecord_self p g
  have hother (q : ProgId) (e : q ≠ p) : (v.takeRecord p g).progs[q] = s.progs[q] := by rw [v.takeRecord_other e g, hvp]
  have hg' := hg.arrive v.arrivals
  have hb := h.blocks
  have horders : v.ordersLawful = true := by rw [← hv]; exact hb.orders
  have hready : (v.takeRecord p g).channelsReady = true := by
    refine (State.ready_iff _).mpr fun c i hi => ?_
    have hd : (v.takeRecord p g).clips.dir = s.clips.dir := hv ▸ rfl
    have hi' : v.chans[c].clip = some i := hi
    rw [hd]
    rw [hchan c] at hi'
    split at hi'
    · cases hi'; exact hid
    · exact (State.ready_iff s).mp hb.ready c i hi'
  have husers : (v.takeRecord p g).Users := by
    refine ((State.users_iff s).mp hb.users).bound hp hg'.isOpen hk hc hself hother hfree ?_ (fun c hne => ?_) (hv ▸ rfl)
    · show v.chans[ch].user = _
      rw [hchan, if_pos rfl]
    · show v.chans[c].user = _
      rw [hchan, if_neg hne.symm]
  have hblocks : (v.takeRecord p g).Blocks loose opening :=
    hb.opened hp hg' hslot hgist hself hother (State.takeRecord_orders horders p hg.state) (hv ▸ hb.intercom)
      (State.callouts_opened hb.callouts hp (by rw [show ({ g with arrival := v.arrivals } : Program).kind = g.kind from rfl, hk]; decide)
        hself hother (hv ▸ rfl)) hready husers
  exact ⟨h.opened hblocks hg' hself hother (hv ▸ rfl) (fun _ => hv ▸ ⟨rfl, rfl⟩) (hv ▸ rfl) (hv ▸ rfl) (hv ▸ rfl) (hv ▸ h.cue),
    ht.opened hp hg' (hv ▸ rfl) hself hother (State.takeRecord_listed horders p hg.state)⟩

end Claiming

end Sys2Proof.Machine
end

section
namespace Sys2Proof.Machine

/-! ### A pool channel is found or taken (R134) -/

section Pool
variable {K : CueEngine → Prop} {loose opening : Fin 2 → Prop} {s t u w : State} {p q : ProgId} {z : Zone} {ch : ChanId}
  {from? : Option ProgId} {id : ClipId} {mayTake : Bool}

/-- The state once the program that a channel is taken from has ended. -/
def State.vacated (s : State) (from? : Option ProgId) : State :=
  match from? with
  | none => s
  | some p => s.endAndRelease p .channelTaken Cause.event

theorem State.bindPool_eq (s : State) (ch : ChanId) (from? : Option ProgId) (x : ChanUser) (id : ClipId) :
    s.bindPool ch from? x id Cause.event =
      (s.vacated from?).onChan ch fun r => { r.stopped with user := some x, clip := some id } := rfl

theorem State.settleProgram_dir (s : State) (p : ProgId) : (s.settleProgram p).clips.dir = s.clips.dir := by
  rcases s.settleProgram_cases p with ⟨e, -⟩ | ⟨h, -⟩
  · rw [e]; exact s.endProgram_dir p .noZones
  · exact (congrArg (fun v : State => v.clips.dir) h.steady :)

theorem State.settleAll_dir (s : State) : s.settleAll.clips.dir = s.clips.dir := by
  unfold State.settleAll
  generalize List.finRange 32 = l
  induction l generalizing s with
  | nil => rfl
  | cons q l ih => rw [List.foldl_cons, ih, State.settleProgram_dir]

theorem State.dir_of_lasting (h : u.lasting = s.lasting) : u.clips.dir = s.clips.dir :=
  (congrArg (fun v : State => v.clips.dir) h :)

theorem State.dir_of_beyond (h : u.beyond = s.beyond) : u.clips.dir = s.clips.dir :=
  (congrArg (fun v : State => v.clips.dir) h :)

theorem State.endAndRelease_dir (s : State) (p : ProgId) (why : EndReason) (c : Cause) :
    (s.endAndRelease p why c).clips.dir = s.clips.dir := by
  rw [State.endAndRelease_eq, State.dir_of_lasting (State.finish_lasting ..), State.settleAll_dir,
    State.dir_of_beyond (State.releaseStep_beyond ..)]
  exact s.endProgram_dir p why

theorem State.isOpen_of_bare (h : u.bare = s.bare) (p : ProgId) : u.progs[p].isOpen = s.progs[p].isOpen :=
  (congrArg Program.isOpen (State.bare_apply h p) :)

/-- A record that is not open stays so while another program ends. -/
theorem State.endAndRelease_closed (h : s.progs[p].isOpen = false) (q : ProgId) (why : EndReason) (c : Cause) :
    (s.endAndRelease q why c).progs[p].isOpen = false := by
  have hrel : ((s.endProgram q why).releaseStep c.quiet (s.ownedBy q) (s.bedsOf q)).progs[p].isOpen = false := by
    rw [State.isOpen_of_bare (State.bare_of_beyond (State.releaseStep_beyond ..)), State.endProgram_isOpen, h]
    split <;> rfl
  rw [State.endAndRelease_eq, State.finish_progs, State.settleAll_of_closed hrel]
  exact hrel

theorem State.endAndRelease_ends (s : State) (q : ProgId) (why : EndReason) (c : Cause) :
    (s.endAndRelease q why c).progs[q].isOpen = false := by
  have hrel : ((s.endProgram q why).releaseStep c.quiet (s.ownedBy q) (s.bedsOf q)).progs[q].isOpen = false := by
    rw [State.isOpen_of_bare (State.bare_of_beyond (State.releaseStep_beyond ..)), State.endProgram_isOpen, if_pos rfl]
  rw [State.endAndRelease_eq, State.finish_progs, State.settleAll_of_closed hrel]
  exact hrel

/-- A channel whose only user was a program that is not open has no user. -/
theorem State.Users.freed (h : s.Users) (hs : s.Sole q ch) (hq : s.progs[q].isOpen = false) (hlt : ch.val < 4) :
    s.chans[ch].user = Option.none := by
  cases he : s.chans[ch].user with
  | none => rfl
  | some x =>
    cases x with
    | prog r =>
      obtain ⟨-, hr, -, hc⟩ := h.prog ch r he
      have hne : r ≠ q := fun e => by rw [e, hq] at hr; cases hr
      exact absurd hc (hs.progs r hne hr)
    | window k => exact absurd (h.slot ch k he).2 (hs.windows k)
    | cue => exact absurd (h.cue ch he) (by omega)

/-- What a request for a pool channel is answered leads to a channel without user. -/
theorem State.Rests.vacated (h : s.Rests K loose opening) (hK : CueEngine.Stable K)
    (hp : s.poolRequest id mayTake = .ok (ch, from?)) :
    (s.vacated from?).Rests K loose opening ∧ (s.vacated from?).chans[ch].user = none ∧
    (s.vacated from?).clips.dir[id].state = .ready ∧
    ∀ r : ProgId, s.progs[r].isOpen = false → (s.vacated from?).progs[r].isOpen = false := by
  have hready : s.clips.dir[id].state = .ready := by
    unfold State.poolRequest at hp
    split at hp
    · cases hp
    · next hc =>
      rw [Bool.not_eq_true', Bool.not_eq_false] at hc
      unfold State.clipReady at hc
      rw [Bool.and_eq_true, beq_iff_eq] at hc
      exact hc.2
  have hu := (State.users_iff s).mp h.sound.blocks.users
  rcases State.poolRequest_ok hp with ⟨rfl, hf⟩ | ⟨q, rfl, -, -, hv⟩
  · have hf' := List.find?_some (p := fun c : ChanId => s.chans[c].user.isNone) hf
    exact ⟨h, Option.isNone_iff_eq_none.mp hf', hready, fun _ e => e⟩
  · obtain ⟨hlt, hq, -⟩ := State.victim_some hv
    obtain ⟨-, hop, -, -⟩ := hu.prog ch q hq
    have hr := h.endAndRelease hK hop .channelTaken Cause.event
    have hs := (State.sole_of_user h.sound.blocks.users hq).endAndRelease .channelTaken Cause.event
    refine ⟨hr, ((State.users_iff _).mp hr.sound.blocks.users).freed hs (State.endAndRelease_ends s q _ _) hlt, ?_,
      fun r hc => State.endAndRelease_closed hc q _ _⟩
    show (s.endAndRelease q .channelTaken Cause.event).clips.dir[id].state = .ready
    rw [State.endAndRelease_dir]
    exact hready

end Pool

/-! ### OPEN_PROGRAM keeps the laws (R39 to R41) -/

section Opens
variable {s u v : State} {p : ProgId} {t : Txn} {a : OpenArgs} {x : Port} {k : ProgKind} {chan : Option (ChanId × Option ProgId)}

theorem Program.station_none {g : Program} (h : g.kind ≠ .callOut) : g.station = none := by
  unfold Program.station
  split
  · next e _ => exact absurd e h
  · rfl

theorem openRecord_fresh (hs : OpenSound a k) (x : Port) (h2 : 2 ≤ p.val) : (openRecord a x k).Fresh p where
  state := rfl
  claim z := Program.claim_free z
  cls := iff_of_false (by have := hs.cls.1; show a.cls.toNat ≠ 0; omega) (by omega)
  alarm hlt := by omega
  gain := by
    have : clampGain a.gain.toNat ≤ unity := Nat.min_le_right _ _
    show (Ramp.still (clampGain a.gain.toNat)).inRange = true
    rw [Ramp.inRange_iff]
    exact ⟨this, this, this, fun _ e => nomatch e⟩
  timer := rfl

theorem Program.Fresh.bindChan {g : Program} (h : g.Fresh p) (ch : ChanId) : (g.bindChan ch).Fresh p :=
  ⟨h.state, h.claim, h.cls, h.alarm, h.gain, h.timer⟩

theorem OpenSound.station (hs : OpenSound a k) (hk : k = .callOut) (x : Port) :
    ∃ st, (openRecord a x k).station = some st := by
  subst hk
  have hcode : a.kind.toNat = 3 := hs.code
  obtain ⟨-, -, h3, -⟩ := hs.formed
  have hr := h3 hcode
  refine ⟨⟨a.source.toNat - 16, by omega⟩, Program.station_of_callOut rfl ?_⟩
  refine (hs.source (by decide)).trans (congrArg some ?_)
  show a.source.toNat = 16 + (a.source.toNat - 16)
  omega

/-- An accepted open leaves the part at rest. -/
theorem State.AtLaw.openIn (h : s.AtLaw) (hs : OpenSound a k) (hop : s.progs[p].isOpen = false) (h2 : 2 ≤ p.val)
    (hb : s.openBlocks (openRecord a x k) = .ok chan) : (s.openIn p (openRecord a x k) chan a.zones).AtLaw := by
  have hslot (j : Fin 2) (e : p = progOfSlot j) : noSlot j := by
    have := congrArg Fin.val e
    have hj : (progOfSlot j).val < 2 := j.isLt
    omega
  have hfresh := openRecord_fresh hs x h2
  have hsound := h.sound
  rw [State.openIn_eq]
  have hclose (hw : (s.opened p (openRecord a x k) chan).Sound CueEngine.Lawful noSlot noSlot ∧
      (s.opened p (openRecord a x k) chan).Table noZone) :
      (State.claimOpened (s.bindFor p (openRecord a x k) chan) (s.opened p (openRecord a x k) chan) p a.zones
        ⟨some p, false⟩).AtLaw := by
    have hself := s.opened_self p (openRecord a x k) chan
    have hf : (s.opened p (openRecord a x k) chan).progs[p].Fresh p := by
      rw [hself]
      refine Program.Fresh.arrive ?_ _
      cases chan with
      | none => exact hfresh
      | some c => exact hfresh.bindChan c.1
    exact hw.1.claimOpened CueEngine.lawful_stable hw.2 hf.isOpen (by rw [hf.state]; decide) hf.claim _ _ _
  refine hclose ?_
  rcases openBlocks_clip hb hs with ⟨rfl, hk⟩ | ⟨hk, ch, from?, part, rfl, hpart, hreq⟩
  · have hchan : (openRecord a x k).chan = none := by
      show ((if k = .clip then openClipPart a else none).bind fun c => c.channel) = none
      rw [if_neg hk]; rfl
    by_cases hco : k = .callOut
    · obtain ⟨st, hst⟩ := hs.station hco x
      have hidle : s.stations[st].state = .idle := by
        unfold State.openBlocks at hb
        have hpart : (openRecord a x k).clipPart = none := if_neg hk
        rw [hpart] at hb
        simp only [hst] at hb
        by_contra hne
        rw [if_neg hne] at hb
        cases hb
      have he : s.opened p (openRecord a x k) none =
          (s.takeRecord p (openRecord a x k)).onStation st fun y => { y with state := .talkout } := by
        show (s.takeRecord p (openRecord a x k)).callFor (openRecord a x k) = _
        unfold State.callFor
        rw [hst]
      rw [he]
      exact hsound.takeStation h.table hop hfresh hslot hst hidle hchan
    · have he : s.opened p (openRecord a x k) none = s.takeRecord p (openRecord a x k) := by
        show (s.takeRecord p (openRecord a x k)).callFor (openRecord a x k) = _
        unfold State.callFor
        rw [Program.station_none (show (openRecord a x k).kind ≠ .callOut from hco)]
      rw [he]
      exact hsound.takeRecord h.table hop hfresh hslot hco hchan
  · subst hk
    obtain ⟨hr, hfree, hid, hclosed⟩ := h.vacated CueEngine.lawful_stable hreq
    have hcc : ((openRecord a x .clip).bindChan ch).chan = some ch := by
      show ((openRecord a x .clip).clipPart.map fun c => { c with channel := some ch }).bind (fun c => c.channel) = some ch
      rw [hpart]; rfl
    have he : s.opened p (openRecord a x .clip) (some (ch, from?)) =
        ((s.vacated from?).onChan ch fun r => { r.stopped with user := some (.prog p), clip := some part.clip }).takeRecord p
          ((openRecord a x .clip).bindChan ch) := by
      have hbind : s.bindFor p (openRecord a x .clip) (some (ch, from?)) =
          (s.vacated from?).onChan ch fun r => { r.stopped with user := some (.prog p), clip := some part.clip } := by
        unfold State.bindFor
        rw [hpart]
        rfl
      show ((s.bindFor p (openRecord a x .clip) (some (ch, from?))).takeRecord p
        ((openRecord a x .clip).bindChan ch)).callFor ((openRecord a x .clip).bindChan ch) = _
      unfold State.callFor
      rw [Program.station_none (show ((openRecord a x .clip).bindChan ch).kind ≠ .callOut from fun e => nomatch e), hbind]
    rw [he]
    exact hr.sound.takeChannel hr.table (hclosed p hop) (hfresh.bindChan ch) hslot rfl hcc hfree hid

theorem State.AtLaw.ended_of_endOrder (h : s.AtLaw) : ∀ q ∈ s.endOrder, s.progs[q].state = .ended :=
  fun q hq => (((State.orders_iff s).mp h.sound.blocks.orders).2.2.2.1 q).2.mp hq

theorem execOpenProgram_atLaw (h : s.AtLaw) (he : execOpenProgram t a s = .next u) : u.AtLaw := by
  refine portCommand_atLaw h (fun v hv => ?_) he
  simp only
  split
  · exact hv
  · next k hk =>
    split
    · exact hv
    · next r hr =>
      split
      · exact hv
      · next chan hc =>
        obtain ⟨hst, hlow⟩ := State.allocate_some (State.AtLaw.ended_of_endOrder hv) hr
        refine State.AtLaw.openIn hv (openSound_of_check hk) (Program.isOpen_of_free_or_ended hst) ?_ hc
        unfold recordLow at hlow
        split at hlow <;> omega

end Opens

end Sys2Proof.Machine
end

section
namespace Sys2Proof.Machine

/-! ### An alarm slot, its generator and its window (R77, R79 to R92, R99, R100) -/

section Slots
variable {K : CueEngine → Prop} {loose opening loose' opening' : Fin 2 → Prop} {s t u : State} {k : Fin 2} {a : AlarmSlot}
  {pl : Player}

/-- A change of blocks that the claim table does not read: with the laws of the blocks shown, the others are kept. -/
theorem State.Sound.reblocked (h : s.Sound K loose opening) (he : ({ u with
      slots := s.slots, tone := s.tone, ring := s.ring, chans := s.chans, clips := s.clips, resetLeft := s.resetLeft
      calls := s.calls, callEnds := s.callEnds } : State).ruled = s.ruled) (hb : u.Blocks loose' opening') :
    u.Sound K loose' opening' := by
  have hs := h.of_ruled he
  exact ⟨hb, ⟨hs.gains.progs, hs.gains.zones, hs.gains.stations, hs.gains.under, hs.gains.pilot, hs.gains.patterns⟩,
    ⟨hs.flags.flagged, hs.flags.zone, hs.flags.pilot, hs.flags.queue, hs.flags.unqueued, hs.flags.idle⟩, hs.clocks, hs.cue⟩

theorem State.Rests.reblocked (h : s.Rests K loose opening) (he : ({ u with
      slots := s.slots, tone := s.tone, ring := s.ring, chans := s.chans, clips := s.clips, resetLeft := s.resetLeft
      calls := s.calls, callEnds := s.callEnds } : State).ruled = s.ruled) (hb : u.Blocks loose' opening') :
    u.Rests K loose' opening' := by
  have hs := h.of_ruled he
  exact ⟨h.sound.reblocked he hb, hs.table.congr rfl rfl rfl, hs.settled, hs.clear⟩

/-- The condition of the generator in each state of its slot (R99). -/
def SlotState.toneCond (x : SlotState) : Cond :=
  match x with
  | .sounding | .voiceMixed => .running
  | .voice => .paused
  | .silenced | .idle => .stopped

/-- What makes a slot's record and its generator lawful beside the slot's program. -/
structure State.SlotOk (s : State) (k : Fin 2) (loose opening : Prop) (a : AlarmSlot) (pl : Player) : Prop where
  pattern : a.state ≠ .idle → a.pattern.isSome = true
  tone : ¬loose → pl.cond = a.state.toneCond
  window : ¬loose → a.windowLawful = true
  sounds : a.state ≠ .idle → s.progs[progOfSlot k].isOpen = true
  idles : ¬opening → a.state = .idle → s.progs[progOfSlot k].isOpen = false

/-- A slot and its generator changed lawfully, with the channels their users. -/
theorem State.Blocks.reslotted (h : s.Blocks loose opening) (hok : s.SlotOk k (loose' k) (opening' k) a pl)
    (hl : ∀ j, j ≠ k → ¬loose' j → ¬loose j) (hop : ∀ j, j ≠ k → ¬opening' j → ¬opening j)
    (hrest : ({ u with slots := s.slots, tone := s.tone, chans := s.chans } : State).gist = s.gist)
    (ha : u.slots[k] = a) (hpl : u.tone[k] = pl)
    (hother : ∀ j : Fin 2, j ≠ k → u.slots[j] = s.slots[j] ∧ u.tone[j] = s.tone[j])
    (hready : u.channelsReady = true) (husers : u.Users) : u.Blocks loose' opening' := by
  have hv := h.congr hrest
  have hopen (p : ProgId) : u.progs[p].isOpen = s.progs[p].isOpen := State.isOpen_of_gist hrest p
  refine ⟨hv.orders, fun j => ?_, fun j hj => ?_, fun j hj => ?_, fun j hj => ?_, fun j hj hi => ?_, hv.timers, hv.cadence,
    hv.intercom, hv.callouts, hv.reset, hready, (State.users_iff u).mpr husers, hv.ranges, hv.entries, hv.routes⟩
  all_goals by_cases e : j = k
  · subst e
    exact (State.slotLawful_iff u j).mpr ⟨((State.slotLawful_iff _ j).mp (hv.slots j)).1, ha ▸ hok.pattern⟩
  · have := (State.slotLawful_iff _ j).mp (hv.slots j)
    exact (State.slotLawful_iff u j).mpr ⟨this.1, (hother j e).1 ▸ this.2⟩
  · subst e
    have := hok.tone hj
    rw [← ha, ← hpl] at this
    exact beq_iff_eq.mpr this
  · have := h.tones j (hl j e hj)
    unfold State.toneFollows at this ⊢
    simp only [hother j e]
    exact this
  · subst e
    exact ha ▸ hok.window hj
  · rw [(hother j e).1]
    exact h.windows j (hl j e hj)
  · subst e
    exact (hopen _).trans (hok.sounds (ha ▸ hj))
  · exact (hopen _).trans (h.sounds j ((hother j e).1 ▸ hj))
  · subst e
    exact (hopen _).trans (hok.idles hj (ha ▸ hi))
  · exact (hopen _).trans (h.idles j (hop j e hj) ((hother j e).1 ▸ hi))

/-- The users of the channels where a slot's window names the channel it named. -/
theorem State.Users.reslotted (h : s.Users)
    (hw : ∀ j : Fin 2, (u.slots[j].window.bind fun w => w.source.channel) = s.slots[j].window.bind fun w => w.source.channel)
    (hp : u.progs = s.progs) (hc : u.chans = s.chans) : u.Users where
  clip p ch := by simp only [hp, hc]; exact h.clip p ch
  window j ch := by rw [hw]; simp only [hc]; exact h.window j ch
  none ch := by simp only [hc]; exact h.none ch
  prog ch p := by simp only [hc, hp]; exact h.prog ch p
  slot ch j := by rw [hw]; simp only [hc]; exact h.slot ch j
  cue ch := by simp only [hc]; exact h.cue ch

theorem State.setSlot_slot (s : State) (k j : Fin 2) (f : AlarmSlot → AlarmSlot) (g : Player → Player) :
    (j = k → ((s.onTone k g).onSlot k f).slots[j] = f s.slots[j] ∧ ((s.onTone k g).onSlot k f).tone[j] = g s.tone[j]) ∧
    (j ≠ k → ((s.onTone k g).onSlot k f).slots[j] = s.slots[j] ∧ ((s.onTone k g).onSlot k f).tone[j] = s.tone[j]) := by
  refine ⟨fun e => ?_, fun e => ?_⟩
  · subst e
    exact ⟨(State.onSlot_slot ..).trans (if_pos rfl), (State.onTone_player ..).trans (if_pos rfl)⟩
  · exact ⟨(State.onSlot_slot ..).trans (if_neg (Ne.symm e)), (State.onTone_player ..).trans (if_neg (Ne.symm e))⟩

/-- A slot and its generator set together, with the slot's channel as it was. -/
theorem State.Sound.setSlot (h : s.Sound K loose opening) {f : AlarmSlot → AlarmSlot} {g : Player → Player}
    (hok : s.SlotOk k (loose' k) (opening' k) (f s.slots[k]) (g s.tone[k]))
    (hw : ((f s.slots[k]).window.bind fun w => w.source.channel) = s.slots[k].window.bind fun w => w.source.channel)
    (hl : ∀ j, j ≠ k → ¬loose' j → ¬loose j) (hop : ∀ j, j ≠ k → ¬opening' j → ¬opening j) :
    ((s.onTone k g).onSlot k f).Sound K loose' opening' := by
  refine h.reblocked rfl (h.blocks.reslotted hok hl hop rfl ((s.setSlot_slot k k f g).1 rfl).1 ((s.setSlot_slot k k f g).1 rfl).2
    (fun j => (s.setSlot_slot k j f g).2) h.blocks.ready ?_)
  refine ((State.users_iff s).mp h.blocks.users).reslotted (fun j => ?_) rfl rfl
  by_cases e : j = k
  · subst e
    rw [((s.setSlot_slot j j f g).1 rfl).1, hw]
  · rw [((s.setSlot_slot k j f g).2 e).1]

theorem State.Rests.setSlot (h : s.Rests K loose opening) {f : AlarmSlot → AlarmSlot} {g : Player → Player}
    (hok : s.SlotOk k (loose' k) (opening' k) (f s.slots[k]) (g s.tone[k]))
    (hw : ((f s.slots[k]).window.bind fun w => w.source.channel) = s.slots[k].window.bind fun w => w.source.channel)
    (hl : ∀ j, j ≠ k → ¬loose' j → ¬loose j) (hop : ∀ j, j ≠ k → ¬opening' j → ¬opening j) :
    ((s.onTone k g).onSlot k f).Rests K loose' opening' :=
  h.reblocked rfl (h.sound.setSlot hok hw hl hop).blocks

theorem State.gist_of_clips (hc : u.clips.gist = s.clips.gist) (hr : ({ u with clips := s.clips } : State).gist = s.gist) :
    u.gist = s.gist := by
  have hu : u.gist = { ({ u with clips := s.clips } : State).gist with clips := u.clips.gist } := rfl
  rw [hu, hr, hc]
  rfl

/-- The users of the channels where the window of a slot is removed and its channel released. -/
theorem State.Users.windowClosed (h : s.Users) (hp : u.progs = s.progs)
    (hslot : ∀ j : Fin 2, u.slots[j].window = if k = j then Option.none else s.slots[j].window)
    (hchan : ∀ ch : ChanId, u.chans[ch].user =
      if (s.slots[k].window.bind fun w => w.source.channel) = some ch then Option.none else s.chans[ch].user) : u.Users where
  clip p ch := by
    simp only [hp]
    intro ho hc
    obtain ⟨hlt, hu⟩ := h.clip p ch ho hc
    refine ⟨hlt, (hchan ch).trans ((if_neg fun hw => ?_).trans hu)⟩
    have := (h.window k ch hw).symm.trans hu
    cases this
  window j ch hw := by
    rw [hslot] at hw
    split at hw
    · cases hw
    · next hne =>
      have hu := h.window j ch hw
      refine (hchan ch).trans ((if_neg fun hk => hne ?_).trans hu)
      have := (h.window k ch hk).symm.trans hu
      cases this; rfl
  none ch hn := by
    rw [hchan] at hn
    split at hn
    · next hw => exact (h.slot ch k (h.window k ch hw)).1
    · exact h.none ch hn
  prog ch p hu := by
    rw [hchan] at hu
    split at hu
    · cases hu
    · simp only [hp]; exact h.prog ch p hu
  slot ch j hu := by
    rw [hchan] at hu
    split at hu
    · cases hu
    · next hne =>
      have hw := (h.slot ch j hu)
      refine ⟨hw.1, ?_⟩
      rw [hslot, if_neg fun e : k = j => hne (e ▸ hw.2)]
      exact hw.2
  cue ch hu := by
    rw [hchan] at hu
    split at hu
    · cases hu
    · exact h.cue ch hu

theorem State.closeWindow_shape (s : State) (k : Fin 2) :
    ∃ sl ch cl, s.closeWindow k = { s with slots := sl, chans := ch, clips := cl } := by
  unfold State.closeWindow
  repeat' split
  all_goals exact ⟨_, _, _, rfl⟩

/-- A window removed, with its channel (R90). -/
theorem State.Rests.closeWindow (h : s.Rests K loose opening) (k : Fin 2) :
    (s.closeWindow k).Rests K (fun j => loose j ∨ j = k) opening := by
  have hb := h.sound.blocks
  have hslot := s.closeWindow_slot k
  have hchan := s.closeWindow_chan k
  have hself : (s.closeWindow k).slots[k] = { s.slots[k] with window := none } := (hslot k).trans (if_pos rfl)
  have hpat := ((State.slotLawful_iff s k).mp (hb.slots k)).2
  have hok : s.SlotOk k (loose k ∨ k = k) (opening k) { s.slots[k] with window := none } s.tone[k] :=
    ⟨hpat, fun e => (e (Or.inr rfl)).elim, fun e => (e (Or.inr rfl)).elim, hb.sounds k, hb.idles k⟩
  have hchanEq (ch : ChanId) : (s.closeWindow k).chans[ch].user =
      (if (s.slots[k].window.bind fun w => w.source.channel) = some ch then none else s.chans[ch].user) ∧
      ((s.closeWindow k).chans[ch].clip = none ∨ (s.closeWindow k).chans[ch].clip = s.chans[ch].clip) := by
    rw [hchan]
    split
    · exact ⟨rfl, Or.inl rfl⟩
    · exact ⟨rfl, Or.inr rfl⟩
  have hcl := s.closeWindow_clips k
  have hdir : (s.closeWindow k).clips.dir = s.clips.dir := (congrArg ClipEngine.dir hcl :)
  have hu : (s.closeWindow k).Users := by
    refine ((State.users_iff s).mp hb.users).windowClosed (s.closeWindow_same k).1 (fun j => ?_) fun ch => (hchanEq ch).1
    rw [hslot]
    split <;> rfl
  have hr : (s.closeWindow k).channelsReady = true := by
    refine (State.ready_iff _).mpr fun ch id hid => ?_
    rw [hdir]
    rcases (hchanEq ch).2 with e | e
    · rw [e] at hid; cases hid
    · exact (State.ready_iff s).mp hb.ready ch id (e ▸ hid)
  obtain ⟨sl, ch, cl, hshape⟩ := s.closeWindow_shape k
  have hsame : ({ s.closeWindow k with
      slots := s.slots, tone := s.tone, chans := s.chans, clips := s.clips } : State) = s := by rw [hshape]
  have hbench : ({ s.closeWindow k with
      slots := s.slots, tone := s.tone, ring := s.ring, chans := s.chans, clips := s.clips, resetLeft := s.resetLeft
      calls := s.calls, callEnds := s.callEnds } : State) = s := by rw [hshape]
  have htone := s.closeWindow_tone k
  clear hshape
  generalize s.closeWindow k = v at *
  refine h.reblocked (congrArg State.ruled hbench) (hb.reslotted (loose' := fun j => loose j ∨ j = k) (opening' := opening) hok
    (fun j _ hj e => hj (Or.inl e)) (fun j _ hj => hj) (State.gist_of_clips hcl (congrArg State.gist hsame)) hself
    (by simp only [htone]) (fun j hj => ⟨(hslot j).trans (if_neg (Ne.symm hj)), ?_⟩) hr hu)
  simp only [htone]

/-- A slot's program that is open is an ALARM program that takes its zones one by one and is not in TAIL. -/
theorem State.Rests.slot_program (h : s.Rests K loose opening) (k : Fin 2) (ho : s.progs[progOfSlot k].isOpen = true) :
    s.progs[progOfSlot k].kind = .alarm ∧ s.progs[progOfSlot k].together = false ∧ s.progs[progOfSlot k].state ≠ .tail := by
  obtain ⟨hk, hp⟩ := ((State.slotLawful_iff s k).mp (h.sound.blocks.slots k)).1 ho
  refine ⟨hk, Bool.not_eq_true _ |>.mp fun e => ?_, fun e => ?_⟩
  · exact Policy.noConfusion (hp.symm.trans ((Program.together_iff _).mp e).1)
  · have := h.table.roles.tail_live (progOfSlot k) (beq_iff_eq.mpr e)
    exact ProgKind.noConfusion (hk.symm.trans this)

end Slots

end Sys2Proof.Machine
end

section
namespace Sys2Proof.Machine

section SlotOps
variable {K : CueEngine → Prop} {loose opening : Fin 2 → Prop} {s t u : State} {k : Fin 2} {a : AlarmSlot} {pl : Player}

theorem State.raiseAlarm_ruled (s : State) (named : Bool) : (s.raiseAlarm named).ruled = s.ruled := by
  cases named <;> rfl

theorem State.Rests.raiseAlarm (h : s.Rests K loose opening) (named : Bool) : (s.raiseAlarm named).Rests K loose opening :=
  h.of_ruled (s.raiseAlarm_ruled named)

/-- A slot made IDLE, whose program has still to be closed (R83). -/
theorem State.Rests.idleSlot (h : s.Rests K loose opening) (k : Fin 2) (named : Bool) :
    (s.idleSlot k named).Rests K loose (fun j => opening j ∨ j = k) := by
  refine ((h.closeWindow k).setSlot ⟨fun e => (e rfl).elim, fun _ => rfl, fun _ => rfl, fun e => (e rfl).elim,
    fun e => (e (Or.inr rfl)).elim⟩ ?_ (fun j hj e => fun e' => ?_) fun j hj e e' => e (Or.inl e')).raiseAlarm named
  · rw [(s.closeWindow_slot k k).trans (if_pos rfl)]
    rfl
  · rcases e' with e' | e'
    · exact e e'
    · exact hj e'

/-- A slot that is IDLE while its program is open is so no longer once the program has ended. -/
theorem State.Rests.shut (h : s.Rests K loose opening) (hc : ∀ k, opening k → s.progs[progOfSlot k].isOpen = false) :
    s.Rests K loose noSlot := by
  refine ⟨⟨{ h.sound.blocks with idles := fun k _ hi => ?_ }, h.sound.gains, h.sound.flags, h.sound.clocks, h.sound.cue⟩,
    h.table, h.settled, h.clear⟩
  by_cases e : opening k
  · exact hc k e
  · exact h.sound.blocks.idles k e hi

/-- The state a slot's window is in (R77, R87). -/
theorem State.Rests.voice_of_window (h : s.Rests K loose opening) (hl : ¬loose k) :
    s.slots[k].window.isSome = true ↔ s.slots[k].state = .voice ∨ s.slots[k].state = .voiceMixed := by
  have := h.sound.blocks.windows k hl
  unfold AlarmSlot.windowLawful at this
  rw [beq_iff_eq.mp this, Bool.or_eq_true, beq_iff_eq, beq_iff_eq]

/-- The condition of a slot's generator (R99). -/
theorem State.Rests.tone_cond (h : s.Rests K loose opening) (hl : ¬loose k) :
    s.tone[k].cond = s.slots[k].state.toneCond :=
  beq_iff_eq.mp (h.sound.blocks.tones k hl)

theorem Player.continue_running {pl : Player} (h : pl.cond = .paused ∨ pl.cond = .running) : pl.continue.cond = .running := by
  unfold Player.continue
  split
  · rfl
  · next hne => exact h.resolve_left hne

/-- A window closed with the return state taken (R90). -/
theorem State.Rests.returnFromVoice (h : s.Rests K noSlot noSlot) (k : Fin 2) (named : Bool) :
    (s.returnFromVoice k named).Rests K noSlot noSlot := by
  have hv := h.voice_of_window (k := k) id
  have ht := h.tone_cond (k := k) id
  have hs := s.closeWindow_slot k k
  rw [if_pos rfl] at hs
  have hw : (s.closeWindow k).slots[k].window = none := by rw [hs]
  have hp : (s.closeWindow k).slots[k].pattern = s.slots[k].pattern := by rw [hs]
  unfold State.returnFromVoice
  cases hsome : s.slots[k].window with
  | none => exact h
  | some w =>
    rw [hsome] at hv
    have hvoice := hv.mp rfl
    have hni : s.slots[k].state ≠ .idle := by rcases hvoice with e | e <;> rw [e] <;> decide
    have hopen := h.sound.blocks.sounds k hni
    have hpat := ((State.slotLawful_iff s k).mp (h.sound.blocks.slots k)).2 hni
    have hcl := h.closeWindow k
    have hopen' : (s.closeWindow k).progs[progOfSlot k].isOpen = true := by simp only [(s.closeWindow_same k).1]; exact hopen
    have htone : (s.closeWindow k).tone[k] = s.tone[k] := by simp only [s.closeWindow_tone]
    have hothers (j : Fin 2) (hj : j ≠ k) (_ : ¬False) : ¬(noSlot j ∨ j = k) := fun e => e.elim id hj
    simp only
    split
    · refine (hcl.setSlot (f := fun a => { a with state := .silenced }) (g := fun _ => Player.stopped)
        ⟨fun _ => hp ▸ hpat, fun _ => rfl, fun _ => ?_, fun _ => hopen', fun _ e => SlotState.noConfusion e⟩ rfl hothers
        fun _ _ e => e).raiseAlarm named
      exact beq_iff_eq.mpr (congrArg Option.isSome hw)
    · refine (hcl.setSlot (f := fun a => { a with state := .sounding }) (g := Player.continue)
        ⟨fun _ => hp ▸ hpat, fun _ => ?_, fun _ => ?_, fun _ => hopen', fun _ e => SlotState.noConfusion e⟩ rfl hothers
        fun _ _ e => e).raiseAlarm named
      · refine Player.continue_running ?_
        rw [htone, ht]
        rcases hvoice with e | e <;> rw [e]
        · exact Or.inl rfl
        · exact Or.inr rfl
      · exact beq_iff_eq.mpr (congrArg Option.isSome hw)

theorem AlarmSlot.silenceReturn_channel (a : AlarmSlot) :
    (a.silenceReturn.window.bind fun w => w.source.channel) = a.window.bind fun w => w.source.channel := by
  unfold AlarmSlot.silenceReturn
  cases a.window <;> rfl

theorem AlarmSlot.silenceReturn_isSome (a : AlarmSlot) : a.silenceReturn.window.isSome = a.window.isSome :=
  Option.isSome_map

/-- A slot that is not IDLE may take any other such state with the generator and the window the state asks for. -/
theorem State.Rests.moveSlot (h : s.Rests K noSlot noSlot) (hi : s.slots[k].state ≠ .idle) {f : AlarmSlot → AlarmSlot}
    {g : Player → Player} (hp : (f s.slots[k]).pattern = s.slots[k].pattern) (hn : (f s.slots[k]).state ≠ .idle)
    (ht : (g s.tone[k]).cond = (f s.slots[k]).state.toneCond)
    (hwl : (f s.slots[k]).windowLawful = true)
    (hw : ((f s.slots[k]).window.bind fun w => w.source.channel) = s.slots[k].window.bind fun w => w.source.channel) :
    ((s.onTone k g).onSlot k f).Rests K noSlot noSlot :=
  h.setSlot ⟨fun _ => hp ▸ ((State.slotLawful_iff s k).mp (h.sound.blocks.slots k)).2 hi, fun _ => ht, fun _ => hwl,
    fun _ => h.sound.blocks.sounds k hi, fun _ e => (hn e).elim⟩ hw (fun _ _ e => e) fun _ _ e => e

theorem State.Rests.parkTone_eq (h : s.Rests K loose opening) (hi : s.slots[k].state ≠ .idle) :
    ∃ pat, s.parkTone k = s.onTone k fun _ => Player.parked pat s.patterns[pat] := by
  obtain ⟨pat, hpat⟩ := Option.isSome_iff_exists.mp (((State.slotLawful_iff s k).mp (h.sound.blocks.slots k)).2 hi)
  exact ⟨pat, by rw [State.parkTone, hpat]⟩

/-- A slot silenced, in each of its states (R81). -/
theorem State.Rests.silence (h : s.Rests K noSlot noSlot) (k : Fin 2) (named : Bool) :
    (s.silence k named).Rests K noSlot noSlot := by
  have hv := h.voice_of_window (k := k) id
  unfold State.silence
  cases hs : s.slots[k].state with
  | idle => exact h
  | silenced => exact h
  | sounding =>
    rw [hs] at hv
    have hnone : s.slots[k].window.isSome = false := Bool.not_eq_true _ |>.mp fun e => by rcases hv.mp e with e | e <;> cases e
    exact (h.moveSlot (f := fun a => { a with state := .silenced }) (g := fun _ => Player.stopped) (hs ▸ by decide) rfl
      (fun e => SlotState.noConfusion e) rfl (beq_iff_eq.mpr hnone) rfl).raiseAlarm named
  | voice =>
    rw [hs] at hv
    obtain ⟨pat, hpat⟩ := h.parkTone_eq (k := k) (hs ▸ by decide)
    simp only [hpat]
    exact h.moveSlot (f := AlarmSlot.silenceReturn) (hs ▸ by decide) rfl (by show s.slots[k].state ≠ _; rw [hs]; decide)
      (by show _ = s.slots[k].state.toneCond
          rw [hs]; rfl)
      (by
        unfold AlarmSlot.windowLawful
        rw [AlarmSlot.silenceReturn_isSome, hv.mpr (Or.inl rfl)]
        show (_ == (s.slots[k].state == _ || _)) = _
        rw [hs]; rfl) (AlarmSlot.silenceReturn_channel _)
  | voiceMixed =>
    rw [hs] at hv
    obtain ⟨pat, hpat⟩ := h.parkTone_eq (k := k) (hs ▸ by decide)
    simp only [hpat]
    exact (h.moveSlot (f := fun a => { a.silenceReturn with state := .voice }) (hs ▸ by decide) rfl
      (fun e => SlotState.noConfusion e) rfl (beq_iff_eq.mpr ((AlarmSlot.silenceReturn_isSome _).trans (hv.mpr (Or.inr rfl)))) (AlarmSlot.silenceReturn_channel _)).raiseAlarm
      named

end SlotOps

end Sys2Proof.Machine
end

section
namespace Sys2Proof.Machine

/-! ### An alarm's program loses no part in a zone to a release step (R24, R27, R33)

Ending another program therefore never leaves an alarm's program with nothing. -/

section Holding
variable {s u : State} {pend : Zone → Prop} {p q w : ProgId} {y z : Zone} {rs : ZoneSet} {quiet : Bool}

/-- An open program has a part in the zone. -/
def State.HasPart (s : State) (q : ProgId) (z : Zone) : Prop := s.progs[q].isOpen = true ∧ s.progs[q].claim z ≠ .none

theorem State.HasPart.step (h : s.HasPart q z) (hs : State.StepAt y s u) (hc : y = z → u.progs[q].claim z ≠ .none) :
    u.HasPart q z := by
  refine ⟨(State.isOpen_of_beyond hs.beyond q).trans h.1, ?_⟩
  by_cases e : z = y
  · exact hc e.symm
  · rw [hs.claim z q e]
    exact h.2

theorem State.HasPart.of_prog (h : s.HasPart q z) (hp : u.progs[q] = s.progs[q]) : u.HasPart q z := by
  unfold State.HasPart
  rw [hp]
  exact h

theorem State.Table.part_of_owner (h : s.Table pend) (ho : s.zones[z].owner = some q) : s.progs[q].claim z ≠ .none := by
  rw [show s.progs[q].claim z = .granted from (h.cell z).claim_owner ho]
  decide

theorem State.Table.hasPart_take (h : s.Table pend) (hq : q.val < 2) (hp : s.HasPart q z) (hm : s.MayTake p y) :
    (s.take quiet p y).HasPart q z := by
  refine hp.step (s.take_stepAt quiet p y) fun e => ?_
  subst e
  by_cases hqp : q = p
  · subst hqp
    have hk : s.progs[q].kind ≠ .bed := by rw [show s.progs[q].kind = .alarm from h.roles.alarm q hq hp.1]; decide
    exact (h.take hm quiet).part_of_owner (State.take_owner s quiet hk y)
  · exact h.claim_take hq hp.1 hqp hp.2 quiet

theorem State.Table.hasPart_takeAll (h : s.Table pend) (hq : q.val < 2) (hp : s.HasPart q z) {zs : ZoneSet}
    (hm : ∀ z : Zone, zs.getLsbD z.val = true → (s.allow p).MayTake p z) : (s.takeAll quiet p zs).HasPart q z := by
  rw [State.takeAll_eq]
  refine (foldl_keeps (P := fun s => s.Table pend ∧ s.HasPart q z) (Q := fun s z => s.MayTake p z)
    (fun s z => s.take_stepAt quiet p z) (fun _ _ h hm => ⟨h.1.take hm quiet, h.1.hasPart_take hq h.2 hm⟩)
    (fun hs hy hm => hm.step hs hy) (zonesOf_nodup zs) ⟨h.allow p, ?_⟩ fun z hz => hm z ((mem_zonesOf zs z).mp hz)).2
  refine ⟨(congrFun (congrArg Roles.isOpen (s.allow_roles p)) q).trans hp.1, ?_⟩
  rw [show (s.allow p).progs[q].claim z = s.progs[q].claim z from congrFun (congrArg Cell.claim (s.allow_cell p z)) q]
  exact hp.2

theorem State.Table.hasPart_grantWaiter (h : s.Table pend) (hq : q.val < 2) (hp : s.HasPart q z)
    (hrs : ∀ y, pend y → rs.getLsbD y.val = true) (ho : s.zones[y].owner = none) (hf : s.waiterFor rs y = some w)
    (htop : ∀ t, s.zones[y].stack.head? = some t → s.progs[w].cls < s.progs[t].cls) :
    (s.grantWaiter quiet w y).HasPart q z := by
  by_cases ht : s.progs[w].together = true
  · rw [State.grantWaiter_together ht]
    exact h.hasPart_takeAll hq hp fun y hy => h.mayTake_together hrs ho hf ht htop hy
  · have htab := h.grantWaiter hrs ho hf htop quiet
    have hgr := State.grantWaiter_single (quiet := quiet) (z := y) (Bool.not_eq_true _ ▸ ht)
    rw [hgr] at htab ⊢
    refine hp.step (s.own_stepAt w y) fun e => ?_
    subst e
    by_cases hqw : w = q
    · subst hqw
      refine htab.part_of_owner ?_
      simp [State.own_zones]
    · rw [State.own_prog, if_neg hqw]
      exact hp.2

theorem State.Table.hasPart_popStack (h : s.Table pend) (hp : s.HasPart q z) {t : ProgId} {rest : List ProgId}
    (ho : s.zones[y].owner = none) (hs : s.zones[y].stack = t :: rest) (hw : s.progs[(1 : ProgId)].claim y ≠ .waiting) :
    (s.popStack y).HasPart q z := by
  have htab := h.popStack ho hs hw
  obtain ⟨hown, -, -, hother⟩ := State.popStack_effect hs
  by_cases hqt : q = t
  · subst hqt
    refine hp.step (s.popStack_stepAt y) fun e => ?_
    subst e
    exact htab.part_of_owner hown
  · exact hp.of_prog (hother q hqt)

/-- The waiter that comes before the top of the stack takes the zone, else the top (R33). -/
theorem State.Table.hasPart_succeed (h : s.Table pend) (hq : q.val < 2) (hp : s.HasPart q z)
    (hrs : ∀ y, pend y → rs.getLsbD y.val = true) (ho : s.zones[y].owner = none) : (s.succeed quiet rs y).HasPart q z := by
  rcases s.succeed_cases quiet rs y with ⟨e, -, -⟩ | ⟨w, e, hw, htop⟩ | ⟨t, rest, e, hs, hn⟩
  all_goals rw [e]
  · exact hp
  · exact h.hasPart_grantWaiter hq hp hrs ho hw htop
  · exact h.hasPart_popStack hp ho hs (h.second_not_waiting hs hn)

theorem State.Table.hasPart_fillBed (h : s.Table pend) (hq : q.val < 2) (hp : s.HasPart q z) (hb : s.zones[y].bed = none) :
    (s.fillBed quiet y).HasPart q z := by
  have hkind : s.progs[q].kind ≠ .bed := by rw [show s.progs[q].kind = .alarm from h.roles.alarm q hq hp.1]; decide
  unfold State.fillBed
  split
  · exact hp
  · next w hw =>
    obtain ⟨hwm, hk, hww, hgr⟩ := State.bedWaiter_some hw
    split
    · next ht =>
      refine h.hasPart_takeAll hq hp fun y' hy => ?_
      have hcl : s.progs[w].claim y' = .waiting := h.waiting_of_together ht hy
      obtain ⟨hop, -, hx⟩ := h.open_of_waiting hcl
      refine State.mayTake_allow hop hx (Or.inr hcl) (fun _ => ?_) (fun e => absurd hk e) fun e => absurd hk e
      by_cases e : y' = y
      · rw [e]; exact hb
      · exact hgr ht y' hy e
    · refine hp.of_prog ?_
      rw [State.takeBed_prog, if_neg fun e : w = q => hkind (e ▸ hk)]

theorem State.Table.hasPart_releaseZone (h : s.Table pend) (hq : q.val < 2) (hp : s.HasPart q z)
    (hrs : ∀ y, pend y → rs.getLsbD y.val = true) (beds : ZoneSet) : (s.releaseZone quiet rs beds y).HasPart q z := by
  have hfill {t : State} (ht : ∃ pend, t.Table pend) (hp : t.HasPart q z) (b : Bool) :
      (if b && t.zones[y].bed.isNone then t.fillBed quiet y else t).HasPart q z := by
    obtain ⟨pend, ht⟩ := ht
    split
    · next hb =>
      rw [Bool.and_eq_true, Option.isNone_iff_eq_none] at hb
      exact ht.hasPart_fillBed hq hp hb.2
    · exact hp
  refine hfill (t := if s.zones[y].owner.isNone then s.succeed quiet rs y else s) ?_ ?_ (beds.getLsbD y.val)
  all_goals split
  · next ho => exact ⟨_, h.succeed hrs (Option.isNone_iff_eq_none.mp ho) quiet⟩
  · exact ⟨_, h⟩
  · next ho => exact h.hasPart_succeed hq hp hrs (Option.isNone_iff_eq_none.mp ho)
  · exact hp

theorem State.Table.hasPart_releaseStep {fg beds : ZoneSet} (h : s.Table fun z => (fg ||| beds).getLsbD z.val = true)
    (hq : q.val < 2) (hp : s.HasPart q z) : (s.releaseStep quiet fg beds).HasPart q z := by
  unfold State.releaseStep
  have key (l : List Zone) (hl : ∀ z ∈ l, (fg ||| beds).getLsbD z.val = true) (s : State) (h : s.Table (· ∈ l))
      (hp : s.HasPart q z) : (l.foldl (fun s z => s.releaseZone quiet (fg ||| beds) beds z) s).HasPart q z := by
    induction l generalizing s with
    | nil => exact hp
    | cons y l ih =>
      refine ih (fun z hz => hl z (List.mem_cons_of_mem _ hz)) _ ?_ (h.hasPart_releaseZone hq hp (fun z hz => hl z hz) beds)
      refine (h.releaseZone (z := y) (fun z hz => hl z hz) beds quiet).mono fun z _ hz => ?_
      exact (List.mem_cons.mp hz.1).resolve_left hz.2
  exact key _ (fun z hz => (mem_zonesOf _ z).mp hz) s (h.mono fun z _ hz => (mem_zonesOf _ z).mpr hz) hp

end Holding

section HoldingOn
variable {K : CueEngine → Prop} {loose opening : Fin 2 → Prop} {s : State} {p q : ProgId} {z : Zone} {k : Fin 2}

theorem State.Rests.hasPart (h : s.Rests K loose opening) (ho : s.progs[q].isOpen = true) : ∃ z : Zone, s.HasPart q z := by
  have hne := Program.requested_ne (fun z => (h.table.cell z).sound q) (h.settled _) ho
  obtain ⟨z, hz⟩ : ∃ z : Zone, s.progs[q].requested.getLsbD z.val = true := by
    by_contra hno
    exact hne ((zoneSet_eq_zero_iff _).mpr fun z => Bool.not_eq_true _ |>.mp fun e => hno ⟨z, e⟩)
  exact ⟨z, ho, (State.requested_of_agree h.table.agree).mp hz⟩

/-- Ending another program leaves a slot as it was (R84). -/
theorem State.Rests.slot_endAndRelease (h : s.Rests K loose opening) (hp : s.progs[p].isOpen = true) (hpk : ∀ k, p ≠ progOfSlot k)
    (why : EndReason) (c : Cause) (k : Fin 2) : (s.endAndRelease p why c).slots[k] = s.slots[k] := by
  have hout (j : Fin 2) : (s.endProgram p why).slots[j] = s.slots[j] := by
    rcases s.endProgram_windowOf p why j with ⟨e, -, -⟩ | ⟨-, e⟩
    · exact absurd e (hpk j)
    · exact e
  have htab : (s.endProgram p why).Table fun z => (s.ownedBy p ||| s.bedsOf p).getLsbD z.val = true := by
    refine (h.table.endProgram ((Program.isOpen_iff _).mp hp).1 why).mono fun z _ hz => ?_
    rcases hz with hz | hz
    · exact hz.elim
    · rw [BitVec.getLsbD_or, State.getLsbD_ownedBy, hz]; simp
  generalize hr : (s.endProgram p why).releaseStep c.quiet (s.ownedBy p) (s.bedsOf p) = r
  have hb : r.beyond = (s.endProgram p why).beyond := hr ▸ State.releaseStep_beyond ..
  have hrt : r.Table noZone := hr ▸ htab.releaseStep c.quiet
  have hrs : r.slots = (s.endProgram p why).slots := (congrArg State.slots hb :)
  have hstay : r.Staying (progOfSlot k) := fun hro => by
    have hprog : (s.endProgram p why).progs[progOfSlot k] = s.progs[progOfSlot k] := s.endProgram_other (Ne.symm (hpk k)) why
    have hso : s.progs[progOfSlot k].isOpen = true := by
      rw [State.isOpen_of_beyond hb, hprog] at hro
      exact hro
    obtain ⟨z, hz⟩ := h.hasPart hso
    have hpart : r.HasPart (progOfSlot k) z := hr ▸ htab.hasPart_releaseStep k.isLt (hz.of_prog hprog)
    refine ⟨fun e => ?_, Program.some_set_of_claim ((hrt.cell z).sound _) hpart.2⟩
    have := hrt.roles.tail_live (progOfSlot k) (beq_iff_eq.mpr e)
    rw [show r.roles.kind (progOfSlot k) = .alarm from hrt.roles.alarm _ k.isLt hro] at this
    cases this
  rw [State.endAndRelease_eq, hr]
  obtain ⟨hslots, -, -⟩ := State.bench_of_lasting (State.finish_lasting s r c)
  simp only [hslots]
  refine (State.settleAll_slot_stays hstay).1.trans ?_
  rw [hrs]
  exact hout k

end HoldingOn

end Sys2Proof.Machine
end

section
namespace Sys2Proof.Machine

/-! ### The alarm sequencer's commands and events (sections 4.1 to 4.3) -/

section Windows
variable {K : CueEngine → Prop} {loose opening : Fin 2 → Prop} {s t u v : State} {k : Fin 2} {p : ProgId} {ch : ChanId}
  {from? : Option ProgId} {id : ClipId} {mayTake : Bool}

/-- The slot as a window opens in it. -/
def AlarmSlot.windowed (a : AlarmSlot) (src : VoiceSource) (silenced : Bool) (timer : Nat) : AlarmSlot :=
  { a with state := .voice, window := some ⟨src, silenced, some timer⟩ }

/-- Opening a window sets slot and generator together. -/
theorem State.openWindow_eq (hs : s.slots[k].state = .sounding ∨ s.slots[k].state = .silenced)
    (hp : s.slots[k].pattern.isSome = true) (ht : s.tone[k].cond = s.slots[k].state.toneCond) (src : VoiceSource) :
    ∃ b n g, s.openWindow k src = ((s.onTone k g).onSlot k fun a => a.windowed src b n).raiseAlarm true ∧
      (g s.tone[k]).cond = .paused := by
  refine ⟨s.slots[k].state == .silenced, framesOfMs s.windowMs, ?_⟩
  unfold State.openWindow
  rcases hs with e | e
  · refine ⟨Player.pause, ?_, ?_⟩
    · rw [e]; rfl
    · rw [e] at ht
      have hrun : s.tone[k].cond = .running := ht
      unfold Player.pause
      rw [if_pos hrun]
  · obtain ⟨pat, hpat⟩ := Option.isSome_iff_exists.mp hp
    refine ⟨fun _ => Player.parked pat s.patterns[pat], ?_, rfl⟩
    rw [e]
    simp only [State.parkTone, hpat]
    rfl

/-- A sounding or silenced slot has its pattern, its generator as its state says, and no window. -/
theorem State.Rests.windowless (h : s.Rests K noSlot noSlot) (hs : s.slots[k].state = .sounding ∨ s.slots[k].state = .silenced) :
    s.slots[k].state ≠ .idle ∧ s.slots[k].pattern.isSome = true ∧ s.tone[k].cond = s.slots[k].state.toneCond ∧
      s.slots[k].window = none := by
  have hni : s.slots[k].state ≠ .idle := by rcases hs with e | e <;> rw [e] <;> decide
  refine ⟨hni, ((State.slotLawful_iff s k).mp (h.sound.blocks.slots k)).2 hni, h.tone_cond id, ?_⟩
  have hv := (h.voice_of_window (k := k) id).not
  rw [Option.isSome_iff_ne_none, not_not] at hv
  refine hv.mpr ?_
  rcases hs with e | e <;> rw [e] <;> decide

/-- A window with an input channel as its source (R88). -/
theorem State.Rests.openInput (h : s.Rests K noSlot noSlot) (hs : s.slots[k].state = .sounding ∨ s.slots[k].state = .silenced)
    (n : Fin 8) : (s.openWindow k (.input n)).Rests K noSlot noSlot := by
  obtain ⟨hni, hpat, ht, hw⟩ := h.windowless hs
  obtain ⟨b, m, g, e, hg⟩ := State.openWindow_eq hs hpat ht (.input n)
  rw [e]
  exact (h.moveSlot hni (f := fun a => a.windowed (.input n) b m) rfl (fun e => SlotState.noConfusion e) hg rfl
    (by rw [hw]; rfl)).raiseAlarm true

/-- The users of the channels where a slot's new window takes a channel without user. -/
theorem State.Users.windowOpened (h : s.Users) (hfree : s.chans[ch].user = Option.none) (hp : u.progs = s.progs)
    (hnone : s.slots[k].window = Option.none)
    (hslot : ∀ j : Fin 2, (u.slots[j].window.bind fun w => w.source.channel) =
      if k = j then some ch else s.slots[j].window.bind fun w => w.source.channel)
    (hchan : ∀ c : ChanId, u.chans[c].user = if ch = c then some (.window k) else s.chans[c].user) : u.Users := by
  have hlt := h.none ch hfree
  refine ⟨fun p c => ?_, fun j c hw => ?_, fun c hn => ?_, fun c p hu => ?_, fun c j hu => ?_, fun c hu => ?_⟩
  · simp only [hp]
    intro ho hc
    obtain ⟨h1, h2⟩ := h.clip p c ho hc
    refine ⟨h1, (hchan c).trans ((if_neg fun e => ?_).trans h2)⟩
    rw [← e, hfree] at h2
    cases h2
  · rw [hslot] at hw
    split at hw
    · next e =>
      cases hw
      rw [hchan, if_pos rfl, e]
    · have h2 := h.window j c hw
      refine (hchan c).trans ((if_neg fun e => ?_).trans h2)
      rw [← e, hfree] at h2
      cases h2
  · rw [hchan] at hn
    split at hn
    · cases hn
    · exact h.none c hn
  · rw [hchan] at hu
    split at hu
    · cases hu
    · simp only [hp]; exact h.prog c p hu
  · rw [hchan] at hu
    split at hu
    · next e =>
      cases hu
      exact ⟨e ▸ hlt, by rw [hslot, if_pos rfl, e]⟩
    · obtain ⟨h1, h2⟩ := h.slot c j hu
      refine ⟨h1, ?_⟩
      rw [hslot, if_neg fun e : k = j => ?_]
      · exact h2
      · rw [← e, hnone] at h2
        cases h2
  · rw [hchan] at hu
    split at hu
    · cases hu
    · exact h.cue c hu

/-- A program that a pool channel is taken from is not an alarm's. -/
theorem State.Rests.slot_vacated (h : s.Rests K loose opening) (hp : s.poolRequest id mayTake = .ok (ch, from?)) (k : Fin 2) :
    (s.vacated from?).slots[k] = s.slots[k] := by
  have hu := (State.users_iff s).mp h.sound.blocks.users
  rcases State.poolRequest_ok hp with ⟨rfl, -⟩ | ⟨q, rfl, -, -, hv⟩
  · rfl
  · obtain ⟨-, hq, -⟩ := State.victim_some hv
    obtain ⟨-, hop, hk, -⟩ := hu.prog ch q hq
    refine h.slot_endAndRelease hop (fun j e => ?_) _ _ k
    subst e
    rw [(h.slot_program j hop).1] at hk
    cases hk

theorem State.onChan_chan (s : State) (ch c : ChanId) (f : Channel → Channel) :
    (s.onChan ch f).chans[c] = if ch = c then f s.chans[c] else s.chans[c] := getElem_adjust_fin ..

theorem State.startChan_binding (s : State) (ch : ChanId) (n : Option Nat) (tr : Trigger) (c : ChanId) :
    (s.startChan ch n tr).chans[c].user = s.chans[c].user ∧ (s.startChan ch n tr).chans[c].clip = s.chans[c].clip := by
  unfold State.startChan
  rw [State.onChan_chan]
  split <;> exact ⟨rfl, rfl⟩

/-- A window with a clip as its source: the channel is bound and started (R88). -/
theorem State.Rests.openClip (h : s.Rests K noSlot noSlot) (hK : CueEngine.Stable K)
    (hs : s.slots[k].state = .sounding ∨ s.slots[k].state = .silenced) (hp : s.poolRequest id mayTake = .ok (ch, from?)) (r : Nat) :
    (s.openClipWindow k id r ch from?).Rests K noSlot noSlot := by
  obtain ⟨hv, hfree, hready, -⟩ := h.vacated hK hp
  have hslot := h.slot_vacated hp k
  unfold State.openClipWindow
  rw [State.bindPool_eq]
  generalize s.vacated from? = v at *
  rw [← hslot] at hs
  obtain ⟨hni, hpat, ht, hw⟩ := hv.windowless hs
  have hb := hv.sound.blocks
  generalize hx : (v.onChan ch fun r => { r.stopped with user := some (.window k), clip := some id }).startChan ch (some r) .free = x
  have hxc (c : ChanId) : x.chans[c].user = (if ch = c then some (.window k) else v.chans[c].user) ∧
      x.chans[c].clip = if ch = c then some id else v.chans[c].clip := by
    have hstart := State.startChan_binding (v.onChan ch fun r => { r.stopped with user := some (.window k), clip := some id }) ch
      (some r) .free c
    rw [hx, State.onChan_chan] at hstart
    rw [hstart.1, hstart.2]
    split <;> exact ⟨rfl, rfl⟩
  obtain ⟨chans, rfl⟩ : ∃ chans, x = { v with chans := chans } := ⟨x.chans, hx ▸ rfl⟩
  clear hx
  obtain ⟨b, m, g, e, hg⟩ := State.openWindow_eq (s := { v with chans := chans }) hs hpat ht (.clip id r ch)
  rw [e]
  refine State.Rests.raiseAlarm ?_ true
  have hset := fun j => State.setSlot_slot { v with chans := chans } k j (fun a => a.windowed (.clip id r ch) b m) g
  have hrest : ({ (({ v with chans := chans } : State).onTone k g).onSlot k (fun a => a.windowed (.clip id r ch) b m) with
      slots := v.slots, tone := v.tone, chans := v.chans } : State) = v := rfl
  have hbench : ({ (({ v with chans := chans } : State).onTone k g).onSlot k (fun a => a.windowed (.clip id r ch) b m) with
      slots := v.slots, tone := v.tone, ring := v.ring, chans := v.chans, clips := v.clips, resetLeft := v.resetLeft
      calls := v.calls, callEnds := v.callEnds } : State) = v := rfl
  have hchans : ((({ v with chans := chans } : State).onTone k g).onSlot k fun a => a.windowed (.clip id r ch) b m).chans = chans := rfl
  have hprogs : ((({ v with chans := chans } : State).onTone k g).onSlot k fun a => a.windowed (.clip id r ch) b m).progs = v.progs := rfl
  have hdir : ((({ v with chans := chans } : State).onTone k g).onSlot k fun a => a.windowed (.clip id r ch) b m).clips = v.clips := rfl
  generalize (({ v with chans := chans } : State).onTone k g).onSlot k (fun a => a.windowed (.clip id r ch) b m) = u at *
  have hready' : u.channelsReady = true := by
    refine (State.ready_iff u).mpr fun c i hi => ?_
    rw [hdir]
    simp only [hchans] at hi
    rw [(hxc c).2] at hi
    split at hi
    · cases hi; exact hready
    · exact (State.ready_iff v).mp hb.ready c i hi
  have hslots (j : Fin 2) : (u.slots[j].window.bind fun w => w.source.channel) =
      if k = j then some ch else v.slots[j].window.bind fun w => w.source.channel := by
    split
    · next e => rw [((hset j).1 e.symm).1]; rfl
    · next e => rw [((hset j).2 (Ne.symm e)).1]
  have husers : u.Users := ((State.users_iff v).mp hb.users).windowOpened hfree hprogs hw hslots fun c => by
    simp only [hchans]; exact (hxc c).1
  have hok : v.SlotOk k False False (v.slots[k].windowed (.clip id r ch) b m) (g v.tone[k]) :=
    ⟨fun _ => hpat, fun _ => hg, fun _ => rfl, fun _ => hb.sounds k hni, fun _ e => SlotState.noConfusion e⟩
  exact hv.reblocked (congrArg State.ruled hbench) (hb.reslotted (loose' := noSlot) (opening' := noSlot) hok
    (fun _ _ e => e) (fun _ _ e => e) (congrArg State.gist hrest) ((hset k).1 rfl).1 ((hset k).1 rfl).2 (fun j => (hset j).2)
    hready' husers)

end Windows

end Sys2Proof.Machine
end

section
namespace Sys2Proof.Machine

section Alarms
variable {K : CueEngine → Prop} {loose opening : Fin 2 → Prop} {s t u v : State} {k : Fin 2} {p : ProgId} {zs : ZoneSet}

theorem State.Sound.weaken {loose' opening' : Fin 2 → Prop} (h : s.Sound K loose opening) (hl : ∀ j, loose j → loose' j)
    (ho : ∀ j, opening j → opening' j) : s.Sound K loose' opening' := by
  refine { h with blocks := { h.blocks with tones := fun j e => ?_, windows := fun j e => ?_, idles := fun j e => ?_ } }
  · exact h.blocks.tones j fun e' => e (hl j e')
  · exact h.blocks.windows j fun e' => e (hl j e')
  · exact h.blocks.idles j fun e' => e (ho j e')

theorem alarmRecord_fresh (k : Fin 2) : (alarmRecord k).Fresh (progOfSlot k) where
  state := rfl
  claim z := Program.claim_free z
  cls := iff_of_true rfl k.isLt
  alarm _ := ⟨rfl, rfl⟩
  gain := by
    show (Ramp.still unity).inRange = true
    decide
  timer := rfl

theorem State.Sound.raiseAlarm (h : s.Sound K loose opening) (named : Bool) : (s.raiseAlarm named).Sound K loose opening :=
  h.of_ruled (s.raiseAlarm_ruled named)

/-- ALARM_START on an IDLE slot (R79). -/
theorem State.Rests.alarmOpen (h : s.Rests K noSlot noSlot) (hK : CueEngine.Stable K) (hi : s.slots[k].state = .idle) (pat : PatId)
    (zs : ZoneSet) : (s.alarmOpen k pat zs).Rests K noSlot noSlot := by
  have hop := h.sound.blocks.idles k id hi
  have hrec := h.sound.weaken (opening' := fun j => j = k) (fun _ e => e) fun _ e => e.elim
  obtain ⟨hs1, ht1⟩ := State.Sound.takeRecord (g := alarmRecord k) hrec h.table hop (alarmRecord_fresh k)
    (fun j e => (progOfSlot_injective e).symm) (fun e => ProgKind.noConfusion e) rfl
  have hself := s.takeRecord_self (progOfSlot k) (alarmRecord k)
  by_cases hl : zs &&& ~~~s.excludedSet = 0#64
  · rw [State.alarmOpen, if_pos hl]
    generalize hw : s.takeRecord (progOfSlot k) (alarmRecord k) = w at *
    have hxs : w.excludedSet = s.excludedSet := hw ▸ rfl
    have hclosed : (State.claimOpened s w (progOfSlot k) zs ⟨some (progOfSlot k), false⟩).progs[progOfSlot k].isOpen = false := by
      rw [State.claimOpened_of_none (hxs ▸ hl), State.finish_progs, State.settleAll_of_nothing]
      · rfl
      all_goals rw [hself]
      · exact ⟨rfl, rfl, rfl, rfl, rfl⟩
      all_goals rfl
    refine (hs1.claimOpened hK ht1 ?_ ?_ ?_ s zs _).shut fun j e => e ▸ hclosed
    all_goals rw [hself]
    · rfl
    · exact fun e => ProgState.noConfusion e
    · exact fun z => Program.claim_free z
  · rw [State.alarmOpen, if_neg hl]
    have hws : (s.takeRecord (progOfSlot k) (alarmRecord k)).slots = s.slots := rfl
    generalize s.takeRecord (progOfSlot k) (alarmRecord k) = w at *
    have hop' : w.progs[progOfSlot k].isOpen = true := by rw [hself]; rfl
    have hnone : w.slots[k].window.isSome = false := by
      simp only [hws]
      refine Bool.not_eq_true _ |>.mp fun e => ?_
      rcases (h.voice_of_window id).mp e with e' | e' <;> rw [hi] at e' <;> cases e'
    have hstart : (w.onSlot k fun a => { a with state := .sounding, pattern := some pat }).startTone k =
        ((w.onTone k fun _ => Player.start pat w.patterns[pat]).onSlot k fun a =>
          { a with state := .sounding, pattern := some pat }) :=
      State.startTone_of_pattern ((congrArg AlarmSlot.pattern ((State.onSlot_slot ..).trans (if_pos rfl)) :))
    have hset : ((w.onTone k fun _ => Player.start pat w.patterns[pat]).onSlot k fun a =>
        { a with state := .sounding, pattern := some pat }).Sound K noSlot noSlot := by
      refine hs1.setSlot ⟨fun _ => rfl, fun _ => rfl, fun _ => ?_, fun _ => hop', fun _ e => SlotState.noConfusion e⟩ rfl
        (fun _ _ e => e) fun j hj _ e' => hj e'
      exact beq_iff_eq.mpr hnone
    have htab : ((w.onTone k fun _ => Player.start pat w.patterns[pat]).onSlot k fun a =>
        { a with state := .sounding, pattern := some pat }).Table noZone := ht1.congr rfl rfl rfl
    have hprogs : (((w.onTone k fun _ => Player.start pat w.patterns[pat]).onSlot k fun a =>
        { a with state := .sounding, pattern := some pat }).raiseAlarm true).progs[progOfSlot k] = _ := hself
    simp only [hstart]
    generalize ((w.onTone k fun _ => Player.start pat w.patterns[pat]).onSlot k fun a =>
        { a with state := .sounding, pattern := some pat }) = x at *
    refine (hset.raiseAlarm true).claimOpened hK (htab.of_ruled (x.raiseAlarm_ruled true)) ?_ ?_ ?_ s zs _
    all_goals rw [hprogs]
    · rfl
    · exact fun e => ProgState.noConfusion e
    · exact fun z => Program.claim_free z

/-- ALARM_START on a slot that is not IDLE (R80). -/
theorem State.Rests.alarmAgain (h : s.Rests K noSlot noSlot) (hK : CueEngine.Stable K) (hi : s.slots[k].state ≠ .idle)
    (pat : PatId) (zs : ZoneSet) : (s.alarmAgain k pat zs).Rests K noSlot noSlot := by
  have hop := h.sound.blocks.sounds k hi
  obtain ⟨-, hsingle, htail⟩ := h.slot_program k hop
  have hw := h.closeWindow k
  obtain ⟨hwp, -⟩ := s.closeWindow_same k
  have hgrows : (s.closeWindow k).Grows k :=
    ⟨hw.table, hw.settled, by simp only [hwp]; exact hop, by simp only [hwp]; exact hsingle, by simp only [hwp]; exact htail⟩
  obtain ⟨hslots, hpats, -⟩ := State.regrown_bench hgrows zs
  have hr : (s.regrown k zs).Rests K (fun j => noSlot j ∨ j = k) noSlot :=
    (hw.sound.of_beyond hK (State.claimEach_beyond ..) (.claimEach ..)).finish hK (hgrows.grown zs) _ _
  have hslot : (s.regrown k zs).slots[k] = { s.slots[k] with window := none } :=
    (hslots k).trans ((s.closeWindow_slot k k).trans (if_pos rfl))
  rw [State.alarmAgain_eq hsingle hpats]
  generalize s.regrown k zs = v at *
  have hopen : v.progs[progOfSlot k].isOpen = true := hr.sound.blocks.sounds k (by rw [hslot]; exact hi)
  have hset : ((v.onTone k fun _ => Player.start pat s.patterns[pat]).onSlot k fun a =>
      { a with state := .sounding, pattern := some pat }).Rests K noSlot noSlot := by
    refine hr.setSlot ⟨fun _ => rfl, fun _ => rfl, fun _ => ?_, fun _ => hopen, fun _ e => SlotState.noConfusion e⟩ rfl
      (fun j hj _ e => e.elim id hj) fun _ _ e => e
    rw [hslot]
    rfl
  simp only
  split
  · exact hset
  · exact hset.raiseAlarm true

end Alarms

section AlarmCommands
variable {s u v : State} {t : Txn} {slot : Byte}

theorem execAlarmStart_atLaw (h : s.AtLaw) {pattern : Byte} {zs : ZoneSet} (he : execAlarmStart t slot pattern zs s = .next u) :
    u.AtLaw := by
  refine portCommand_atLaw h (fun v hv => ?_) he
  simp only
  split
  · exact hv
  · split
    · split
      · exact hv
      · split
        · exact hv
        · next k pat _ _ _ _ =>
          show State.AtLaw (if v.slots[k].state = .idle then v.alarmOpen k pat zs else v.alarmAgain k pat zs)
          split
          · next hi => exact hv.alarmOpen CueEngine.lawful_stable hi pat zs
          · next hi => exact hv.alarmAgain CueEngine.lawful_stable hi pat zs
    · exact hv

theorem execAlarmSilence_atLaw (h : s.AtLaw) (he : execAlarmSilence t slot s = .next u) : u.AtLaw := by
  refine portCommand_atLaw h (fun v hv => ?_) he
  simp only
  split
  · exact hv
  · split
    · exact hv
    · split
      · exact hv
      · exact hv.silence _ true

theorem execAlarmResound_atLaw (h : s.AtLaw) (he : execAlarmResound t slot s = .next u) : u.AtLaw := by
  refine portCommand_atLaw h (fun v hv => ?_) he
  simp only
  split
  · exact hv
  · split
    · exact hv
    · next k _ =>
      split
      · next hs =>
        obtain ⟨hni, hpat, -, hw⟩ := hv.windowless (k := k) (Or.inr hs)
        obtain ⟨pat, hpat⟩ := Option.isSome_iff_exists.mp hpat
        simp only [State.startTone_of_pattern hpat]
        exact (hv.moveSlot hni (f := fun a => { a with state := .sounding }) rfl (fun e => SlotState.noConfusion e) rfl
          (beq_iff_eq.mpr (congrArg Option.isSome hw)) rfl).raiseAlarm true
      · exact hv

theorem execAlarmClear_atLaw (h : s.AtLaw) (he : execAlarmClear t slot s = .next u) : u.AtLaw := by
  refine portCommand_atLaw h (fun v hv => ?_) he
  split
  · exact hv
  · split
    · exact hv
    · next k _ =>
      split
      · exact hv
      · next hi =>
        have hidle := hv.idleSlot k true
        have hop : (v.idleSlot k true).progs[progOfSlot k].isOpen = true := by
          have hbooks : (v.idleSlot k true).progs = v.progs := (congrArg State.progs (v.idleSlot_books k true) :)
          simp only [hbooks]
          exact hv.sound.blocks.sounds k hi
        refine (hidle.endAndRelease CueEngine.lawful_stable hop .closed _).shut fun j e => ?_
        rw [e.resolve_left id]
        exact State.endAndRelease_ends _ _ _ _

theorem execAlarmVoiceOpen_atLaw (h : s.AtLaw) {source clip : Byte} {repeats : BitVec 16}
    (he : execAlarmVoiceOpen t slot source clip repeats s = .next u) : u.AtLaw := by
  refine portCommand_atLaw h (fun v hv => ?_) he
  simp only
  split
  · exact hv
  · split
    · next k req _ _ =>
      split
      · exact hv
      · next hs =>
        have hs' : v.slots[k].state = .sounding ∨ v.slots[k].state = .silenced := by
          by_contra hno
          exact hs (not_or.mp hno)
        split
        · exact hv.openInput hs' _
        · split
          · exact hv
          · next hp => exact hv.openClip CueEngine.lawful_stable hs' hp _
    · exact hv

theorem execAlarmVoiceClose_atLaw (h : s.AtLaw) (he : execAlarmVoiceClose t slot s = .next u) : u.AtLaw := by
  refine portCommand_atLaw h (fun v hv => ?_) he
  simp only
  split
  · exact hv
  · split
    · exact hv
    · split
      · exact hv
      · exact hv.returnFromVoice _ true

theorem execSetVoiceWindow_atLaw (h : s.AtLaw) {duration : BitVec 24} (he : execSetVoiceWindow t duration s = .next u) :
    u.AtLaw := by
  refine portCommand_atLaw h (fun v hv => ?_) he
  split
  · exact hv
  · split
    · exact hv.of_ruled rfl
    · exact hv

theorem execReadAlarm_atLaw (h : s.AtLaw) (he : execReadAlarm t slot s = .next u) : u.AtLaw := by
  refine portCommand_atLaw h (fun v hv => ?_) he
  simp only
  split <;> exact hv

theorem State.Rests.windowExpired {K : CueEngine → Prop} {k : Fin 2} (h : s.Rests K noSlot noSlot) (hs : s.slots[k].state = .voice) :
    (s.windowExpired k).Rests K noSlot noSlot := by
  have hw := (h.voice_of_window (k := k) id).mpr (Or.inl hs)
  refine (h.moveSlot (hs ▸ SlotState.noConfusion) (f := fun a =>
    { a with state := .voiceMixed, window := a.window.map fun w => { w with timer := none } }) rfl (fun e => SlotState.noConfusion e)
    (Player.continue_running (Or.inl ?_)) (beq_iff_eq.mpr (Option.isSome_map.trans hw)) ?_).raiseAlarm false
  · rw [h.tone_cond id, hs]; rfl
  · cases s.slots[k].window <;> rfl

theorem execVoiceWindowExpiry_atLaw (h : s.AtLaw) {k : Fin 2} (he : execVoiceWindowExpiry k s = .next u) : u.AtLaw := by
  refine partEvent_atLaw ?_ he
  split
  · next hs => exact h.windowExpired hs.1
  · exact h

end AlarmCommands

end Sys2Proof.Machine
end

section
namespace Sys2Proof.Machine

/-! ### Patterns and their players (sections 4.3 to 4.5) -/

section Players
variable {K : CueEngine → Prop} {loose opening : Fin 2 → Prop} {s t u : State} {k : Fin 2} {p : ProgId} {pl : PlayerId}

theorem remap_adjust_at {α : Type} {n : Nat} (e : α → α) (v : Vector α n) (i : Fin n) {f : α → α} (h : e (f v[i]) = e v[i]) :
    remap (adjust v i f) (fun _ a => e a) = remap v fun _ a => e a := by
  apply table_ext
  intro j
  simp only [getElem_remap, getElem_adjust_fin]
  split
  · next e => subst e; exact h
  · rfl

/-- A player moved on without a change of its condition. -/
theorem State.Rests.onTone_same (h : s.Rests K loose opening) {f : Player → Player} (hf : (f s.tone[k]).cond = s.tone[k].cond) :
    (s.onTone k f).Rests K loose opening := by
  have ht : remap (adjust s.tone k f) (fun _ pl => ({ Player.stopped with cond := pl.cond } : Player)) =
      remap s.tone fun _ pl => ({ Player.stopped with cond := pl.cond } : Player) :=
    remap_adjust_at (fun pl => ({ Player.stopped with cond := pl.cond } : Player)) s.tone k
      (congrArg (fun c => ({ Player.stopped with cond := c } : Player)) hf)
  have hr (v : Vector Player 2) : ({ s with tone := v } : State).ruled =
      { s.ruled with tone := remap v fun _ pl => ({ Player.stopped with cond := pl.cond } : Player) } := rfl
  exact h.of_ruled ((hr _).trans ((congrArg (fun v => ({ s.ruled with tone := v } : State)) ht).trans (hr s.tone).symm))

theorem State.Rests.onRing_same (h : s.Rests K loose opening) {pl : Player} (hc : pl.cond = s.ring.cond)
    (hp : pl.pattern = s.ring.pattern) : ({ s with ring := pl } : State).Rests K loose opening := by
  have hr (r : Player) : ({ s with ring := r } : State).ruled =
      { s.ruled with ring := { Player.stopped with cond := r.cond, pattern := r.pattern } } := rfl
  refine h.of_ruled ((hr pl).trans ?_)
  rw [hc, hp]
  rfl

theorem State.Rests.onVoice (h : s.Rests K loose opening) (v : Fin 4) (f : ChimeVoice → ChimeVoice) :
    (s.onVoice v f).Rests K loose opening := h.of_ruled rfl

/-- At the end of a phase a player keeps its pattern; it stops only at the END of a pattern that does not loop (R97). -/
theorem Player.phaseEnd_cond (pl : Player) (pat : Pattern) (loops : Bool) : (pl.phaseEnd pat loops).pattern = pl.pattern ∧
    ((pl.phaseEnd pat loops).cond = pl.cond ∨ (pl.phaseDue = true ∧ (pl.phaseEnd pat loops).cond = .stopped ∧
      (if loops then pat.loop else none) = none)) := by
  unfold Player.phaseEnd
  split
  · next hdue =>
    simp only
    split
    · exact ⟨rfl, Or.inl rfl⟩
    · unfold Player.repDone
      split
      · exact ⟨rfl, Or.inl rfl⟩
      · split
        · exact ⟨rfl, Or.inl rfl⟩
        · unfold Player.atEnd
          split
          · exact ⟨rfl, Or.inl rfl⟩
          · next e => exact ⟨rfl, Or.inr ⟨hdue, rfl, e⟩⟩
  · exact ⟨rfl, Or.inl rfl⟩

theorem Player.switchTone_cond (pl : Player) : pl.switchTone.cond = pl.cond ∧ pl.switchTone.pattern = pl.pattern := ⟨rfl, rfl⟩

/-- The frames of a generator do not matter once its slot is silenced. -/
theorem State.silence_onTone (hp : s.slots[k].pattern.isSome = true) (hs : s.slots[k].state = .sounding ∨ s.slots[k].state = .voiceMixed)
    (f : Player → Player) (named : Bool) : (s.onTone k f).silence k named = s.silence k named := by
  obtain ⟨pat, hpat⟩ := Option.isSome_iff_exists.mp hp
  have hcover (pl : Player) : (s.onTone k f).onTone k (fun _ => pl) = s.onTone k fun _ => pl := by
    show ({ s with tone := adjust (adjust s.tone k f) k fun _ => pl } : State) = _
    rw [adjust_adjust]
    rfl
  have hsl : (s.onTone k f).slots[k] = s.slots[k] := rfl
  unfold State.silence
  rw [hsl]
  rcases hs with e | e <;> rw [e]
  · exact congrArg (fun v : State => (v.onSlot k fun a => { a with state := .silenced }).raiseAlarm named) (hcover Player.stopped)
  · have hpark : (s.onTone k f).parkTone k = s.parkTone k := by
      unfold State.parkTone
      rw [hsl, hpat]
      exact hcover (Player.parked pat s.patterns[pat])
    exact congrArg (fun v : State => (v.onSlot k fun a => { a.silenceReturn with state := .voice }).raiseAlarm named) hpark

/-- A slot whose generator runs is SOUNDING or VOICE_MIXED (R99). -/
theorem State.Rests.running_slot (h : s.Rests K loose opening) (hl : ¬loose k) (hr : s.tone[k].cond = .running) :
    s.slots[k].pattern.isSome = true ∧ (s.slots[k].state = .sounding ∨ s.slots[k].state = .voiceMixed) := by
  have ht := h.tone_cond hl
  rw [hr] at ht
  have hs : s.slots[k].state = .sounding ∨ s.slots[k].state = .voiceMixed := by
    revert ht
    cases s.slots[k].state <;> simp [SlotState.toneCond]
  refine ⟨((State.slotLawful_iff s k).mp (h.sound.blocks.slots k)).2 ?_, hs⟩
  rcases hs with e | e <;> rw [e] <;> decide

theorem Player.running_of_due {pl : Player} (h : pl.phaseDue = true) : pl.cond = .running := by
  unfold Player.phaseDue at h
  rw [Bool.and_eq_true, beq_iff_eq] at h
  exact h.1

theorem State.reachesEnd_iff (s : State) (pl : PlayerId) : s.reachesEnd pl = true ↔ (s.player pl).phaseDue = true ∧
    ((s.player pl).phaseEnd (s.patternOf (s.player pl)) (playerLoops pl)).cond = .stopped := by
  unfold State.reachesEnd
  rw [Bool.and_eq_true, beq_iff_eq]

/-- A player that has not reached END keeps its condition. -/
theorem State.phaseEnd_goes_on (h : s.reachesEnd pl = false) :
    ((s.player pl).phaseEnd (s.patternOf (s.player pl)) (playerLoops pl)).cond = (s.player pl).cond := by
  rcases ((s.player pl).phaseEnd_cond (s.patternOf (s.player pl)) (playerLoops pl)).2 with e | ⟨hd, hs, -⟩
  · exact e
  · rw [(s.reachesEnd_iff pl).mpr ⟨hd, hs⟩] at h
    cases h

/-- What END of a generator's pattern does (R100). -/
theorem State.Rests.toneEnded (h : s.Rests K noSlot noSlot) (k : Fin 2) : (s.toneEnded k).Rests K noSlot noSlot := by
  have ht := h.tone_cond (k := k) id
  unfold State.toneEnded
  split
  · next e => exact h.onTone_same (by rw [ht, e]; rfl)
  · next e => exact h.onTone_same (by rw [ht, e]; rfl)
  all_goals exact h.silence k false

/-- The phase end of a tone generator (R97, R100). -/
theorem State.Rests.tonePhaseEnded (h : s.Rests K noSlot noSlot) (k : Fin 2) : (s.phaseEnded (.tg k)).Rests K noSlot noSlot := by
  unfold State.phaseEnded
  cases hend : s.reachesEnd (.tg k)
  · exact h.onTone_same (State.phaseEnd_goes_on (pl := .tg k) hend)
  · obtain ⟨hpat, hs⟩ := h.running_slot (k := k) id (Player.running_of_due ((s.reachesEnd_iff _).mp hend).1)
    have hmove := State.silence_onTone hpat hs (fun p => p.phaseEnd (s.patternOf p) true) false
    refine cast (congrArg (State.Rests K noSlot noSlot) (hmove.symm.trans ?_)) (h.silence k false)
    show _ = State.toneEnded (s.onTone k fun p => p.phaseEnd (s.patternOf p) true) k
    unfold State.toneEnded
    rw [show (s.onTone k fun p => p.phaseEnd (s.patternOf p) true).slots[k] = s.slots[k] from rfl]
    rcases hs with e | e <;> rw [e]

/-- The ring player never reaches END: it plays pattern 3, which loops (R93, R103). -/
theorem State.Rests.ring_goes_on (h : s.Rests K loose opening) : s.reachesEnd .rc = false := by
  refine Bool.not_eq_true _ |>.mp fun hend => ?_
  obtain ⟨hdue, hstop⟩ := (s.reachesEnd_iff .rc).mp hend
  have hc := h.sound.blocks.cadence
  unfold State.cadenceLawful at hc
  simp only [Bool.and_eq_true, Bool.or_eq_true, beq_iff_eq, List.all_eq_true, decide_eq_true_eq] at hc
  have hrun : s.ring.cond = .running := Player.running_of_due hdue
  have hpat : s.ring.pattern = 3 := hc.2.resolve_left (by rw [hrun]; decide)
  have hbuilt : s.patterns[(3 : PatId)] = builtInPattern 3 := (hc.1 3 (List.mem_finRange _)).resolve_left (by decide)
  have hloop : (s.patternOf s.ring).loop = some 1 := by
    have hof : s.patternOf s.ring = s.patterns[(3 : PatId)] := by unfold State.patternOf; simp only [hpat]
    rw [hof, hbuilt]
    rfl
  rcases (s.ring.phaseEnd_cond (s.patternOf s.ring) true).2 with e | ⟨-, -, e⟩
  · have : s.ring.cond = .stopped := e.symm.trans hstop
    rw [hrun] at this
    cases this
  · rw [if_pos rfl, hloop] at e
    cases e

/-- A program that does no more than take another open state keeps the part at rest. -/
theorem State.Rests.moves (h : s.Rests K loose opening) (hm : State.Moves p s u) (ho : s.progs[p].isOpen = true)
    (ht : s.progs[p].state ≠ .tail) (ho' : u.progs[p].isOpen = true) (ht' : u.progs[p].state ≠ .tail)
    (hset : u.progs[p].settled = true) : u.Rests K loose opening := by
  have hother (q : ProgId) (e : q ≠ p) := hm.other q e
  have htab := h.table.moves hm (Or.inr ⟨ho, ht, ho', ht'⟩)
  refine ⟨⟨h.sound.blocks.congr (hm.gist ho ho'), hm.gains h.sound.gains, hm.flags h.sound.flags, fun q => ?_, ?_⟩, htab,
    fun q => ?_, ?_⟩
  · by_cases e : q = p
    · subst e
      exact Program.clocked_of_settled hset fun hno => by rw [ho'] at hno; cases hno
    · rw [hother q e]; exact h.sound.clocks q
  · have hc : u.cue = s.cue := (congrArg State.cue hm.steady :)
    rw [hc]; exact h.sound.cue
  · by_cases e : q = p
    · subst e; exact hset
    · rw [hother q e]; exact h.settled q
  · have hz := hm.zones
    have hv : u.survey = s.survey := (congrArg State.survey hm.steady :)
    have hcl (z : Zone) : u.ownerClass z = s.ownerClass z := by
      have hcls (q : ProgId) : u.progs[q].cls = s.progs[q].cls := (congrArg Program.cls (hm.steady_prog q) :)
      unfold State.ownerClass
      simp only [hz, hcls]
    have hclear := h.clear
    unfold State.surveyClear at hclear ⊢
    simp only [hv, hcl]
    exact hclear

/-- END of a chime voice's pattern (R107). -/
theorem State.Rests.chimeEnded (h : s.Rests K loose opening) (v : Fin 4) : (s.chimeEnded v).Rests K loose opening := by
  unfold State.chimeEnded
  split
  · exact h
  · next q _ =>
    split
    · next hs =>
      have hv := h.onVoice v fun _ => ChimeVoice.released
      have hs' : (s.onVoice v fun _ => ChimeVoice.released).progs[q].state = .preamble := hs
      generalize (s.onVoice v fun _ => ChimeVoice.released) = w at *
      have hset := hv.settled q
      obtain ⟨c, hrec⟩ := w.firstActive_record q false
      have hact : (w.firstActive q false).Rests K loose opening := by
        refine hv.moves (.firstActive q w false) ?_ ?_ ?_ ?_ ?_
        · rw [Program.isOpen_iff, hs']; decide
        · rw [hs']; decide
        · rw [hrec]; rfl
        · rw [hrec]; exact fun e => ProgState.noConfusion e
        · unfold Program.settled at hset ⊢
          rw [hs'] at hset
          rw [hrec]
          exact hset
      exact hact.of_ruled rfl
    · exact h

theorem State.Rests.reportEnd (h : s.Rests K noSlot noSlot) (pl : PlayerId) : (s.reportEnd pl).Rests K noSlot noSlot := by
  cases pl with
  | tg k => exact h.toneEnded k
  | cv v => exact h.chimeEnded v
  | rc => exact h

/-- PLAYER_PHASE_END (R97). -/
theorem State.Rests.phaseEnded (h : s.Rests K noSlot noSlot) (pl : PlayerId) : (s.phaseEnded pl).Rests K noSlot noSlot := by
  cases pl with
  | tg k => exact h.tonePhaseEnded k
  | cv v =>
    have hmoved : (s.onPlayer (.cv v) fun p => p.phaseEnd (s.patternOf p) (playerLoops (.cv v))).Rests K noSlot noSlot :=
      h.onVoice v _
    unfold State.phaseEnded
    simp only
    split
    · exact hmoved.chimeEnded v
    · exact hmoved
  | rc =>
    unfold State.phaseEnded
    rw [h.ring_goes_on]
    exact h.onRing_same (State.phaseEnd_goes_on (pl := .rc) h.ring_goes_on) (Player.phaseEnd_cond ..).1

theorem State.Rests.patternEnded (h : s.Rests K noSlot noSlot) (pl : PlayerId) : (s.patternEnded pl).Rests K noSlot noSlot := by
  unfold State.patternEnded
  split
  · exact h.phaseEnded pl
  · split
    · exact h.reportEnd pl
    · exact h

/-- TWO_TONE_SWITCH (R98). -/
theorem State.Rests.switchTone (h : s.Rests K loose opening) (pl : PlayerId) :
    (s.onPlayer pl fun p => if p.switchDue (s.patternOf p) then p.switchTone else p).Rests K loose opening := by
  have hsame (p : Player) : (if p.switchDue (s.patternOf p) then p.switchTone else p).cond = p.cond ∧
      (if p.switchDue (s.patternOf p) then p.switchTone else p).pattern = p.pattern := by
    split
    · exact p.switchTone_cond
    · exact ⟨rfl, rfl⟩
  cases pl with
  | tg k => exact h.onTone_same (hsame _).1
  | cv v => exact h.onVoice v _
  | rc => exact h.onRing_same (hsame _).1 (hsame _).2

/-- A loaded pattern has Q15 levels and is none of the built-in ones (R93, R94). -/
theorem State.Rests.loadPattern (h : s.Rests K loose opening) {pat : PatId} {x : Pattern} (hp : 4 ≤ pat.val)
    (hx : x.levelsInRange = true) : ({ s with patterns := adjust s.patterns pat fun _ => x } : State).Rests K loose opening := by
  have hpat (k : PatId) : (adjust s.patterns pat fun _ => x)[k] = if pat = k then x else s.patterns[k] := getElem_adjust_fin ..
  have hcad : ({ s with patterns := adjust s.patterns pat fun _ => x } : State).cadenceLawful = true := by
    have hc := h.sound.blocks.cadence
    unfold State.cadenceLawful at hc ⊢
    simp only [Bool.and_eq_true, List.all_eq_true, Bool.or_eq_true, decide_eq_true_eq] at hc ⊢
    refine ⟨fun k hk => ?_, hc.2⟩
    by_cases e : pat = k
    · subst e; exact Or.inl hp
    · rw [show (adjust s.patterns pat fun _ => x)[k] = s.patterns[k] from (hpat k).trans (if_neg e)]
      exact hc.1 k hk
  have hlev (k : PatId) : (adjust s.patterns pat fun _ => x)[k].levelsInRange = true := by
    rw [hpat]
    split
    · exact hx
    · exact h.sound.gains.patterns k
  exact ⟨⟨{ h.sound.blocks with cadence := hcad }, { h.sound.gains with patterns := hlev }, { h.sound.flags with },
    h.sound.clocks, h.sound.cue⟩, h.table.congr rfl rfl rfl, h.settled, h.clear⟩

theorem levels_of_frame {endAction loopTarget : Byte} {steps : List RawStep} {x : Pattern}
    (h : patternOfFrame endAction loopTarget steps = some x) : x.levelsInRange = true := by
  have hread (l : List RawStep) (xs : List PatStep) (h : readAll RawStep.read l = some xs) : ∀ st ∈ xs, st.level ≤ unity := by
    induction l generalizing xs with
    | nil => cases h; exact fun _ e => nomatch e
    | cons a l ih =>
      unfold readAll at h
      split at h
      · next y ys hy hys =>
        cases h
        intro st hst
        rcases List.mem_cons.mp hst with e | e
        · subst e
          unfold RawStep.read at hy
          split at hy
          · cases hy
          · split at hy
            · cases hy
              exact Nat.min_le_right _ _
            · cases hy
        · exact ih ys hys st e
      · cases h
  unfold patternOfFrame at h
  split at h
  · cases h
  · next xs hxs =>
    have hall : (⟨xs, none⟩ : Pattern).levelsInRange = true :=
      List.all_eq_true.mpr fun st hst => decide_eq_true (hread _ _ hxs st hst)
    split at h
    · cases h
    · split at h
      · cases h; exact hall
      · split at h
        · cases h; exact hall
        · cases h

end Players

section PlayerEvents
variable {s u : State} {t : Txn}

theorem execTwoToneSwitch_atLaw (h : s.AtLaw) {pl : PlayerId} (he : execTwoToneSwitch pl s = .next u) : u.AtLaw :=
  partEvent_atLaw (h.switchTone pl) he

theorem execPlayerPhaseEnd_atLaw (h : s.AtLaw) {pl : PlayerId} (he : execPlayerPhaseEnd pl s = .next u) : u.AtLaw :=
  partEvent_atLaw (h.phaseEnded pl) he

theorem execToneGeneratorEnd_atLaw (h : s.AtLaw) {k : Fin 2} (he : execToneGeneratorEnd k s = .next u) : u.AtLaw :=
  partEvent_atLaw (h.patternEnded (.tg k)) he

theorem execChimeEnd_atLaw (h : s.AtLaw) {v : Fin 4} (he : execChimeEnd v s = .next u) : u.AtLaw :=
  partEvent_atLaw (h.patternEnded (.cv v)) he

theorem execLoadPattern_atLaw (h : s.AtLaw) {pattern endAction loopTarget : Byte} {steps : List RawStep}
    (he : execLoadPattern t pattern endAction loopTarget steps s = .next u) : u.AtLaw := by
  refine portCommand_atLaw h (fun v hv => ?_) he
  split
  · exact hv
  · next pat _ =>
    split
    · exact hv
    · next hmay =>
      split
      · exact hv
      · next x hx =>
        split
        · exact hv
        · refine hv.loadPattern ?_ (levels_of_frame hx)
          rw [Bool.not_eq_true', Bool.not_eq_false] at hmay
          unfold mayLoad inRange at hmay
          simp only [Bool.or_eq_true, Bool.and_eq_true, decide_eq_true_eq] at hmay
          omega

theorem execReadPattern_atLaw (h : s.AtLaw) {pattern : Byte} (he : execReadPattern t pattern s = .next u) : u.AtLaw := by
  refine portCommand_atLaw h (fun v hv => ?_) he
  simp only
  split <;> exact hv

end PlayerEvents

end Sys2Proof.Machine
end

section
namespace Sys2Proof.Machine

/-! ### Clip channels (sections 6.6 and 6.7) -/

section Channels
variable {K : CueEngine → Prop} {loose opening : Fin 2 → Prop} {s t u : State} {ch : ChanId} {b : RingBlock}

/-- What the laws read of the state, with what they read of the channels set apart. -/
theorem State.ruled_of_chans (hr : ({ u with chans := s.chans } : State).ruled = s.ruled)
    (hc : ∀ c : ChanId, u.chans[c].binding = s.chans[c].binding) : u.ruled = s.ruled := by
  have hch : remap u.chans (fun _ c => c.binding) = remap s.chans fun _ c => c.binding := by
    apply table_ext
    intro c
    simp only [getElem_remap]
    exact hc c
  have hu : u.ruled = { ({ u with chans := s.chans } : State).ruled with chans := remap u.chans fun _ c => c.binding } := rfl
  rw [hu, hr, hch]
  rfl

theorem State.onChan_ruled (s : State) (ch : ChanId) {f : Channel → Channel} (hf : ∀ c, (f c).binding = c.binding) :
    (s.onChan ch f).ruled = s.ruled := by
  refine State.ruled_of_chans rfl fun c => ?_
  rw [State.onChan_chan]
  split
  · exact hf _
  · rfl

theorem State.ruled_of_clips (hr : ({ u with clips := s.clips } : State).ruled = s.ruled) (hc : u.clips.gist = s.clips.gist) :
    u.ruled = s.ruled := by
  have hu : u.ruled = { ({ u with clips := s.clips } : State).ruled with clips := u.clips.gist } := rfl
  rw [hu, hr, hc]
  rfl

theorem State.stopChan_ruled (s : State) (ch : ChanId) : (s.stopChan ch).ruled = s.ruled := by
  refine State.ruled_of_clips ?_ (s.stopChan_clips ch)
  exact s.onChan_ruled ch fun _ => rfl

theorem State.lateBlock_ruled (s : State) (ch : ChanId) (n : Nat) : (s.lateBlock ch n).ruled = s.ruled := by
  have hlate : (s.onChan ch fun c => { c with
      state := .playing, pause := none, cursor := .toBegin n, underrun := min 65535 (c.underrun + 1) }).ruled = s.ruled :=
    s.onChan_ruled ch fun _ => rfl
  unfold State.lateBlock
  simp only
  split
  · unfold State.raiseUnderrun
    split <;> exact hlate
  · exact hlate

theorem State.takeBlock_ruled (s : State) (ch : ChanId) (n : Nat) : (s.takeBlock ch n).ruled = s.ruled := by
  unfold State.takeBlock
  split
  · exact s.onChan_ruled ch fun _ => rfl
  · exact s.lateBlock_ruled ch n

theorem State.nextBlock_ruled (s : State) (ch : ChanId) (n : Nat) : (s.nextBlock ch n).ruled = s.ruled := by
  unfold State.nextBlock
  split
  · exact s.onChan_ruled ch fun _ => rfl
  · exact s.takeBlock_ruled ch n

theorem State.newPass_ruled (s : State) (ch : ChanId) (n : Option Nat) : (s.newPass ch n).ruled = s.ruled :=
  (State.nextBlock_ruled _ ch _).trans (s.onChan_ruled ch fun _ => rfl)

theorem State.holdBlock_ruled (s : State) (ch : ChanId) (b : RingBlock) : (s.holdBlock ch b).ruled = s.ruled :=
  s.onChan_ruled ch fun c => by
    split <;> rfl

theorem State.beginPlaying_ruled (s : State) (ch : ChanId) : (s.beginPlaying ch).ruled = s.ruled := by
  unfold State.beginPlaying
  split <;> exact s.onChan_ruled ch fun _ => rfl

theorem State.goChan_ruled (s : State) (ch : ChanId) : (s.goChan ch).ruled = s.ruled := by
  unfold State.goChan
  simp only
  split
  · exact s.beginPlaying_ruled ch
  · split
    · exact s.onChan_ruled ch fun _ => rfl
    · rfl

theorem State.stepChan_ruled (h : s.stepChan ch = some u) : u.ruled = s.ruled := by
  unfold State.stepChan at h
  simp only at h
  split at h
  · split at h
    all_goals cases h
    · exact s.takeBlock_ruled ch _
    all_goals exact s.onChan_ruled ch fun _ => rfl
  · cases h

theorem State.gateShow_ruled (s : State) (pause : Bool) : (s.gateShow pause).ruled = s.ruled := by
  refine State.ruled_of_chans rfl fun c => ?_
  refine (congrArg Channel.binding (remap_at s.chans _ c)).trans ?_
  split
  · split
    · exact Channel.gatePause_binding _
    · exact Channel.gateContinue_binding _
  · rfl

theorem State.startChan_ruled (s : State) (ch : ChanId) (n : Option Nat) (tr : Trigger) : (s.startChan ch n tr).ruled = s.ruled :=
  s.onChan_ruled ch fun _ => rfl

/-- A channel's clip set to one that is READY or to none, its user kept. -/
theorem State.Rests.onChan (h : s.Rests K loose opening) (ch : ChanId) {f : Channel → Channel}
    (hu : ∀ c, (f c).user = c.user) (hc : ∀ id, (f s.chans[ch]).clip = some id → s.clips.dir[id].state = .ready) :
    (s.onChan ch f).Rests K loose opening := by
  have hb := h.sound.blocks
  have hchan (c : ChanId) := s.onChan_chan ch c f
  have huser (c : ChanId) : (s.onChan ch f).chans[c].user = s.chans[c].user := by
    refine (congrArg Channel.user (hchan c)).trans ?_
    split
    · exact hu _
    · rfl
  have hready : (s.onChan ch f).channelsReady = true := by
    refine (State.ready_iff _).mpr fun c id hi => ?_
    rw [hchan] at hi
    split at hi
    · next e => subst e; exact hc id hi
    · exact (State.ready_iff s).mp hb.ready c id hi
  have hus := (State.users_iff s).mp hb.users
  have hus' : (s.onChan ch f).Users := by
    refine ⟨fun p c => ?_, fun k c => ?_, fun c => ?_, fun c p => ?_, fun c k => ?_, fun c => ?_⟩
    all_goals rw [huser]
    · exact hus.clip p c
    · exact hus.window k c
    · exact hus.none c
    · exact hus.prog c p
    · exact hus.slot c k
    · exact hus.cue c
  exact h.reblocked rfl { hb with ready := hready, users := (State.users_iff _).mpr hus' }

/-- A show channel stopped (R135). -/
theorem State.Rests.stopShow (h : s.Rests K loose opening) (ch : ChanId) : (s.stopShow ch).Rests K loose opening :=
  (h.of_ruled (s.stopChan_ruled ch)).onChan ch (fun _ => rfl) fun _ e => nomatch e

/-- The last repeat of a channel is used up (R91, R113, R138, R185). -/
theorem State.Rests.channelComplete (h : s.Rests K noSlot noSlot) (hK : CueEngine.Stable K) (ch : ChanId) :
    (s.channelComplete ch).Rests K noSlot noSlot := by
  have hs := h.of_ruled (s.stopChan_ruled ch)
  unfold State.channelComplete
  simp only
  split
  · next p hu =>
    have hop := (((State.users_iff s).mp h.sound.blocks.users).prog ch p hu).2.1
    exact hs.endAndRelease hK hop .complete Cause.event
  · next k _ => exact hs.returnFromVoice k false
  · exact (h.stopShow ch).of_ruled rfl
  · exact hs

theorem State.Rests.terminalCount (h : s.Rests K noSlot noSlot) (hK : CueEngine.Stable K) (ch : ChanId) (b : RingBlock) :
    (s.terminalCount ch b).Rests K noSlot noSlot := by
  unfold State.terminalCount
  simp only
  split
  · split
    · exact h.of_ruled (s.holdBlock_ruled ch b)
    · exact h.of_ruled (s.newPass_ruled ch _)
  · split
    · exact h.of_ruled (s.newPass_ruled ch _)
    · exact (h.of_ruled (s.onChan_ruled ch (f := fun c => { c with repeats := some 0 }) fun _ => rfl)).channelComplete hK ch

theorem State.Rests.blockEnd (h : s.Rests K noSlot noSlot) (hK : CueEngine.Stable K) (ch : ChanId) :
    (s.blockEnd ch).Rests K noSlot noSlot := by
  unfold State.blockEnd
  split
  · split
    · exact h.of_ruled ((State.nextBlock_ruled _ ch _).trans (s.onChan_ruled ch fun _ => rfl))
    · exact h.terminalCount hK ch _
  · exact h
  · exact h

theorem execBlockDone_atLaw (h : s.AtLaw) (he : execBlockDone ch s = .next u) : u.AtLaw := by
  refine partEvent_atLaw ?_ he
  split
  · exact h.blockEnd CueEngine.lawful_stable ch
  · exact h

theorem execTerminalCount_atLaw (h : s.AtLaw) (he : execTerminalCount ch s = .next u) : u.AtLaw := by
  refine partEvent_atLaw ?_ he
  split
  · exact h.blockEnd CueEngine.lawful_stable ch
  · exact h

end Channels

end Sys2Proof.Machine
end

section
namespace Sys2Proof.Machine

/-! ### The directory, the load, the erase list and the start-up scan (sections 6.1 to 6.5 and 6.7) -/

section Directory
variable {c d : ClipEngine} {id : ClipId} {e : DirEntry}

/-- The laws of the clip engine but those of the scan, one by one. -/
structure ClipEngine.Tidy (c : ClipEngine) : Prop where
  apart : ∀ i j : ClipId, i ≠ j → ∀ a b, c.dir[i].range = some a → c.dir[j].range = some b → a.2 < b.1 ∨ b.2 < a.1
  within : ∀ (i : ClipId) a, c.dir[i].range = some a → 2 ≤ a.1 ∧ a.2 ≤ Config.lastBlock
  load : ∀ l, c.load = some l → c.dir[l.clip].state = .loading
  nodup : c.eraseList.Nodup
  erasing : ∀ id ∈ c.eraseList, c.dir[id].state = .erasing
  link : ∀ l, c.link = some l → ∀ id b, l.op = .erase id b → id ∈ c.eraseList

/-- The entries that the scan has yet to read are EMPTY (R144). -/
def ClipEngine.Unscanned (c : ClipEngine) : Prop :=
  ∀ sc, c.scan = some sc → ∀ id : ClipId, id.val / 128 < sc.img.val ∨ c.dir[id].state = .empty

theorem ClipEngine.mem_ranges (c : ClipEngine) (skip : Option ClipId) (a : Nat × Nat) :
    a ∈ c.ranges skip ↔ ∃ i : ClipId, skip ≠ some i ∧ c.dir[i].range = some a := by
  unfold ClipEngine.ranges
  simp only [List.mem_filterMap, List.mem_finRange, true_and]
  refine exists_congr fun i => ?_
  split
  · next h => simp [h]
  · next h => simp [h]

theorem ClipEngine.rangesApart_iff (c : ClipEngine) : c.rangesApart = true ↔
    (∀ i j : ClipId, i ≠ j → ∀ a b, c.dir[i].range = some a → c.dir[j].range = some b → a.2 < b.1 ∨ b.2 < a.1) ∧
    ∀ (i : ClipId) a, c.dir[i].range = some a → 2 ≤ a.1 ∧ a.2 ≤ Config.lastBlock := by
  unfold ClipEngine.rangesApart
  rw [Bool.and_eq_true, decide_eq_true_iff, List.all_eq_true]
  refine and_congr ?_ ?_
  · unfold ClipEngine.ranges
    rw [List.pairwise_filterMap]
    simp only [reduceCtorEq, if_false]
    constructor
    · intro h i j hne a b ha hb
      rcases Nat.lt_or_gt_of_ne fun e => hne (Fin.ext e) with hlt | hlt
      · exact List.pairwise_iff_getElem.mp h i.val j.val (by simp) (by simp) hlt a (by simpa using ha) b (by simpa using hb)
      · exact (List.pairwise_iff_getElem.mp h j.val i.val (by simp) (by simp) hlt b (by simpa using hb) a
          (by simpa using ha)).symm
    · intro h
      refine (List.nodup_finRange 256).imp_of_mem fun {i j} _ _ hne a ha b hb => ?_
      exact h i j hne a b ha hb
  · constructor
    · intro h i a ha
      have := h a ((c.mem_ranges none a).mpr ⟨i, by simp, ha⟩)
      simpa using this
    · intro h a ha
      obtain ⟨i, -, hi⟩ := (c.mem_ranges none a).mp ha
      simpa using h i a hi

theorem ClipEngine.entriesLawful_iff (c : ClipEngine) : c.entriesLawful = true ↔
    (∀ l, c.load = some l → c.dir[l.clip].state = .loading) ∧ c.eraseList.Nodup ∧
    (∀ id ∈ c.eraseList, c.dir[id].state = .erasing) ∧
    (∀ l, c.link = some l → ∀ id b, l.op = .erase id b → id ∈ c.eraseList) ∧ c.Unscanned := by
  unfold ClipEngine.entriesLawful ClipEngine.Unscanned
  simp only [Bool.and_eq_true, Option.all_eq_true, beq_iff_eq, decide_eq_true_eq, List.all_eq_true, Bool.or_eq_true,
    List.mem_finRange, true_imp_iff, and_assoc]
  refine and_congr Iff.rfl (and_congr Iff.rfl (and_congr Iff.rfl (and_congr ?_ Iff.rfl)))
  refine forall_congr' fun l => imp_congr Iff.rfl ?_
  cases l.op <;> simp

theorem ClipEngine.tidy_iff (c : ClipEngine) : c.rangesApart = true ∧ c.entriesLawful = true ↔ c.Tidy ∧ c.Unscanned := by
  rw [c.rangesApart_iff, c.entriesLawful_iff]
  exact ⟨fun ⟨⟨h1, h2⟩, h3, h4, h5, h6, h7⟩ => ⟨⟨h1, h2, h3, h4, h5, h6⟩, h7⟩,
    fun ⟨⟨h1, h2, h3, h4, h5, h6⟩, h7⟩ => ⟨⟨h1, h2⟩, h3, h4, h5, h6, h7⟩⟩

/-- One entry changed, its new range apart from the others'. -/
theorem ClipEngine.Tidy.entry (h : c.Tidy) (hd : ∀ i : ClipId, d.dir[i] = if id = i then e else c.dir[i])
    (hrange : ∀ a, e.range = some a → (2 ≤ a.1 ∧ a.2 ≤ Config.lastBlock) ∧
      ∀ j, j ≠ id → ∀ b, c.dir[j].range = some b → a.2 < b.1 ∨ b.2 < a.1)
    (hload : ∀ l, d.load = some l → d.dir[l.clip].state = .loading) (hnodup : d.eraseList.Nodup)
    (herasing : ∀ i ∈ d.eraseList, d.dir[i].state = .erasing)
    (hlink : ∀ l, d.link = some l → ∀ i b, l.op = .erase i b → i ∈ d.eraseList) : d.Tidy where
  apart i j hne a b ha hb := by
    rw [hd] at ha hb
    split at ha
    · next ei =>
      subst ei
      rw [if_neg hne] at hb
      exact (hrange a ha).2 j hne.symm b hb
    · split at hb
      · next ej =>
        subst ej
        exact ((hrange b hb).2 i hne a ha).symm
      · exact h.apart i j hne a b ha hb
  within i a ha := by
    rw [hd] at ha
    split at ha
    · exact (hrange a ha).1
    · exact h.within i a ha
  load := hload
  nodup := hnodup
  erasing := herasing
  link := hlink

/-- A range that stays or goes leaves the ranges apart. -/
theorem ClipEngine.Tidy.range_kept (h : c.Tidy) (id : ClipId) (he : e.range = none ∨ e.range = c.dir[id].range) :
    ∀ a, e.range = some a → (2 ≤ a.1 ∧ a.2 ≤ Config.lastBlock) ∧
      ∀ j, j ≠ id → ∀ b, c.dir[j].range = some b → a.2 < b.1 ∨ b.2 < a.1 := by
  intro a ha
  rcases he with he | he
  · rw [he] at ha; cases ha
  · rw [he] at ha
    exact ⟨h.within id a ha, fun j hj b hb => h.apart id j hj.symm a b ha hb⟩

theorem DirEntry.range_iff (h : e.state ≠ .empty) (a : Nat × Nat) :
    e.range = some a ↔ ∃ f l, e.first = some f ∧ e.last = some l ∧ a = (f, f + l) := by
  unfold DirEntry.range
  split
  · next h' => exact absurd h' h
  · next f l hf hl _ => simp [hf, hl, eq_comm]
  · next hno => simpa using fun f hf l hl => (hno f l hf hl).elim

theorem DirEntry.range_congr {a b : DirEntry} (hf : a.first = b.first) (hl : a.last = b.last) (ha : a.state ≠ .empty)
    (hb : b.state ≠ .empty) : a.range = b.range := by
  refine Option.ext fun x => ?_
  rw [DirEntry.range_iff ha, DirEntry.range_iff hb, hf, hl]

theorem DirEntry.range_empty (h : e.state = .empty) : e.range = none := by
  unfold DirEntry.range
  rw [h]

/-- A range that first fit finds is apart from the allocated ones (R122). -/
theorem fits_of_firstFit {rs : List (Nat × Nat)} {n b : Nat} (h : firstFit rs n = some b) : fits rs n b = true :=
  (List.mem_filter.mp (List.min?_mem h)).2

theorem fits_iff (rs : List (Nat × Nat)) (n b : Nat) : fits rs n b = true ↔
    2 ≤ b ∧ b + n ≤ 16384 ∧ ∀ r ∈ rs, r.2 < b ∨ b + n ≤ r.1 := by
  unfold fits
  simp [and_assoc]

end Directory

end Sys2Proof.Machine
end

section
namespace Sys2Proof.Machine

section Store
variable {K : CueEngine → Prop} {loose opening : Fin 2 → Prop} {s t u : State} {c d : ClipEngine} {id : ClipId} {e : DirEntry}
  {f : ClipEngine → ClipEngine}

theorem State.Rests.tidy (h : s.Rests K loose opening) : s.clips.Tidy ∧ s.clips.Unscanned :=
  s.clips.tidy_iff.mp ⟨h.sound.blocks.ranges, h.sound.blocks.entries⟩

/-- A change of the clip engine outside the reset interval. -/
theorem State.Rests.onTidy (h : s.Rests K loose opening) (hr : s.resetLeft = none) (ht : (f s.clips).Tidy)
    (hu : (f s.clips).Unscanned) (hc : ∀ (ch : ChanId) id, s.chans[ch].clip = some id → (f s.clips).dir[id].state = .ready) :
    (s.onClips f).Rests K loose opening := by
  obtain ⟨h1, h2⟩ := (f s.clips).tidy_iff.mpr ⟨ht, hu⟩
  refine h.onClips h1 h2 ((State.ready_iff _).mpr hc) ?_
  unfold State.resetLawful
  rw [show (s.onClips f).resetLeft = none from hr]
  rfl

theorem State.Rests.ready_of_bound (h : s.Rests K loose opening) {ch : ChanId} (hc : s.chans[ch].clip = some id) :
    s.clips.dir[id].state = .ready := (State.ready_iff s).mp h.sound.blocks.ready ch id hc

/-- The change of one entry that no channel is bound to, and that the scan has read. -/
theorem State.Rests.onOneEntry (h : s.Rests K loose opening) (hr : s.resetLeft = none) (ht : (f s.clips).Tidy)
    (hd : ∀ i : ClipId, (f s.clips).dir[i] = if id = i then e else s.clips.dir[i])
    (hscan : (f s.clips).scan = s.clips.scan) (hread : s.clips.scan = none ∨ s.clips.dir[id].state ≠ .empty)
    (hfree : ∀ ch : ChanId, s.chans[ch].clip ≠ some id) : (s.onClips f).Rests K loose opening := by
  refine h.onTidy hr ht (fun sc hsc i => ?_) fun ch i hi => ?_
  · rw [hscan] at hsc
    rw [hd]
    split
    · next e => subst e; exact Or.inl ((h.tidy.2 sc hsc id).resolve_right (hread.resolve_left (by rw [hsc]; exact fun e => nomatch e)))
    · exact h.tidy.2 sc hsc i
  · rw [hd, if_neg fun e : id = i => hfree ch (e ▸ hi)]
    exact h.ready_of_bound hi

theorem State.Rests.raise (h : s.Rests K loose opening) (k : NoticeKind) (p : Port) : (s.raise k p).Rests K loose opening :=
  h.of_ruled rfl

theorem State.Rests.unbound_of_state (h : s.Rests K loose opening) (hs : s.clips.dir[id].state ≠ .ready) (ch : ChanId) :
    s.chans[ch].clip ≠ some id := fun e => hs (h.ready_of_bound e)

theorem ClipEngine.onEntry_dir (c : ClipEngine) (id i : ClipId) (f : DirEntry → DirEntry) :
    (c.onEntry id f).dir[i] = if id = i then f c.dir[i] else c.dir[i] := getElem_adjust_fin ..

theorem ClipEngine.onEntry_at (c : ClipEngine) (id i : ClipId) (f : DirEntry → DirEntry) :
    (c.onEntry id f).dir[i] = if id = i then f c.dir[id] else c.dir[i] := by
  rw [c.onEntry_dir]
  split
  · next e => rw [e]
  · rfl

/-- What a change of one entry leaves of the laws, where load, erase list and link do not change for the worse. -/
theorem ClipEngine.Tidy.onEntry (h : c.Tidy) (hd : ∀ i : ClipId, d.dir[i] = if id = i then e else c.dir[i])
    (hrange : ∀ a, e.range = some a → (2 ≤ a.1 ∧ a.2 ≤ Config.lastBlock) ∧
      ∀ j, j ≠ id → ∀ b, c.dir[j].range = some b → a.2 < b.1 ∨ b.2 < a.1)
    (hload : ∀ l, d.load = some l → (l.clip = id → e.state = .loading) ∧ (l.clip ≠ id → ∃ l', c.load = some l' ∧ l'.clip = l.clip))
    (hnodup : d.eraseList.Nodup) (hlist : ∀ i ∈ d.eraseList, (i = id → e.state = .erasing) ∧ (i ≠ id → i ∈ c.eraseList))
    (hlink : ∀ l, d.link = some l → ∀ i b, l.op = .erase i b → i ∈ d.eraseList) : d.Tidy := by
  refine h.entry hd hrange (fun l hl => ?_) hnodup (fun i hi => ?_) hlink
  · rw [hd]
    split
    · next ei => exact (hload l hl).1 ei.symm
    · next ei =>
      obtain ⟨l', hl', he⟩ := (hload l hl).2 (Ne.symm ei)
      rw [← he]
      exact h.load l' hl'
  · rw [hd]
    split
    · next ei => exact (hlist i hi).1 ei.symm
    · next ei => exact h.erasing i ((hlist i hi).2 (Ne.symm ei))

/-- The link freed. -/
theorem State.Rests.freeLink (h : s.Rests K loose opening) : s.freeLink.Rests K loose opening := by
  have ht := h.tidy.1
  obtain ⟨h1, h2⟩ := (ClipEngine.tidy_iff { s.clips with link := none }).mpr
    ⟨⟨ht.apart, ht.within, ht.load, ht.nodup, ht.erasing, fun _ e => nomatch e⟩, h.tidy.2⟩
  exact h.onClips h1 h2 h.sound.blocks.ready h.sound.blocks.reset

/-- The load context changed for the same clip. -/
theorem State.Rests.onLoad (h : s.Rests K loose opening) {g : Load → Load} (hg : ∀ l, (g l).clip = l.clip) :
    (s.onClips fun c => { c with load := c.load.map g }).Rests K loose opening := by
  have ht := h.tidy.1
  obtain ⟨h1, h2⟩ := (ClipEngine.tidy_iff { s.clips with load := s.clips.load.map g }).mpr
    ⟨⟨ht.apart, ht.within, fun l hl => by
      obtain ⟨l', hl', rfl⟩ := Option.map_eq_some_iff.mp hl
      simp only [hg]
      exact ht.load l' hl', ht.nodup, ht.erasing, ht.link⟩, h.tidy.2⟩
  exact h.onClips h1 h2 h.sound.blocks.ready h.sound.blocks.reset

theorem State.Rests.soil (h : s.Rests K loose opening) (img : Fin 2) : (s.onClips fun c => c.soil img).Rests K loose opening :=
  h.of_ruled rfl

/-- LOAD_BEGIN accepted (R124). -/
theorem State.Rests.beginLoad (h : s.Rests K loose opening) (hr : s.resetLeft = none) (hscan : s.clips.scan = none)
    (hs : s.clips.dir[id].state = .empty ∨ s.clips.dir[id].state = .damaged) {n first : Nat} (hn : 1 ≤ n)
    (hfit : firstFit (s.clips.ranges (some id)) n = some first) (loop : Option Nat) (check : Nat) (marks : List Nat) :
    (s.beginLoad id n loop check marks first).Rests K loose opening := by
  obtain ⟨h2, hlast, hout⟩ := (fits_iff _ _ _).mp (fits_of_firstFit hfit)
  have ht := h.tidy.1
  have hne : s.clips.dir[id].state ≠ .erasing ∧ s.clips.dir[id].state ≠ .ready := by
    rcases hs with e | e <;> rw [e] <;> decide
  have hd (i : ClipId) := s.clips.onEntry_at id i fun _ =>
    { state := .loading, first := some first, last := some (n - 1), loop := loop, marks := marks, check := some check, erasePos := none }
  refine h.onOneEntry hr (ht.onEntry hd (fun a ha => ?_) (fun l hl => ?_) ht.nodup (fun i hi => ⟨fun e => ?_, fun _ => hi⟩) ht.link) hd rfl
    (Or.inl hscan) (h.unbound_of_state hne.2)
  · obtain ⟨f, l, hf, hl, rfl⟩ := (DirEntry.range_iff (fun e => ClipState.noConfusion e) a).mp ha
    cases hf
    cases hl
    refine ⟨⟨h2, ?_⟩, fun j hj b hb => ?_⟩
    · show first + (n - 1) ≤ 16383
      omega
    · have := hout b ((s.clips.mem_ranges (some id) b).mpr ⟨j, fun e => hj (Option.some.inj e).symm, hb⟩)
      show first + (n - 1) < b.1 ∨ b.2 < first
      omega
  · cases hl
    exact ⟨fun _ => rfl, fun e => (e rfl).elim⟩
  · subst e
    exact absurd (ht.erasing i hi) hne.1

/-- A load that is complete (R127). -/
theorem State.Rests.completeLoad (h : s.Rests K loose opening) (hr : s.resetLeft = none) : s.completeLoad.Rests K loose opening := by
  have ht := h.tidy.1
  unfold State.completeLoad
  split
  · exact h
  · next l hl =>
    have hst := ht.load l hl
    split
    · have hd (i : ClipId) := s.clips.onEntry_at l.clip i fun e =>
        { e with state := if e.check = some l.crc.toNat ∧ l.failed = false then .ready else .damaged }
      refine State.Rests.raise (h.onOneEntry hr (ht.onEntry hd (ht.range_kept _ (Or.inr ?_)) ?_ ht.nodup
        (fun i hi => ⟨fun e => ?_, fun _ => hi⟩) ht.link) hd rfl (Or.inr (by rw [hst]; decide))
        (h.unbound_of_state (by rw [hst]; decide))) _ _
      · refine DirEntry.range_congr rfl rfl ?_ (by rw [hst]; decide)
        simp only
        split <;> decide
      · exact fun _ e => nomatch e
      · subst e
        exact absurd (ht.erasing _ hi) (by rw [hst]; decide)
    · exact h

/-- LOAD_ABANDON (R128). -/
theorem State.Rests.abandonLoad (h : s.Rests K loose opening) (hr : s.resetLeft = none) {l : Load} (hl : s.clips.load = some l) :
    (s.onClips fun c => { (c.onEntry l.clip fun e => { e with state := .damaged }).onOp StoreOp.dropProgram with
      load := none }).Rests K loose opening := by
  have ht := h.tidy.1
  have hst := ht.load l hl
  have hd (i : ClipId) := s.clips.onEntry_at l.clip i fun e => { e with state := .damaged }
  refine h.onOneEntry hr (ht.onEntry hd (ht.range_kept _ (Or.inr ?_)) ?_ ht.nodup
    (fun i hi => ⟨fun e => ?_, fun _ => hi⟩) (fun k hk i b hop => ?_)) hd rfl (Or.inr (by rw [hst]; decide))
    (h.unbound_of_state (by rw [hst]; decide))
  · exact DirEntry.range_congr rfl rfl (fun e => ClipState.noConfusion e) (by rw [hst]; decide)
  · exact fun _ e => nomatch e
  · subst e
    exact absurd (ht.erasing _ hi) (by rw [hst]; decide)
  · obtain ⟨k', hk', rfl⟩ := Option.map_eq_some_iff.mp hk
    refine ht.link k' hk' i b ?_
    revert hop
    show StoreOp.dropProgram k'.op = _ → _
    cases k'.op <;> exact fun e => by cases e <;> rfl

/-- ERASE_CLIP accepted (R129). -/
theorem State.Rests.beginErase (h : s.Rests K loose opening) (hr : s.resetLeft = none) (he : s.clips.dir[id].state ≠ .empty)
    (hl : s.clips.dir[id].state ≠ .loading) (hx : s.clips.dir[id].state ≠ .erasing) (hfree : ∀ ch : ChanId, s.chans[ch].clip ≠ some id) :
    (s.onClips fun c => { c.onEntry id (fun e => { e with state := .erasing, erasePos := some 0 }) with
      eraseList := c.eraseList ++ [id] }).Rests K loose opening := by
  have ht := h.tidy.1
  have hnot : id ∉ s.clips.eraseList := fun hm => hx (ht.erasing id hm)
  have hd (i : ClipId) := s.clips.onEntry_at id i fun e => { e with state := .erasing, erasePos := some 0 }
  refine h.onOneEntry hr (ht.onEntry hd (ht.range_kept _ (Or.inr ?_)) (fun l e => ⟨fun e' => ?_, fun _ => ⟨l, e, rfl⟩⟩) ?_
    (fun i hi => ⟨fun _ => rfl, fun e => ?_⟩) (fun k hk i b hop => ?_)) hd rfl (Or.inr he) hfree
  · exact DirEntry.range_congr rfl rfl (fun e => ClipState.noConfusion e) he
  · exact absurd (e' ▸ ht.load l e) hl
  · exact List.nodup_append.mpr ⟨ht.nodup, List.nodup_singleton _, fun a ha b hb e => hnot (by
      rw [List.mem_singleton] at hb
      rw [← hb, ← e]
      exact ha)⟩
  · rcases List.mem_append.mp hi with hi | hi
    · exact hi
    · exact absurd (List.mem_singleton.mp hi) e
  · exact List.mem_append_left _ (ht.link k hk i b hop)

/-- A clip that leaves the erase list, EMPTY or DAMAGED (R130). -/
theorem State.Rests.leaveEraseList (h : s.Rests K loose opening) (hr : s.resetLeft = none) (hid : id ∈ s.clips.eraseList)
    (hfree : s.clips.link = none) {g : DirEntry → DirEntry}
    (hg : (g s.clips.dir[id]).range = none ∨ (g s.clips.dir[id]).range = s.clips.dir[id].range) :
    (s.leaveEraseList id g).Rests K loose opening := by
  have ht := h.tidy.1
  have hst := ht.erasing id hid
  have hd (i : ClipId) := s.clips.onEntry_at id i g
  refine State.Rests.raise (h.onOneEntry hr (ht.onEntry hd (ht.range_kept _ hg) (fun l e => ⟨fun e' => ?_, fun _ => ⟨l, e, rfl⟩⟩)
    (ht.nodup.erase id) (fun i hi => ⟨fun e => ?_, fun _ => List.mem_of_mem_erase hi⟩) (fun k hk => ?_)) hd rfl
    (Or.inr (by rw [hst]; decide)) (h.unbound_of_state (by rw [hst]; decide))) _ _
  · have hload := ht.load l e
    subst e'
    exact absurd (hst.symm.trans hload) (by decide)
  · subst e
    exact absurd hi (ht.nodup.not_mem_erase)
  · rw [show s.clips.link = some k from hk] at hfree
    cases hfree

/-- The completion of an erase step (R130). -/
theorem State.Rests.eraseDone (h : s.Rests K loose opening) (hr : s.resetLeft = none) (hid : id ∈ s.clips.eraseList)
    (hfree : s.clips.link = none) (ok : Bool) : (s.eraseDone id ok).Rests K loose opening := by
  have ht := h.tidy.1
  have hst := ht.erasing id hid
  have hmark (b : Bool) : (s.onClips fun c => { c with eraseFailed := b }).Rests K loose opening := h.of_ruled rfl
  unfold State.eraseDone
  simp only
  split
  · split
    · exact h.leaveEraseList hr hid hfree (Or.inl (DirEntry.range_empty rfl))
    · have hd (i : ClipId) := s.clips.onEntry_at id i fun e => { e with erasePos := some (s.clips.dir[id].erasePos.getD 0 + 1) }
      refine h.onOneEntry hr (ht.onEntry hd (ht.range_kept _ (Or.inr ?_)) (fun l e => ⟨fun e' => ?_, fun _ => ⟨l, e, rfl⟩⟩) ht.nodup
        (fun i hi => ⟨fun _ => hst, fun _ => hi⟩) ht.link) hd rfl (Or.inr (by rw [hst]; decide))
        (h.unbound_of_state (by rw [hst]; decide))
      · exact DirEntry.range_congr rfl rfl (by rw [hst]; decide) (by rw [hst]; decide)
      · have hload := ht.load l e
        subst e'
        exact absurd (hst.symm.trans hload) (by decide)
  · split
    · refine h.leaveEraseList hr hid hfree (Or.inr ?_)
      exact DirEntry.range_congr rfl rfl (fun e => ClipState.noConfusion e) (by rw [hst]; decide)
    · exact hmark true

end Store

end Sys2Proof.Machine
end

section
namespace Sys2Proof.Machine

section Scanning
variable {K : CueEngine → Prop} {loose opening : Fin 2 → Prop} {s t u : State} {c d : ClipEngine} {id : ClipId} {e : DirEntry}
  {f : ClipEngine → ClipEngine}

/-- What the scan makes of a stored record: an EMPTY, READY, ERASING or DAMAGED entry whose range is apart from those accepted
before (R144). -/
theorem scanEntry_some {rs : List (Nat × Nat)} {data : List Byte} {at0 : Nat} {b : Bool} (h : scanEntry rs data at0 = some (e, b)) :
    e.state ≠ .loading ∧ ∀ a, e.range = some a → (2 ≤ a.1 ∧ a.2 ≤ Config.lastBlock) ∧ ∀ r ∈ rs, a.2 < r.1 ∨ r.2 < a.1 := by
  unfold scanEntry at h
  split at h
  · cases h
  · cases h
    exact ⟨fun e => ClipState.noConfusion e, fun _ e => nomatch e⟩
  · next st hne _ =>
    simp only at h
    split at h
    · cases h
    · next hok =>
      cases h
      simp only [Bool.or_eq_true, decide_eq_true_eq, Bool.not_eq_true', List.any_eq_true, Bool.and_eq_true, not_or, not_exists,
        not_and] at hok
      obtain ⟨⟨⟨⟨⟨h2, hlast⟩, -⟩, -⟩, -⟩, hapart⟩ := hok
      refine ⟨?_, fun a ha => ?_⟩
      · simp only
        split
        · decide
        · next e => exact e
      · obtain ⟨f, l, hf, hl, rfl⟩ := (DirEntry.range_iff (by
          simp only
          split
          · decide
          · exact hne) a).mp ha
        cases hf
        cases hl
        refine ⟨⟨by omega, by omega⟩, fun r hr => ?_⟩
        have := hapart r hr
        show _ < r.1 ∨ r.2 < _
        omega

/-- One record of an image block taken into an EMPTY entry. -/
theorem ClipEngine.Tidy.scanRecord (h : c.Tidy) (hfree : c.link = none) (he : c.dir[id].state = .empty) (img : Fin 2)
    (data : List Byte) : (c.scanRecord img data id).Tidy ∧ (c.scanRecord img data id).link = none ∧
      (c.scanRecord img data id).scan = c.scan ∧ ∀ i : ClipId, i ≠ id → (c.scanRecord img data id).dir[i] = c.dir[i] := by
  have hl (l : Load) (hl : c.load = some l) : l.clip ≠ id := fun e' => by
    have := h.load l hl
    subst e'
    rw [he] at this
    cases this
  have hx : id ∉ c.eraseList := fun hm => by
    have := h.erasing id hm
    rw [he] at this
    cases this
  have hdir (e : DirEntry) (i : ClipId) : (adjust c.dir id fun _ => e)[i] = if id = i then e else c.dir[i] := getElem_adjust_fin ..
  have hother (e : DirEntry) (i : ClipId) (hi : i ≠ id) : (adjust c.dir id fun _ => e)[i] = c.dir[i] :=
    (hdir e i).trans (if_neg hi.symm)
  unfold ClipEngine.scanRecord
  split
  · refine ⟨h.onEntry (hdir DirEntry.empty) (fun a ha => nomatch ha) (fun l e => ⟨fun e' => absurd e' (hl l e), fun _ => ⟨l, e, rfl⟩⟩)
      h.nodup (fun i hi => ⟨fun e => absurd (e ▸ hi) hx, fun _ => hi⟩) h.link, hfree, rfl, hother _⟩
  · next e lost hscan =>
    obtain ⟨hload, hrange⟩ := scanEntry_some hscan
    have hkeep : (if lost then c.soil img else c).link = c.link ∧ (if lost then c.soil img else c).load = c.load ∧
        (if lost then c.soil img else c).scan = c.scan := by
      split <;> exact ⟨rfl, rfl, rfl⟩
    obtain ⟨hlink, hloads, hscans⟩ := hkeep
    refine ⟨h.onEntry (hdir e) (fun a ha => ⟨(hrange a ha).1, fun j hj b hb => (hrange a ha).2 b ((c.mem_ranges _ b).mpr
      ⟨j, fun e => hj (Option.some.inj e).symm, hb⟩)⟩) (fun l e => ?_) ?_ (fun i hi => ⟨fun e => ?_, fun e => ?_⟩) fun k hk => ?_,
      hlink.trans hfree, hscans, hother e⟩
    · have e' : c.load = some l := hloads.symm.trans e
      exact ⟨fun e2 => absurd e2 (hl l e'), fun _ => ⟨l, e', rfl⟩⟩
    · simp only
      split
      · exact List.nodup_append.mpr ⟨h.nodup, List.nodup_singleton _, fun a ha b hb e => hx (by
          rw [List.mem_singleton] at hb
          rw [← hb, ← e]
          exact ha)⟩
      · exact h.nodup
    · subst e
      simp only at hi
      split at hi
      · next hs => exact hs
      · exact absurd hi hx
    · simp only at hi
      split at hi
      · rcases List.mem_append.mp hi with hi | hi
        · exact hi
        · exact absurd (List.mem_singleton.mp hi) e
      · exact hi
    · have : c.link = some k := hlink.symm.trans hk
      rw [hfree] at this
      cases this

theorem ClipEngine.Tidy.scanRecords (h : c.Tidy) (hfree : c.link = none) (l : List ClipId) (hl : l.Nodup)
    (he : ∀ id ∈ l, c.dir[id].state = .empty) (img : Fin 2) (data : List Byte) :
    (l.foldl (fun c id => c.scanRecord img data id) c).Tidy ∧ (l.foldl (fun c id => c.scanRecord img data id) c).scan = c.scan ∧
      ∀ i : ClipId, i ∉ l → (l.foldl (fun c id => c.scanRecord img data id) c).dir[i] = c.dir[i] := by
  induction l generalizing c with
  | nil => exact ⟨h, rfl, fun _ _ => rfl⟩
  | cons id l ih =>
    obtain ⟨hid, hl⟩ := List.nodup_cons.mp hl
    obtain ⟨h1, h2, h3, h4⟩ := h.scanRecord (id := id) hfree (he id List.mem_cons_self) img data
    obtain ⟨k1, k2, k3⟩ := ih h1 h2 hl fun i hi => by
      rw [h4 i fun e => hid (e ▸ hi)]
      exact he i (List.mem_cons_of_mem _ hi)
    refine ⟨k1, k2.trans h3, fun i hi => (k3 i fun hm => hi (List.mem_cons_of_mem _ hm)).trans (h4 i fun e => hi ?_)⟩
    rw [e]
    exact List.mem_cons_self

theorem mem_imageIds (img : Fin 2) (id : ClipId) : id ∈ imageIds img ↔ id.val / 128 = img.val := by
  unfold imageIds
  simp

/-- An image block taken into the directory: its entries were EMPTY. -/
theorem ClipEngine.Tidy.scanImage (h : c.Tidy) (hfree : c.link = none) (img : Fin 2)
    (he : ∀ id : ClipId, id.val / 128 = img.val → c.dir[id].state = .empty) (data : List Byte) :
    (c.scanImage img data).Tidy ∧ (c.scanImage img data).scan = c.scan ∧
      ∀ i : ClipId, i.val / 128 ≠ img.val → (c.scanImage img data).dir[i] = c.dir[i] := by
  obtain ⟨h1, h2, h3⟩ := h.scanRecords hfree (imageIds img) ((List.nodup_finRange 256).filter _)
    (fun id hid => he id ((mem_imageIds img id).mp hid)) img data
  exact ⟨h1, h2, fun i hi => h3 i fun hm => hi ((mem_imageIds img i).mp hm)⟩

/-- A directory that differs only in EMPTY entries made EMPTY. -/
theorem ClipEngine.Tidy.loseImage (h : c.Tidy) (img : Fin 2)
    (he : ∀ id : ClipId, id.val / 128 = img.val → c.dir[id].state = .empty) :
    (c.loseImage img).Tidy ∧ (c.loseImage img).scan = c.scan ∧
      ∀ i : ClipId, i.val / 128 ≠ img.val → (c.loseImage img).dir[i] = c.dir[i] := by
  have hd (i : ClipId) : (c.loseImage img).dir[i] = if i.val / 128 = img.val then DirEntry.empty else c.dir[i] := remap_at ..
  have hrange (i : ClipId) : (c.loseImage img).dir[i].range = c.dir[i].range := by
    rw [hd]
    split
    · next e => rw [DirEntry.range_empty (he i e)]; rfl
    · rfl
  have hstate (i : ClipId) : (c.loseImage img).dir[i].state = c.dir[i].state := by
    rw [hd]
    split
    · next e => rw [he i e]; rfl
    · rfl
  refine ⟨⟨fun i j hne a b => ?_, fun i a => ?_, fun l hl => ?_, h.nodup, fun i hi => ?_, h.link⟩, rfl, fun i hi => (hd i).trans (if_neg hi)⟩
  · rw [hrange, hrange]; exact h.apart i j hne a b
  · rw [hrange]; exact h.within i a
  · rw [hstate]; exact h.load l hl
  · rw [hstate]; exact h.erasing i hi

/-- The scan goes on from an image block, whose entries alone have changed (R144). -/
theorem State.Rests.scanOn (h : s.Rests K loose opening) (hr : s.resetLeft = none) {sc : Scan} (hsc : s.clips.scan = some sc)
    (lost : Bool) (ht : (f s.clips).Tidy)
    (hd : ∀ i : ClipId, i.val / 128 ≠ sc.img.val → (f s.clips).dir[i] = s.clips.dir[i]) :
    ((s.onClips f).scanOn { sc with lost := lost }).Rests K loose opening := by
  have hun := h.tidy.2 sc hsc
  have hready (ch : ChanId) (i : ClipId) (hi : s.chans[ch].clip = some i) : (f s.clips).dir[i].state = .ready := by
    have hs := h.ready_of_bound hi
    rw [hd i fun e => ?_]
    · exact hs
    · rcases hun i with e' | e'
      · omega
      · rw [hs] at e'; cases e'
  unfold State.scanOn
  split
  · next h0 =>
    have h0 : sc.img = 0 := h0
    refine h.onTidy (f := fun c => { f c with scan := some ⟨1, 0, lost⟩ }) hr ⟨ht.apart, ht.within, ht.load, ht.nodup, ht.erasing, ht.link⟩
      (fun sc' hsc' i => ?_) hready
    cases hsc'
    by_cases hi : i.val / 128 = 0
    · exact Or.inl (by show i.val / 128 < 1; omega)
    · refine Or.inr ?_
      show (f s.clips).dir[i].state = .empty
      rw [hd i (by rw [h0]; exact hi)]
      exact (hun i).resolve_left (by rw [h0]; exact Nat.not_lt_zero _)
  · refine State.Rests.raise (h.onTidy (f := fun c => { f c with scan := none, scanOutcome := some (if lost then .doneWithLoss else .done) })
      hr ⟨ht.apart, ht.within, ht.load, ht.nodup, ht.erasing, ht.link⟩ (fun sc' hsc' => nomatch hsc') hready) _ _

/-- A scan read that has completed (R144). -/
theorem State.Rests.scanReadDone (h : s.Rests K loose opening) (hr : s.resetLeft = none) (hfree : s.clips.link = none)
    (data : Option (List Byte)) : (s.scanReadDone data).Rests K loose opening := by
  have ht := h.tidy.1
  unfold State.scanReadDone
  split
  · exact h
  · next sc hsc =>
    have hempty (id : ClipId) (hi : id.val / 128 = sc.img.val) : s.clips.dir[id].state = .empty :=
      (h.tidy.2 sc hsc id).resolve_left (by omega)
    split
    · next bytes _ =>
      obtain ⟨h1, -, h3⟩ := ht.scanImage hfree sc.img hempty bytes
      exact h.scanOn (f := fun c => c.scanImage sc.img bytes) hr hsc sc.lost h1 h3
    · split
      · refine h.onTidy hr ⟨ht.apart, ht.within, ht.load, ht.nodup, ht.erasing, ht.link⟩ (fun sc' hsc' i => ?_)
          fun ch i hi => h.ready_of_bound hi
        cases hsc'
        exact h.tidy.2 sc hsc i
      · obtain ⟨h1, -, h3⟩ := ht.loseImage sc.img hempty
        exact h.scanOn (f := fun c => c.loseImage sc.img) hr hsc true h1 h3

end Scanning

end Sys2Proof.Machine
end

section
namespace Sys2Proof.Machine

/-! ### The clip engine's commands and the store's reports keep the laws (sections 6.2 to 6.7) -/

section StoreEvents
variable {K : CueEngine → Prop} {loose opening : Fin 2 → Prop} {s t u v : State} {tx : Txn} {id : ClipId}

theorem execLoadBegin_atLaw (h : s.AtLaw) {clip : Byte} {length loop check : BitVec 16} {marks : List (BitVec 16)}
    (he : execLoadBegin tx clip length loop check marks s = .next u) : u.AtLaw := by
  refine portCommand_listening h (fun v hv hr => ?_) he
  split
  · exact hv
  · split
    · exact hv
    · split
      · exact hv
      · next hscan =>
        split
        · exact hv
        · next id _ =>
          simp only
          split
          · exact hv
          · next hok =>
            split
            · exact hv
            · next hst =>
              split
              · exact hv
              · next b hfit =>
                simp only [Bool.or_eq_true, Bool.not_eq_true', not_or, Bool.not_eq_false, inRange, Bool.and_eq_true,
                  decide_eq_true_eq, beq_iff_eq] at hok hst
                refine hv.beginLoad hr (Option.not_isSome_iff_eq_none.mp hscan) ?_ hok.1.1.1 hfit _ _ _
                obtain ⟨⟨⟨-, h1⟩, h2⟩, h3⟩ := hst
                revert h1 h2 h3
                cases v.clips.dir[id].state <;> simp

/-- The load context replaced by one for the same clip. -/
theorem State.Rests.setLoad (h : s.Rests K loose opening) {l g : Load} (hl : s.clips.load = some l) (hg : g.clip = l.clip) :
    (s.onClips fun c => { c with load := some g }).Rests K loose opening := by
  have hset := h.onLoad (g := fun l => { g with clip := l.clip }) fun _ => rfl
  have he : (s.onClips fun c => { c with load := c.load.map fun l => { g with clip := l.clip } }) =
      s.onClips fun c => { c with load := some g } := by
    unfold State.onClips
    simp only [hl, Option.map_some, ← hg]
  rw [he] at hset
  exact hset

theorem Load.place_clip (l : Load) (data : List Byte) : (l.place data).clip = l.clip := by
  have hbuf (l : Load) (buf : BufId) (f : LoadBuf → LoadBuf) : (l.onBuf buf f).clip = l.clip := by cases buf <;> rfl
  unfold Load.place
  simp only
  split
  · exact (hbuf _ _ _).trans (hbuf _ _ _)
  · exact hbuf _ _ _

theorem execLoadData_atLaw (h : s.AtLaw) {offset : BitVec 32} {data : List Byte} (he : execLoadData tx offset data s = .next u) :
    u.AtLaw := by
  refine portCommand_atLaw h (fun v hv => ?_) he
  split
  · exact hv
  · split
    · exact hv
    · next l hl =>
      split
      · exact hv
      · split
        · exact hv
        · split
          · exact hv
          · exact hv.setLoad hl (l.place_clip data)

theorem execLoadEnd_atLaw (h : s.AtLaw) (he : execLoadEnd tx s = .next u) : u.AtLaw := by
  refine portCommand_listening h (fun v hv hr => ?_) he
  split
  · exact hv
  · split
    · exact hv
    · next l hl =>
      split
      · exact hv
      · split
        · exact hv
        · exact (hv.setLoad hl (g := { l with ending := true }) rfl).completeLoad hr

theorem execLoadAbandon_atLaw (h : s.AtLaw) (he : execLoadAbandon tx s = .next u) : u.AtLaw := by
  refine portCommand_listening h (fun v hv hr => ?_) he
  split
  · exact hv
  · split
    · exact hv
    · next l hl => exact hv.abandonLoad hr hl

theorem execEraseClip_atLaw (h : s.AtLaw) {clip : Byte} (he : execEraseClip tx clip s = .next u) : u.AtLaw := by
  refine portCommand_listening h (fun v hv hr => ?_) he
  split
  · exact hv
  · split
    · exact hv
    · split
      · exact hv
      · split
        · exact hv
        · next id _ =>
          simp only
          split
          · exact hv
          · next hne =>
            split
            · exact hv
            · next hst =>
              simp only [Bool.or_eq_true, not_or, beq_iff_eq, State.clipBound, List.any_eq_true, List.mem_finRange, true_and,
                not_exists] at hst
              exact hv.beginErase hr hne hst.1.1 hst.1.2 hst.2

theorem execReadClip_atLaw (h : s.AtLaw) {clip : Byte} (he : execReadClip tx clip s = .next u) : u.AtLaw := by
  refine portCommand_atLaw h (fun v hv => ?_) he
  split
  · exact hv
  · split <;> exact hv

theorem execReadChannel_atLaw (h : s.AtLaw) {channel : Byte} (he : execReadChannel tx channel s = .next u) : u.AtLaw := by
  refine portCommand_atLaw h (fun v hv => ?_) he
  split <;> exact hv

/-! #### Reports of the store -/

theorem State.linkOp_some {no : Nat} {op : StoreOp} (h : s.linkOp no = some op) :
    s.resetLeft = none ∧ ∃ l, s.clips.link = some l ∧ l.op = op := by
  unfold State.linkOp at h
  split at h
  · cases h
  · next l hl =>
    split at h
    · next hc => cases h; exact ⟨hc.2, l, hl, rfl⟩
    · cases h

theorem State.Rests.directoryDone (h : s.Rests K loose opening) (img : Fin 2) (ok : Bool) :
    (s.directoryDone img ok).Rests K loose opening := by
  unfold State.directoryDone
  split
  · exact h
  · exact h.soil img

theorem State.Rests.programmingDone (h : s.Rests K loose opening) (hr : s.resetLeft = none) (buf : BufId) (discard ok : Bool) :
    (s.programmingDone buf discard ok).Rests K loose opening := by
  unfold State.programmingDone
  split
  · exact h
  · exact (h.onLoad fun l => by cases buf <;> rfl).completeLoad hr

theorem execScanReadCompletion_atLaw (h : s.AtLaw) {op : Nat} {data : Option (List Byte)}
    (he : execScanReadCompletion op data s = .next u) : u.AtLaw := by
  refine partEvent_atLaw ?_ he
  split
  · next hop => exact h.freeLink.scanReadDone (State.linkOp_some hop).1 rfl data
  · exact h

theorem execDirectoryStepCompletion_atLaw (h : s.AtLaw) {op : Nat} {ok : Bool} (he : execDirectoryStepCompletion op ok s = .next u) :
    u.AtLaw := by
  refine partEvent_atLaw ?_ he
  split
  · exact h.freeLink.directoryDone _ ok
  · exact h

theorem execProgrammingStepCompletion_atLaw (h : s.AtLaw) {op : Nat} {ok : Bool}
    (he : execProgrammingStepCompletion op ok s = .next u) : u.AtLaw := by
  refine partEvent_atLaw ?_ he
  split
  · next hop => exact h.freeLink.programmingDone (State.linkOp_some hop).1 _ _ ok
  · exact h

theorem execEraseStepCompletion_atLaw (h : s.AtLaw) {op : Nat} {ok : Bool} (he : execEraseStepCompletion op ok s = .next u) :
    u.AtLaw := by
  refine partEvent_atLaw ?_ he
  split
  · next hop =>
    obtain ⟨hr, l, hl, hlop⟩ := State.linkOp_some hop
    exact h.freeLink.eraseDone hr (h.tidy.1.link l hl _ _ hlop) rfl ok
  · exact h

/-- Through the reset interval the directory is empty, so nothing is scanned, loaded or erased (R14, R144). -/
theorem State.Rests.empty_through_reset (h : s.Rests K loose opening) (hr : s.resetLeft ≠ none) :
    s.clips.scan = none ∧ (∀ id : ClipId, s.clips.dir[id].state = .empty) ∧ s.clips.load = none ∧ s.clips.eraseList = [] := by
  have hl := h.sound.blocks.reset
  unfold State.resetLawful at hl
  rw [Bool.or_eq_true, Option.isNone_iff_eq_none] at hl
  have hl := hl.resolve_left hr
  simp only [Bool.and_eq_true, Option.isNone_iff_eq_none, List.all_eq_true, List.mem_finRange, true_imp_iff, beq_iff_eq] at hl
  refine ⟨hl.1, hl.2, ?_, ?_⟩
  · refine Option.eq_none_iff_forall_ne_some.mpr fun l e => ?_
    have := h.tidy.1.load l e
    rw [hl.2] at this
    cases this
  · refine List.eq_nil_iff_forall_not_mem.mpr fun id hid => ?_
    have := h.tidy.1.erasing id hid
    rw [hl.2] at this
    cases this

/-- An operation counted as failed at its timeout (R120). -/
theorem State.Rests.opFailed (h : s.Rests K loose opening) {l : Link} (hl : s.clips.link = some l) :
    (s.freeLink.opFailed l.op).Rests K loose opening := by
  have hf := h.freeLink
  by_cases hr : s.resetLeft = none
  · have hr' : s.freeLink.resetLeft = none := hr
    unfold State.opFailed
    cases hop : l.op with
    | scanRead img => exact hf.scanReadDone hr' rfl none
    | fetch ch o p b d => cases d <;> exact hf
    | directory img b => exact hf.directoryDone img false
    | programBlock buf n d k => exact hf.programmingDone hr' buf k false
    | erase id b => exact hf.eraseDone hr' (h.tidy.1.link l hl id b hop) rfl false
  · obtain ⟨hscan, -, hload, hlist⟩ := h.empty_through_reset hr
    unfold State.opFailed
    cases hop : l.op with
    | scanRead img =>
      have : s.freeLink.scanReadDone none = s.freeLink := by
        unfold State.scanReadDone
        rw [show s.freeLink.clips.scan = none from hscan]
      rw [this]
      exact hf
    | fetch ch o p b d => cases d <;> exact hf
    | directory img b => exact hf.directoryDone img false
    | programBlock buf n d k =>
      cases k
      · have hload' : (s.freeLink.onClips fun c => { c with load := c.load.map fun l => l.programmed buf false }).clips.load = none := by
          show s.clips.load.map _ = none
          rw [hload]
          rfl
        have hdone : s.freeLink.programmingDone buf false false =
            s.freeLink.onClips fun c => { c with load := c.load.map fun l => l.programmed buf false } := by
          unfold State.programmingDone State.completeLoad
          rw [hload']
          rfl
        show (s.freeLink.programmingDone buf false false).Rests K loose opening
        rw [hdone]
        exact hf.onLoad fun l => by cases buf <;> rfl
      · exact hf
    | erase id b =>
      have := h.tidy.1.link l hl id b hop
      rw [hlist] at this
      cases this

theorem execStoreOperationTimeout_atLaw (h : s.AtLaw) (he : execStoreOperationTimeout s = .next u) : u.AtLaw := by
  refine partEvent_atLaw ?_ he
  split
  · exact h
  · next l hl =>
    split
    · exact h.opFailed hl
    · exact h

/-- The reset interval ends and the start-up scan begins with an empty directory (R14, R144). -/
theorem State.Rests.beginScan (h : s.Rests K loose opening) (hr : s.resetLeft ≠ none) :
    ({ s with resetLeft := none, clips := s.clips.scanBegun } : State).Rests K loose opening := by
  obtain ⟨-, hempty, -, hlist⟩ := h.empty_through_reset hr
  have ht := h.tidy.1
  obtain ⟨h1, h2⟩ := s.clips.scanBegun.tidy_iff.mpr ⟨⟨ht.apart, ht.within, ht.load, ht.nodup, ht.erasing, fun l hl id b hop => by
    cases hl; cases hop⟩, fun sc _ id => Or.inr (hempty id)⟩
  have hb := h.sound.blocks
  exact h.reblocked rfl { hb with ranges := h1, entries := h2, ready := hb.ready, reset := rfl }

theorem execResetIntervalEnd_atLaw (h : s.AtLaw) (he : execResetIntervalEnd s = .next u) : u.AtLaw := by
  refine partEvent_atLaw ?_ he
  split
  · next hr => exact h.beginScan (by rw [hr]; exact fun e => nomatch e)
  · exact h

end StoreEvents

end Sys2Proof.Machine
end

section
namespace Sys2Proof.Machine

/-! ### Calls by the states of their parties (R149, R150) -/

section Calls
variable {c : Call} {a b : StationId} {st t : PartyState}

/-- The station is a party of the call in this state. -/
def Call.has (c : Call) (a : StationId) (st : PartyState) : Prop := ∃ q ∈ c.parties, q.station = a ∧ q.state = st

/-- The numbers of parties of a settled call (R149, R150). -/
def Call.counted (c : Call) : Prop :=
  match c.state with
  | .ringing => c.standing = 1 ∧ 1 ≤ c.ringing ∧ c.parties.length ≤ 4
  | .connected => 2 ≤ c.standing ∧ c.parties.length ≤ 4
  | .free | .ended => True

/-- The numbers of parties that settling starts from. -/
def Call.countable (c : Call) : Prop := (c.state = .ringing → c.standing ≤ 1) ∧ (c.live = true → c.parties.length ≤ 4)

theorem Call.live_iff (c : Call) : c.live = true ↔ c.state = .ringing ∨ c.state = .connected := by
  unfold Call.live
  rw [Bool.or_eq_true, beq_iff_eq, beq_iff_eq]

theorem Call.lawful_iff (c : Call) : c.lawful = true ↔ c.stations.Nodup ∧ c.counted := by
  unfold Call.lawful Call.counted
  rw [Bool.and_eq_true, decide_eq_true_iff]
  refine and_congr Iff.rfl ?_
  cases c.state <;> simp [and_assoc]

theorem Call.counted.countable (h : c.counted) : c.countable := by
  unfold Call.counted at h
  unfold Call.countable
  rw [c.live_iff]
  cases hs : c.state <;> rw [hs] at h <;> simp only at h
  · exact ⟨(fun e => nomatch e), fun e => by simp at e⟩
  · exact ⟨fun _ => by omega, fun _ => h.2.2⟩
  · exact ⟨(fun e => nomatch e), fun _ => h.2⟩
  · exact ⟨(fun e => nomatch e), fun e => by simp at e⟩

theorem Call.counted_of_dead (h : c.live ≠ true) : c.counted := by
  rw [ne_eq, c.live_iff, not_or] at h
  unfold Call.counted
  revert h
  cases c.state <;> simp

/-- A station is a party in one state only. -/
theorem Call.has_unique (hn : c.stations.Nodup) (h : c.has a st) (k : c.has a t) : st = t := by
  obtain ⟨p, hp, hpa, rfl⟩ := h
  obtain ⟨q, hq, hqa, rfl⟩ := k
  exact congrArg Party.state (List.inj_on_of_nodup_map hn hp hq (hpa.trans hqa.symm))

theorem Call.mem_stations (c : Call) (a : StationId) : a ∈ c.stations ↔ ∃ st, c.has a st := by
  unfold Call.stations Call.has
  rw [List.mem_map]
  exact ⟨fun ⟨q, hq, e⟩ => ⟨q.state, q, hq, e, rfl⟩, fun ⟨_, q, hq, e, _⟩ => ⟨q, hq, e⟩⟩

theorem Call.party_iff (hn : c.stations.Nodup) (q : Party) : c.party a = some q ↔ q ∈ c.parties ∧ q.station = a := by
  unfold Call.party
  constructor
  · intro h
    exact ⟨List.mem_of_find?_eq_some h, by simpa using List.find?_some h⟩
  · rintro ⟨hq, rfl⟩
    cases hf : c.parties.find? fun p => p.station == q.station with
    | none => exact absurd (List.find?_eq_none.mp hf q hq) (by simp)
    | some p =>
      have hp := List.mem_of_find?_eq_some hf
      have he : p.station = q.station := by simpa using List.find?_some hf
      rw [List.inj_on_of_nodup_map hn hp hq he]

theorem Call.party_has (hn : c.stations.Nodup) (f : PartyState → Prop) :
    (∃ q, c.party a = some q ∧ f q.state) ↔ ∃ st, c.has a st ∧ f st := by
  constructor
  · rintro ⟨q, hq, hf⟩
    obtain ⟨hm, ha⟩ := (Call.party_iff hn q).mp hq
    exact ⟨q.state, ⟨q, hm, ha, rfl⟩, hf⟩
  · rintro ⟨st, ⟨q, hm, ha, rfl⟩, hf⟩
    exact ⟨q, (Call.party_iff hn q).mpr ⟨hm, ha⟩, hf⟩

/-! #### What each change of a call does to its parties -/

theorem Call.has_setParty (c : Call) (a b : StationId) (st t : PartyState) :
    (c.setParty a st).has b t ↔ (b = a ∧ t = st ∧ a ∈ c.stations) ∨ (b ≠ a ∧ c.has b t) := by
  unfold Call.has Call.setParty
  simp only [List.mem_map]
  constructor
  · rintro ⟨q, ⟨p, hp, rfl⟩, hb, ht⟩
    split at hb
    · next e =>
      rw [if_pos e] at ht
      exact Or.inl ⟨hb.symm.trans e, ht.symm, List.mem_map.mpr ⟨p, hp, e⟩⟩
    · next e =>
      rw [if_neg e] at ht
      exact Or.inr ⟨fun e' => e (hb.trans e'), p, hp, hb, ht⟩
  · rintro (⟨rfl, rfl, hm⟩ | ⟨hne, p, hp, rfl, rfl⟩)
    · obtain ⟨p, hp, rfl⟩ := List.mem_map.mp hm
      exact ⟨_, ⟨p, hp, rfl⟩, by rw [if_pos rfl], by rw [if_pos rfl]⟩
    · exact ⟨_, ⟨p, hp, rfl⟩, by rw [if_neg hne], by rw [if_neg hne]⟩

theorem Call.stations_setParty (c : Call) (a : StationId) (st : PartyState) : (c.setParty a st).stations = c.stations := by
  unfold Call.stations Call.setParty
  rw [List.map_map]
  refine List.map_congr_left fun p _ => ?_
  simp only [Function.comp_apply]
  split <;> rfl

theorem Call.has_remove (c : Call) (a b : StationId) (t : PartyState) : (c.remove a).has b t ↔ b ≠ a ∧ c.has b t := by
  unfold Call.has Call.remove
  simp only [List.mem_filter, bne_iff_ne]
  constructor
  · rintro ⟨q, ⟨hq, hne⟩, rfl, rfl⟩
    exact ⟨hne, q, hq, rfl, rfl⟩
  · rintro ⟨hne, q, hq, rfl, rfl⟩
    exact ⟨q, ⟨hq, hne⟩, rfl, rfl⟩

theorem Call.nodup_remove (h : c.stations.Nodup) (a : StationId) : (c.remove a).stations.Nodup :=
  h.sublist (List.filter_sublist.map _)

theorem Call.has_ring (c : Call) (a b : StationId) (t : PartyState) :
    (c.ring a).has b t ↔ c.has b t ∨ (b = a ∧ t = .ringing) := by
  unfold Call.has Call.ring
  simp only [List.mem_append, List.mem_singleton]
  constructor
  · rintro ⟨q, hq | rfl, rfl, rfl⟩
    · exact Or.inl ⟨q, hq, rfl, rfl⟩
    · exact Or.inr ⟨rfl, rfl⟩
  · rintro (⟨q, hq, rfl, rfl⟩ | ⟨rfl, rfl⟩)
    · exact ⟨q, Or.inl hq, rfl, rfl⟩
    · exact ⟨_, Or.inr rfl, rfl, rfl⟩

theorem Call.nodup_ring (h : c.stations.Nodup) (ha : a ∉ c.stations) : (c.ring a).stations.Nodup := by
  unfold Call.stations Call.ring at *
  rw [List.map_append]
  refine List.nodup_append.mpr ⟨h, List.nodup_singleton _, fun x hx y hy e => ha ?_⟩
  rw [List.map_singleton, List.mem_singleton] at hy
  have hy : y = a := hy
  rw [← hy, ← e]
  exact hx

/-! #### The numbers of standing and ringing parties -/

theorem Call.counts_of_map (c : Call) (g : Party → Party) (hg : ∀ p ∈ c.parties, (g p).state.standing = p.state.standing) :
    ((c.parties.map g).countP fun p => p.state.standing) = c.standing ∧
    ((c.parties.map g).countP fun p => !p.state.standing) = c.ringing := by
  unfold Call.standing Call.ringing
  rw [List.countP_map, List.countP_map]
  exact ⟨List.countP_congr fun p hp => by simp only [Function.comp_apply, hg p hp],
    List.countP_congr fun p hp => by simp only [Function.comp_apply, hg p hp]⟩

/-- A party that stands before and after takes another state: the numbers stay. -/
theorem Call.counts_setParty (hn : c.stations.Nodup) (h : c.has a t) (ht : t.standing = true) (hst : st.standing = true) :
    (c.setParty a st).standing = c.standing ∧ (c.setParty a st).ringing = c.ringing ∧
      (c.setParty a st).parties.length = c.parties.length := by
  obtain ⟨h1, h2⟩ := c.counts_of_map (fun p => if p.station = a then { p with state := st, timer := none } else p) fun p hp => by
    split
    · next e =>
      have : p.state = t := Call.has_unique hn ⟨p, hp, e, rfl⟩ h
      rw [this, ht]
      exact hst
    · rfl
  exact ⟨h1, h2, List.length_map _⟩

theorem Call.counts_remove (c : Call) (a : StationId) :
    (c.remove a).standing ≤ c.standing ∧ (c.remove a).parties.length ≤ c.parties.length :=
  ⟨(List.filter_sublist.countP_le), List.length_filter_le _ _⟩

theorem Call.counts_ring (c : Call) (a : StationId) : (c.ring a).standing = c.standing ∧ (c.ring a).ringing = c.ringing + 1 ∧
    (c.ring a).parties.length = c.parties.length + 1 := by
  unfold Call.standing Call.ringing Call.ring
  simp [PartyState.standing]

theorem Call.length_eq (c : Call) : c.parties.length = c.standing + c.ringing := by
  unfold Call.standing Call.ringing
  rw [List.length_eq_countP_add_countP fun p : Party => p.state.standing]
  congr 1
  refine List.countP_congr fun p _ => ?_
  simp

end Calls

end Sys2Proof.Machine
end

section
namespace Sys2Proof.Machine

/-! ### Stations and calls that point at one another (R146, R147)

Through the work of a call command the numbers of some calls are unsettled, a barged station is between its calls, and an ending
call lets its parties go. `Wired` names these exceptions: calls in `loose` wait to be settled, stations in `limbo` have left their
current call, and a call in `dying` is no longer its parties' call. -/

/-- Stations and calls point at one another, but for the exceptions; the rest of the part is as in `s0`. -/
structure State.Wired (loose : CallId → Prop) (limbo : StationId → Prop) (dying : CallId → Prop) (s s0 : State) : Prop where
  free : ∀ a : StationId, s.stations[a].current = none →
    s.stations[a].state = .idle ∨ s.stations[a].state = .talkout ∨ s.stations[a].state = .disabled
  current : ∀ (a : StationId) (x : CallId), s.stations[a].current = some x → s.calls[x].live = true ∧
    ∃ st, s.calls[x].has a st ∧ st ≠ .suspended ∧ st.stationState = s.stations[a].state
  suspended : ∀ (a : StationId) (y : CallId), s.stations[a].suspended = some y → s.calls[y].live = true ∧
    s.calls[y].has a .suspended ∧ s.calls[y].priority ≠ .emergency ∧
    (limbo a ∨ ∃ x, s.stations[a].current = some x ∧ s.calls[x].priority = .emergency)
  between : ∀ a : StationId, limbo a → s.stations[a].current = none ∧ s.stations[a].state = .idle
  parties : ∀ (x : CallId) (a : StationId) (st : PartyState), s.calls[x].live = true → s.calls[x].has a st → ¬dying x →
    if st = .suspended then s.stations[a].suspended = some x else s.stations[a].current = some x
  nodup : ∀ x : CallId, s.calls[x].stations.Nodup
  counts : ∀ x : CallId, ¬loose x → s.calls[x].counted
  countable : ∀ x : CallId, s.calls[x].countable
  ends : s.callEnds.Nodup ∧ ∀ x : CallId, x ∈ s.callEnds ↔ s.calls[x].state = .ended
  rest : ({ s with stations := s0.stations, calls := s0.calls, callEnds := s0.callEnds } : State) = s0
  talk : ∀ a : StationId, s.stations[a].state = .talkout ↔ s0.stations[a].state = .talkout
  settings : ∀ a : StationId, s.stations[a].receive = s0.stations[a].receive ∧ s.stations[a].feed = s0.stations[a].feed

abbrev noCall : CallId → Prop := fun _ => False
abbrev noStation : StationId → Prop := fun _ => False

section Wiring
variable {s0 s u : State} {loose loose' dying : CallId → Prop} {limbo limbo' : StationId → Prop} {a b : StationId} {x y : CallId}
  {r : Station} {c : Call} {st : PartyState}

theorem PartyState.stationState_talkout (p : PartyState) : p.stationState ≠ .talkout ∧ p.stationState ≠ .disabled := by
  cases p <;> exact ⟨(fun e => nomatch e), fun e => nomatch e⟩

theorem State.Wired.not_talkout (h : s.Wired loose limbo dying s0) (hc : s.stations[a].current = some x) :
    s.stations[a].state ≠ .talkout := by
  obtain ⟨-, st, -, -, he⟩ := h.current a x hc
  rw [← he]
  exact st.stationState_talkout.1

/-- The intercom's laws are the wiring without exceptions. -/
theorem State.Intercom.wired (h : s.Intercom) (ho : s.ordersLawful = true) : s.Wired noCall noStation noCall s := by
  have hlaw (x : CallId) := s.calls[x].lawful_iff.mp (h.calls x)
  obtain ⟨-, -, hnd, -, hends⟩ := (State.orders_iff s).mp ho
  refine ⟨h.free, fun a x hx => ?_, fun a y hy => ?_, fun _ e => e.elim, fun x a st hl hh _ => ?_, fun x => (hlaw x).1,
    fun x _ => (hlaw x).2, fun x => (hlaw x).2.countable, ⟨hnd, hends⟩, rfl, fun _ => Iff.rfl, fun _ => ⟨rfl, rfl⟩⟩
  · obtain ⟨hl, hq⟩ := h.current a x hx
    exact ⟨hl, (Call.party_has (hlaw x).1 fun st => st ≠ .suspended ∧ st.stationState = s.stations[a].state).mp hq⟩
  · obtain ⟨hl, hq, hp, hcur⟩ := h.suspended a y hy
    obtain ⟨st, hst, rfl⟩ := (Call.party_has (hlaw y).1 fun st => st = .suspended).mp hq
    exact ⟨hl, hst, hp, Or.inr hcur⟩
  · obtain ⟨q, hq, rfl, rfl⟩ := hh
    exact h.parties x hl q hq

theorem State.Wired.intercom (h : u.Wired noCall noStation noCall s0)
    (hr : u.ring.cond = if u.ringingStations = 0 then .stopped else .running) : u.Intercom where
  free := h.free
  current a x hx := by
    obtain ⟨hl, hst⟩ := h.current a x hx
    exact ⟨hl, (Call.party_has (h.nodup x) fun st => st ≠ .suspended ∧ st.stationState = u.stations[a].state).mpr hst⟩
  suspended a y hy := by
    obtain ⟨hl, hst, hp, hcur⟩ := h.suspended a y hy
    exact ⟨hl, (Call.party_has (h.nodup y) fun st => st = .suspended).mpr ⟨_, hst, rfl⟩, hp, hcur.resolve_left id⟩
  calls x := u.calls[x].lawful_iff.mpr ⟨h.nodup x, h.counts x id⟩
  parties x hl q hq := h.parties x q.station q.state hl ⟨q, hq, rfl, rfl⟩ id
  ring := hr

/-- What makes one station's new record and one call's new record fit in. -/
structure State.Fits (s : State) (a : StationId) (x : CallId) (r : Station) (c : Call) (dying : CallId → Prop) (limbo' : Prop) : Prop where
  state : c.state = s.calls[x].state
  priority : c.priority = s.calls[x].priority
  free : r.current = none → r.state = .idle
  current : ∀ y, r.current = some y → y = x ∧ c.live = true ∧ ∃ st, c.has a st ∧ st ≠ .suspended ∧ st.stationState = r.state
  suspended : ∀ y, r.suspended = some y → (if y = x then c.live = true ∧ c.has a .suspended ∧ c.priority ≠ .emergency
    else s.stations[a].suspended = some y) ∧ (limbo' ∨ ∃ z, r.current = some z ∧ s.calls[z].priority = .emergency)
  between : limbo' → r.current = none
  own : ∀ st, c.live = true → c.has a st → ¬dying x → if st = .suspended then r.suspended = some x else r.current = some x
  others : ∀ y, y ≠ x → (s.stations[a].suspended = some y → r.suspended = some y) ∧
    (s.stations[a].current = some y → r.current = some y)
  kept : ∀ b, b ≠ a → ∀ st, c.has b st ↔ s.calls[x].has b st
  nodup : c.stations.Nodup
  countable : c.countable
  talk : r.state ≠ .talkout ∧ s.stations[a].state ≠ .talkout
  settings : r.receive = s.stations[a].receive ∧ r.feed = s.stations[a].feed

/-- One station and one call changed together. -/
theorem State.Wired.touch (h : s.Wired loose limbo dying s0) (hf : s.Fits a x r c dying (limbo' a))
    (hst : ∀ b : StationId, u.stations[b] = if a = b then r else s.stations[b])
    (hca : ∀ y : CallId, u.calls[y] = if x = y then c else s.calls[y])
    (hrest : ({ u with stations := s.stations, calls := s.calls } : State) = s)
    (hl : ∀ y, ¬loose' y → if x = y then c.counted else ¬loose y) (hlim : ∀ b, b ≠ a → (limbo b ↔ limbo' b)) :
    u.Wired loose' limbo' dying s0 := by
  have hprio (y : CallId) : u.calls[y].priority = s.calls[y].priority := by
    rw [hca]; split
    · next e => subst e; exact hf.priority
    · rfl
  have hstate (y : CallId) : u.calls[y].state = s.calls[y].state := by
    rw [hca]; split
    · next e => subst e; exact hf.state
    · rfl
  have hlive (y : CallId) : u.calls[y].live = s.calls[y].live := by
    unfold Call.live; rw [hstate]
  have hself : u.stations[a] = r := (hst a).trans (if_pos rfl)
  have hother (b : StationId) (hb : b ≠ a) : u.stations[b] = s.stations[b] := (hst b).trans (if_neg hb.symm)
  have hcall : u.calls[x] = c := (hca x).trans (if_pos rfl)
  have hcalls (y : CallId) (hy : y ≠ x) : u.calls[y] = s.calls[y] := (hca y).trans (if_neg hy.symm)
  have hhas (b : StationId) (hb : b ≠ a) (y : CallId) (st : PartyState) : u.calls[y].has b st ↔ s.calls[y].has b st := by
    by_cases e : y = x
    · subst e; rw [hcall]; exact hf.kept b hb st
    · rw [hcalls y e]
  have hclive : c.live = s.calls[x].live := by rw [← hcall, hlive]
  refine ⟨fun b hc => ?_, fun b y hc => ?_, fun b y hc => ?_, fun b hb => ?_, fun y b st hlv hh hd => ?_, fun y => ?_, fun y hy => ?_,
    fun y => ?_, ?_, ?_, fun b => ?_, fun b => ?_⟩
  · by_cases e : b = a
    · subst e; rw [hself] at hc ⊢; exact Or.inl (hf.free hc)
    · rw [hother b e] at hc ⊢; exact h.free b hc
  · by_cases e : b = a
    · subst e
      rw [hself] at hc ⊢
      obtain ⟨rfl, h1, h2⟩ := hf.current y hc
      rw [hcall]
      exact ⟨h1, h2⟩
    · rw [hother b e] at hc ⊢
      obtain ⟨h1, st, h2, h3⟩ := h.current b y hc
      exact ⟨(hlive y).trans h1, st, (hhas b e y st).mpr h2, h3⟩
  · by_cases e : b = a
    · subst e
      rw [hself] at hc ⊢
      obtain ⟨h1, h2⟩ := hf.suspended y hc
      have h2' : limbo' b ∨ ∃ z, r.current = some z ∧ u.calls[z].priority = .emergency :=
        h2.imp_right fun ⟨z, hz, hp⟩ => ⟨z, hz, (hprio z).trans hp⟩
      by_cases ey : y = x
      · subst ey
        rw [if_pos rfl] at h1
        rw [hcall]
        exact ⟨h1.1, h1.2.1, h1.2.2, h2'⟩
      · rw [if_neg ey] at h1
        obtain ⟨k1, k2, k3, -⟩ := h.suspended b y h1
        rw [hcalls y ey]
        exact ⟨k1, k2, k3, h2'⟩
    · rw [hother b e] at hc ⊢
      obtain ⟨k1, k2, k3, k4⟩ := h.suspended b y hc
      refine ⟨(hlive y).trans k1, (hhas b e y _).mpr k2, by rw [hprio]; exact k3, ?_⟩
      exact k4.imp (hlim b e).mp fun ⟨z, hz, hp⟩ => ⟨z, hz, (hprio z).trans hp⟩
  · by_cases e : b = a
    · subst e
      rw [hself]
      exact ⟨hf.between hb, hf.free (hf.between hb)⟩
    · rw [hother b e]
      exact h.between b ((hlim b e).mpr hb)
  · rw [hlive] at hlv
    by_cases e : b = a
    · subst e
      rw [hself]
      by_cases ey : y = x
      · subst ey
        rw [hcall] at hh
        exact hf.own st (hclive.trans hlv) hh hd
      · rw [hcalls y ey] at hh
        have := h.parties y b st hlv hh hd
        obtain ⟨k1, k2⟩ := hf.others y ey
        split at this
        · next es => rw [if_pos es]; exact k1 this
        · next es => rw [if_neg es]; exact k2 this
    · rw [hother b e]
      exact h.parties y b st hlv ((hhas b e y st).mp hh) hd
  · by_cases e : y = x
    · subst e; rw [hcall]; exact hf.nodup
    · rw [hcalls y e]; exact h.nodup y
  · have := hl y hy
    split at this
    · next e => subst e; rw [hcall]; exact this
    · next e => rw [hcalls y (Ne.symm e)]; exact h.counts y this
  · by_cases e : y = x
    · subst e; rw [hcall]; exact hf.countable
    · rw [hcalls y e]; exact h.countable y
  · have he : u.callEnds = s.callEnds := (congrArg State.callEnds hrest :)
    rw [he]
    exact ⟨h.ends.1, fun y => by rw [hstate]; exact h.ends.2 y⟩
  · have hrest' : u = { s with stations := u.stations, calls := u.calls } :=
      (congrArg (fun v : State => ({ v with stations := u.stations, calls := u.calls } : State)) hrest :)
    rw [hrest']
    exact h.rest
  · by_cases e : b = a
    · subst e
      rw [hself, ← h.talk]
      exact iff_of_false hf.talk.1 hf.talk.2
    · rw [hother b e]; exact h.talk b
  · by_cases e : b = a
    · subst e
      rw [hself, hf.settings.1, hf.settings.2]
      exact h.settings b
    · rw [hother b e]; exact h.settings b

end Wiring

end Sys2Proof.Machine
end

section
namespace Sys2Proof.Machine

section Recalling
variable {s0 s u : State} {loose loose' dying : CallId → Prop} {limbo limbo' : StationId → Prop} {a b : StationId} {x y : CallId}
  {r : Station} {c d : Call} {st : PartyState} {em : Bool} {p : Party} {why : EndCause}

theorem State.onStation_station (s : State) (a b : StationId) (f : Station → Station) :
    (s.onStation a f).stations[b] = if a = b then f s.stations[a] else s.stations[b] := by
  refine (getElem_adjust_fin s.stations a b f).trans ?_
  split
  · next e => subst e; rfl
  · rfl

theorem State.onCall_call (s : State) (x y : CallId) (f : Call → Call) :
    (s.onCall x f).calls[y] = if x = y then f s.calls[x] else s.calls[y] := by
  refine (getElem_adjust_fin s.calls x y f).trans ?_
  split
  · next e => subst e; rfl
  · rfl

theorem Call.counted_congr (hs : d.state = c.state) (h1 : d.standing = c.standing) (h2 : d.ringing = c.ringing) (h : c.counted) :
    d.counted := by
  unfold Call.counted at h ⊢
  rw [d.length_eq, h1, h2, ← c.length_eq, hs]
  exact h

theorem Call.countable_congr (hs : d.state = c.state) (h1 : d.standing = c.standing) (h2 : d.ringing = c.ringing) (h : c.countable) :
    d.countable := by
  unfold Call.countable Call.live at h ⊢
  rw [d.length_eq, h1, h2, ← c.length_eq, hs]
  exact h

/-- A call whose numbers are in order stays as it is (R150). -/
theorem Call.settling_of_counted (h : c.counted) : c.settling = .keep := by
  unfold Call.settling
  split
  · rfl
  · next hl =>
    rw [Bool.not_eq_true', Bool.not_eq_false, c.live_iff] at hl
    unfold Call.counted at h
    rcases hl with e | e <;> rw [e] at h <;> simp only at h
    · rw [if_neg (by omega), if_neg fun k => CallState.noConfusion (e.symm.trans k.1)]
    · rw [if_neg (by omega), if_neg (by omega)]

/-- Settling leaves the numbers of a call that goes on in order. -/
theorem Call.counted_of_kept (h : c.countable) (hk : c.settling = .keep) : c.counted := by
  by_cases hl : c.live = true
  · obtain ⟨h1, h2⟩ := h
    have h2 := h2 hl
    unfold Call.settling at hk
    rw [hl] at hk
    simp only [Bool.not_true, Bool.false_eq_true, if_false] at hk
    split at hk
    · cases hk
    · next hd =>
      split at hk
      · cases hk
      · next hf =>
        unfold Call.counted
        rcases c.live_iff.mp hl with e | e <;> rw [e] <;> simp only
        · have := h1 e
          omega
        · have hf : ¬(c.standing = 1 ∧ 1 ≤ c.ringing) := fun k => hf ⟨e, k.1, k.2⟩
          omega
  · exact Call.counted_of_dead hl

theorem State.settlePlain_of_counted (h : s.calls[x].counted) : s.settlePlain x = s := by
  unfold State.settlePlain
  rw [Call.settling_of_counted h]

theorem State.Wired.relimb (h : s.Wired loose limbo dying s0) (hl : ∀ a, limbo' a → limbo a)
    (hn : ∀ a, limbo a → ¬limbo' a → s.stations[a].suspended = none) : s.Wired loose limbo' dying s0 :=
  { h with
    suspended := fun a y hy => by
      obtain ⟨h1, h2, h3, h4⟩ := h.suspended a y hy
      refine ⟨h1, h2, h3, ?_⟩
      by_cases e : limbo' a
      · exact Or.inl e
      · refine Or.inr (h4.resolve_left fun k => ?_)
        rw [hn a k e] at hy
        cases hy
    between := fun a ha => h.between a (hl a ha) }

/-- What the recall of a station leaves as it was, and what it makes the station's current call. -/
structure State.Recalled (s : State) (a : StationId) (u : State) : Prop where
  others : ∀ b : StationId, b ≠ a → u.stations[b] = s.stations[b]
  calls : ∀ x : CallId, s.stations[a].suspended ≠ some x → u.calls[x] = s.calls[x]
  self : u.stations[a].current = (if s.stations[a].suspended = none then s.stations[a].current else s.stations[a].suspended)

/-- The recall of a station in limbo (R161): its suspended call is its current call again. -/
theorem State.Wired.recall (h : s.Wired loose limbo dying s0) (ha : limbo a)
    (hy : ∀ y, s.stations[a].suspended = some y → ¬loose y ∧ ¬dying y) :
    (s.recall a).Wired loose (fun b => limbo b ∧ b ≠ a) dying s0 ∧ s.Recalled a (s.recall a) := by
  obtain ⟨hnone, hidle⟩ := h.between a ha
  cases hsome : s.stations[a].suspended with
  | none =>
    have he : s.recall a = s := by unfold State.recall; rw [hsome]
    rw [he]
    refine ⟨h.relimb (fun b hb => hb.1) fun b hb hb' => ?_, fun _ _ => rfl, fun _ _ => rfl, by rw [hsome]; rfl⟩
    have : b = a := by by_contra hne; exact hb' ⟨hb, hne⟩
    rw [this]; exact hsome
  | some y =>
    obtain ⟨hlive, hhas, hprio, -⟩ := h.suspended a y hsome
    obtain ⟨hly, hdy⟩ := hy y hsome
    obtain ⟨st, rs, hst, hrs, htalk, heq⟩ : ∃ (st : PartyState) (rs : StationState), st.standing = true ∧ st ≠ .suspended ∧
        (st.stationState = rs ∧ rs ≠ .talkout) ∧ s.recall a =
          ((s.onCall y fun c => c.setParty a st).onStation a fun r =>
            { r with state := rs, current := some y, suspended := none }).settlePlain y := by
      refine ⟨if s.calls[y].state == .connected then .active else .calling,
        if s.calls[y].state == .connected then .inCall else .calling, ?_, ?_, ?_, ?_⟩
      · split <;> rfl
      · split <;> exact fun e => nomatch e
      · split <;> exact ⟨rfl, fun e => nomatch e⟩
      · unfold State.recall
        rw [hsome]
    have hcounts := Call.counts_setParty (st := st) (h.nodup y) hhas rfl hst
    generalize hv : ((s.onCall y fun c => c.setParty a st).onStation a fun r =>
      { r with state := rs, current := some y, suspended := none }) = v at heq
    have hstations (b : StationId) : v.stations[b] =
        if a = b then { s.stations[a] with state := rs, current := some y, suspended := none } else s.stations[b] := by
      rw [← hv]; exact State.onStation_station ..
    have hcalls (z : CallId) : v.calls[z] = if y = z then s.calls[y].setParty a st else s.calls[z] := by
      rw [← hv]; exact State.onCall_call ..
    have hrest : ({ v with stations := s.stations, calls := s.calls } : State) = s := by rw [← hv]; rfl
    clear hv
    have hcounted : (s.calls[y].setParty a st).counted := Call.counted_congr (c := s.calls[y]) rfl hcounts.1 hcounts.2.1 (h.counts y hly)
    have hvy : v.calls[y] = s.calls[y].setParty a st := (hcalls y).trans (if_pos rfl)
    rw [heq, State.settlePlain_of_counted (by rw [hvy]; exact hcounted)]
    refine ⟨?_, fun b hb => (hstations b).trans (if_neg hb.symm), fun x hx => (hcalls x).trans (if_neg fun e : y = x => hx (e ▸ hsome)), ?_⟩
    · refine h.touch (a := a) (x := y) (r := { s.stations[a] with state := rs, current := some y, suspended := none })
        (c := s.calls[y].setParty a st) (limbo' := fun b => limbo b ∧ b ≠ a) ?_ hstations hcalls hrest (fun z hz => ?_)
        fun b hb => (and_iff_left hb).symm
      · refine ⟨rfl, rfl, fun e => (nomatch e), fun z hz => ?_, fun z hz => (nomatch hz), fun e => (e.2 rfl).elim, fun t _ ht _ => ?_,
          fun z hz => ⟨fun e => ?_, fun e => ?_⟩, fun b hb t => ?_, ?_, ?_, ⟨htalk.2, by rw [hidle]; decide⟩, rfl, rfl⟩
        · cases hz
          exact ⟨rfl, hlive, st, (Call.has_setParty ..).mpr (Or.inl ⟨rfl, rfl, (Call.mem_stations _ _).mpr ⟨_, hhas⟩⟩), hrs, htalk.1⟩
        · rcases (Call.has_setParty ..).mp ht with ⟨-, rfl, -⟩ | ⟨e, -⟩
          · rw [if_neg hrs]
          · exact absurd rfl e
        · rw [hsome] at e; cases e; exact absurd rfl hz
        · rw [hnone] at e; cases e
        · rw [Call.has_setParty]
          exact ⟨fun e => e.elim (fun k => absurd k.1 hb) (·.2), fun e => Or.inr ⟨hb, e⟩⟩
        · rw [Call.stations_setParty]; exact h.nodup y
        · exact Call.countable_congr (c := s.calls[y]) rfl hcounts.1 hcounts.2.1 (h.countable y)
      · split
        · exact hcounted
        · exact hz
    · rw [(hstations a).trans (if_pos rfl), hsome]
      rfl

/-- A station leaves its dying call; from one of EMERGENCY priority it is recalled (R160). -/
theorem State.Wired.partyOut (h : s.Wired loose limbo dying s0) (hx : dying x) (hd : ∀ y, dying y → y = x)
    (hp : p.state ≠ .suspended) (hcur : s.stations[p.station].current = some x)
    (hem : em = (s.calls[x].priority == .emergency)) (hl : em = true → ∀ y, loose y → y = x) :
    (s.partyOut em p).Wired loose limbo dying s0 ∧ (s.partyOut em p).calls[x] = s.calls[x] ∧
      (∀ b : StationId, b ≠ p.station → (s.partyOut em p).stations[b] = s.stations[b]) ∧
      (s.partyOut em p).stations[p.station].current ≠ some x ∧ (em = false → (s.partyOut em p).calls = s.calls) := by
  let a := p.station
  obtain ⟨hlive, st, hhas, hst, hstate⟩ := h.current a x hcur
  have hnl : ¬limbo a := fun e => by
    have := (h.between a e).1
    rw [show s.stations[a].current = some x from hcur] at this
    cases this
  have hneq (y : CallId) (hy : s.stations[a].suspended = some y) : y ≠ x := fun e => by
    subst e
    exact hst (Call.has_unique (h.nodup y) hhas (h.suspended a y hy).2.1)
  have hsusp (y : CallId) (hy : s.stations[a].suspended = some y) : em = true := by
    rcases (h.suspended a y hy).2.2.2 with e | ⟨z, hz, hzp⟩
    · exact absurd e hnl
    · rw [show s.stations[a].current = some x from hcur] at hz
      cases hz
      rw [hem, hzp]
      rfl
  have hstations (b : StationId) := s.onStation_station a b Station.leave
  have hleft : (s.onStation a Station.leave).Wired loose (fun b => limbo b ∨ (em = true ∧ b = a)) dying s0 := by
    refine h.touch (a := a) (x := x) (r := s.stations[a].leave) (c := s.calls[x])
      (limbo' := fun b => limbo b ∨ (em = true ∧ b = a)) ?_ hstations (fun y => ?_) rfl (fun y hy => ?_) fun b hb => ?_
    · refine ⟨rfl, rfl, fun _ => rfl, fun _ e => (nomatch e), fun y hy => ⟨?_, Or.inl (Or.inr ⟨hsusp y hy, rfl⟩)⟩, fun _ => rfl,
        fun _ _ _ e => (e hx).elim, fun y hy => ⟨id, fun e => ?_⟩, fun _ _ _ => Iff.rfl, h.nodup x, h.countable x,
        ⟨(fun e => nomatch e), h.not_talkout hcur⟩, rfl, rfl⟩
      · rw [if_neg (hneq y hy)]; exact hy
      · have := hcur.symm.trans e
        cases this
        exact absurd rfl hy
    · show s.calls[y] = _
      split
      · next e => subst e; rfl
      · rfl
    · split
      · next e => subst e; exact h.counts x hy
      · exact hy
    · exact ⟨Or.inl, fun e => e.elim id fun k => absurd k.2 hb⟩
  have hself : (s.onStation a Station.leave).stations[a] = s.stations[a].leave := (hstations a).trans (if_pos rfl)
  have hothers (b : StationId) (hb : b ≠ a) : (s.onStation a Station.leave).stations[b] = s.stations[b] :=
    (hstations b).trans (if_neg hb.symm)
  unfold State.partyOut
  rw [if_neg hp]
  simp only
  split
  · next he =>
    obtain ⟨h1, h2, h3, h4⟩ := hleft.recall (a := a) (Or.inr ⟨he, rfl⟩) fun y hy => by
      rw [hself] at hy
      exact ⟨fun k => hneq y hy (hl he y k), fun k => hneq y hy (hd y k)⟩
    rw [hself] at h3 h4
    refine ⟨h1.relimb (fun b hb => ⟨Or.inl hb, fun e => hnl (e ▸ hb)⟩) fun b hb hb' => ?_, h3 x fun e => hneq x e rfl,
      fun b hb => (h2 b hb).trans (hothers b hb), fun e => ?_, fun e => ?_⟩
    · rcases hb with ⟨hb | hb, hne⟩
      · exact absurd hb hb'
      · exact absurd hb.2 hne
    · have e' : (if s.stations[a].leave.suspended = none then s.stations[a].leave.current else s.stations[a].leave.suspended) = some x :=
        h4.symm.trans e
      split at e'
      · cases e'
      · exact hneq x e' rfl
    · rw [he] at e; cases e
  · next he =>
    refine ⟨hleft.relimb (fun b hb => Or.inl hb) fun b hb hb' => ?_, rfl, hothers, fun e => ?_, fun _ => rfl⟩
    · rcases hb with hb | hb
      · exact absurd hb hb'
      · exact absurd hb.1 he
    · have := (congrArg Station.current hself).symm.trans e
      cases this

end Recalling

end Sys2Proof.Machine
end

section
namespace Sys2Proof.Machine

section Settling
variable {s0 s u : State} {loose loose' dying : CallId → Prop} {limbo limbo' : StationId → Prop} {a b : StationId} {x y : CallId}
  {r : Station} {c d : Call} {st : PartyState} {em : Bool} {p : Party} {why : EndCause}

theorem Call.not_ended_of_live (h : c.live = true) : c.state ≠ .ended := fun e => by
  rw [Call.live_iff, e] at h
  simp at h

/-- The parties of a dying call go, one by one. -/
theorem State.Wired.partiesOut (hx : dying x) (hd : ∀ y, dying y → y = x) (hem : em = (c.priority == .emergency))
    (hl : em = true → ∀ y, loose y → y = x) (l : List Party) (hn : (l.map (·.station)).Nodup) (h : s.Wired loose limbo dying s0)
    (hc : s.calls[x] = c) (hin : ∀ p ∈ l, p.state ≠ .suspended → s.stations[p.station].current = some x)
    (hout : ∀ b : StationId, s.stations[b].current = some x → ∃ p ∈ l, p.state ≠ .suspended ∧ p.station = b) :
    (l.foldl (fun s p => s.partyOut em p) s).Wired loose limbo dying s0 ∧
    (l.foldl (fun s p => s.partyOut em p) s).calls[x] = c ∧
    (∀ b : StationId, (l.foldl (fun s p => s.partyOut em p) s).stations[b].current ≠ some x) ∧
    (em = false → (l.foldl (fun s p => s.partyOut em p) s).calls = s.calls) := by
  induction l generalizing s with
  | nil =>
    refine ⟨h, hc, fun b e => ?_, fun _ => rfl⟩
    obtain ⟨p, hp, -⟩ := hout b e
    cases hp
  | cons p l ih =>
    rw [List.map_cons, List.nodup_cons] at hn
    by_cases hp : p.state = .suspended
    · have hskip : s.partyOut em p = s := by unfold State.partyOut; rw [if_pos hp]
      rw [List.foldl_cons, hskip]
      refine ih hn.2 h hc (fun q hq => hin q (List.mem_cons_of_mem _ hq)) fun b hb => ?_
      obtain ⟨q, hq, hqs, hqb⟩ := hout b hb
      rcases List.mem_cons.mp hq with e | hq
      · subst e; exact absurd hp hqs
      · exact ⟨q, hq, hqs, hqb⟩
    · obtain ⟨h1, h2, h3, h4, h5⟩ := h.partyOut hx hd hp (hin p List.mem_cons_self hp) (by rw [hc]; exact hem) hl
      have hne (q : Party) (hq : q ∈ l) : q.station ≠ p.station := fun e => hn.1 (List.mem_map.mpr ⟨q, hq, e⟩)
      obtain ⟨k1, k2, k3, k4⟩ := ih hn.2 h1 (h2.trans hc) (fun q hq hqs => by
        rw [h3 q.station (hne q hq)]
        exact hin q (List.mem_cons_of_mem _ hq) hqs) fun b hb => by
          by_cases e : b = p.station
          · rw [e] at hb
            exact absurd hb h4
          · rw [h3 b e] at hb
            obtain ⟨q, hq, hqs, hqb⟩ := hout b hb
            rcases List.mem_cons.mp hq with e' | hq
            · subst e'; exact absurd hqb.symm e
            · exact ⟨q, hq, hqs, hqb⟩
      exact ⟨k1, k2, k3, fun e => (k4 e).trans (h5 e)⟩

/-- A call that no station has as its current call is closed (R160). -/
theorem State.Wired.closeCall (h : s.Wired loose limbo dying s0) (hl : s.calls[x].live = true) (hd : ∀ y, dying y → y = x)
    (hc : ∀ b : StationId, s.stations[b].current ≠ some x) (why : EndCause) :
    (s.closeCall x why).Wired (fun y => loose y ∧ y ≠ x) limbo noCall s0 := by
  have hcalls (y : CallId) : (s.closeCall x why).calls[y] = if x = y then s.calls[x].over why else s.calls[y] := s.onCall_call x y _
  have hself : (s.closeCall x why).calls[x] = s.calls[x].over why := (hcalls x).trans (if_pos rfl)
  have hothers (y : CallId) (hy : y ≠ x) : (s.closeCall x why).calls[y] = s.calls[y] := (hcalls y).trans (if_neg hy.symm)
  have hst (b : StationId) : (s.closeCall x why).stations[b] =
      if s.stations[b].suspended = some x then { s.stations[b] with suspended := none } else s.stations[b] := remap_at ..
  have hcur (b : StationId) : (s.closeCall x why).stations[b].current = s.stations[b].current ∧
      (s.closeCall x why).stations[b].state = s.stations[b].state ∧
      (s.closeCall x why).stations[b].receive = s.stations[b].receive ∧ (s.closeCall x why).stations[b].feed = s.stations[b].feed := by
    rw [hst]; split <;> exact ⟨rfl, rfl, rfl, rfl⟩
  have hsusp (b : StationId) (y : CallId) : (s.closeCall x why).stations[b].suspended = some y ↔
      s.stations[b].suspended = some y ∧ y ≠ x := by
    rw [hst]
    split
    · next e => exact ⟨(fun e' => nomatch e'), fun ⟨e1, e2⟩ => absurd (Option.some.inj (e1.symm.trans e)) e2⟩
    · next e => exact ⟨fun e1 => ⟨e1, fun e2 => e (e2 ▸ e1)⟩, (·.1)⟩
  have hdead : (s.closeCall x why).calls[x].live ≠ true := by rw [hself]; exact fun e => nomatch e
  have hprio (y : CallId) : (s.closeCall x why).calls[y].priority = s.calls[y].priority := by
    rw [hcalls]; split
    · next e => subst e; rfl
    · rfl
  refine ⟨fun b hb => ?_, fun b y hb => ?_, fun b y hb => ?_, fun b hb => ?_, fun y b t hlv hh _ => ?_, fun y => ?_, fun y hy => ?_,
    fun y => ?_, ⟨?_, fun y => ?_⟩, h.rest, fun b => ?_, fun b => ?_⟩
  · rw [(hcur b).1] at hb
    rw [(hcur b).2.1]
    exact h.free b hb
  · rw [(hcur b).1] at hb
    have hne : y ≠ x := fun e => hc b (e ▸ hb)
    rw [hothers y hne, (hcur b).2.1]
    exact h.current b y hb
  · obtain ⟨hb, hne⟩ := (hsusp b y).mp hb
    obtain ⟨h1, h2, h3, h4⟩ := h.suspended b y hb
    rw [hothers y hne]
    exact ⟨h1, h2, h3, h4.imp_right fun ⟨z, hz, hp⟩ => ⟨z, (hcur b).1.trans hz, (hprio z).trans hp⟩⟩
  · rw [(hcur b).1, (hcur b).2.1]
    exact h.between b hb
  · by_cases e : y = x
    · subst e; exact absurd hlv hdead
    · rw [hothers y e] at hlv hh
      have := h.parties y b t hlv hh fun k => e (hd y k)
      split at this
      · next es => rw [if_pos es]; exact (hsusp b y).mpr ⟨this, e⟩
      · next es => rw [if_neg es, (hcur b).1]; exact this
  · rw [hcalls]; split
    · exact h.nodup x
    · exact h.nodup y
  · by_cases e : y = x
    · subst e; exact Call.counted_of_dead hdead
    · rw [hothers y e]; exact h.counts y fun k => hy ⟨k, e⟩
  · by_cases e : y = x
    · subst e; exact (Call.counted_of_dead hdead).countable
    · rw [hothers y e]; exact h.countable y
  · refine List.nodup_append.mpr ⟨h.ends.1, List.nodup_singleton _, fun z hz w hw e => ?_⟩
    rw [List.mem_singleton] at hw
    subst hw e
    have := (h.ends.2 z).mp hz
    exact Call.not_ended_of_live hl this
  · show y ∈ s.callEnds ++ [x] ↔ _
    rw [List.mem_append, List.mem_singleton, hcalls]
    split
    · next e => exact iff_of_true (Or.inr e.symm) rfl
    · next e => rw [h.ends.2 y]; exact ⟨fun k => k.resolve_right (Ne.symm e), Or.inl⟩
  · rw [(hcur b).2.1]; exact h.talk b
  · rw [(hcur b).2.2.1, (hcur b).2.2.2]; exact h.settings b

/-- The end of a call (R160). -/
theorem State.Wired.endCall (h : s.Wired loose limbo noCall s0) (hl : s.calls[x].live = true)
    (hem : s.calls[x].priority = .emergency → ∀ y, loose y → y = x) (why : EndCause) :
    (s.endCall x why).Wired (fun y => loose y ∧ y ≠ x) limbo noCall s0 ∧
    (s.calls[x].priority ≠ .emergency → ∀ y, y ≠ x → (s.endCall x why).calls[y] = s.calls[y]) := by
  have hdying : s.Wired loose limbo (fun y => y = x) s0 := { h with parties := fun y a st hlv hh _ => h.parties y a st hlv hh id }
  obtain ⟨h1, h2, h3, h4⟩ := State.Wired.partiesOut (dying := fun y => y = x) (em := s.calls[x].priority == .emergency) rfl (fun _ e => e) rfl
    (fun e => hem (beq_iff_eq.mp e)) s.calls[x].parties (h.nodup x) hdying rfl
    (fun p hp hps => by
      have := h.parties x p.station p.state hl ⟨p, hp, rfl, rfl⟩ id
      rw [if_neg hps] at this
      exact this)
    (fun b hb => by
      obtain ⟨-, st, ⟨p, hp, hpb, hpst⟩, hst, -⟩ := h.current b x hb
      exact ⟨p, hp, hpst ▸ hst, hpb⟩)
  unfold State.endCall
  simp only
  generalize s.calls[x].parties.foldl (fun w p => w.partyOut (s.calls[x].priority == .emergency) p) s = v at *
  refine ⟨h1.closeCall (by rw [h2]; exact hl) (fun _ e => e) h3 why, fun hp y hy => ?_⟩
  refine (State.onCall_call v x y _).trans ((if_neg hy.symm).trans ?_)
  simp only [h4 (beq_eq_false_iff_ne.mpr hp)]

/-! #### A call that returns to RINGING (R150) -/

theorem foldl_onStation (l : List StationId) {f : Station → Station} (hf : ∀ r, f (f r) = f r) (s : State) (b : StationId) :
    (l.foldl (fun s a => s.onStation a f) s).stations[b] = if b ∈ l then f s.stations[b] else s.stations[b] := by
  induction l generalizing s with
  | nil => simp
  | cons a l ih =>
    rw [List.foldl_cons, ih, State.onStation_station]
    by_cases e : a = b
    · subst e
      simp only [if_true, List.mem_cons, true_or, hf, ite_self]
    · simp only [if_neg e, List.mem_cons, Ne.symm e, false_or]

theorem foldl_onStation_rest (l : List StationId) (f : Station → Station) (s : State) :
    ({ l.foldl (fun s a => s.onStation a f) s with stations := s.stations } : State) = s := by
  have : ∃ v, l.foldl (fun s a => s.onStation a f) s = { s with stations := v } := by
    induction l generalizing s with
    | nil => exact ⟨_, rfl⟩
    | cons a l ih =>
      obtain ⟨v, hv⟩ := ih (s.onStation a f)
      exact ⟨v, hv⟩
  obtain ⟨v, hv⟩ := this
  rw [hv]

/-- What a waiting party's state becomes. -/
def PartyState.waits (t : PartyState) : PartyState :=
  match t with
  | .active | .onHold => .calling
  | .calling => .calling
  | .ringing => .ringing
  | .suspended => .suspended

theorem Party.waits_eq (p : Party) : p.waits.station = p.station ∧ p.waits.state = p.state.waits := by
  unfold Party.waits PartyState.waits
  cases h : p.state <;> simp [h]

theorem PartyState.waits_standing (t : PartyState) : t.waits.standing = t.standing := by cases t <;> rfl

theorem PartyState.waits_suspended (t : PartyState) : t.waits = .suspended ↔ t = .suspended := by
  cases t <;> exact ⟨(fun e => by cases e <;> rfl), fun e => by cases e <;> rfl⟩

/-- The call that has returned to RINGING. -/
def Call.fallen (c : Call) : Call := { c with state := .ringing, parties := c.parties.map Party.waits }

/-- The parties of a call, each in a new state that its station and its state give. -/
theorem Call.has_map (f : Party → Party) (g : StationId → PartyState → PartyState) (hd : d.parties = c.parties.map f)
    (hf : ∀ p, (f p).station = p.station ∧ (f p).state = g p.station p.state) :
    (∀ b t, d.has b t ↔ ∃ t', c.has b t' ∧ t = g b t') ∧ d.stations = c.stations := by
  constructor
  · intro b t
    unfold Call.has
    simp only [hd, List.mem_map]
    constructor
    · rintro ⟨q, ⟨p, hp, rfl⟩, rfl, rfl⟩
      exact ⟨p.state, ⟨p, hp, (hf p).1.symm, rfl⟩, (hf p).1 ▸ (hf p).2⟩
    · rintro ⟨t', ⟨p, hp, rfl, rfl⟩, rfl⟩
      exact ⟨_, ⟨p, hp, rfl⟩, hf p⟩
  · unfold Call.stations
    rw [hd, List.map_map]
    exact List.map_congr_left fun p _ => (hf p).1

theorem Call.has_fallen (c : Call) : (∀ b t, c.fallen.has b t ↔ ∃ t', c.has b t' ∧ t = t'.waits) ∧ c.fallen.stations = c.stations :=
  Call.has_map Party.waits (fun _ => PartyState.waits) rfl Party.waits_eq

theorem Call.counts_fallen (c : Call) : c.fallen.standing = c.standing ∧ c.fallen.ringing = c.ringing :=
  c.counts_of_map Party.waits fun p _ => by rw [p.waits_eq.2]; exact p.state.waits_standing

/-- The stations that wait when the call returns to RINGING. -/
theorem Call.mem_waiting (c : Call) (b : StationId) :
    b ∈ (c.parties.filter fun p => p.state == .active || p.state == .onHold).map (·.station) ↔ c.has b .active ∨ c.has b .onHold := by
  unfold Call.has
  simp only [List.mem_map, List.mem_filter, Bool.or_eq_true, beq_iff_eq]
  constructor
  · rintro ⟨p, ⟨hp, e | e⟩, rfl⟩
    · exact Or.inl ⟨p, hp, rfl, e⟩
    · exact Or.inr ⟨p, hp, rfl, e⟩
  · rintro (⟨p, hp, rfl, e⟩ | ⟨p, hp, rfl, e⟩)
    · exact ⟨p, ⟨hp, Or.inl e⟩, rfl⟩
    · exact ⟨p, ⟨hp, Or.inr e⟩, rfl⟩

/-- A live call's parties take new states, and their stations with them. -/
theorem State.Wired.restate (h : s.Wired loose limbo noCall s0) (g : StationId → PartyState → PartyState)
    (hlive : s.calls[x].live = true) (hcl : c.live = true) (hp : c.priority = s.calls[x].priority)
    (hn : c.stations = s.calls[x].stations) (hcount : c.countable)
    (hhas : ∀ b t, c.has b t ↔ ∃ t', s.calls[x].has b t' ∧ t = g b t')
    (hg : ∀ b t, s.calls[x].has b t → (g b t = .suspended ↔ t = .suspended))
    (hcalls : ∀ y : CallId, u.calls[y] = if x = y then c else s.calls[y])
    (hkeep : ∀ b : StationId, ∃ q, u.stations[b] = { s.stations[b] with state := q })
    (hself : ∀ (b : StationId) t, s.calls[x].has b t → t ≠ .suspended → u.stations[b].state = (g b t).stationState)
    (hother : ∀ b : StationId, s.stations[b].current ≠ some x → u.stations[b].state = s.stations[b].state)
    (hrest : ({ u with stations := s.stations, calls := s.calls } : State) = s)
    (hloose : ∀ y, ¬loose' y → if x = y then c.counted else ¬loose y) : u.Wired loose' limbo noCall s0 := by
  have hcall : u.calls[x] = c := (hcalls x).trans (if_pos rfl)
  have hothers (y : CallId) (hy : y ≠ x) : u.calls[y] = s.calls[y] := (hcalls y).trans (if_neg hy.symm)
  have hlv (y : CallId) : u.calls[y].live = s.calls[y].live := by
    rw [hcalls]; split
    · next e => subst e; rw [hlive]; exact hcl
    · rfl
  have hprio (y : CallId) : u.calls[y].priority = s.calls[y].priority := by
    rw [hcalls]; split
    · next e => subst e; exact hp
    · rfl
  have hcur (b : StationId) : u.stations[b].current = s.stations[b].current ∧ u.stations[b].suspended = s.stations[b].suspended ∧
      u.stations[b].receive = s.stations[b].receive ∧ u.stations[b].feed = s.stations[b].feed := by
    obtain ⟨q, hq⟩ := hkeep b
    rw [hq]; exact ⟨rfl, rfl, rfl, rfl⟩
  refine ⟨fun b hb => ?_, fun b y hb => ?_, fun b y hb => ?_, fun b hb => ?_, fun y b t hl hh _ => ?_, fun y => ?_, fun y hy => ?_,
    fun y => ?_, ?_, ?_, fun b => ?_, fun b => ?_⟩
  · rw [(hcur b).1] at hb
    rw [hother b (by rw [hb]; exact fun e => nomatch e)]
    exact h.free b hb
  · rw [(hcur b).1] at hb
    obtain ⟨k1, t, k2, k3, k4⟩ := h.current b y hb
    rw [hlv]
    by_cases e : y = x
    · subst e
      rw [hcall]
      exact ⟨k1, g b t, (hhas ..).mpr ⟨t, k2, rfl⟩, fun e => k3 ((hg b t k2).mp e), (hself b t k2 k3).symm⟩
    · refine ⟨k1, t, by rw [hothers y e]; exact k2, k3, ?_⟩
      rw [hother b (by rw [hb]; exact fun k => e (Option.some.inj k))]
      exact k4
  · rw [(hcur b).2.1] at hb
    obtain ⟨k1, k2, k3, k4⟩ := h.suspended b y hb
    rw [hlv, hprio, (hcur b).1]
    refine ⟨k1, ?_, k3, k4.imp_right fun ⟨z, hz, hp⟩ => ⟨z, hz, (hprio z).trans hp⟩⟩
    rw [hcalls]; split
    · next e => subst e; exact (hhas ..).mpr ⟨_, k2, ((hg b _ k2).mpr rfl).symm⟩
    · exact k2
  · rw [(hcur b).1, hother b (by rw [(h.between b hb).1]; exact fun e => nomatch e)]
    exact h.between b hb
  · rw [hlv] at hl
    rw [(hcur b).1, (hcur b).2.1]
    by_cases e : y = x
    · subst e
      rw [hcall] at hh
      obtain ⟨t', ht', rfl⟩ := (hhas ..).mp hh
      have := h.parties y b t' hl ht' id
      simp only [hg b t' ht']
      exact this
    · rw [hothers y e] at hh
      exact h.parties y b t hl hh id
  · rw [hcalls]; split
    · rw [hn]; exact h.nodup x
    · exact h.nodup y
  · have := hloose y hy
    split at this
    · next e => subst e; rw [hcall]; exact this
    · next e => rw [hothers y (Ne.symm e)]; exact h.counts y this
  · by_cases e : y = x
    · subst e; rw [hcall]; exact hcount
    · rw [hothers y e]; exact h.countable y
  · have he : u.callEnds = s.callEnds := (congrArg State.callEnds hrest :)
    rw [he]
    refine ⟨h.ends.1, fun y => (h.ends.2 y).trans ?_⟩
    rw [hcalls]; split
    · next e =>
      subst e
      exact iff_of_false (Call.not_ended_of_live hlive) (Call.not_ended_of_live hcl)
    · rfl
  · have hrest' : u = { s with stations := u.stations, calls := u.calls } :=
      (congrArg (fun v : State => ({ v with stations := u.stations, calls := u.calls } : State)) hrest :)
    rw [hrest']
    exact h.rest
  · rw [← h.talk]
    by_cases e : s.stations[b].current = some x
    · obtain ⟨-, t, k2, k3, -⟩ := h.current b x e
      rw [hself b t k2 k3]
      exact iff_of_false (g b t).stationState_talkout.1 (h.not_talkout e)
    · rw [hother b e]
  · rw [(hcur b).2.2.1, (hcur b).2.2.2]; exact h.settings b

theorem State.Wired.fallBack (h : s.Wired loose limbo noCall s0) (hs : s.calls[x].state = .connected)
    (h1 : s.calls[x].standing = 1) (h2 : 1 ≤ s.calls[x].ringing) :
    (s.fallBack x).Wired (fun y => loose y ∧ y ≠ x) limbo noCall s0 ∧ ∀ y, y ≠ x → (s.fallBack x).calls[y] = s.calls[y] := by
  have hst (b : StationId) := foldl_onStation ((s.calls[x].parties.filter fun p => p.state == .active || p.state == .onHold).map (·.station))
    (f := fun r => { r with state := .calling }) (fun _ => rfl) (s.onCall x Call.fallen) b
  have hrest := foldl_onStation_rest ((s.calls[x].parties.filter fun p => p.state == .active || p.state == .onHold).map (·.station))
    (fun r => { r with state := .calling }) (s.onCall x Call.fallen)
  have hu : s.fallBack x = ((s.calls[x].parties.filter fun p => p.state == .active || p.state == .onHold).map (·.station)).foldl
    (fun s a => s.onStation a fun r => { r with state := .calling }) (s.onCall x Call.fallen) := rfl
  simp only [← hu] at hst hrest
  have hcalling (b : StationId) (hb : s.calls[x].has b .active ∨ s.calls[x].has b .onHold) :
      (s.fallBack x).stations[b] = { s.stations[b] with state := .calling } := (hst b).trans (if_pos ((Call.mem_waiting ..).mpr hb))
  have hstay (b : StationId) (hb : ¬(s.calls[x].has b .active ∨ s.calls[x].has b .onHold)) : (s.fallBack x).stations[b] = s.stations[b] :=
    (hst b).trans (if_neg fun k => hb ((Call.mem_waiting ..).mp k))
  clear hst hu
  generalize s.fallBack x = u at *
  have hlive : s.calls[x].live = true := (Call.live_iff _).mpr (Or.inr hs)
  have hcs : u.calls = (s.onCall x Call.fallen).calls := (congrArg State.calls hrest :)
  have hcalls (y : CallId) : u.calls[y] = if x = y then s.calls[x].fallen else s.calls[y] := by
    simp only [hcs]; exact s.onCall_call x y _
  have hcf := s.calls[x].counts_fallen
  have hcount : s.calls[x].fallen.counted := by
    refine ⟨hcf.1.trans h1, hcf.2.symm ▸ h2, ?_⟩
    show (s.calls[x].parties.map Party.waits).length ≤ 4
    rw [List.length_map]
    exact (h.countable x).2 hlive
  have hown {b : StationId} {t : PartyState} (hb : s.calls[x].has b t) (ht : t ≠ .suspended) : s.stations[b].current = some x := by
    have := h.parties x b t hlive hb id
    rw [if_neg ht] at this
    exact this
  refine ⟨h.restate (c := s.calls[x].fallen) (fun _ => PartyState.waits) hlive rfl rfl (Call.has_fallen _).2 hcount.countable (Call.has_fallen _).1
    (fun _ t _ => t.waits_suspended) hcalls (fun b => ?_) (fun b t hb ht => ?_) (fun b hb => ?_) ?_ fun y hy => ?_,
    fun y hy => (hcalls y).trans (if_neg hy.symm)⟩
  · by_cases hb : s.calls[x].has b .active ∨ s.calls[x].has b .onHold
    · exact ⟨_, hcalling b hb⟩
    · exact ⟨_, hstay b hb⟩
  · have hstate : t.stationState = s.stations[b].state := by
      obtain ⟨-, t', k1, -, k3⟩ := h.current b x (hown hb ht)
      rw [Call.has_unique (h.nodup x) hb k1]
      exact k3
    have hno (ht1 : t ≠ .active) (ht2 : t ≠ .onHold) : u.stations[b].state = s.stations[b].state := by
      rw [hstay b fun k => k.elim (fun k => ht1 (Call.has_unique (h.nodup x) hb k)) fun k => ht2 (Call.has_unique (h.nodup x) hb k)]
    cases t
    case active => rw [hcalling b (Or.inl hb)]; rfl
    case onHold => rw [hcalling b (Or.inr hb)]; rfl
    case suspended => exact absurd rfl ht
    all_goals
      rw [hno (by decide) (by decide)]
      exact hstate.symm
  · rw [hstay b fun k => hb (k.elim (fun k => hown k (by decide)) fun k => hown k (by decide))]
  · have hrest' : u = { s.onCall x Call.fallen with stations := u.stations } :=
      (congrArg (fun v : State => ({ v with stations := u.stations } : State)) hrest :)
    rw [hrest']
    rfl
  · split
    · exact hcount
    · next e => exact fun k => hy ⟨k, Ne.symm e⟩

/-- A call is settled (R150). -/
theorem State.Wired.settle (h : s.Wired loose limbo noCall s0) (hem : s.calls[x].priority = .emergency → ∀ y, loose y → y = x) :
    (s.settle x).Wired (fun y => loose y ∧ y ≠ x) limbo noCall s0 ∧
    (s.calls[x].priority ≠ .emergency → ∀ y, y ≠ x → (s.settle x).calls[y] = s.calls[y]) := by
  unfold State.settle
  cases hk : s.calls[x].settling with
  | deplete =>
    refine h.endCall ?_ hem .depleted
    unfold Call.settling at hk
    split at hk
    · cases hk
    · next hl => rw [Bool.not_eq_true', Bool.not_eq_false] at hl; exact hl
  | fallBack =>
    unfold Call.settling at hk
    split at hk
    · cases hk
    · split at hk
      · cases hk
      · split at hk
        · next hc =>
          obtain ⟨h1, h2⟩ := h.fallBack hc.1 hc.2.1 hc.2.2
          exact ⟨h1, fun _ => h2⟩
        · cases hk
  | keep =>
    refine ⟨{ h with counts := fun y hy => ?_ }, fun _ _ _ => rfl⟩
    by_cases e : y = x
    · subst e; exact Call.counted_of_kept (h.countable y) hk
    · exact h.counts y fun k => hy ⟨k, e⟩

end Settling

end Sys2Proof.Machine
end

section
namespace Sys2Proof.Machine

/-! ### The work of a call command (R152 to R159) -/

section CallWork
variable {K : CueEngine → Prop} {kloose opening : Fin 2 → Prop} {s0 s u : State} {loose loose' : CallId → Prop}
  {limbo : StationId → Prop} {a b : StationId} {x y : CallId} {c : Call} {st t : PartyState}

/-- The one call that waits to be settled. -/
abbrev onlyCall (x : CallId) : CallId → Prop := fun y => y = x

theorem State.Wired.loosen (h : s.Wired loose limbo noCall s0) (hl : ∀ y, loose y → loose' y) : s.Wired loose' limbo noCall s0 :=
  { h with counts := fun y hy => h.counts y fun k => hy (hl y k) }

theorem State.Wired.settled (h : s.Wired (fun y => onlyCall x y ∧ y ≠ x) limbo noCall s0) : s.Wired noCall limbo noCall s0 :=
  h.loosen fun _ k => k.2 k.1

/-! #### From the work back to the laws -/

theorem State.cadence_shape (s0 s : State) (hpat : s.ring = s0.ring) (h0 : s0.cadenceLawful = true)
    (hr : s0.ring.cond = if s0.ringingStations = 0 then .stopped else .running) :
    ∃ pl : Player, State.cadence s0 s = { s with ring := pl } ∧ (pl.cond = .stopped ∨ pl.pattern = 3) ∧
      pl.cond = if s.ringingStations = 0 then .stopped else .running := by
  unfold State.cadence
  split
  · next e => exact ⟨_, rfl, Or.inr rfl, by rw [if_neg (by omega)]; rfl⟩
  · next e1 =>
    split
    · next e => exact ⟨_, rfl, Or.inl rfl, by rw [if_pos e.2]; rfl⟩
    · next e2 =>
      refine ⟨s.ring, rfl, ?_, ?_⟩
      · rw [hpat]
        unfold State.cadenceLawful at h0
        rw [Bool.and_eq_true] at h0
        simpa using h0.2
      · rw [hpat, hr]
        by_cases e0 : s0.ringingStations = 0 <;> by_cases eu : s.ringingStations = 0
        · rw [if_pos e0, if_pos eu]
        · exact absurd ⟨e0, by omega⟩ e1
        · exact absurd ⟨by omega, eu⟩ e2
        · rw [if_neg e0, if_neg eu]

/-- Once every call is settled, the report to RC leaves the part at rest. -/
theorem State.Rests.rewired (h : s.Rests K kloose opening) (hw : u.Wired noCall noStation noCall s) :
    (State.cadence s u).Rests K kloose opening := by
  have hb := h.sound.blocks
  obtain ⟨sts, cs, ce, rfl⟩ : ∃ sts cs ce, u = { s with stations := sts, calls := cs, callEnds := ce } :=
    ⟨u.stations, u.calls, u.callEnds, (congrArg
      (fun v : State => ({ v with stations := u.stations, calls := u.calls, callEnds := u.callEnds } : State)) hw.rest :)⟩
  obtain ⟨pl, heq, hpat, hcond⟩ := State.cadence_shape s { s with stations := sts, calls := cs, callEnds := ce } rfl hb.cadence
    ((State.intercom_iff s).mp hb.intercom).ring
  rw [heq]
  have hint : ({ s with stations := sts, calls := cs, callEnds := ce, ring := pl } : State).Intercom :=
    State.Wired.intercom (s0 := { s with ring := pl }) { hw with rest := rfl } hcond
  obtain ⟨h1, h2, -, h4, -⟩ := (State.orders_iff s).mp hb.orders
  obtain ⟨hc1, hc2⟩ := (State.callouts_iff s).mp hb.callouts
  have hblocks : ({ s with stations := sts, calls := cs, callEnds := ce, ring := pl } : State).Blocks kloose opening :=
    { hb with
      orders := (State.orders_iff _).mpr ⟨h1, h2, hw.ends.1, h4, hw.ends.2⟩
      cadence := by
        have hc := hb.cadence
        unfold State.cadenceLawful at hc ⊢
        rw [Bool.and_eq_true] at hc ⊢
        exact ⟨hc.1, by simpa using hpat⟩
      intercom := (State.intercom_iff _).mpr hint
      callouts := (State.callouts_iff _).mpr ⟨fun a => by
        refine (hc1 a).trans ?_
        exact if_congr (hw.talk a).symm rfl rfl, hc2⟩ }
  have hs := h.sound
  exact ⟨⟨hblocks, { hs.gains with
    stations := fun a => by
      obtain ⟨k1, k2⟩ := hw.settings a
      rw [k1, k2]
      exact hs.gains.stations a }, { hs.flags with }, hs.clocks, hs.cue⟩, h.table.congr rfl rfl rfl, h.settled, h.clear⟩

theorem State.Rests.callDone (h : s.Rests K kloose opening) (hw : u.Wired noCall noStation noCall s) (x : CallId)
    (a : Option StationId) (cleared : Bool) : (State.callDone s u x a cleared).Rests K kloose opening := by
  unfold State.callDone
  simp only
  split
  · exact (h.rewired hw).raise ..
  · exact h.rewired hw

theorem State.Rests.wired (h : s.Rests K kloose opening) : s.Wired noCall noStation noCall s :=
  ((State.intercom_iff s).mp h.sound.blocks.intercom).wired h.sound.blocks.orders

/-! #### Ringing, barging and leaving -/

/-- A station without current call is no party of a live call that it has not suspended. -/
theorem State.Wired.outside (h : s.Wired loose limbo noCall s0) (hx : s.calls[x].live = true) (hc : s.stations[a].current = none)
    (hs : s.stations[a].suspended ≠ some x) : a ∉ s.calls[x].stations := fun e => by
  obtain ⟨st, hst⟩ := (Call.mem_stations _ _).mp e
  have := h.parties x a st hx hst id
  split at this
  · exact hs this
  · rw [hc] at this; cases this

/-- The station's suspended call has a current call of EMERGENCY priority above it. -/
theorem State.Wired.suspended_none (h : s.Wired loose limbo noCall s0) (hl : ¬limbo a)
    (hc : ∀ z, s.stations[a].current = some z → s.calls[z].priority ≠ .emergency) : s.stations[a].suspended = none := by
  cases e : s.stations[a].suspended with
  | none => rfl
  | some y =>
    obtain ⟨-, -, -, hl' | ⟨z, hz, hp⟩⟩ := h.suspended a y e
    · exact absurd hl' hl
    · exact absurd hp (hc z hz)

/-- A station is rung in a live call with fewer than four parties (R153). -/
theorem State.Wired.ringStation (h : s.Wired loose limbo noCall s0) (hx : s.calls[x].live = true) (hlen : s.calls[x].parties.length < 4)
    (hc : s.stations[a].current = none) (hst : s.stations[a].state = .idle) (hl : limbo a → s.calls[x].priority = .emergency) :
    (s.ringStation x a).Wired (fun y => loose y ∨ y = x) (fun b => limbo b ∧ b ≠ a) noCall s0 ∧
    (s.ringStation x a).calls[x] = s.calls[x].ring a := by
  have hsusp (y : CallId) (hy : s.stations[a].suspended = some y) :
      y ≠ x ∧ s.calls[x].priority = .emergency := by
    obtain ⟨-, -, hp, hl' | ⟨z, hz, -⟩⟩ := h.suspended a y hy
    · exact ⟨fun e => hp (e ▸ hl hl'), hl hl'⟩
    · rw [hc] at hz; cases hz
  have hout : a ∉ s.calls[x].stations := h.outside hx hc fun e => (hsusp x e).1 rfl
  refine ⟨?_, (State.onCall_call s x x _).trans (if_pos rfl)⟩
  refine h.touch (a := a) (x := x) (r := { s.stations[a] with state := .ringing, current := some x }) (c := s.calls[x].ring a)
    (limbo' := fun b => limbo b ∧ b ≠ a) ?_ (fun b => State.onStation_station (s.onCall x fun c => c.ring a) a b _)
    (fun y => State.onCall_call s x y _) rfl (fun y hy => ?_) fun b hb => (and_iff_left hb).symm
  · refine ⟨rfl, rfl, fun e => (nomatch e), fun z hz => ?_, fun z hz => ⟨?_, Or.inr ⟨x, rfl, (hsusp z hz).2⟩⟩, fun e => (e.2 rfl).elim,
      fun t _ ht _ => ?_, fun z hz => ⟨id, fun e => ?_⟩, fun b hb t => ?_, Call.nodup_ring (h.nodup x) hout, ?_,
      ⟨(fun e => nomatch e), by rw [hst]; exact fun e => nomatch e⟩, rfl, rfl⟩
    · cases hz
      exact ⟨rfl, hx, .ringing, (Call.has_ring ..).mpr (Or.inr ⟨rfl, rfl⟩), (fun e => nomatch e), rfl⟩
    · rw [if_neg (hsusp z hz).1]; exact hz
    · rcases (Call.has_ring ..).mp ht with k | ⟨-, rfl⟩
      · exact absurd ((Call.mem_stations _ _).mpr ⟨t, k⟩) hout
      · rfl
    · rw [hc] at e; cases e
    · rw [Call.has_ring]
      exact ⟨fun e => e.resolve_right fun k => hb k.1, Or.inl⟩
    · obtain ⟨k1, k2, k3⟩ := s.calls[x].counts_ring a
      obtain ⟨h1, -⟩ := h.countable x
      exact ⟨fun e => by rw [k1]; exact h1 e, fun _ => by omega⟩
  · split
    · next e => exact absurd (Or.inr e.symm) hy
    · exact fun k => hy (Or.inl k)

/-- A party goes from its current call of lower priority, which is settled (R153). -/
theorem State.Wired.barge (h : s.Wired loose limbo noCall s0) (hc : s.stations[a].current = some y)
    (hp : s.calls[y].priority ≠ .emergency) :
    (s.barge a y).Wired (fun z => loose z ∧ z ≠ y) (fun b => limbo b ∨ b = a) noCall s0 ∧
    ∀ z, z ≠ y → (s.barge a y).calls[z] = s.calls[z] := by
  obtain ⟨hlive, st, hhas, hst, hstate⟩ := h.current a y hc
  have hnl : ¬limbo a := fun e => by
    rw [(h.between a e).1] at hc; cases hc
  have hsusp : s.stations[a].suspended = none := h.suspended_none hnl fun z hz => by
    rw [hc] at hz; cases hz; exact hp
  have hothers (z : CallId) (hz : z ≠ y) : s.stations[a].current ≠ some z := fun e => by
    rw [hc] at e; cases e; exact hz rfl
  have hcount := Call.counts_remove s.calls[y] a
  obtain ⟨r, c, heq, hpr, hfit⟩ : ∃ r c, s.barge a y = ((s.onCall y fun _ => c).onStation a fun _ => r).settle y ∧
      c.priority = s.calls[y].priority ∧ s.Fits a y r c noCall (limbo a ∨ a = a) := by
    unfold State.barge
    split
    · refine ⟨s.stations[a].leave, s.calls[y].remove a, rfl, rfl, ?_⟩
      refine ⟨rfl, rfl, fun _ => rfl, fun _ e => (nomatch e), fun z hz => ?_, fun _ => rfl, fun t _ ht _ => ?_,
        fun z hz => ⟨id, fun e => absurd e (hothers z hz)⟩, fun b hb t => ?_, Call.nodup_remove (h.nodup y) a, ?_,
        ⟨(fun e => nomatch e), h.not_talkout hc⟩, rfl, rfl⟩
      · exact nomatch hsusp.symm.trans hz
      · exact absurd rfl ((Call.has_remove ..).mp ht).1
      · rw [Call.has_remove]; exact and_iff_right hb
      · obtain ⟨h1, h2⟩ := h.countable y
        exact ⟨fun e => hcount.1.trans (h1 e), fun e => hcount.2.trans (h2 e)⟩
    · next hr =>
      have hring : st ≠ .ringing := fun e => hr (by rw [← hstate, e]; rfl)
      have hstand : st.standing = true := bne_iff_ne.mpr hring
      obtain ⟨k1, k2, k3⟩ := Call.counts_setParty (st := .suspended) (h.nodup y) hhas hstand rfl
      refine ⟨{ s.stations[a] with state := .idle, current := none, suspended := some y }, s.calls[y].setParty a .suspended, rfl, rfl, ?_⟩
      refine ⟨rfl, rfl, fun _ => rfl, fun _ e => (nomatch e), fun z hz => ⟨?_, Or.inl (Or.inr rfl)⟩, fun _ => rfl, fun t _ ht _ => ?_,
          fun z hz => ⟨(fun e => nomatch hsusp.symm.trans e), fun e => absurd e (hothers z hz)⟩, fun b hb t => ?_, ?_, ?_,
          ⟨(fun e => nomatch e), h.not_talkout hc⟩, rfl, rfl⟩
      · cases hz
        rw [if_pos rfl]
        exact ⟨hlive, (Call.has_setParty ..).mpr (Or.inl ⟨rfl, rfl, (Call.mem_stations _ _).mpr ⟨_, hhas⟩⟩), hp⟩
      · rcases (Call.has_setParty ..).mp ht with ⟨-, rfl, -⟩ | ⟨e, -⟩
        · rfl
        · exact absurd rfl e
      · rw [Call.has_setParty]
        exact ⟨fun e => e.elim (fun k => absurd k.1 hb) (·.2), fun e => Or.inr ⟨hb, e⟩⟩
      · rw [Call.stations_setParty]; exact h.nodup y
      · exact Call.countable_congr (c := s.calls[y]) rfl k1 k2 (h.countable y)
  rw [heq]
  have hcalls (z : CallId) : ((s.onCall y fun _ => c).onStation a fun _ => r).calls[z] = if y = z then c else s.calls[z] :=
    State.onCall_call s y z _
  have hw : ((s.onCall y fun _ => c).onStation a fun _ => r).Wired (fun z => loose z ∨ z = y) (fun b => limbo b ∨ b = a) noCall s0 := by
    refine h.touch (limbo' := fun b => limbo b ∨ b = a) hfit (fun b => State.onStation_station (s.onCall y fun _ => c) a b _) hcalls rfl (fun z hz => ?_)
      fun b hb => (or_iff_left hb).symm
    split
    · next e => exact absurd (Or.inr e.symm) hz
    · exact fun k => hz (Or.inl k)
  have hself : ((s.onCall y fun _ => c).onStation a fun _ => r).calls[y].priority ≠ .emergency := by
    rw [(hcalls y).trans (if_pos rfl), hpr]; exact hp
  obtain ⟨k1, k2⟩ := hw.settle fun e => absurd e hself
  exact ⟨k1.loosen fun z hz => ⟨hz.1.resolve_right hz.2, hz.2⟩, fun z hz => (k2 hself z hz).trans ((hcalls z).trans (if_neg hz.symm))⟩

end CallWork

end Sys2Proof.Machine
end

section
namespace Sys2Proof.Machine

section CallWork
variable {K : CueEngine → Prop} {kloose opening : Fin 2 → Prop} {s0 s u : State} {loose loose' : CallId → Prop}
  {limbo : StationId → Prop} {a b : StationId} {x y : CallId} {c : Call} {st t : PartyState}

theorem PartyState.stationState_idle (t : PartyState) : t.stationState = .idle ↔ t = .suspended := by
  cases t <;> exact ⟨(fun e => by cases e <;> rfl), fun e => by cases e <;> rfl⟩

theorem State.Wired.current_none (h : s.Wired loose limbo noCall s0) (hst : s.stations[a].state = .idle) :
    s.stations[a].current = none := by
  cases hc : s.stations[a].current with
  | none => rfl
  | some y =>
    obtain ⟨-, t, -, ht, he⟩ := h.current a y hc
    exact absurd (t.stationState_idle.mp (he.trans hst)) ht

/-- A callee treated in its turn (R153). -/
theorem State.Wired.treat (h : s.Wired (onlyCall x) noStation noCall s0) (hx : s.calls[x].live = true)
    (hlen : s.calls[x].parties.length < 4) (a : StationId) :
    (s.treat x a).1.Wired (onlyCall x) noStation noCall s0 ∧ (s.treat x a).1.calls[x].state = s.calls[x].state ∧
    (s.treat x a).1.calls[x].parties.length ≤ s.calls[x].parties.length + 1 := by
  have hsame : s.Wired (onlyCall x) noStation noCall s0 ∧ s.calls[x].state = s.calls[x].state ∧
    s.calls[x].parties.length ≤ s.calls[x].parties.length + 1 := ⟨h, rfl, Nat.le_succ _⟩
  unfold State.treat
  simp only
  cases hst : s.stations[a].state with
  | idle =>
    obtain ⟨h1, h2⟩ := h.ringStation hx hlen (h.current_none hst) hst fun e => e.elim
    simp only
    rw [h2]
    exact ⟨(h1.loosen fun y hy => hy.elim id id).relimb (fun _ e => e.elim) fun _ e => e.1.elim, rfl, le_of_eq (s.calls[x].counts_ring a).2.2⟩
  | disabled => exact hsame
  | talkout => exact hsame
  | ringing | calling | inCall | onHold =>
    simp only
    split
    · exact hsame
    · next old hc =>
      split
      · exact hsame
      · next hp =>
        rw [not_or, not_not] at hp
        have hne : x ≠ old := fun e => hp.1 (e ▸ hp.2)
        obtain ⟨h1, h2⟩ := h.barge hc hp.1
        have hxx := h2 x hne
        obtain ⟨hc1, hst1⟩ := h1.between a (Or.inr rfl)
        obtain ⟨k1, k2⟩ := h1.ringStation (x := x) (a := a) (by rw [hxx]; exact hx) (by rw [hxx]; exact hlen) hc1 hst1
          fun _ => by rw [hxx]; exact hp.2
        simp only
        rw [k2, hxx]
        exact ⟨(k1.loosen fun y hy => hy.elim (·.1) id).relimb (fun _ e => e.elim) fun b e => absurd (e.1.resolve_left id) e.2, rfl,
          le_of_eq (s.calls[x].counts_ring a).2.2⟩

/-- A change of a call's left-out list is none of the wiring's. -/
theorem State.Wired.leftOut (h : s.Wired loose limbo noCall s0) (x : CallId) (l : List (StationId × LeftReason)) :
    (s.onCall x fun c => { c with leftOut := l }).Wired loose limbo noCall s0 := by
  have hcalls (y : CallId) : ∃ l', (s.onCall x fun c => { c with leftOut := l }).calls[y] = { s.calls[y] with leftOut := l' } := by
    rw [State.onCall_call]
    split
    · next e => subst e; exact ⟨_, rfl⟩
    · exact ⟨_, rfl⟩
  obtain ⟨cs, hcs⟩ : ∃ cs, (s.onCall x fun c => { c with leftOut := l }) = { s with calls := cs } := ⟨_, rfl⟩
  rw [hcs] at hcalls ⊢
  have hp (y : CallId) : cs[y].priority = s.calls[y].priority := by
    obtain ⟨l', e⟩ := hcalls y
    exact (congrArg Call.priority e :)
  refine { h with
    current := fun a y => ?_, suspended := fun a y hy => ?_, parties := fun y => ?_, nodup := fun y => ?_, counts := fun y => ?_
    countable := fun y => ?_, ends := ⟨h.ends.1, fun y => ?_⟩ }
  all_goals obtain ⟨l', e⟩ := hcalls y
  · rw [e]; exact h.current a y
  · obtain ⟨h1, h2, h3, h4⟩ := h.suspended a y hy
    rw [e]
    exact ⟨h1, h2, h3, h4.imp_right fun ⟨z, hz, k⟩ => ⟨z, hz, (hp z).trans k⟩⟩
  · rw [e]; exact h.parties y
  · rw [e]; exact h.nodup y
  · rw [e]; exact h.counts y
  · rw [e]; exact h.countable y
  · rw [e]; exact h.ends.2 y

theorem Call.live_congr {c d : Call} (h : d.state = c.state) : d.live = c.live := by
  unfold Call.live; rw [h]

/-- The callees of a placed call, treated in list order (R152). -/
theorem State.Wired.placeCallees (h : s.Wired (onlyCall x) noStation noCall s0) (hx : s.calls[x].live = true) (l : List StationId)
    (hlen : s.calls[x].parties.length + l.length ≤ 4) : (s.placeCallees x l).1.Wired (onlyCall x) noStation noCall s0 := by
  induction l generalizing s with
  | nil => exact h
  | cons a l ih =>
    rw [List.length_cons] at hlen
    obtain ⟨h1, h2, h3⟩ := h.treat hx (by omega) a
    show ((s.placeCallee x a).1.placeCallees x l).1.Wired _ _ _ _
    unfold State.placeCallee
    split
    next v e =>
      simp only [e] at h1 h2 h3
      have hlen' : v.calls[x].parties.length + l.length ≤ 4 := by omega
      exact ih h1 ((Call.live_congr h2).trans hx) hlen'
    next v why e =>
      simp only [e] at h1 h2 h3
      have hcall := (State.onCall_call v x x fun c => { c with leftOut := c.leftOut ++ [(a, why)] }).trans (if_pos rfl)
      refine ih (h1.leftOut x _) ?_ ?_
      · rw [hcall]; exact (Call.live_congr h2).trans hx
      · rw [hcall]
        show v.calls[x].parties.length + l.length ≤ 4
        omega

/-- A record that is no live call's is set up anew without parties (R152, R167). -/
theorem State.Wired.renew (h : s.Wired loose limbo noCall s0) (hx : s.calls[x].live ≠ true) (hc : c.parties = [])
    (he : c.state ≠ .ended) :
    ({ s.onCall x (fun _ => c) with callEnds := s.callEnds.erase x } : State).Wired
      (fun y => loose y ∨ (y = x ∧ c.live = true)) limbo noCall s0 := by
  obtain ⟨cs, hcs, hcalls⟩ : ∃ cs, s.onCall x (fun _ => c) = { s with calls := cs } ∧
      ∀ y : CallId, cs[y] = if x = y then c else s.calls[y] := ⟨_, rfl, fun y => s.onCall_call x y fun _ => c⟩
  rw [hcs]
  have hself : cs[x] = c := (hcalls x).trans (if_pos rfl)
  have hother (y : CallId) (hy : s.calls[y].live = true) : cs[y] = s.calls[y] := (hcalls y).trans (if_neg fun e : x = y => hx (e ▸ hy))
  have hno (b : StationId) (t : PartyState) : ¬c.has b t := fun ⟨q, hq, _⟩ => by rw [hc] at hq; cases hq
  have hcounts : c.standing = 0 ∧ c.parties.length = 0 := by
    unfold Call.standing
    rw [hc]; exact ⟨rfl, rfl⟩
  refine { h with
    current := fun a y hy => ?_, suspended := fun a y hy => ?_, parties := fun y a t hl hh _ => ?_, nodup := fun y => ?_
    counts := fun y hy => ?_, countable := fun y => ?_, ends := ⟨h.ends.1.erase x, fun y => ?_⟩ }
  · have := h.current a y hy
    rw [hother y this.1]; exact this
  · obtain ⟨h1, h2, h3, h4⟩ := h.suspended a y hy
    rw [hother y h1]
    refine ⟨h1, h2, h3, h4.imp_right fun ⟨z, hz, k⟩ => ⟨z, hz, ?_⟩⟩
    have := (h.current a z hz).1
    rw [hother z this]; exact k
  all_goals by_cases e : y = x
  · subst e
    simp only [hself] at hh
    exact absurd hh (hno a t)
  · simp only [(hcalls y).trans (if_neg (Ne.symm e))] at hl hh
    exact h.parties y a t hl hh id
  · subst e
    show cs[y].stations.Nodup
    rw [hself]
    unfold Call.stations
    rw [hc]; exact List.nodup_nil
  · show cs[y].stations.Nodup
    rw [(hcalls y).trans (if_neg (Ne.symm e))]; exact h.nodup y
  · subst e
    show cs[y].counted
    rw [hself]
    exact Call.counted_of_dead fun k => hy (Or.inr ⟨rfl, k⟩)
  · show cs[y].counted
    rw [(hcalls y).trans (if_neg (Ne.symm e))]; exact h.counts y fun k => hy (Or.inl k)
  · subst e
    show cs[y].countable
    rw [hself]
    exact ⟨fun _ => by omega, fun _ => by omega⟩
  · show cs[y].countable
    rw [(hcalls y).trans (if_neg (Ne.symm e))]; exact h.countable y
  · subst e
    show y ∈ s.callEnds.erase y ↔ cs[y].state = .ended
    rw [hself]
    exact iff_of_false (fun k => (List.Nodup.mem_erase_iff h.ends.1).mp k |>.1 rfl) he
  · show y ∈ s.callEnds.erase x ↔ cs[y].state = .ended
    rw [(hcalls y).trans (if_neg (Ne.symm e)), List.Nodup.mem_erase_iff h.ends.1]
    exact (and_iff_right e).trans (h.ends.2 y)

/-- The record that a placed call takes, with its parties (R152). -/
def CallRequest.record (q : CallRequest) (parties : List Party) : Call :=
  { state := .ringing, priority := q.priority, ringTime := q.ringTime, parties := parties
    leftOut := [], endCause := none }

/-- The record set up with its originator CALLING (R152). -/
theorem State.Wired.newCall {q : CallRequest} (h : s.Wired noCall noStation noCall s0) (hx : s.calls[x].live ≠ true)
    (ho : s.stations[q.originator].state = .idle) :
    (s.newCall x q).Wired (onlyCall x) noStation noCall s0 ∧ (s.newCall x q).calls[x].state = .ringing ∧
      (s.newCall x q).calls[x].parties.length = 1 := by
  have hcall (y : CallId) : (s.newCall x q).calls[y] = if x = y then q.record [⟨q.originator, .calling, none⟩] else s.calls[y] := State.onCall_call _ x y _
  have hself := (hcall x).trans (if_pos rfl)
  refine ⟨?_, by rw [hself]; rfl, by rw [hself]; rfl⟩
  have h0 := h.renew (c := q.record []) hx rfl (fun e => nomatch e)
  have hcur := h.current_none ho
  have hsusp : s.stations[q.originator].suspended = none := h.suspended_none id fun z hz => by rw [hcur] at hz; cases hz
  have hc0 (y : CallId) : ({ s.onCall x (fun _ => q.record []) with callEnds := s.callEnds.erase x } : State).calls[y] =
      if x = y then q.record [] else s.calls[y] := State.onCall_call _ x y _
  have hself0 := (hc0 x).trans (if_pos rfl)
  have hhas (b : StationId) (t : PartyState) : (q.record [⟨q.originator, .calling, none⟩]).has b t ↔ b = q.originator ∧ t = .calling := by
    unfold Call.has
    show (∃ p ∈ [(⟨q.originator, .calling, none⟩ : Party)], _) ↔ _
    simp only [List.mem_singleton, exists_eq_left]
    exact and_congr eq_comm eq_comm
  refine h0.touch (a := q.originator) (x := x) (c := q.record [⟨q.originator, .calling, none⟩]) (r := { s.stations[q.originator] with state := .calling, current := some x })
    (limbo' := noStation) ?_ (fun b => State.onStation_station _ _ b _) (fun y => ?_) rfl (fun y hy => ?_) fun _ _ => Iff.rfl
  · refine ⟨by rw [hself0]; rfl, by rw [hself0]; rfl, fun e => (nomatch e), fun y hy => ?_, (fun y hy => nomatch hsusp.symm.trans hy), fun e => e.elim,
      fun t _ ht _ => ?_, fun z hz => ⟨id, fun e => nomatch hcur.symm.trans e⟩, fun b hb t => ?_, List.nodup_singleton _, ?_,
      ⟨(fun e => nomatch e), fun e => nomatch ho.symm.trans e⟩, rfl, rfl⟩
    · cases hy
      exact ⟨rfl, rfl, .calling, (hhas ..).mpr ⟨rfl, rfl⟩, (fun e => nomatch e), rfl⟩
    · rw [((hhas ..).mp ht).2]; rfl
    · rw [hself0]
      refine iff_of_false (fun e => hb ((hhas ..).mp e).1) fun ⟨p, hp, _⟩ => nomatch hp
    · exact ⟨fun _ => le_of_eq rfl, fun _ => by show 1 ≤ 4; omega⟩
  · rw [hcall, hc0]
    split <;> rfl
  · split
    · next e => exact absurd e.symm hy
    · next e => exact fun k => k.elim id fun k => e k.1.symm

theorem State.callRecord_dead (h : ∀ x : CallId, x ∈ s.callEnds ↔ s.calls[x].state = .ended) (hx : s.callRecord = some x) :
    s.calls[x].live ≠ true := by
  rw [ne_eq, Call.live_iff]
  unfold State.callRecord at hx
  split at hx
  · next y hf =>
    cases hx
    have : s.calls[x].state = .free := by simpa using List.find?_some hf
    rw [this]
    simp
  · rw [(h x).mp (List.mem_of_mem_head? hx)]
    simp

/-- A placed call settles into the part at rest (R152). -/
theorem State.Rests.placeCall {q : CallRequest} (h : s.Rests K kloose opening) (hx : s.callRecord = some x)
    (ho : s.stations[q.originator].state = .idle) (hlen : q.callees.length ≤ 3) : (s.placeCall x q).1.Rests K kloose opening := by
  have hw := h.wired
  obtain ⟨h1, h2, h3⟩ := hw.newCall (State.callRecord_dead hw.ends.2 hx) ho
  have h4 := h1.placeCallees ((Call.live_iff _).mpr (Or.inl h2)) q.callees (by omega)
  exact h.callDone (h4.settle fun _ _ e => e).1.settled x none false

/-- A station leaves its current call, which is settled (R155, R158). -/
theorem State.Wired.leaveCall (h : s.Wired noCall noStation noCall s0) (hc : s.stations[a].current = some x) :
    (s.leaveCall x a).Wired noCall noStation noCall s0 := by
  obtain ⟨hlive, st, hhas, hst, hstate⟩ := h.current a x hc
  have hcount := Call.counts_remove s.calls[x] a
  have hstations (b : StationId) := State.onStation_station (s.onCall x fun c => c.remove a) a b Station.leave
  have hcalls (y : CallId) : ((s.onCall x fun c => c.remove a).onStation a Station.leave).calls[y] =
      if x = y then s.calls[x].remove a else s.calls[y] := State.onCall_call s x y _
  have hneq (y : CallId) (hy : s.stations[a].suspended = some y) : y ≠ x ∧ s.calls[x].priority = .emergency := by
    obtain ⟨-, k1, k2, k3 | ⟨z, hz, hp⟩⟩ := h.suspended a y hy
    · exact k3.elim
    · rw [hc] at hz; cases hz
      exact ⟨fun e => k2 (e ▸ hp), hp⟩
  have h1 : ((s.onCall x fun c => c.remove a).onStation a Station.leave).Wired (onlyCall x) (fun b => b = a) noCall s0 := by
    refine h.touch (a := a) (x := x) (r := s.stations[a].leave) (c := s.calls[x].remove a) ?_ hstations hcalls rfl (fun y hy => ?_)
      fun b hb => iff_of_false id hb
    · refine ⟨rfl, rfl, fun _ => rfl, fun _ e => (nomatch e), fun z hz => ⟨?_, Or.inl rfl⟩, fun _ => rfl, fun t _ ht _ => ?_,
        fun z hz => ⟨id, fun e => ?_⟩, fun b hb t => ?_, Call.nodup_remove (h.nodup x) a, ?_,
        ⟨(fun e => nomatch e), h.not_talkout hc⟩, rfl, rfl⟩
      · rw [if_neg (hneq z hz).1]; exact hz
      · exact absurd rfl ((Call.has_remove ..).mp ht).1
      · rw [hc] at e; cases e; exact absurd rfl hz
      · rw [Call.has_remove]; exact and_iff_right hb
      · obtain ⟨h1, h2⟩ := h.countable x
        exact ⟨fun e => hcount.1.trans (h1 e), fun e => hcount.2.trans (h2 e)⟩
    · split
      · next e => exact absurd e.symm hy
      · exact id
  have hself : ((s.onCall x fun c => c.remove a).onStation a Station.leave).stations[a] = s.stations[a].leave :=
    (hstations a).trans (if_pos rfl)
  unfold State.leaveCall
  simp only
  generalize (s.onCall x fun c => c.remove a).onStation a Station.leave = v at *
  split
  · obtain ⟨h2, -⟩ := h1.recall (a := a) rfl fun y hy => by
      rw [hself] at hy
      exact ⟨(hneq y hy).1, id⟩
    exact ((h2.relimb (fun _ e => e.elim) fun _ e => absurd e.1 e.2).settle fun _ _ e => e).1.settled
  · next he =>
    refine ((h1.relimb (limbo' := noStation) (fun _ e => e.elim) fun b e _ => ?_).settle fun _ _ e => e).1.settled
    rw [e, hself]
    cases hs : s.stations[a].suspended with
    | none => exact hs
    | some y => exact absurd (hneq y hs).2 he

/-- A standing party holds or is retrieved (R157). -/
theorem State.Wired.setHold (h : s.Wired noCall noStation noCall s0) (hc : s.stations[a].current = some x) (hold : Bool)
    (hst : s.stations[a].state = .inCall ∨ s.stations[a].state = .onHold) : (s.setHold x a hold).Wired noCall noStation noCall s0 := by
  obtain ⟨hlive, t, hhas, ht, hstate⟩ := h.current a x hc
  have hstand : t.standing = true := by
    refine bne_iff_ne.mpr fun e => ?_
    rw [← hstate, e] at hst
    exact hst.elim (fun e => nomatch e) fun e => nomatch e
  obtain ⟨st, rs, hst1, hst2, hst3, heq⟩ : ∃ (st : PartyState) (rs : StationState), st.standing = true ∧ st ≠ .suspended ∧
      st.stationState = rs ∧ s.setHold x a hold =
        (s.onCall x fun c => c.setParty a st).onStation a fun r => { r with state := rs } := by
    cases hold
    · exact ⟨.active, .inCall, rfl, (fun e => nomatch e), rfl, rfl⟩
    · exact ⟨.onHold, .onHold, rfl, (fun e => nomatch e), rfl, rfl⟩
  rw [heq]
  have hcounts := Call.counts_setParty (st := st) (h.nodup x) hhas hstand hst1
  have hcounted : (s.calls[x].setParty a st).counted :=
    Call.counted_congr (c := s.calls[x]) rfl hcounts.1 hcounts.2.1 (h.counts x id)
  refine h.touch (a := a) (x := x) (r := { s.stations[a] with state := rs }) (c := s.calls[x].setParty a st) (limbo' := noStation) ?_
    (fun b => State.onStation_station (s.onCall x fun c => c.setParty a st) a b _) (fun y => State.onCall_call s x y _) rfl (fun y _ => ?_)
    fun _ _ => Iff.rfl
  · refine ⟨rfl, rfl, (fun e => nomatch hc.symm.trans e), fun y hy => ?_, fun z hz => ?_, fun e => e.elim, fun p _ hp _ => ?_,
      fun z hz => ⟨id, id⟩, fun b hb p => ?_, ?_, hcounted.countable, ⟨fun e => st.stationState_talkout.1 (hst3.trans e), h.not_talkout hc⟩,
      rfl, rfl⟩
    · cases hc.symm.trans hy
      exact ⟨rfl, hlive, st, (Call.has_setParty ..).mpr (Or.inl ⟨rfl, rfl, (Call.mem_stations _ _).mpr ⟨_, hhas⟩⟩), hst2, hst3⟩
    · obtain ⟨-, k1, -, k⟩ := h.suspended a z hz
      refine ⟨?_, k⟩
      rw [if_neg fun e : z = x => ht (Call.has_unique (h.nodup x) hhas (e ▸ k1))]
      exact hz
    · rcases (Call.has_setParty ..).mp hp with ⟨-, rfl, -⟩ | ⟨e, -⟩
      · rw [if_neg hst2]; exact hc
      · exact absurd rfl e
    · rw [Call.has_setParty]
      exact ⟨fun e => e.elim (fun k => absurd k.1 hb) (·.2), fun e => Or.inr ⟨hb, e⟩⟩
    · rw [Call.stations_setParty]; exact h.nodup x
  · split
    · exact hcounted
    · exact id

/-- The state of a party once the station has answered (R154). -/
def Call.answerState (c : Call) (a b : StationId) (t : PartyState) : PartyState :=
  if b = a then .active else if c.state = .ringing ∧ t = .calling then .active else t

/-- A party once the station has answered. -/
def Call.answerParty (c : Call) (a : StationId) (p : Party) : Party :=
  let q := if p.station = a then { p with state := .active, timer := none } else p
  if c.state = .ringing ∧ q.state = .calling then { q with state := .active } else q

theorem Call.has_answered (c : Call) (a : StationId) :
    (∀ b t, (c.answered a).has b t ↔ ∃ t', c.has b t' ∧ t = c.answerState a b t') ∧ (c.answered a).stations = c.stations := by
  refine Call.has_map (c.answerParty a) (c.answerState a) ?_ fun p => ?_
  · unfold Call.answered Call.answerParty
    by_cases hr : c.state = .ringing
    · rw [if_pos hr]
      simp only [Call.setParty, List.map_map, hr, true_and]
      rfl
    · rw [if_neg hr]
      simp only [Call.setParty, hr, false_and, if_false]
  · unfold Call.answerParty Call.answerState
    by_cases hb : p.station = a
    · simp [hb]
    · simp only [if_neg hb]
      split <;> exact ⟨rfl, rfl⟩

/-- The callers of a call that connects (R154). -/
theorem Call.mem_callers (c : Call) (b : StationId) :
    b ∈ (if c.state = .ringing then (c.parties.filter fun p => p.state == .calling).map (·.station) else []) ↔
      c.state = .ringing ∧ c.has b .calling := by
  unfold Call.has
  split
  · next e => simp only [List.mem_map, List.mem_filter, beq_iff_eq, e, true_and, and_assoc, and_comm (a := Party.state _ = _)]
  · next e => simp [e]

/-- A station answers the call that it rings in (R154). -/
theorem State.Wired.answer (h : s.Wired noCall noStation noCall s0) (hc : s.stations[a].current = some x)
    (hst : s.stations[a].state = .ringing) : (s.answer x a).Wired noCall noStation noCall s0 := by
  obtain ⟨hlive, t, hhas, ht, hstate⟩ := h.current a x hc
  have hring : t = .ringing := by
    rw [hst] at hstate
    cases t with
    | ringing => rfl
    | _ => exact nomatch hstate
  rw [hring] at hhas
  have hcaller := s.calls[x].mem_callers
  unfold State.answer
  simp only
  generalize (if s.calls[x].state = .ringing then (s.calls[x].parties.filter fun p => p.state == .calling).map (·.station) else []) =
    callers at *
  have hstations (b : StationId) := foldl_onStation (a :: callers) (f := fun r => { r with state := .inCall }) (fun _ => rfl)
    (s.onCall x fun c => c.answered a) b
  have hrest := foldl_onStation_rest (a :: callers) (fun r => { r with state := .inCall }) (s.onCall x fun c => c.answered a)
  generalize (a :: callers).foldl (fun s b => s.onStation b fun r => { r with state := .inCall }) (s.onCall x fun c => c.answered a) = u at *
  have hin (b : StationId) (hb : b ∈ a :: callers) : u.stations[b] = { s.stations[b] with state := .inCall } :=
    (hstations b).trans (if_pos hb)
  have hout (b : StationId) (hb : b ∉ a :: callers) : u.stations[b] = s.stations[b] := (hstations b).trans (if_neg hb)
  clear hstations
  have hown {b : StationId} {t : PartyState} (hb : s.calls[x].has b t) (ht : t ≠ .suspended) : s.stations[b].current = some x := by
    have := h.parties x b t hlive hb id
    rw [if_neg ht] at this
    exact this
  have hcs : u.calls = (s.onCall x fun c => c.answered a).calls := (congrArg State.calls hrest :)
  have hcalls (y : CallId) : u.calls[y] = if x = y then s.calls[x].answered a else s.calls[y] := by
    simp only [hcs]; exact s.onCall_call x y _
  obtain ⟨hmap, hsame⟩ := s.calls[x].has_answered a
  have hconn : (s.calls[x].answered a).state = .connected ∧ (s.calls[x].answered a).priority = s.calls[x].priority := by
    unfold Call.answered
    simp only
    split
    · exact ⟨rfl, rfl⟩
    · next e => exact ⟨((Call.live_iff _).mp hlive).resolve_left e, rfl⟩
  have hlen : (s.calls[x].answered a).parties.length ≤ 4 := by
    have := congrArg List.length hsame
    unfold Call.stations at this
    rw [List.length_map, List.length_map] at this
    exact this ▸ (h.countable x).2 hlive
  refine ((h.restate (loose' := onlyCall x) (s.calls[x].answerState a) hlive ((Call.live_iff _).mpr (Or.inr hconn.1)) hconn.2 hsame
    ⟨(fun e => nomatch hconn.1.symm.trans e), fun _ => hlen⟩ hmap (fun b t hb => ?_) hcalls (fun b => ?_) (fun b t hb ht => ?_)
    (fun b hb => ?_) ?_ fun y hy => ?_).settle fun _ _ e => e).1.settled
  · unfold Call.answerState
    split
    · next e =>
      subst e
      rw [Call.has_unique (h.nodup x) hb hhas]
      exact iff_of_false (fun e => nomatch e) fun e => nomatch e
    · split
      · next e => rw [e.2]; exact iff_of_false (fun e => nomatch e) fun e => nomatch e
      · rfl
  · by_cases hb : b ∈ a :: callers
    · exact ⟨_, hin b hb⟩
    · exact ⟨_, hout b hb⟩
  · unfold Call.answerState
    split
    · next e => rw [hin b (e ▸ List.mem_cons_self)]; rfl
    · next hne =>
      split
      · next e => rw [hin b (List.mem_cons_of_mem _ ((hcaller b).mpr ⟨e.1, e.2 ▸ hb⟩))]; rfl
      · next e =>
        obtain ⟨-, t', k1, -, k3⟩ := h.current b x (hown hb ht)
        rw [hout b fun k => (List.mem_cons.mp k).elim hne fun k => e ((hcaller b).mp k |>.imp_right fun k =>
          Call.has_unique (h.nodup x) hb k), Call.has_unique (h.nodup x) hb k1]
        exact k3.symm
  · rw [hout b fun k => hb ((List.mem_cons.mp k).elim (fun e => e ▸ hc) fun k => hown ((hcaller b).mp k).2 (by decide))]
  · have hrest' : u = { s.onCall x fun c => c.answered a with stations := u.stations } :=
      (congrArg (fun v : State => ({ v with stations := u.stations } : State)) hrest :)
    rw [hrest']
    rfl
  · split
    · next e => exact absurd e.symm hy
    · exact id

end CallWork

end Sys2Proof.Machine
end

section
namespace Sys2Proof.Machine

/-! ### The intercom's commands and events keep the laws (chapter 7) -/

section Intercommands
variable {s u : State} {a : StationId} {x : CallId} {tx : Txn}

theorem execCallPlace_atLaw (h : s.AtLaw) {originator priority : Byte} {ringTime : BitVec 24} {callees : List Byte}
    (he : execCallPlace tx originator priority ringTime callees s = .next u) : u.AtLaw := by
  refine portCommand_atLaw h (fun v hv => ?_) he
  split
  · exact hv
  · split
    · exact hv
    · next q hq =>
      split
      · exact hv
      · split
        · exact hv
        · next ho =>
          split
          · exact hv
          · next x hx =>
            refine hv.placeCall hx (not_not.mp ho) ?_
            unfold callRequest? at hq
            split at hq
            · split at hq
              · next hok =>
                cases hq
                simp only [Bool.and_eq_true, inRange, decide_eq_true_eq] at hok
                exact hok.1.1.2.2
              · cases hq
            · cases hq

theorem execCallAnswer_atLaw (h : s.AtLaw) {station : Byte} (he : execCallAnswer tx station s = .next u) : u.AtLaw := by
  refine portCommand_atLaw h (fun v hv => ?_) he
  split
  · exact hv
  · split
    · exact hv
    · next a _ =>
      split
      · next x hst hc => exact hv.callDone (hv.wired.answer hc hst) x (some a) false
      · exact hv

theorem execCallAdd_atLaw (h : s.AtLaw) {call station : Byte} (he : execCallAdd tx call station s = .next u) : u.AtLaw := by
  refine portCommand_atLaw h (fun v hv => ?_) he
  split
  · exact hv
  · split
    · next x a _ _ =>
      simp only
      split
      · exact hv
      · split
        · exact hv
        · next hst =>
          split
          · exact hv
          · next hlen =>
            split
            · exact hv
            · have ht := (hv.wired.loosen (loose' := onlyCall x) fun _ k => k.elim).treat
                ((Call.live_iff _).mpr (Or.inr (not_not.mp hst))) (Nat.lt_of_not_le hlen) a
              split
              · exact hv
              · next w e =>
                rw [e] at ht
                exact hv.callDone (ht.1.settle fun _ _ k => k).1.settled x none false
    · exact hv

/-- A rewiring that no report to RC follows. -/
theorem State.Rests.unrung {K : CueEngine → Prop} {loose opening : Fin 2 → Prop} (h : s.Rests K loose opening)
    (hw : u.Wired noCall noStation noCall s) (hn : u.ringingStations = s.ringingStations) : u.Rests K loose opening := by
  have := h.rewired hw
  unfold State.cadence at this
  rw [if_neg (by omega), if_neg (by omega)] at this
  exact this

theorem State.AtLaw.setHold (h : s.AtLaw) (hc : s.stations[a].current = some x) (hold : Bool)
    (hst : s.stations[a].state = .inCall ∨ s.stations[a].state = .onHold) : (s.setHold x a hold).AtLaw := by
  refine h.unrung (h.wired.setHold hc hold hst) ?_
  unfold State.ringingStations
  refine List.countP_congr fun b _ => ?_
  have hb : (s.setHold x a hold).stations[b] = if a = b then
      { s.stations[a] with state := if hold then .onHold else .inCall } else s.stations[b] := State.onStation_station _ a b _
  rw [hb]
  split
  · next e =>
    subst e
    have h1 : (s.stations[a].state == .ringing || s.stations[a].state == .calling) = false := by
      rcases hst with e | e <;> rw [e] <;> rfl
    rw [h1]
    cases hold <;> rfl
  · rfl

theorem execCallHold_atLaw (h : s.AtLaw) {station : Byte} (he : execCallHold tx station s = .next u) : u.AtLaw := by
  refine portCommand_atLaw h (fun v hv => ?_) he
  split
  · exact hv
  · split
    · exact hv
    · split
      · next x hst hc => exact State.AtLaw.setHold hv hc true (Or.inl hst)
      · exact hv

theorem execCallRetrieve_atLaw (h : s.AtLaw) {station : Byte} (he : execCallRetrieve tx station s = .next u) : u.AtLaw := by
  refine portCommand_atLaw h (fun v hv => ?_) he
  split
  · exact hv
  · split
    · exact hv
    · split
      · next x hst hc => exact State.AtLaw.setHold hv hc false (Or.inr hst)
      · exact hv

theorem execCallLeave_atLaw (h : s.AtLaw) {station : Byte} (he : execCallLeave tx station s = .next u) : u.AtLaw := by
  refine portCommand_atLaw h (fun v hv => ?_) he
  split
  · exact hv
  · split
    · exact hv
    · next a _ =>
      split
      · exact hv
      · next x hc => exact hv.callDone (hv.wired.leaveCall hc) x (some a) false

theorem execCallEnd_atLaw (h : s.AtLaw) {call : Byte} (he : execCallEnd tx call s = .next u) : u.AtLaw := by
  refine portCommand_atLaw h (fun v hv => ?_) he
  split
  · exact hv
  · split
    · exact hv
    · next x _ =>
      split
      · exact hv
      · next hf =>
        split
        · exact hv
        · next hen =>
          have hlive : v.calls[x].live = true := by
            rw [Call.live_iff]
            revert hf hen
            cases v.calls[x].state <;> simp
          exact hv.callDone ((hv.wired.endCall hlive (fun _ _ k => k.elim) .cleared).1.loosen fun _ k => k.1) x none true

theorem execReadStation_atLaw (h : s.AtLaw) {station : Byte} (he : execReadStation tx station s = .next u) : u.AtLaw := by
  refine portCommand_atLaw h (fun v hv => ?_) he
  split <;> exact hv

theorem execReadCall_atLaw (h : s.AtLaw) {call : Byte} (he : execReadCall tx call s = .next u) : u.AtLaw := by
  refine portCommand_atLaw h (fun v hv => ?_) he
  split
  · exact hv
  · next x _ =>
    simp only
    split
    · exact hv
    · show State.AtLaw (if v.calls[x].state = .ended ∧ tx.port = .icm then _ else v)
      split
      · next hst =>
        refine hv.unrung ((hv.wired.renew (c := Call.free) ?_ rfl fun e => nomatch e).loosen fun y hy => ?_) rfl
        · rw [ne_eq, Call.live_iff, hst.1]; simp
        · exact hy.elim id fun k => nomatch k.2
      · exact hv

theorem clamped_le {n : Nat} (h : n ≤ unity) (g : Option Nat) : (g.map clampGain).getD n ≤ unity := by
  cases g with
  | none => exact h
  | some g => exact Nat.min_le_right _ _

/-- A station that is in no call is set up (R148). -/
theorem State.Rests.configure {K : CueEngine → Prop} {loose opening : Fin 2 → Prop} (h : s.Rests K loose opening) {r : Station}
    (hcur : r.current = s.stations[a].current ∧ r.suspended = s.stations[a].suspended)
    (hst : r.state = s.stations[a].state ∨ ((s.stations[a].state = .idle ∨ s.stations[a].state = .disabled) ∧
      (r.state = .idle ∨ r.state = .disabled))) (hg : r.receive ≤ unity ∧ r.feed ≤ unity) :
    (s.onStation a fun _ => r).Rests K loose opening := by
  have hsts (b : StationId) : (s.onStation a fun _ => r).stations[b] = if a = b then r else s.stations[b] :=
    State.onStation_station s a b _
  have hb := h.sound.blocks
  have hint : (s.onStation a fun _ => r).Intercom := by
    have hi := (State.intercom_iff s).mp hb.intercom
    refine hi.moved rfl rfl (fun b => ?_) fun b => ?_
    · rw [hsts]; split
      · next e => subst e; exact hcur
      · exact ⟨rfl, rfl⟩
    · rw [hsts]; split
      · next e =>
        subst e
        exact hst.imp_right fun ⟨h1, h2⟩ => ⟨hi.current_of_free (Or.inr h1), h2.imp_right Or.inr⟩
      · exact Or.inl rfl
  obtain ⟨hc1, hc2⟩ := (State.callouts_iff s).mp hb.callouts
  have htalk (b : StationId) : (s.onStation a fun _ => r).stations[b].state = .talkout ↔ s.stations[b].state = .talkout := by
    rw [hsts]; split
    · next e =>
      subst e
      rcases hst with e | ⟨e1 | e1, e2 | e2⟩
      · rw [e]
      all_goals exact iff_of_false (fun e => nomatch e2.symm.trans e) fun e => nomatch e1.symm.trans e
    · rfl
  have hblocks : (s.onStation a fun _ => r).Blocks loose opening :=
    { hb with
      intercom := (State.intercom_iff _).mpr hint
      callouts := (State.callouts_iff _).mpr ⟨fun b => (hc1 b).trans (if_congr (htalk b).symm rfl rfl), hc2⟩ }
  have hs := h.sound
  exact ⟨⟨hblocks, { hs.gains with
    stations := fun b => by
      rw [hsts]; split
      · exact hg
      · exact hs.gains.stations b }, { hs.flags with }, hs.clocks, hs.cue⟩, h.table.congr rfl rfl rfl, h.settled, h.clear⟩

theorem execSetStation_atLaw (h : s.AtLaw) {station home service : Byte} {receive feed : BitVec 16}
    (he : execSetStation tx station home receive feed service s = .next u) : u.AtLaw := by
  refine portCommand_atLaw h (fun v hv => ?_) he
  split
  · exact hv
  · split
    · next a hm sv _ _ _ =>
      simp only
      split
      · exact hv
      · next hbusy =>
        refine State.Rests.configure hv (r := v.stations[a].configured hm (opt receive) (opt feed) sv) ⟨rfl, rfl⟩ ?_ ?_
        · unfold Station.configured
          cases sv with
          | none => exact Or.inl rfl
          | some b =>
            cases b
            · simp only
              split
              · next e => exact Or.inr ⟨Or.inr e, Or.inl rfl⟩
              · exact Or.inl rfl
            · refine Or.inr ⟨?_, Or.inr rfl⟩
              by_contra k
              exact hbusy ⟨rfl, fun e => k (Or.inl e), fun e => k (Or.inr e)⟩
        · obtain ⟨h1, h2⟩ := hv.sound.gains.stations a
          exact ⟨clamped_le h1 _, clamped_le h2 _⟩
    · exact hv

theorem execRingTimerExpiry_atLaw (h : s.AtLaw) (he : execRingTimerExpiry x a s = .next u) : u.AtLaw := by
  refine partEvent_atLaw ?_ he
  split
  · next hd =>
    have hw := h.wired
    unfold Call.ringDue at hd
    simp only [Bool.and_eq_true, Option.any_eq_true, beq_iff_eq] at hd
    obtain ⟨hl, q, hq, hst, -⟩ := hd
    obtain ⟨hm, rfl⟩ := (Call.party_iff (hw.nodup x) q).mp hq
    have := hw.parties x q.station q.state hl ⟨q, hm, rfl, rfl⟩ id
    rw [if_neg (by rw [hst]; decide)] at this
    exact (h.rewired (hw.leaveCall this)).raise ..
  · exact h

end Intercommands

end Sys2Proof.Machine
end

section
namespace Sys2Proof.Machine

/-! ### An execution of the cue engine (R175 to R181)

While an execution is under way the engine is in PRIMING without a bound or a start set yet: `Running` is the law it keeps then. -/

/-- The list is lawful and the standby cue is one of it. -/
structure CueEngine.Listed (c : CueEngine) : Prop where
  list : c.listLawful = true
  standby : ∀ m, c.standby = some m → (c.find m).isSome = true

/-- An execution of cue `n` is under way. -/
structure CueEngine.Running (n : Nat) (c : CueEngine) : Prop extends c.Listed where
  state : c.state = .priming
  executing : c.executing = some n
  found : (c.find n).isSome = true
  countdown : c.countdown = none

section Executing
variable {K K' : CueEngine → Prop} {loose opening : Fin 2 → Prop} {s t u w : State} {p : ProgId} {slot : Fin 8} {n i : Nat}
  {bed quiet : Bool} {src : Nat} {zs : ZoneSet} {c : CueEngine}

theorem CueEngine.running_stable (n : Nat) : CueEngine.Stable (CueEngine.Running n) where
  taken c h := by
    rw [CueEngine.taken_of_priming h.state]
    exact { h with }
  route c k f h := { h with }

theorem CueEngine.Lawful.listed (h : c.Lawful) : c.Listed :=
  ⟨h.1, ((CueEngine.stateLawful_iff c).mp h.2).2.2.2.2.2.1⟩

theorem State.Rests.recue (h : s.Rests K loose opening) (hk : K' s.cue) : s.Rests K' loose opening :=
  ⟨⟨h.sound.blocks, h.sound.gains, h.sound.flags, h.sound.clocks, hk⟩, h.table, h.settled, h.clear⟩

/-- A change of the cue engine that keeps the laws of its slots. -/
theorem State.Sound.reroute (h : s.Sound K loose opening) {f : CueEngine → CueEngine} (hk : K' (f s.cue))
    (hr : (s.onCue f).routesLawful = true) : (s.onCue f).Sound K' loose opening :=
  ⟨{ h.blocks with routes := hr }, { h.gains with }, { h.flags with }, h.clocks, hk⟩

theorem State.Rests.reroute (h : s.Rests K loose opening) {f : CueEngine → CueEngine} (hk : K' (f s.cue))
    (hr : (s.onCue f).routesLawful = true) : (s.onCue f).Rests K' loose opening :=
  ⟨h.sound.reroute hk hr, h.table.congr rfl rfl rfl, h.settled, h.clear⟩

/-- A change of the cue engine beside its slots. -/
theorem State.Rests.onCue (h : s.Rests K loose opening) {f : CueEngine → CueEngine} (hk : K' (f s.cue))
    (hs : (f s.cue).slots = s.cue.slots) : (s.onCue f).Rests K' loose opening := by
  refine h.reroute hk ((State.routes_iff _).mpr fun k => ?_)
  show (∀ p, (f s.cue).slots[k].showProg = some p → _) ∧ ∀ p, (f s.cue).slots[k].bedProg = some p → _
  rw [hs]
  exact (State.routes_iff s).mp h.sound.blocks.routes k

theorem CueEngine.onRoute_slot (c : CueEngine) (j k : Fin 8) (f : RouteSlot → RouteSlot) :
    (c.onRoute j f).slots[k] = if j = k then f c.slots[k] else c.slots[k] := by
  refine (getElem_adjust_fin c.slots j k f).trans ?_
  split
  · next e => subst e; rfl
  · rfl

/-- A slot's programs of one part. -/
theorem State.routes_of_parts (s : State) : s.routesLawful = true ↔ ∀ (k : Fin 8) (bed : Bool) (p : ProgId),
    s.cue.slots[k].part bed = some p → s.progs[p].isOpen = true ∧ s.progs[p].routeSlot = some k ∧
      s.progs[p].kind = if bed then .bed else .showSound := by
  rw [State.routes_iff]
  refine forall_congr' fun k => ?_
  constructor
  · rintro ⟨h1, h2⟩ bed p hp
    cases bed
    · exact h1 p hp
    · exact h2 p hp
  · exact fun h => ⟨fun p => h false p, fun p => h true p⟩

/-- A route slot changed to refer to lawful programs. -/
theorem State.routes_onRoute (h : s.routesLawful = true) {f : RouteSlot → RouteSlot}
    (hf : ∀ (b : Bool) (p : ProgId), (f s.cue.slots[slot]).part b = some p → s.cue.slots[slot].part b = some p ∨
      (s.progs[p].isOpen = true ∧ s.progs[p].routeSlot = some slot ∧ s.progs[p].kind = if b then .bed else .showSound)) :
    (s.onCue fun c => c.onRoute slot f).routesLawful = true := by
  rw [State.routes_of_parts] at h ⊢
  intro k b p hp
  have hslot : (s.onCue fun c => c.onRoute slot f).cue.slots[k] = if slot = k then f s.cue.slots[k] else s.cue.slots[k] :=
    s.cue.onRoute_slot slot k f
  rw [hslot] at hp
  split at hp
  · next e =>
    subst e
    exact (hf b p hp).elim (h slot b p) id
  · exact h k b p hp

/-- A change of a slot that takes references away at most. -/
theorem State.Rests.onRoute (h : s.Rests K loose opening) (hK : CueEngine.Stable K) (slot : Fin 8) {f : RouteSlot → RouteSlot}
    (hf : ∀ r b p, (f r).part b = some p → r.part b = some p) : (s.onCue fun c => c.onRoute slot f).Rests K loose opening :=
  h.reroute (hK.route _ _ _ h.sound.cue) (State.routes_onRoute h.sound.blocks.routes fun b p hp => Or.inl (hf _ b p hp))

/-- A law of the engine that the faults of the execution are none of. -/
def CueEngine.Faultless (K : CueEngine → Prop) : Prop := ∀ c l, K c → K { c with faults := l }

theorem CueEngine.running_faultless (n : Nat) : CueEngine.Faultless (CueEngine.Running n) := fun _ _ h => { h with }

theorem State.Rests.cueFault (h : s.Rests K loose opening) (hF : CueEngine.Faultless K) (i : Nat) (f : CueFault) :
    (s.cueFault i f).Rests K loose opening := h.onCue (hF _ _ h.sound.cue) rfl

theorem State.Rests.zonesFault (h : s.Rests K loose opening) (hF : CueEngine.Faultless K) (i : Nat) (p : ProgId) :
    (s.zonesFault i p).Rests K loose opening := by
  unfold State.zonesFault
  split
  · exact h.cueFault hF ..
  · exact h

/-! #### Route programs (R172, R176) -/

theorem State.allocate_free (h : s.Rests K loose opening) {low : Nat} (ha : s.allocate low = some p) :
    low ≤ p.val ∧ s.progs[p].isOpen = false := by
  have hord := ((State.orders_iff s).mp h.sound.blocks.orders).2.2.2.1
  unfold State.allocate at ha
  split at ha
  · next q hq =>
    cases ha
    have := List.find?_some hq
    simp only [Bool.and_eq_true, decide_eq_true_eq, beq_iff_eq] at this
    refine ⟨this.1, Bool.not_eq_true _ |>.mp fun k => ((Program.isOpen_iff _).mp k).1 this.2⟩
  · have h1 := List.find?_some ha
    simp only [decide_eq_true_eq] at h1
    have h2 := (hord p).2.mp (List.mem_of_find?_eq_some ha)
    exact ⟨h1, Bool.not_eq_true _ |>.mp fun k => ((Program.isOpen_iff _).mp k).2 h2⟩

theorem routeRecord_fresh (slot : Fin 8) (bed : Bool) (src : Nat) (h : 4 ≤ p.val) : (routeRecord slot bed src).Fresh p where
  state := rfl
  claim z := Program.claim_free z
  cls := iff_of_false (by cases bed <;> exact fun e => nomatch e) (by omega)
  alarm hlt := by omega
  gain := by
    show (Ramp.still unity).inRange = true
    decide
  timer := rfl

theorem RouteSlot.part_refer (r : RouteSlot) (bed b : Bool) (p : ProgId) :
    (r.refer bed p).part b = if b = bed then some p else r.part b := by
  cases bed <;> cases b <;> rfl

theorem State.Rests.openRoute (h : s.Rests K noSlot noSlot) (hK : CueEngine.Stable K) (hF : CueEngine.Faultless K) (quiet : Bool)
    (i : Nat) (slot : Fin 8) (bed : Bool) (src : Nat) (zs : ZoneSet) : (s.openRoute quiet i slot bed src zs).Rests K noSlot noSlot := by
  unfold State.openRoute
  split
  · exact h.cueFault hF ..
  · next p ha =>
    obtain ⟨h4, hop⟩ := State.allocate_free h ha
    have hfresh := routeRecord_fresh slot bed src h4
    obtain ⟨hs, ht⟩ := h.sound.takeRecord h.table hop hfresh (fun j e => by
      have := congrArg Fin.val e
      have hj : (progOfSlot j).val < 2 := j.isLt
      omega) (by cases bed <;> exact fun e => nomatch e) rfl
    have hself := s.takeRecord_self p (routeRecord slot bed src)
    generalize s.takeRecord p (routeRecord slot bed src) = w at *
    have hs' : (w.onCue fun c => c.onRoute slot fun r => r.refer bed p).Sound K noSlot noSlot := by
      refine hs.reroute (hK.route _ _ _ hs.cue) (State.routes_onRoute hs.blocks.routes fun b q hq => ?_)
      rw [RouteSlot.part_refer] at hq
      split at hq
      · next e =>
        cases hq
        subst e
        rw [hself]
        exact Or.inr ⟨rfl, rfl, rfl⟩
      · exact Or.inl hq
    have hself' : (w.onCue fun c => c.onRoute slot fun r => r.refer bed p).progs[p] = _ := hself
    refine (hs'.claimOpened hK (ht.congr rfl rfl rfl) ?_ ?_ ?_ s zs _).zonesFault hF i p
    all_goals rw [hself']
    · rfl
    · exact fun e => ProgState.noConfusion e
    · exact fun z => Program.claim_free z

theorem State.Rests.route_part (h : s.Rests K loose opening) (hp : s.cue.slots[slot].part bed = some p) :
    s.progs[p].isOpen = true ∧ s.progs[p].state ≠ .tail := by
  obtain ⟨ho, -, hk⟩ := (State.routes_of_parts s).mp h.sound.blocks.routes slot bed p hp
  refine ⟨ho, fun e => ?_⟩
  have := h.table.roles.tail_live p (beq_iff_eq.mpr e)
  have hk' : s.progs[p].kind = .live := this
  rw [hk] at hk'
  cases bed <;> exact nomatch hk'

theorem State.Rests.changeRoute (h : s.Rests K loose opening) (hK : CueEngine.Stable K) (hF : CueEngine.Faultless K) (quiet : Bool) (i : Nat)
    (hp : s.cue.slots[slot].part bed = some p) (zs : ZoneSet) : (s.changeRoute quiet i p zs).Rests K loose opening := by
  obtain ⟨ho, ht⟩ := h.route_part hp
  have h1 := h.addZonesTo hK ho ht zs (cueCause quiet)
  unfold State.changeRoute
  simp only
  refine State.Rests.zonesFault ?_ hF i p
  split
  · exact h1
  · exact h1.dropZonesOf hK ..

theorem State.Rests.closeRoute (h : s.Rests K loose opening) (hK : CueEngine.Stable K) (quiet : Bool) (slot : Fin 8) (bed : Bool) :
    (s.closeRoute quiet (s.cue.slots[slot].part bed)).Rests K loose opening := by
  cases hp : s.cue.slots[slot].part bed with
  | none => exact h
  | some p => exact h.endAndRelease hK (h.route_part hp).1 ..

theorem State.Rests.setRoute (h : s.Rests K noSlot noSlot) (hK : CueEngine.Stable K) (hF : CueEngine.Faultless K) (quiet : Bool)
    (i : Nat) (slot : Fin 8) (bed : Bool) (src : Nat) (zs : ZoneSet) : (s.setRoute quiet i slot bed src zs).Rests K noSlot noSlot := by
  have hc := h.closeRoute hK quiet slot bed
  unfold State.setRoute
  split
  · exact h.openRoute hK hF ..
  · next p hp =>
    split
    · exact h.changeRoute hK hF quiet i hp zs
    · rw [hp] at hc
      exact hc.openRoute hK hF ..

theorem State.Rests.emptyRoute (h : s.Rests K loose opening) (hK : CueEngine.Stable K) (quiet : Bool) (slot : Fin 8) :
    (s.emptyRoute quiet slot).Rests K loose opening :=
  ((h.closeRoute hK quiet slot false).closeRoute hK quiet slot true).onRoute hK slot fun _ b _ e => by cases b <;> exact nomatch e

/-! #### Actions (R176 to R178) -/

theorem State.Rests.runAction (h : s.Rests K noSlot noSlot) (hK : CueEngine.Stable K) (hF : CueEngine.Faultless K) (quiet : Bool)
    (i : Nat) (a : CueAction) : (s.runAction quiet i a).Rests K noSlot noSlot := by
  cases a with
  | route slot src zs => exact (h.setRoute hK hF quiet i slot false src zs).onRoute hK slot fun _ b _ e => by cases b <;> exact e
  | unroute slot => exact h.emptyRoute hK quiet slot
  | bed slot zs =>
    unfold State.runAction
    simp only
    split
    · exact h.cueFault hF ..
    · exact h.setRoute hK hF ..
  | fade slot part target duration st =>
    unfold State.runAction
    simp only
    split
    · exact h.cueFault hF ..
    · exact h.retarget ..
  | play k id tr n => exact h
  | stop k => exact h.stopShow _
  | step k =>
    unfold State.runAction
    simp only
    split
    · exact h.cueFault hF ..
    · next v hv => exact h.of_ruled (State.stepChan_ruled hv)

theorem State.Rests.playShow (h : s.Rests K loose opening) {k : Fin 4} {id : ClipId} {tr : Trigger} {n : Option Nat}
    (hp : s.playShow k id tr n = some u) : u.Rests K loose opening := by
  unfold State.playShow at hp
  split at hp
  · next hr =>
    cases hp
    have hready : s.clips.dir[id].state = .ready := by
      unfold State.clipReady at hr
      simpa using (Bool.and_eq_true_iff.mp hr).2
    have hdir : (s.stopShow (showChan k)).clips.dir = s.clips.dir := rfl
    refine State.Rests.of_ruled ?_ (State.startChan_ruled _ _ n tr)
    refine (h.stopShow (showChan k)).onChan (showChan k) (fun _ => rfl) fun id' e => ?_
    cases e
    simp only [hdir]
    exact hready
  · cases hp

theorem State.Rests.runPlay (h : s.Rests K loose opening) (hF : CueEngine.Faultless K)
    (hS : ∀ c l, K c → K { c with startSet := l }) (i : Nat) (a : CueAction) : (s.runPlay i a).Rests K loose opening := by
  cases a with
  | play k id tr n =>
    unfold State.runPlay
    simp only
    split
    · exact h.cueFault hF ..
    · next v hv =>
      have h1 := h.playShow hv
      exact h1.onCue (hS _ _ h1.sound.cue) rfl
  | _ => exact h

theorem State.Rests.foldl {α : Type} (l : List α) {f : State → α → State}
    (hf : ∀ v : State, v.Rests K loose opening → ∀ x, (f v x).Rests K loose opening) (h : s.Rests K loose opening) :
    (l.foldl f s).Rests K loose opening := by
  induction l generalizing s with
  | nil => exact h
  | cons x l ih => exact ih (hf s h x)

/-- What the first part of an execution leaves: the priming bound runs where there is a start set. -/
theorem State.Rests.firstPart (h : s.Rests CueEngine.Listed noSlot noSlot) {q : Cue} (hq : (s.cue.find q.number).isSome = true)
    (quiet : Bool) :
    (s.firstPart q quiet).Rests
      (fun c => c.Running q.number ∧ (c.startSet ≠ [] → c.bound.isSome = true)) noSlot noSlot := by
  have hK := CueEngine.running_stable q.number
  have hF := CueEngine.running_faultless q.number
  have h1 : (s.onCue fun c =>
      { c with state := .priming, executing := some q.number, countdown := none, startSet := [], faults := [] }).Rests
      (CueEngine.Running q.number) noSlot noSlot :=
    h.onCue ⟨⟨h.sound.cue.list, h.sound.cue.standby⟩, rfl, rfl, hq, rfl⟩ rfl
  have h2 := State.Rests.foldl q.indexed (f := fun s x => s.runAction quiet x.1 x.2) (fun v hv x => hv.runAction hK hF quiet x.1 x.2) h1
  have h3 := State.Rests.foldl q.indexed (f := fun s x => s.runPlay x.1 x.2)
    (fun v hv x => hv.runPlay hF (fun _ _ k => { k with }) x.1 x.2) h2
  unfold State.firstPart
  simp only
  generalize q.indexed.foldl (fun (s : State) x => s.runPlay x.1 x.2) _ = w at *
  split
  · next he => exact h3.recue ⟨h3.sound.cue, fun k => absurd (List.isEmpty_iff.mp he) k⟩
  · exact h3.onCue ⟨{ h3.sound.cue with }, fun _ => rfl⟩ rfl

end Executing

end Sys2Proof.Machine
end

section
namespace Sys2Proof.Machine

/-- An execution has been recorded as over; its engine has no state of rest yet. -/
structure CueEngine.Over (next : Option Nat) (c : CueEngine) : Prop extends c.Listed where
  executing : c.executing = none
  countdown : c.countdown = none
  next : c.standby = next
  cues : c.cues ≠ []

section Concluding
variable {K : CueEngine → Prop} {s u w : State} {n m : Nat} {c : CueEngine} {next delay : Option Nat} {e : EngineState} {q : Cue}
  {late quiet : Bool}

theorem CueEngine.find_of_mem (h : q ∈ c.cues) : (c.find q.number).isSome = true :=
  List.find?_isSome.mpr ⟨q, h, beq_self_eq_true _⟩

theorem CueEngine.number_of_find (h : c.find n = some q) : q.number = n := by
  simpa using List.find?_some h

theorem CueEngine.find_nextCue (h : nextCue c.cues n = some m) : (c.find m).isSome = true := by
  unfold nextCue at h
  obtain ⟨q, hq, rfl⟩ := Option.map_eq_some_iff.mp h
  exact c.find_of_mem (List.mem_of_find?_eq_some hq)

theorem CueEngine.Running.concluded (h : c.Running n) (late : Bool) : (c.concluded n late).Over (nextCue c.cues n) where
  list := h.list
  standby m hm := c.find_nextCue hm
  executing := rfl
  countdown := h.countdown
  next := rfl
  cues e := by
    have := h.found
    unfold CueEngine.find at this
    have e' : c.cues = [] := e
    rw [e'] at this
    cases this

theorem CueEngine.Over.fits (h : c.Over next) (hd : delay.isSome = true → next.isSome = true) : c.fits (afterExecution delay next) = true := by
  have hne : c.cues.isEmpty = false := by simpa using h.cues
  cases delay with
  | some d =>
    show c.standby.isSome = true
    rw [h.next]; exact hd rfl
  | none =>
    cases next with
    | some m =>
      show c.standby.isSome = true
      rw [h.next]; rfl
    | none =>
      show (c.standby.isNone && !c.cues.isEmpty) = true
      rw [h.next, hne]; rfl

theorem CueEngine.fits_rest (h : c.fits e = true) : e ≠ .priming ∧ e ≠ .held := by
  cases e
  case priming => exact nomatch h
  case held => exact nomatch h
  all_goals exact ⟨(fun k => nomatch k), fun k => nomatch k⟩

/-- The engine comes to rest in a state that fits. -/
theorem CueEngine.Over.rest (h : c.Over next) (he : c.fits e = true) {d : Option Countdown} (hd : d.isSome = true ↔ e = .following) :
    ({ c with state := e, countdown := d } : CueEngine).Lawful := by
  obtain ⟨h1, h2⟩ := CueEngine.fits_rest he
  refine ⟨h.list, (CueEngine.stateLawful_iff _).mpr ⟨?_, fun k => absurd k h1, fun k => absurd k h2, fun _ _ => he, ?_, h.standby, ?_⟩⟩
  · show c.executing.isSome = true ↔ e = .priming
    rw [h.executing]
    exact iff_of_false (fun k => nomatch k) h1
  · exact hd.trans ⟨Or.inl, fun k => k.elim id fun k => absurd k.1 h2⟩
  · intro m hm
    exact nomatch h.executing.symm.trans hm

theorem CueEngine.Over.stop (h : c.Over next) (he : c.fits e = true) (hf : e ≠ .following) : ({ c with state := e } : CueEngine).Lawful :=
  h.rest (d := c.countdown) he (iff_of_false (by rw [h.countdown]; exact fun k => nomatch k) hf)

/-- The engine is held with a return state that fits. -/
theorem CueEngine.Over.hold (h : c.Over next) (he : c.fits e = true) {d : Option Countdown} (hd : d.isSome = true ↔ e = .following) :
    ({ c with holdPending := false, state := .held, ret := some e, countdown := d } : CueEngine).Lawful := by
  refine ⟨h.list, (CueEngine.stateLawful_iff _).mpr ⟨?_, (fun k => nomatch k), fun _ => ⟨e, rfl, he⟩, fun _ k => absurd rfl k, ?_,
    h.standby, ?_⟩⟩
  · show c.executing.isSome = true ↔ EngineState.held = .priming
    rw [h.executing]
    exact iff_of_false (fun k => nomatch k) fun k => nomatch k
  · refine hd.trans ⟨fun k => Or.inr ⟨rfl, congrArg some k⟩, fun k => ?_⟩
    rcases k with k | ⟨-, k⟩
    · exact nomatch k
    · exact Option.some.inj k
  · intro m hm
    exact nomatch h.executing.symm.trans hm

theorem State.Rests.raiseCue {loose opening : Fin 2 → Prop} (h : s.Rests K loose opening) (quiet : Bool) : (s.raiseCue quiet).Rests K loose opening := by
  unfold State.raiseCue
  split
  · exact h
  · exact h.raise ..

theorem CueEngine.followOf_next (h : (c.followOf n).isSome = true) : (nextCue c.cues n).isSome = true := by
  unfold CueEngine.followOf at h
  split at h
  · assumption
  · cases h

theorem afterExecution_following : afterExecution delay next = .following ↔ delay.isSome = true := by
  cases delay with
  | some d => exact iff_of_true rfl rfl
  | none => cases next <;> exact iff_of_false (fun k => nomatch k) fun k => nomatch k

/-- An execution that goes on with a start set keeps the engine's laws. -/
theorem CueEngine.Running.lawful (h : c.Running n) (hs : c.startSet ≠ []) (hb : c.bound.isSome = true) : c.Lawful := by
  refine ⟨h.list, (CueEngine.stateLawful_iff _).mpr ⟨?_, fun _ => ⟨hb, hs⟩, ?_, ?_, ?_, h.standby, ?_⟩⟩
  · rw [h.executing, h.state]; exact iff_of_true rfl rfl
  · rw [h.state]; exact fun k => nomatch k
  · exact fun k => absurd h.state k
  · rw [h.countdown, h.state]
    exact iff_of_false (fun k => nomatch k) fun k => k.elim (fun k => nomatch k) fun k => nomatch k.1
  · intro m hm
    cases h.executing.symm.trans hm
    exact h.found

/-- A first part with a start set leaves the engine priming. -/
theorem State.Rests.primes (h : s.Rests (fun c => c.Running n ∧ (c.startSet ≠ [] → c.bound.isSome = true)) noSlot noSlot)
    (hs : s.cue.startSet.isEmpty ≠ true) : s.AtLaw :=
  have hne : s.cue.startSet ≠ [] := fun k => hs (List.isEmpty_iff.mpr k)
  h.recue (h.sound.cue.1.lawful hne (h.sound.cue.2 hne))

/-- The end of an execution leaves the engine at rest, held, or in the next execution (R179, R180). -/
theorem State.Rests.endExecution_step (fuel : Nat) (h : s.Rests (CueEngine.Running n) noSlot noSlot) (late quiet : Bool) :
    (s.endExecution fuel late quiet).AtLaw ∨ ∃ (k m : Nat) (v : State), fuel = k + 1 ∧
      v.Rests (CueEngine.Running m) noSlot noSlot ∧ s.endExecution fuel late quiet = v.endExecution k false quiet := by
  have hrun := h.sound.cue
  have h1 : (s.onCue fun c => c.concluded n late).Rests (CueEngine.Over (nextCue s.cue.cues n)) noSlot noSlot :=
    h.onCue (hrun.concluded late) rfl
  have hfit {d : Option Nat} (hd : d.isSome = true → (nextCue s.cue.cues n).isSome = true) := h1.sound.cue.fits hd
  have hend : ((s.onCue fun c => c.concluded n late).onCue fun c =>
      { c with state := afterExecution none (nextCue s.cue.cues n) }).AtLaw :=
    h1.onCue (h1.sound.cue.stop (hfit (d := none) fun k => nomatch k) fun k => nomatch afterExecution_following.mp k) rfl
  have hfollow := CueEngine.followOf_next (c := s.cue) (n := n)
  rw [State.endExecution.eq_def, hrun.executing]
  simp only
  generalize hd : s.cue.followOf n = delay at *
  split
  · refine Or.inl (((State.Rests.of_ruled ?_ (State.gateShow_ruled _ true)).raiseCue quiet))
    exact (h1.onCue (K' := fun _ => True) trivial rfl).onCue
      (h1.sound.cue.hold (hfit hfollow) (by simp [afterExecution_following])) rfl
  · cases delay with
    | none => exact Or.inl hend
    | some d =>
      cases d with
      | succ d =>
        refine Or.inl (h1.onCue (h1.sound.cue.rest (hfit hfollow) ?_) rfl)
        exact iff_of_true rfl rfl
      | zero =>
        simp only
        split
        · refine Or.inl (State.Rests.raiseCue (h1.onCue (h1.sound.cue.stop (e := .standby) ?_ fun k => nomatch k) rfl) quiet)
          show (nextCue s.cue.cues n).isSome = true
          exact hfollow rfl
        · split
          · next k q hq =>
            obtain ⟨m, hm, hf⟩ := Option.bind_eq_some_iff.mp hq
            have hfound : ((s.onCue fun c => c.concluded n late).cue.find q.number).isSome = true := by
              rw [CueEngine.number_of_find hf, hf]; rfl
            have h2 := ((h1.recue h1.sound.cue.toListed).firstPart hfound quiet).raiseCue quiet
            split
            · exact Or.inr ⟨k, q.number, _, rfl, h2.recue h2.sound.cue.1, rfl⟩
            · next hs => exact Or.inl (h2.primes hs)
          · exact Or.inl hend
          · exact Or.inl hend

theorem State.Rests.endExecution (fuel : Nat) (h : s.Rests (CueEngine.Running n) noSlot noSlot) (late quiet : Bool) :
    (s.endExecution fuel late quiet).AtLaw := by
  induction fuel generalizing s n late with
  | zero =>
    rcases h.endExecution_step 0 late quiet with h | ⟨k, m, v, e, -⟩
    · exact h
    · exact nomatch e
  | succ fuel ih =>
    rcases h.endExecution_step (fuel + 1) late quiet with h | ⟨k, m, v, e, hv, he⟩
    · exact h
    · cases e
      rw [he]
      exact ih hv false

end Concluding

end Sys2Proof.Machine
end

section
namespace Sys2Proof.Machine

/-! ### The cue list (R169 to R171) -/

section CueList
variable {c : CueEngine} {q : Cue} {l : List Cue} {n m : Nat} {e : EngineState}

theorem CueEngine.find_iff (c : CueEngine) (n : Nat) : (c.find n).isSome = true ↔ n ∈ c.cues.map (·.number) := by
  unfold CueEngine.find
  rw [List.find?_isSome, List.mem_map]
  simp only [beq_iff_eq]

theorem mem_insertCue (q : Cue) (l : List Cue) (m : Nat) :
    m ∈ (insertCue q l).map (·.number) ↔ m = q.number ∨ m ∈ l.map (·.number) := by
  induction l with
  | nil => simp [insertCue]
  | cons x l ih =>
    unfold insertCue
    split
    · simp
    · split
      · next e => simp [← e]
      · simp only [List.map_cons, List.mem_cons, ih]
        exact or_left_comm

theorem insertCue_sorted (h : (l.map (·.number)).Pairwise (· < ·)) : ((insertCue q l).map (·.number)).Pairwise (· < ·) := by
  induction l with
  | nil => simp [insertCue]
  | cons x l ih =>
    rw [List.map_cons, List.pairwise_cons] at h
    unfold insertCue
    split
    · next hlt =>
      rw [List.map_cons, List.pairwise_cons, List.map_cons, List.pairwise_cons]
      refine ⟨fun m hm => ?_, h⟩
      rcases List.mem_cons.mp hm with rfl | hm
      · exact hlt
      · exact hlt.trans (h.1 m hm)
    · split
      · next e =>
        rw [List.map_cons, List.pairwise_cons, e]
        exact h
      · rw [List.map_cons, List.pairwise_cons]
        refine ⟨fun m hm => ?_, ih h.2⟩
        rcases (mem_insertCue ..).mp hm with rfl | hm
        · omega
        · exact h.1 m hm

theorem insertCue_length (h : (l.map (·.number)).Pairwise (· < ·)) :
    (insertCue q l).length = if q.number ∈ l.map (·.number) then l.length else l.length + 1 := by
  induction l with
  | nil => simp [insertCue]
  | cons x l ih =>
    rw [List.map_cons, List.pairwise_cons] at h
    unfold insertCue
    split
    · next hlt =>
      rw [if_neg]
      · rfl
      · rw [List.map_cons, List.mem_cons, not_or]
        exact ⟨by omega, fun k => by have := h.1 _ k; omega⟩
    · split
      · next e => rw [if_pos (by rw [e]; exact List.mem_cons_self)]; rfl
      · next e =>
        rw [List.length_cons, ih h.2]
        simp only [List.map_cons, List.mem_cons, e, false_or, List.length_cons]
        split <;> rfl

theorem CueEngine.list_iff (c : CueEngine) : c.listLawful = true ↔
    (c.cues.map (·.number)).Pairwise (· < ·) ∧ c.cues.length ≤ Config.maxCues := by
  unfold CueEngine.listLawful
  rw [Bool.and_eq_true, decide_eq_true_iff, decide_eq_true_iff]

/-- What an engine state asks of the list and the standby cue. -/
theorem CueEngine.fits_iff (c : CueEngine) (e : EngineState) : c.fits e = true ↔
    (e = .empty ∧ c.cues = [] ∧ c.standby = none) ∨ ((e = .standby ∨ e = .following) ∧ c.standby.isSome = true) ∨
      (e = .finished ∧ c.standby = none ∧ c.cues ≠ []) := by
  unfold CueEngine.fits
  cases e <;> simp

/-- A cue that is loaded keeps the engine's laws (R170). -/
theorem CueEngine.Lawful.load (h : c.Lawful) (hlen : (c.find q.number).isSome = true ∨ c.cues.length < Config.maxCues) :
    (c.load q).Lawful := by
  obtain ⟨hlist, hstate⟩ := h
  obtain ⟨hsort, hle⟩ := c.list_iff.mp hlist
  obtain ⟨h1, h2, h3, h4, h5, h6, h7⟩ := (CueEngine.stateLawful_iff c).mp hstate
  have hcues : (c.load q).cues = insertCue q c.cues ∧ (c.load q).executing = c.executing := by
    unfold CueEngine.load
    simp only
    split
    · exact ⟨rfl, rfl⟩
    · split <;> exact ⟨rfl, rfl⟩
  have hfound (m : Nat) (hm : m = q.number ∨ (c.find m).isSome = true) : ((c.load q).find m).isSome = true := by
    rw [CueEngine.find_iff, hcues.1, mem_insertCue, ← CueEngine.find_iff]
    exact hm
  have hne : insertCue q c.cues ≠ [] := fun k => by
    have := (mem_insertCue q c.cues q.number).mpr (Or.inl rfl)
    rw [k] at this
    cases this
  refine ⟨(CueEngine.list_iff _).mpr ⟨by rw [hcues.1]; exact insertCue_sorted hsort, ?_⟩, (CueEngine.stateLawful_iff _).mpr ?_⟩
  · rw [hcues.1, insertCue_length hsort]
    split
    · exact hle
    · next k => exact hlen.resolve_left fun e => k ((c.find_iff _).mp e)
  · unfold CueEngine.load at hfound ⊢
    simp only at hfound ⊢
    split at hfound
    · next he =>
      rw [if_pos he]
      rw [he] at h1 h5
      have hexec : c.executing = none := by simpa using h1
      have hcd : c.countdown = none := by simpa using h5
      simp only [hexec, hcd]
      refine ⟨by simp, (fun k => nomatch k), (fun k => nomatch k), fun _ _ => rfl, by simp, fun m hm => ?_, fun m hm => nomatch hm⟩
      cases hm
      exact hfound _ (Or.inl rfl)
    · next he =>
      rw [if_neg he]
      split at hfound
      · next hh =>
        rw [if_pos hh]
        rw [hh.1, hh.2] at h5
        rw [hh.1] at h1
        have hexec : c.executing = none := by simpa using h1
        have hcd : c.countdown = none := by simpa using h5
        simp only [hexec, hcd, hh.1]
        refine ⟨by simp, (fun k => nomatch k), fun _ => ⟨_, rfl, rfl⟩, fun _ k => absurd rfl k, by simp, fun m hm => ?_, fun m hm => nomatch hm⟩
        cases hm
        exact hfound _ (Or.inl rfl)
      · next hh =>
        rw [if_neg hh]
        have hfit {e : EngineState} (hc : c.fits e = true) (hne' : e ≠ .empty) :
            ({ c with cues := insertCue q c.cues } : CueEngine).fits e = true := by
          rw [CueEngine.fits_iff] at hc ⊢
          rcases hc with ⟨k, -⟩ | k | ⟨k1, k2, -⟩
          · exact absurd k hne'
          · exact Or.inr (Or.inl k)
          · exact Or.inr (Or.inr ⟨k1, k2, hne⟩)
        refine ⟨h1, h2, fun k => ?_, fun k1 k2 => hfit (h4 k1 k2) he, h5, fun m hm => hfound m (Or.inr (h6 m hm)),
          fun m hm => hfound m (Or.inr (h7 m hm))⟩
        obtain ⟨e, k1, k2⟩ := h3 k
        exact ⟨e, k1, hfit k2 fun k3 => hh ⟨k, k3 ▸ k1⟩⟩

theorem CueEngine.lost_iff (e : EngineState) : (e.lost = .priming ↔ e = .priming) ∧ (e.lost = .held ↔ e = .held) ∧ e.lost ≠ .standby ∧
    e.lost ≠ .following := by
  cases e <;> exact ⟨by decide, by decide, by decide, by decide⟩

/-- The cues that stay when one is deleted. -/
def CueEngine.without (c : CueEngine) (n : Nat) : List Cue := c.cues.filter fun q => q.number != n

theorem CueEngine.mem_without (c : CueEngine) (n m : Nat) :
    m ∈ (c.without n).map (·.number) ↔ m ≠ n ∧ (c.find m).isSome = true := by
  rw [CueEngine.find_iff]
  unfold CueEngine.without
  simp only [List.mem_map, List.mem_filter, bne_iff_ne]
  constructor
  · rintro ⟨q, ⟨hq, hne⟩, rfl⟩
    exact ⟨hne, q, hq, rfl⟩
  · rintro ⟨hne, q, hq, rfl⟩
    exact ⟨q, ⟨hq, hne⟩, rfl⟩

/-- The last cue goes: the engine is EMPTY, or HELD to return to it (R171). -/
theorem CueEngine.delete_last (hl : c.without n = []) : ∃ r, c.delete n =
    if c.state = .held then { c with cues := [], standby := none, countdown := none, ret := some .empty }
    else { c with cues := [], standby := none, countdown := none, state := .empty, ret := r } := by
  unfold CueEngine.delete CueEngine.without at *
  simp only [hl, List.isEmpty_nil, if_true]
  by_cases hst : c.standby = some n
  · rw [if_pos hst]
    by_cases hh : c.state = .held
    · simp only [hh, if_true]
      exact ⟨none, rfl⟩
    · simp only [hh, if_false]
      exact ⟨_, rfl⟩
  · rw [if_neg hst]
    by_cases hh : c.state = .held
    · simp only [hh, if_true]
      exact ⟨none, trivial⟩
    · simp only [hh, if_false]
      exact ⟨_, rfl⟩

theorem CueEngine.delete_standby (hl : c.without n ≠ []) (hs : c.standby = some n) : c.delete n =
    match nextCue (c.without n) n with
    | some m => { c with cues := c.without n, standby := some m }
    | none => { c with cues := c.without n, standby := none, countdown := none, state := c.state.lost, ret := c.ret.map EngineState.lost } := by
  have he : (c.without n).isEmpty = false := by simpa using hl
  unfold CueEngine.delete
  simp only [hs, if_true]
  show (if (c.without n).isEmpty = true then _ else _) = _
  rw [if_neg (by rw [he]; decide)]
  rfl

theorem CueEngine.delete_other (hl : c.without n ≠ []) (hs : c.standby ≠ some n) : c.delete n = { c with cues := c.without n } := by
  have he : (c.without n).isEmpty = false := by simpa using hl
  unfold CueEngine.delete
  simp only [hs, if_false]
  show (if (c.without n).isEmpty = true then _ else _) = _
  rw [if_neg (by rw [he]; decide)]
  rfl

/-- A cue that is deleted leaves the engine's laws (R171). -/
theorem CueEngine.Lawful.delete (h : c.Lawful) (hn : (c.find n).isSome = true) (he : c.executes n = false) : (c.delete n).Lawful := by
  obtain ⟨hlist, hstate⟩ := h
  obtain ⟨hsort, hle⟩ := c.list_iff.mp hlist
  obtain ⟨h1, h2, h3, h4, h5, h6, h7⟩ := (CueEngine.stateLawful_iff c).mp hstate
  have hsort' : ((c.without n).map (·.number)).Pairwise (· < ·) := hsort.sublist (List.filter_sublist.map _)
  have hle' : (c.without n).length ≤ Config.maxCues := (List.length_filter_le ..).trans hle
  have hnil : c.cues ≠ [] := fun k => by
    rw [CueEngine.find_iff, k] at hn
    cases hn
  have hexec (m : Nat) (hm : c.executing = some m) : m ≠ n := fun k => by
    unfold CueEngine.executes at he
    rw [hm, h1.mp (by rw [hm]; rfl), k] at he
    simp at he
  have hfound {d : CueEngine} (hd : d.cues = c.without n) (m : Nat) (hm : m ≠ n) (hf : (c.find m).isSome = true) :
      (d.find m).isSome = true := by
    rw [CueEngine.find_iff, hd, CueEngine.mem_without]
    exact ⟨hm, hf⟩
  by_cases hl : c.without n = []
  · have hnp : c.state ≠ .priming := fun k => by
      obtain ⟨m, hm⟩ := Option.isSome_iff_exists.mp (h1.mpr k)
      have := (c.mem_without n m).mpr ⟨hexec m hm, h7 m hm⟩
      rw [hl] at this
      cases this
    have hnone : c.executing = none := Option.not_isSome_iff_eq_none.mp fun k => hnp (h1.mp k)
    obtain ⟨r, heq⟩ := CueEngine.delete_last hl
    rw [heq]
    split
    · next hh =>
      refine ⟨rfl, (CueEngine.stateLawful_iff _).mpr ⟨h1, h2, fun _ => ⟨_, rfl, rfl⟩, fun _ k => absurd hh k, ?_, (fun _ k => nomatch k),
        fun m hm => nomatch hnone.symm.trans hm⟩⟩
      simp [hh]
    · refine ⟨rfl, (CueEngine.stateLawful_iff _).mpr ⟨?_, (fun k => nomatch k), (fun k => nomatch k), fun _ _ => rfl, ?_,
        (fun _ k => nomatch k), fun m hm => nomatch hnone.symm.trans hm⟩⟩
      · simp [hnone]
      · simp
  · have hfit {e : EngineState} (hf : c.fits e = true) : ((e = .standby ∨ e = .following) ∧ c.standby.isSome = true) ∨
        (e = .finished ∧ c.standby = none) := by
      rcases (c.fits_iff e).mp hf with ⟨-, k, -⟩ | k | ⟨k1, k2, -⟩
      · exact absurd k hnil
      · exact Or.inl k
      · exact Or.inr ⟨k1, k2⟩
    by_cases hs : c.standby = some n
    · have hstand {e : EngineState} (hf : c.fits e = true) : e = .standby ∨ e = .following :=
        (hfit hf).elim And.left fun k => nomatch hs.symm.trans k.2
      rw [CueEngine.delete_standby hl hs]
      split
      · next m hm =>
        have hfits {e : EngineState} (hf : c.fits e = true) :
            ({ c with cues := c.without n, standby := some m } : CueEngine).fits e = true :=
          (CueEngine.fits_iff _ e).mpr (Or.inr (Or.inl ⟨hstand hf, rfl⟩))
        refine ⟨(CueEngine.list_iff _).mpr ⟨hsort', hle'⟩, (CueEngine.stateLawful_iff _).mpr ⟨h1, h2, fun k => ?_,
          fun k1 k2 => hfits (h4 k1 k2), h5, fun k hk => ?_, fun k hk => hfound rfl k (hexec k hk) (h7 k hk)⟩⟩
        · obtain ⟨e, k1, k2⟩ := h3 k
          exact ⟨e, k1, hfits k2⟩
        · cases hk
          exact CueEngine.find_nextCue (c := { c with cues := c.without n, standby := some m }) hm
      · have hfits {e : EngineState} (hf : c.fits e = true) : ({ c with
            cues := c.without n, standby := none, countdown := none, state := c.state.lost,
            ret := c.ret.map EngineState.lost } : CueEngine).fits e.lost = true := by
          refine (CueEngine.fits_iff _ _).mpr (Or.inr (Or.inr ⟨?_, rfl, hl⟩))
          rcases hstand hf with rfl | rfl <;> rfl
        obtain ⟨l1, l2, -, l3⟩ := CueEngine.lost_iff c.state
        refine ⟨(CueEngine.list_iff _).mpr ⟨hsort', hle'⟩, (CueEngine.stateLawful_iff _).mpr ⟨h1.trans l1.symm, fun k => h2 (l1.mp k),
          fun k => ?_, fun k1 k2 => hfits (h4 (fun e => k1 (l1.mpr e)) fun e => k2 (l2.mpr e)), ?_, (fun _ k => nomatch k),
          fun k hk => hfound rfl k (hexec k hk) (h7 k hk)⟩⟩
        · obtain ⟨e, k1, k2⟩ := h3 (l2.mp k)
          exact ⟨e.lost, by simp only [k1]; rfl, hfits k2⟩
        · refine iff_of_false (fun k => nomatch k) ?_
          rintro (k | ⟨-, k⟩)
          · exact l3 k
          · obtain ⟨e, -, k⟩ := Option.map_eq_some_iff.mp k
            exact (CueEngine.lost_iff e).2.2.2 k
    · have hfits {e : EngineState} (hf : c.fits e = true) : ({ c with cues := c.without n } : CueEngine).fits e = true := by
        refine (CueEngine.fits_iff _ e).mpr (Or.inr ((hfit hf).imp_right fun k => ⟨k.1, k.2, hl⟩))
      rw [CueEngine.delete_other hl hs]
      refine ⟨(CueEngine.list_iff _).mpr ⟨hsort', hle'⟩, (CueEngine.stateLawful_iff _).mpr ⟨h1, h2, fun k => ?_,
        fun k1 k2 => hfits (h4 k1 k2), h5, fun k hk => hfound rfl k (fun e => hs (e ▸ hk)) (h6 k hk),
        fun k hk => hfound rfl k (hexec k hk) (h7 k hk)⟩⟩
      obtain ⟨e, k1, k2⟩ := h3 k
      exact ⟨e, k1, hfits k2⟩

end CueList

end Sys2Proof.Machine
end

section
namespace Sys2Proof.Machine

/-! ### The cue engine's commands and events keep the laws (chapter 8) -/

section Cues
variable {s u : State} {n : Nat} {tx : Txn} {q : Cue} {quiet late : Bool} {c : CueEngine}

theorem State.AtLaw.onCue (h : s.AtLaw) {f : CueEngine → CueEngine} (hk : (f s.cue).Lawful) (hs : (f s.cue).slots = s.cue.slots) :
    (s.onCue f).AtLaw := State.Rests.onCue h hk hs

theorem CueEngine.load_slots (c : CueEngine) (q : Cue) : (c.load q).slots = c.slots := by
  unfold CueEngine.load
  simp only
  split
  · rfl
  · split <;> rfl

theorem CueEngine.delete_slots (c : CueEngine) (n : Nat) : (c.delete n).slots = c.slots := by
  by_cases hl : c.without n = []
  · obtain ⟨r, e⟩ := CueEngine.delete_last hl
    rw [e]; split <;> rfl
  · by_cases hs : c.standby = some n
    · rw [CueEngine.delete_standby hl hs]; split <;> rfl
    · rw [CueEngine.delete_other hl hs]

theorem CueEngine.Lawful.standby_some (h : c.Lawful) (hs : c.state = .following) : c.standby.isSome = true := by
  obtain ⟨-, -, -, hf, -⟩ := (CueEngine.stateLawful_iff c).mp h.2
  have := hf (by rw [hs]; decide) (by rw [hs]; decide)
  rw [hs] at this
  exact this

/-- An engine at rest that stands by. -/
theorem CueEngine.Listed.standsBy (h : c.Listed) (he : c.executing = none) (hs : c.standby.isSome = true) {d : Option Countdown}
    (hd : d = none) : ({ c with countdown := d, state := .standby } : CueEngine).Lawful := by
  subst hd
  refine ⟨h.list, (CueEngine.stateLawful_iff _).mpr ⟨?_, (fun k => nomatch k), (fun k => nomatch k), fun _ _ => hs, by simp,
    h.standby, fun m hm => nomatch he.symm.trans hm⟩⟩
  simp [he]

theorem execLoadCue_atLaw (h : s.AtLaw) {number : BitVec 16} {follow : BitVec 24} {actions : List RawAction}
    (he : execLoadCue tx number follow actions s = .next u) : u.AtLaw := by
  refine portCommand_atLaw h (fun v hv => ?_) he
  split
  · exact hv
  · split
    · exact hv
    · next q _ =>
      split
      · exact hv
      · split
        · exact hv
        · next hfull =>
          refine State.AtLaw.onCue hv (f := fun c => c.load q) (hv.sound.cue.load ?_) (CueEngine.load_slots ..)
          simp only [Bool.and_eq_true, decide_eq_true_eq, not_and, not_le, Option.isNone_iff_eq_none] at hfull
          by_cases hf : (v.cue.find q.number).isSome = true
          · exact Or.inl hf
          · exact Or.inr (hfull (Option.not_isSome_iff_eq_none.mp hf))

theorem execDeleteCue_atLaw (h : s.AtLaw) {number : BitVec 16} (he : execDeleteCue tx number s = .next u) : u.AtLaw := by
  refine portCommand_atLaw h (fun v hv => ?_) he
  split
  · exact hv
  · split
    · exact hv
    · split
      · exact hv
      · next hn =>
        split
        · exact hv
        · next hx =>
          refine State.AtLaw.onCue hv (f := fun c => c.delete number.toNat) (hv.sound.cue.delete ?_ (Bool.not_eq_true _ |>.mp hx)) (CueEngine.delete_slots ..)
          simpa [Option.isSome_iff_ne_none] using hn

theorem CueEngine.Lawful.idle (h : c.Lawful) (hs : c.state ≠ .priming) : c.executing = none :=
  Option.not_isSome_iff_eq_none.mp fun k => hs (((CueEngine.stateLawful_iff c).mp h.2).1.mp k)

theorem execCueStandby_atLaw (h : s.AtLaw) {number : BitVec 16} (he : execCueStandby tx number s = .next u) : u.AtLaw := by
  refine portCommand_atLaw h (fun v hv => ?_) he
  split
  · exact hv
  · split
    · exact hv
    · split
      · exact hv
      · next hst =>
        split
        · exact hv
        · next hf =>
          rw [not_or] at hst
          have hfound : (v.cue.find number.toNat).isSome = true := by simpa [Option.isSome_iff_ne_none] using hf
          have hl : ({ v.cue with standby := some number.toNat } : CueEngine).Listed :=
            ⟨hv.sound.cue.1, fun m hm => by cases hm; exact hfound⟩
          exact State.AtLaw.onCue hv (f := fun c => { c with standby := some number.toNat, countdown := none, state := .standby }) (hl.standsBy (hv.sound.cue.idle hst.1) rfl rfl) rfl

/-- A cue that is executed leaves the engine in its execution or after it (R175). -/
theorem State.Rests.execute (h : s.Rests CueEngine.Listed noSlot noSlot) {m : Nat} (hq : s.cue.find m = some q) (quiet : Bool) :
    (if (s.firstPart q quiet).cue.startSet.isEmpty then (s.firstPart q quiet).endExecution Config.maxCues false quiet
      else s.firstPart q quiet).AtLaw := by
  have h1 := h.firstPart (q := q) (by rw [CueEngine.number_of_find hq, hq]; rfl) quiet
  split
  · exact (h1.recue h1.sound.cue.1).endExecution _ false quiet
  · next hs => exact h1.primes hs

theorem State.Rests.executeStandby (h : s.Rests CueEngine.Listed noSlot noSlot) (hs : s.cue.standby.isSome = true) (quiet : Bool) :
    (s.executeStandby quiet).AtLaw := by
  obtain ⟨m, hm⟩ := Option.isSome_iff_exists.mp hs
  obtain ⟨q, hq⟩ := Option.isSome_iff_exists.mp (h.sound.cue.standby m hm)
  unfold State.executeStandby
  rw [hm, Option.bind_some, hq]
  exact h.execute hq quiet

/-- The follow countdown has run out (R180). -/
theorem State.Rests.followDone (h : s.AtLaw) (hs : s.cue.state = .following) (quiet : Bool) : (s.followDone quiet).AtLaw := by
  have hl := h.sound.cue.listed
  have hsome := h.sound.cue.standby_some hs
  have h1 : (s.onCue fun c => { c with countdown := none }).Rests CueEngine.Listed noSlot noSlot := State.Rests.onCue h ⟨hl.list, hl.standby⟩ rfl
  unfold State.followDone
  simp only
  split
  · refine State.Rests.raiseCue (h1.onCue ?_ rfl) quiet
    exact hl.standsBy (h.sound.cue.idle (by rw [hs]; decide)) hsome rfl
  · exact (h1.executeStandby hsome quiet).raiseCue quiet

theorem execFollowCountdownExpiry_atLaw (h : s.AtLaw) (he : execFollowCountdownExpiry s = .next u) : u.AtLaw := by
  refine partEvent_atLaw ?_ he
  split
  · next hf => exact State.Rests.followDone h hf.1 false
  · exact h

theorem CueEngine.Lawful.running (h : c.Lawful) (hs : c.state = .priming) : ∃ n, c.Running n := by
  obtain ⟨h1, -, -, -, h5, h6, h7⟩ := (CueEngine.stateLawful_iff c).mp h.2
  obtain ⟨n, hn⟩ := Option.isSome_iff_exists.mp (h1.mpr hs)
  refine ⟨n, ⟨h.1, h6⟩, hs, hn, h7 n hn, Option.not_isSome_iff_eq_none.mp fun k => ?_⟩
  rcases h5.mp k with k | k
  · exact nomatch hs.symm.trans k
  · exact nomatch hs.symm.trans k.1

/-- The go ends the execution (R178). -/
theorem State.Rests.giveGo (h : s.AtLaw) (hs : s.cue.state = .priming) (late : Bool) : (s.giveGo late).AtLaw := by
  obtain ⟨n, hn⟩ := h.sound.cue.running hs
  have h1 := State.Rests.foldl s.cue.startSet (f := fun s m => s.goChan (showChan m.1)) (fun v hv m => hv.of_ruled (State.goChan_ruled ..))
    (State.Rests.recue h hn)
  exact (h1.endExecution Config.maxCues late false).raiseCue false

theorem State.Rests.reportPrimed (h : s.AtLaw) (k : Fin 4) : (s.reportPrimed k).AtLaw := by
  have h1 : (s.onCue fun c =>
      { c with startSet := s.cue.startSet.map fun m => if m.1 = k then (m.1, true) else m }).AtLaw := by
    refine State.AtLaw.onCue h ⟨h.sound.cue.1, ?_⟩ rfl
    obtain ⟨h1, h2, h3⟩ := (CueEngine.stateLawful_iff s.cue).mp h.sound.cue.2
    exact (CueEngine.stateLawful_iff _).mpr ⟨h1, fun e => ⟨(h2 e).1, fun k => (h2 e).2 (List.map_eq_nil_iff.mp k)⟩, h3⟩
  unfold State.reportPrimed
  simp only
  split
  · next hs => exact State.Rests.giveGo h1 hs.1 false
  · exact h1

theorem execPrimingBoundExpiry_atLaw (h : s.AtLaw) (he : execPrimingBoundExpiry s = .next u) : u.AtLaw := by
  refine partEvent_atLaw ?_ he
  split
  · next hb => exact State.Rests.giveGo h hb.1 true
  · exact h

theorem execCueGo_atLaw (h : s.AtLaw) (he : execCueGo tx s = .next u) : u.AtLaw := by
  refine portCommand_atLaw h (fun v hv => ?_) he
  split
  · exact hv
  · split
    · exact hv
    · split
      · exact hv
      · split
        · exact hv
        · split
          · exact hv
          · next q hq =>
            obtain ⟨m, -, hf⟩ := Option.bind_eq_some_iff.mp hq
            exact (State.Rests.recue hv hv.sound.cue.listed).execute hf true

theorem CueEngine.Lawful.resumed (h : c.Lawful) (hs : c.state = .held) : (c.resumed (c.ret.getD .standby)).Lawful ∧
    ((c.countdown.isSome = true) → (c.resumed (c.ret.getD .standby)).state = .following) := by
  obtain ⟨h1, -, h3, -, h5, h6, h7⟩ := (CueEngine.stateLawful_iff c).mp h.2
  obtain ⟨e, hr, hf⟩ := h3 hs
  obtain ⟨n1, n2⟩ := CueEngine.fits_rest hf
  have hnone := h.idle (by rw [hs]; decide)
  have hcd : c.countdown.isSome = true ↔ e = .following := by
    rw [h5, hs, hr]
    simp
  rw [hr]
  refine ⟨⟨h.1, (CueEngine.stateLawful_iff _).mpr ⟨?_, fun k => absurd k n1, fun k => absurd k n2, fun _ _ => hf, ?_, h6,
    fun m hm => nomatch hnone.symm.trans hm⟩⟩, hcd.mp⟩
  · show c.executing.isSome = true ↔ e = .priming
    rw [hnone]
    exact iff_of_false (fun k => nomatch k) n1
  · show (c.countdown.map _).isSome = true ↔ e = .following ∨ (e = .held ∧ _)
    rw [Option.isSome_map, hcd]
    exact ⟨Or.inl, fun k => k.elim id fun k => absurd k.1 n2⟩

theorem execCueResume_atLaw (h : s.AtLaw) (he : execCueResume tx s = .next u) : u.AtLaw := by
  refine portCommand_atLaw h (fun v hv => ?_) he
  split
  · exact hv
  · split
    · exact hv
    · next hst =>
      rw [not_or, not_not] at hst
      obtain ⟨h1, h2⟩ := hv.sound.cue.resumed hst.1
      have h3 : ((v.onCue fun c => c.resumed (c.ret.getD .standby)).gateShow false).AtLaw :=
        State.Rests.of_ruled (State.AtLaw.onCue hv h1 rfl) (State.gateShow_ruled _ false)
      show State.AtLaw (if _ then _ else _)
      split
      · next hc =>
        refine State.Rests.followDone h3 (h2 ?_) true
        rw [Option.isSome_iff_ne_none]
        intro e
        rw [e] at hc
        cases hc
      · exact h3

theorem CueEngine.Listed.stopped (h : c.Listed) : c.stopped.Lawful := by
  unfold CueEngine.stopped
  simp only
  split
  · next he =>
    have hnone : c.standby = none := by
      cases hs : c.standby with
      | none => rfl
      | some m =>
        have := h.standby m hs
        rw [CueEngine.find_iff, he] at this
        cases this
    refine ⟨h.list, (CueEngine.stateLawful_iff _).mpr ⟨by simp, (fun k => nomatch k), (fun k => nomatch k), fun _ _ => ?_, by simp, h.standby,
      fun m hm => nomatch hm⟩⟩
    exact (CueEngine.fits_iff _ _).mpr (Or.inl ⟨rfl, he, hnone⟩)
  · next q l he =>
    refine ⟨h.list, (CueEngine.stateLawful_iff _).mpr ⟨by simp, (fun k => nomatch k), (fun k => nomatch k), fun _ _ => rfl, by simp,
      fun m hm => ?_, fun m hm => nomatch hm⟩⟩
    cases hm
    cases hs : c.standby with
    | none => exact c.find_of_mem (by rw [he]; exact List.mem_cons_self)
    | some m => exact h.standby m hs

theorem execCueStopAll_atLaw (h : s.AtLaw) (he : execCueStopAll tx s = .next u) : u.AtLaw := by
  refine portCommand_atLaw h (fun v hv => ?_) he
  split
  · exact hv
  · have h1 := State.Rests.foldl (List.finRange 4) (f := fun s k => s.stopShow (showChan k)) (fun v hv k => hv.stopShow _) hv
    have h2 := State.Rests.foldl (List.finRange 8) (f := fun s slot => s.emptyRoute true slot)
      (fun v hv slot => hv.emptyRoute CueEngine.lawful_stable true slot) h1
    have h3 := h2.onCue (f := CueEngine.stopped) h2.sound.cue.listed.stopped (by unfold CueEngine.stopped; simp only; split <;> rfl)
    exact h3

theorem execReadCueEngine_atLaw (h : s.AtLaw) (he : execReadCueEngine tx s = .next u) : u.AtLaw :=
  portCommand_atLaw h (fun _ hv => hv) he

end Cues

end Sys2Proof.Machine
end

section
namespace Sys2Proof.Machine

/-! ### The survey's commands and events keep the laws (chapter 9) -/

section Surveys
variable {K : CueEngine → Prop} {loose opening : Fin 2 → Prop} {s u : State} {z : Zone} {tx : Txn} {v : Survey}

/-- A change that only the survey's laws and the gains read. -/
theorem State.Rests.surveyed (h : s.Rests K loose opening) (hl : u.lasting = s.lasting) (hg : u.Gains)
    (hf : u.Flags ∧ u.surveyClear = true) : u.Rests K loose opening := by
  have hp : u.progs = s.progs := (congrArg State.progs hl :)
  have hc : u.cue = s.cue := (congrArg State.cue hl :)
  refine ⟨⟨h.sound.blocks.congr (State.gist_of_lasting hl), hg, hf.1, fun p => ?_, ?_⟩, h.table.of_lasting hl, fun p => ?_, hf.2⟩
  · rw [hp]; exact h.sound.clocks p
  · rw [hc]; exact h.sound.cue
  · rw [hp]; exact h.settled p

theorem State.Rests.onSurvey (h : s.Rests K loose opening) {f : Survey → Survey} (hf : (f s.survey).ruled = s.survey.ruled) :
    (s.onSurvey f).Rests K loose opening := by
  refine h.of_ruled ?_
  unfold State.ruled
  rw [show (s.onSurvey f).survey.ruled = s.survey.ruled from hf]
  rfl

/-! #### The queue (R189 to R191) -/

/-- The queue names each zone once, and not the zone under survey. -/
def Survey.Apart (v : Survey) : Prop := (v.queue.map (·.zone)).Nodup ∧ ∀ z, v.zone = some z → z ∉ v.queue.map (·.zone)

theorem Survey.ask_rest (v : Survey) (z : Zone) (join : Requesters → Requesters) :
    (v.ask z join).zone = v.zone ∧ (v.ask z join).state = v.state ∧ (v.ask z join).pgRunning = v.pgRunning ∧
      (v.ask z join).pilotLevel = v.pilotLevel := by
  unfold Survey.ask
  split
  · exact ⟨rfl, rfl, rfl, rfl⟩
  · split <;> exact ⟨rfl, rfl, rfl, rfl⟩

theorem Survey.Apart.ask (h : v.Apart) (z : Zone) (join : Requesters → Requesters) : (v.ask z join).Apart := by
  obtain ⟨h1, h2⟩ := h
  unfold Survey.ask
  split
  · exact ⟨h1, h2⟩
  · next hz =>
    split
    · have hq : (v.queue.map fun e => if e.zone = z then { e with ports := join e.ports } else e).map (·.zone) = v.queue.map (·.zone) := by
        rw [List.map_map]
        refine List.map_congr_left fun e _ => ?_
        simp only [Function.comp_apply]
        split <;> rfl
      refine ⟨?_, fun y hy => ?_⟩
      · simp only [hq]; exact h1
      · simp only [hq]; exact h2 y hy
    · next hq =>
      simp only [List.any_eq_true, beq_iff_eq, not_exists, not_and] at hq
      have hnot : z ∉ v.queue.map (·.zone) := fun k => by
        obtain ⟨e, he, e'⟩ := List.mem_map.mp k
        exact hq e he e'
      have hm : (v.queue ++ [(⟨z, join Requesters.none⟩ : QueueEntry)]).map (·.zone) = v.queue.map (·.zone) ++ [z] := by
        rw [List.map_append]; rfl
      refine ⟨?_, fun y hy => ?_⟩
      · simp only [hm]
        refine List.nodup_append.mpr ⟨h1, List.nodup_singleton _, fun a ha b hb e => hnot ?_⟩
        rw [List.mem_singleton] at hb
        rw [← hb, ← e]
        exact ha
      · simp only [hm, List.mem_append, List.mem_singleton, not_or]
        exact ⟨h2 y hy, fun e => hz (e ▸ hy)⟩

theorem State.Flags.apart (h : s.Flags) : s.survey.Apart :=
  ⟨h.queue, fun z hz k => by
    obtain ⟨e, he, e'⟩ := List.mem_map.mp k
    exact h.unqueued z hz e he e'⟩

/-- After new requests the engine, when IDLE, takes its queue's head (R191). -/
theorem State.Rests.requested (h : s.Rests K loose opening) {f : Survey → Survey} (ha : (f s.survey).Apart)
    (hf : (f s.survey).zone = s.survey.zone ∧ (f s.survey).state = s.survey.state ∧ (f s.survey).pgRunning = s.survey.pgRunning ∧
      (f s.survey).pilotLevel = s.survey.pilotLevel) : ((s.onSurvey f).takeHead).Rests K loose opening := by
  obtain ⟨hz, hs, hp, hl⟩ := hf
  have hflags := h.sound.flags
  have hgains : (s.onSurvey f).Gains := h.sound.gains.onSurvey (hl.symm ▸ h.sound.gains.pilot)
  refine h.surveyed (State.takeHead_lasting _) hgains.takeHead ?_
  by_cases hi : s.survey.state = .idle
  · have hnone : s.survey.zone = none := by
      have := hflags.zone
      rw [hi] at this
      simpa using this
    refine State.takeHead_flags ⟨fun y => ?_, hs.trans hi, hz.trans hnone, hp.trans ?_⟩ ha.1
    · have := hflags.flagged y
      rw [hnone] at this
      simpa using this
    · rw [hflags.pilot, hi]; rfl
  · have hskip : (s.onSurvey f).takeHead = s.onSurvey f := if_neg fun e => hi (hs.symm.trans e)
    rw [hskip]
    refine ⟨⟨fun y => ?_, ?_, ?_, ha.1, fun y hy e he k => ?_, fun e => absurd (hs.symm.trans e) hi⟩, ?_⟩
    · show s.zones[y].underSurvey = ((f s.survey).zone == some y)
      rw [hz]; exact hflags.flagged y
    · show (f s.survey).zone.isSome = ((f s.survey).state != .idle)
      rw [hz, hs]; exact hflags.zone
    · show (f s.survey).pgRunning = ((f s.survey).state != .idle)
      rw [hp, hs]; exact hflags.pilot
    · exact ha.2 y hy (List.mem_map.mpr ⟨e, he, k⟩)
    · have := h.clear
      unfold State.surveyClear at this ⊢
      show (f s.survey).zone.all _ = true
      rw [hz]
      exact this

theorem execSurveyZone_atLaw (h : s.AtLaw) {zones : ZoneSet} (he : execSurveyZone tx zones s = .next u) : u.AtLaw := by
  refine portCommand_atLaw h (fun v hv => ?_) he
  split
  · exact hv
  · split
    · exact hv
    · have key (l : List Zone) (w : Survey) (hw : w.Apart) : (l.foldl (fun v z => v.ask z fun r => r.join tx.port) w).Apart ∧
          (l.foldl (fun v z => v.ask z fun r => r.join tx.port) w).zone = w.zone ∧
          (l.foldl (fun v z => v.ask z fun r => r.join tx.port) w).state = w.state ∧
          (l.foldl (fun v z => v.ask z fun r => r.join tx.port) w).pgRunning = w.pgRunning ∧
          (l.foldl (fun v z => v.ask z fun r => r.join tx.port) w).pilotLevel = w.pilotLevel := by
        induction l generalizing w with
        | nil => exact ⟨hw, rfl, rfl, rfl, rfl⟩
        | cons z l ih =>
          obtain ⟨k1, k2, k3, k4⟩ := w.ask_rest z fun r => r.join tx.port
          obtain ⟨i0, i1, i2, i3, i4⟩ := ih _ (hw.ask z fun r => r.join tx.port)
          exact ⟨i0, i1.trans k1, i2.trans k2, i3.trans k3, i4.trans k4⟩
      obtain ⟨k0, k⟩ := key (zonesOf zones) v.survey hv.sound.flags.apart
      exact State.Rests.requested hv (f := fun w => (zonesOf zones).foldl (fun v z => v.ask z fun r => r.join tx.port) w) k0 k

theorem execAutoSurveyIntervalExpiry_atLaw (h : s.AtLaw) (he : execAutoSurveyIntervalExpiry s = .next u) : u.AtLaw := by
  refine partEvent_atLaw ?_ he
  split
  · refine State.Rests.requested h (f := Survey.autoStep) ?_ (s.survey.ask_rest ..)
    exact h.sound.flags.apart.ask s.survey.cycle id
  · exact h

theorem execSurveyCancel_atLaw (h : s.AtLaw) {zones : ZoneSet} (he : execSurveyCancel tx zones s = .next u) : u.AtLaw := by
  refine portCommand_atLaw h (fun v hv => ?_) he
  split
  · exact hv
  · split
    · exact hv
    · have hflags := hv.sound.flags
      have h1 : (v.onSurvey fun w => { w with queue := w.queue.filter fun e => !zones.getLsbD e.zone.val }).Flags :=
        ⟨hflags.flagged, hflags.zone, hflags.pilot, hflags.queue.sublist (List.filter_sublist.map _),
          fun z hz e he => hflags.unqueued z hz e (List.mem_of_mem_filter he), fun hi => by
            show v.survey.queue.filter _ = []
            rw [hflags.idle hi]
            rfl⟩
      have h2 : (v.onSurvey fun w => { w with queue := w.queue.filter fun e => !zones.getLsbD e.zone.val }).AtLaw :=
        State.Rests.surveyed hv rfl (hv.sound.gains.onSurvey hv.sound.gains.pilot) ⟨h1, hv.clear⟩
      show State.AtLaw (if _ then _ else _)
      split
      · next hhit =>
        obtain ⟨z, hz, -⟩ := Option.any_eq_true .. |>.mp hhit
        exact h2.surveyed (State.abortSurvey_lasting ..) (h2.sound.gains.abortSurvey _) (State.abortSurvey_flags h1 hz _)
      · exact h2

theorem execSetSurveyParams_atLaw (h : s.AtLaw) {a : RawSurveyParams} (he : execSetSurveyParams tx a s = .next u) : u.AtLaw := by
  refine portCommand_atLaw h (fun v hv => ?_) he
  split
  · exact hv
  · split
    · next hok =>
      have hp : a.pilot.toNat ≤ unity := by
        simp only [surveyParamsOk, inRange, Bool.and_eq_true, decide_eq_true_eq] at hok
        exact hok.2.2.trans (by decide)
      exact State.Rests.surveyed (u := v.onSurvey fun w => { w with params := sweepOf a, pilotLevel := a.pilot.toNat }) hv rfl
        (hv.sound.gains.onSurvey hp) ⟨{ hv.sound.flags with }, hv.clear⟩
    · exact hv

theorem execSetThresholds_atLaw (h : s.AtLaw) {openT shortT : BitVec 24} {freqTol : BitVec 16} {pct : Byte}
    (he : execSetThresholds tx openT shortT freqTol pct s = .next u) : u.AtLaw := by
  refine portCommand_atLaw h (fun v hv => ?_) he
  split
  · exact hv
  · split
    · exact State.Rests.onSurvey hv
        (f := fun w => { w with thresholds := ⟨openT.toNat, shortT.toNat, freqTol.toNat, pct.toNat⟩ }) rfl
    · exact hv

theorem execSetReference_atLaw (h : s.AtLaw) {zones : ZoneSet} {form : Byte} {freq : BitVec 16} {mag : BitVec 24}
    (he : execSetReference tx zones form freq mag s = .next u) : u.AtLaw := by
  refine portCommand_atLaw h (fun v hv => ?_) he
  split
  · exact hv
  · split
    · exact hv
    · split
      · split
        · exact State.Rests.onZones hv zones fun _ => rfl
        · exact hv
      · split
        · exact State.Rests.onZones hv zones fun _ => rfl
        · exact hv
      · exact State.Rests.onZones hv zones fun _ => rfl
      · exact hv

theorem execSetAutoSurvey_atLaw (h : s.AtLaw) {base factor : Byte} (he : execSetAutoSurvey tx base factor s = .next u) : u.AtLaw := by
  refine portCommand_atLaw h (fun v hv => ?_) he
  split
  · exact hv
  · split
    · exact hv
    · next a _ => exact State.Rests.onSurvey hv (f := fun w => { w with auto := a, autoTimer := a.map AutoSetting.frames }) rfl

theorem execReadSurvey_atLaw (h : s.AtLaw) {zone : Byte} (he : execReadSurvey tx zone s = .next u) : u.AtLaw := by
  refine portCommand_atLaw h (fun v hv => ?_) he
  split
  · exact hv
  · split <;> exact hv

/-! #### Readings (R193 to R197) -/

theorem State.onZone_onZone (s : State) (z : Zone) (f g : ZoneRec → ZoneRec) :
    (s.onZone z f).onZone z g = s.onZone z fun r => g (f r) := by
  simp only [State.onZone, adjust_adjust]

theorem State.onZone_ruled (s : State) (z : Zone) {f : ZoneRec → ZoneRec} (hf : ∀ r, (f r).ruled = r.ruled) :
    (s.onZone z f).ruled = s.ruled := by
  have hg : (s.onZone z f).gist = s.gist := rfl
  have hz : (remap (s.onZone z f).zones fun _ r => r.ruled) = remap s.zones fun _ r => r.ruled := remap_adjust ZoneRec.ruled _ _ hf
  unfold State.ruled
  rw [hg, hz]
  rfl

/-- A survey that ends without classification of its line. -/
theorem State.Rests.surveyOver (h : s.Rests K loose opening) (hz : s.survey.zone = some z) (x : Option SurveyResult)
    (hu : u.silent = ((s.onZone z fun r => { r with lastResult := x, underSurvey := false }).onSurvey fun v => v.idle true).silent) :
    u.takeHead.Rests K loose opening := by
  have hf := h.sound.flags
  have hv : u.survey = s.survey.idle true := (congrArg State.survey hu :)
  have h1 : ((s.onZone z fun r => { r with lastResult := x, underSurvey := false }).onSurvey fun v => v.idle true).NoSurvey := by
    refine ⟨fun y => ?_, rfl, rfl, rfl⟩
    show (s.onZone z fun r => { r with lastResult := x, underSurvey := false }).zones[y].underSurvey = false
    by_cases e : z = y
    · subst e; rw [State.onZone_self]
    · rw [State.onZone_other s e, hf.flagged y, hz]; simp [e]
  have hg0 : (s.onZone z fun r => { r with lastResult := x, underSurvey := false }).Gains :=
    h.sound.gains.onZone z (h.sound.gains.zones z)
  have hg := hg0.onSurvey (f := fun v => v.idle true) hg0.pilot
  have hx : ((s.onZone z fun r => { r with lastResult := x, underSurvey := false }).onSurvey fun v => v.idle true).lasting =
      s.lasting := s.onZone_lasting z fun _ => rfl
  have hl : u.lasting = s.lasting := (congrArg State.lasting hu : u.silent.lasting = _).trans hx
  refine h.surveyed ((State.takeHead_lasting u).trans hl) (hg.of_silent hu).takeHead (State.takeHead_flags (h1.of_silent hu) ?_)
  rw [hv]
  exact hf.queue

/-- A survey completes: the engine is idle and takes its queue's head (R195). -/
theorem State.Rests.completeSurvey (h : s.Rests K loose opening) (hz : s.survey.zone = some z) (peak : Option (Nat × Nat))
    (edge noPeak : Bool) : (s.completeSurvey z peak edge noPeak).Rests K loose opening := by
  unfold State.completeSurvey
  simp only
  generalize classify s.survey.thresholds s.zones[z].reference peak noPeak = o
  have h1 : (s.onZone z fun r => { r with lineStatus := o }).Rests K loose opening := h.of_ruled (s.onZone_ruled z fun _ => rfl)
  have he := s.onZone_onZone z (fun r => { r with lineStatus := o })
    fun r => { r with lastResult := some ⟨o, peak, edge⟩, underSurvey := false }
  refine State.Rests.surveyOver (x := some ⟨o, peak, edge⟩) h1 hz ((State.raiseSurvey_silent ..).trans ?_)
  rw [he]
  split <;> rfl

theorem State.Rests.coarseOn (h : s.Rests K loose opening) (hz : s.survey.zone = some z) : (s.coarseOn z).Rests K loose opening := by
  unfold State.coarseOn
  simp only
  split
  · exact h.completeSurvey hz ..
  · exact h.onSurvey rfl

theorem State.Rests.coarseReading (h : s.Rests K loose opening) (hz : s.survey.zone = some z) (hs : s.survey.state = .coarse) (r : Nat) :
    (s.coarseReading z r).Rests K loose opening := by
  have h1 : (s.onSurvey fun v => { v with readings := v.readings + 1 }).Rests K loose opening := h.onSurvey rfl
  have hmax (m : Option (Nat × Nat)) : ((s.onSurvey fun v => { v with readings := v.readings + 1 }).onSurvey fun v =>
      { v with maximum := m }).Rests K loose opening := h1.onSurvey rfl
  unfold State.coarseReading
  simp only
  split
  · exact h1.coarseOn hz
  · split
    · exact (hmax _).coarseOn hz
    · split
      · exact (hmax _).coarseOn hz
      · split
        · exact h1.coarseOn hz
        · have hf := h1.sound.flags
          have hs' : (s.survey.state != .idle) = true := by rw [hs]; rfl
          refine h1.surveyed rfl (h1.sound.gains.onSurvey h1.sound.gains.pilot)
            ⟨⟨hf.flagged, hf.zone.trans hs', hf.pilot.trans hs', hf.queue, hf.unqueued, fun e => nomatch e⟩, h1.clear⟩

theorem execCoarseDwellExpiry_atLaw (h : s.AtLaw) (he : execCoarseDwellExpiry s = .next u) : u.AtLaw := by
  refine partEvent_atLaw ?_ he
  split
  · exact h
  · next z hz =>
    split
    · next hd => exact State.Rests.coarseReading h hz hd.1 _
    · exact h

theorem State.Rests.fineReading (h : s.Rests K loose opening) (hz : s.survey.zone = some z) (r : Nat) :
    (s.fineReading z r).Rests K loose opening := by
  have hread : (s.survey.fineRead r).ruled = s.survey.ruled ∧ (s.survey.fineRead r).zone = s.survey.zone := by
    unfold Survey.fineRead
    split
    · exact ⟨rfl, rfl⟩
    · split
      · exact ⟨rfl, rfl⟩
      · split <;> exact ⟨rfl, rfl⟩
  have h1 : (s.onSurvey fun v => v.fineRead r).Rests K loose opening := h.onSurvey hread.1
  have hz1 : (s.onSurvey fun v => v.fineRead r).survey.zone = some z := hread.2.trans hz
  unfold State.fineReading
  simp only
  split
  · exact h1.completeSurvey hz1 ..
  · split
    · exact h1.completeSurvey hz1 ..
    · exact h1.onSurvey rfl

theorem execFineDwellExpiry_atLaw (h : s.AtLaw) (he : execFineDwellExpiry s = .next u) : u.AtLaw := by
  refine partEvent_atLaw ?_ he
  split
  · exact h
  · next z hz =>
    split
    · exact State.Rests.fineReading h hz _
    · exact h

end Surveys

end Sys2Proof.Machine
end

section
namespace Sys2Proof.Machine

/-! ### Audio frames, fetches and transactions keep the laws -/

section Frames
variable {K : CueEngine → Prop} {loose opening : Fin 2 → Prop} {s u : State} {tx : Txn}

/-! #### A fetch (R136) -/

theorem State.AtLaw.primingEnd (h : s.AtLaw) (ch : ChanId) : (s.primingEnd ch).AtLaw := by
  have hplay : (s.beginPlaying ch).AtLaw := State.Rests.of_ruled h (State.beginPlaying_ruled ..)
  have hpause : (s.onChan ch fun c => { c with state := .paused, pause := some .start }).AtLaw :=
    State.Rests.of_ruled h (s.onChan_ruled ch fun _ => rfl)
  unfold State.primingEnd
  simp only
  split
  · split
    · split
      · exact hplay
      · exact State.Rests.reportPrimed hpause _
    · exact hplay
  · exact h

theorem execFetchCompletion_atLaw (h : s.AtLaw) {op : Nat} {data : Option (List Byte)} (he : execFetchCompletion op data s = .next u) :
    u.AtLaw := by
  refine partEvent_atLaw ?_ he
  split
  · next ch o p _ discard _ =>
    have hf : s.freeLink.AtLaw := State.Rests.freeLink h
    unfold State.fetchDone
    split
    · refine State.AtLaw.primingEnd ?_ ch
      exact State.Rests.of_ruled hf (State.onChan_ruled _ ch fun _ => rfl)
    · exact hf
  · exact h

/-! #### An audio frame (R1 to R8) -/

theorem Channel.frameBegin_binding (c : Channel) : c.frameBegin.binding = c.binding := by
  unfold Channel.frameBegin
  split <;> rfl

theorem Channel.advance_binding (c : Channel) : c.advance.binding = c.binding := by
  unfold Channel.advance
  split <;> rfl

theorem Player.advance_cond (pl : Player) (pat : Pattern) : (pl.advance pat).cond = pl.cond ∧ (pl.advance pat).pattern = pl.pattern := by
  unfold Player.advance
  split
  · split <;> exact ⟨rfl, rfl⟩
  · exact ⟨rfl, rfl⟩

theorem State.beginBlocks_ruled (s : State) : s.beginBlocks.ruled = s.ruled :=
  State.ruled_of_chans rfl fun c => by
    rw [show s.beginBlocks.chans[c] = s.chans[c].frameBegin from remap_at ..]
    exact Channel.frameBegin_binding _

theorem ZoneRec.counted_ruled (r : ZoneRec) (hot : Bool) : (r.counted hot).ruled = r.ruled := by
  unfold ZoneRec.counted
  split <;> rfl

theorem State.ruled_of_zones (hr : ({ u with zones := s.zones } : State).ruled = s.ruled)
    (hz : (remap u.zones fun _ r => r.ruled) = remap s.zones fun _ r => r.ruled) : u.ruled = s.ruled := by
  have : u.ruled = { ({ u with zones := s.zones } : State).ruled with zones := remap u.zones fun _ r => r.ruled } := rfl
  rw [this, hr, hz]
  rfl

theorem State.countOverloads_ruled (s : State) : s.countOverloads.ruled = s.ruled := by
  have h1 : ({ s with zones := remap s.zones fun z r => r.counted (s.overloads z) } : State).ruled = s.ruled :=
    State.ruled_of_zones rfl (remap_remap ZoneRec.ruled s.zones
      (f := fun z r => r.counted (s.overloads z)) fun z r => r.counted_ruled _)
  unfold State.countOverloads
  simp only
  split <;> exact h1

theorem State.advanceSources_ruled (s : State) : s.advanceSources.ruled = s.ruled := by
  have htone : (remap s.advanceSources.tone fun _ pl => { Player.stopped with cond := pl.cond }) =
      remap s.tone fun _ pl => { Player.stopped with cond := pl.cond } :=
    remap_remap (fun pl : Player => ({ Player.stopped with cond := pl.cond } : Player)) s.tone
      (f := fun _ pl => pl.advance (s.patternOf pl)) fun _ pl => by simp only [(pl.advance_cond (s.patternOf pl)).1]
  have hring := s.ring.advance_cond (s.patternOf s.ring)
  have hchans : ({ s with chans := s.advanceSources.chans } : State).ruled = s.ruled :=
    State.ruled_of_chans rfl fun c => by
      rw [show s.advanceSources.chans[c] = s.chans[c].advance from remap_at ..]
      exact Channel.advance_binding _
  have : s.advanceSources.ruled = { ({ s with chans := s.advanceSources.chans } : State).ruled with
      tone := remap s.advanceSources.tone fun _ pl => { Player.stopped with cond := pl.cond }
      ring := { Player.stopped with
        cond := (s.ring.advance (s.patternOf s.ring)).cond, pattern := (s.ring.advance (s.patternOf s.ring)).pattern } } := rfl
  rw [this, hchans, htone, hring.1, hring.2]
  rfl

theorem Program.countDown_ruled (g : Program) : g.countDown.ruled = g.ruled := by
  unfold Program.countDown Program.ruled Machine.countDown
  simp only [Option.map_map]
  rfl

theorem Program.countDown_face (g : Program) : g.countDown.face = g.face := by
  rw [← Program.ruled_face, Program.countDown_ruled, Program.ruled_face]

theorem AlarmSlot.countDown_untimed (a : AlarmSlot) : a.countDown.untimed = a.untimed := by
  unfold AlarmSlot.countDown AlarmSlot.untimed
  simp only [Option.map_map]
  rfl

theorem Call.countDown_gist (c : Call) : c.countDown.gist = c.gist := by
  unfold Call.countDown Call.gist
  split
  · simp only [List.map_map]
    rfl
  · rfl

theorem CueEngine.Lawful.countDown {c : CueEngine} (h : c.Lawful) : c.countDown.Lawful := by
  obtain ⟨h1, h2, h3, h4, h5, h6⟩ := (CueEngine.stateLawful_iff c).mp h.2
  refine ⟨h.1, (CueEngine.stateLawful_iff _).mpr ⟨h1, fun k => ⟨?_, (h2 k).2⟩, h3, h4, ?_, h6⟩⟩
  · show (c.bound.map _).isSome = true
    rw [Option.isSome_map]
    exact (h2 k).1
  · show (c.countdown.map _).isSome = true ↔ _
    rw [Option.isSome_map]
    exact h5

theorem State.countTimers_ruled (s : State) : s.countTimers.ruled = (s.onCue CueEngine.countDown).ruled := by
  have hface : (remap s.countTimers.progs fun _ g => g.face) = remap s.progs fun _ g => g.face :=
    remap_remap Program.face s.progs fun _ g => g.countDown_face
  have hprog : (remap s.countTimers.progs fun _ g => g.ruled) = remap s.progs fun _ g => g.ruled :=
    remap_remap Program.ruled s.progs fun _ g => g.countDown_ruled
  have hslot : (remap s.countTimers.slots fun _ a => a.untimed) = remap s.slots fun _ a => a.untimed :=
    remap_remap AlarmSlot.untimed s.slots fun _ a => a.countDown_untimed
  have hcall : (remap s.countTimers.calls fun _ c => c.gist) = remap s.calls fun _ c => c.gist :=
    remap_remap Call.gist s.calls fun _ c => c.countDown_gist
  have hclips : s.countTimers.clips.gist = s.clips.gist := by
    unfold ClipEngine.gist State.countTimers
    simp only [Option.bind_map]
    rfl
  unfold State.ruled State.gist
  rw [hface, hprog, hslot, hcall, hclips]
  rfl

theorem State.AtLaw.countTimers (h : s.AtLaw) : s.countTimers.AtLaw :=
  State.Rests.of_ruled (State.AtLaw.onCue h (f := CueEngine.countDown) h.sound.cue.countDown rfl) s.countTimers_ruled

theorem State.AtLaw.frame (h : s.AtLaw) (inputs sense : List (BitVec 32)) : (s.frame inputs sense).AtLaw := by
  have h1 : s.beginBlocks.output.AtLaw := State.Rests.of_ruled h (s.beginBlocks_ruled)
  have h2 := State.Rests.of_ruled h1 (State.countOverloads_ruled _)
  have h3 := State.Rests.of_ruled h2 (State.advanceSources_ruled _)
  exact State.Rests.of_ruled (State.AtLaw.countTimers h3) rfl

theorem execAudioFrame_atLaw (h : s.AtLaw) {inputs sense : List (BitVec 32)} (he : execAudioFrame inputs sense s = .next u) :
    u.AtLaw := by
  refine partEvent_atLaw ?_ he
  split
  · next left hr =>
    refine State.Rests.of_ruled h ?_
    have : (s.resetFrame left).ruled = { s.ruled with resetLeft := some 0 } := rfl
    rw [this]
    have hs : s.ruled = { s.ruled with resetLeft := s.resetLeft.map fun _ => 0 } := rfl
    rw [hs, hr]
    rfl
  · exact State.AtLaw.frame h inputs sense

end Frames

end Sys2Proof.Machine
end

section
namespace Sys2Proof.Machine

/-! ### Every step keeps the laws -/

section Steps
variable {s u : State} {tx : Txn}

theorem execPoll_atLaw (h : s.AtLaw) (he : execPoll tx s = .next u) : u.AtLaw := portCommand_atLaw h (fun _ hv => hv) he

theorem execIdentify_atLaw (h : s.AtLaw) (he : execIdentify tx s = .next u) : u.AtLaw := portCommand_atLaw h (fun _ hv => hv) he

theorem execReadNotices_atLaw (h : s.AtLaw) (he : execReadNotices tx s = .next u) : u.AtLaw := portCommand_atLaw h (fun _ hv => hv) he

theorem execReadResetCause_atLaw (h : s.AtLaw) (he : execReadResetCause tx s = .next u) : u.AtLaw :=
  portCommand_atLaw h (fun _ hv => hv) he

theorem execReadZone_atLaw (h : s.AtLaw) {zone : Byte} (he : execReadZone tx zone s = .next u) : u.AtLaw := by
  refine portCommand_atLaw h (fun v hv => ?_) he
  split <;> exact hv

/-- The row is one of a transaction given by its bytes. -/
def Instr.isRaw (i : Instr) : Bool :=
  match i with
  | .unknownCommandFrame _ _ | .transactionCutShort _ _ => true
  | _ => false

/-- Every command and event that is not given by its bytes keeps the laws at rest. -/
theorem exec_atLaw_of_row {i : Instr} (hi : Instr.isRaw i = false) (h : s.AtLaw) (he : exec i s = .next u) : u.AtLaw := by
  cases i with
  | unknownCommandFrame p bytes => cases hi
  | transactionCutShort p bytes => cases hi
  | poll => exact execPoll_atLaw h he
  | identify => exact execIdentify_atLaw h he
  | readNotices => exact execReadNotices_atLaw h he
  | clearNotices => exact execClearNotices_atLaw h he
  | setNoticeMask => exact execSetNoticeMask_atLaw h he
  | readResetCause => exact execReadResetCause_atLaw h he
  | restart => exact execRestart_atLaw h he
  | openProgram => exact execOpenProgram_atLaw h he
  | addZones => exact execAddZones_atLaw h he
  | dropZones => exact execDropZones_atLaw h he
  | closeProgram => exact execCloseProgram_atLaw h he
  | forceClose => exact execForceClose_atLaw h he
  | readProgram => exact execReadProgram_atLaw h he
  | readZone => exact execReadZone_atLaw h he
  | setShield => exact execSetShield_atLaw h he
  | setShowZones => exact execSetShowZones_atLaw h he
  | excludeZones => exact execExcludeZones_atLaw h he
  | readmitZones => exact execReadmitZones_atLaw h he
  | setProgramGain => exact execSetProgramGain_atLaw h he
  | setZoneLevel => exact execSetZoneLevel_atLaw h he
  | setEmergencyLevel => exact execSetEmergencyLevel_atLaw h he
  | setDuckProfile => exact execSetDuckProfile_atLaw h he
  | setAlarmUnder => exact execSetAlarmUnder_atLaw h he
  | readOverload => exact execReadOverload_atLaw h he
  | alarmStart => exact execAlarmStart_atLaw h he
  | alarmSilence => exact execAlarmSilence_atLaw h he
  | alarmResound => exact execAlarmResound_atLaw h he
  | alarmClear => exact execAlarmClear_atLaw h he
  | alarmVoiceOpen => exact execAlarmVoiceOpen_atLaw h he
  | alarmVoiceClose => exact execAlarmVoiceClose_atLaw h he
  | setVoiceWindow => exact execSetVoiceWindow_atLaw h he
  | readAlarm => exact execReadAlarm_atLaw h he
  | loadPattern => exact execLoadPattern_atLaw h he
  | readPattern => exact execReadPattern_atLaw h he
  | loadBegin => exact execLoadBegin_atLaw h he
  | loadData => exact execLoadData_atLaw h he
  | loadEnd => exact execLoadEnd_atLaw h he
  | loadAbandon => exact execLoadAbandon_atLaw h he
  | eraseClip => exact execEraseClip_atLaw h he
  | readClip => exact execReadClip_atLaw h he
  | readChannel => exact execReadChannel_atLaw h he
  | setStation => exact execSetStation_atLaw h he
  | callPlace => exact execCallPlace_atLaw h he
  | callAnswer => exact execCallAnswer_atLaw h he
  | callAdd => exact execCallAdd_atLaw h he
  | callHold => exact execCallHold_atLaw h he
  | callRetrieve => exact execCallRetrieve_atLaw h he
  | callLeave => exact execCallLeave_atLaw h he
  | callEnd => exact execCallEnd_atLaw h he
  | readStation => exact execReadStation_atLaw h he
  | readCall => exact execReadCall_atLaw h he
  | loadCue => exact execLoadCue_atLaw h he
  | deleteCue => exact execDeleteCue_atLaw h he
  | cueStandby => exact execCueStandby_atLaw h he
  | cueGo => exact execCueGo_atLaw h he
  | cueResume => exact execCueResume_atLaw h he
  | cueStopAll => exact execCueStopAll_atLaw h he
  | readCueEngine => exact execReadCueEngine_atLaw h he
  | surveyZone => exact execSurveyZone_atLaw h he
  | surveyCancel => exact execSurveyCancel_atLaw h he
  | setSurveyParams => exact execSetSurveyParams_atLaw h he
  | setThresholds => exact execSetThresholds_atLaw h he
  | setReference => exact execSetReference_atLaw h he
  | setAutoSurvey => exact execSetAutoSurvey_atLaw h he
  | readSurvey => exact execReadSurvey_atLaw h he
  | powerOnReset => exact execPowerOnReset_atLaw he
  | restartBegin => exact execRestartBegin_atLaw h he
  | resetIntervalEnd => exact execResetIntervalEnd_atLaw h he
  | audioFrame => exact execAudioFrame_atLaw h he
  | playerPhaseEnd => exact execPlayerPhaseEnd_atLaw h he
  | twoToneSwitch => exact execTwoToneSwitch_atLaw h he
  | toneGeneratorEnd => exact execToneGeneratorEnd_atLaw h he
  | chimeEnd => exact execChimeEnd_atLaw h he
  | blockDone => exact execBlockDone_atLaw h he
  | terminalCount => exact execTerminalCount_atLaw h he
  | rampTick => exact execRampTick_atLaw h he
  | waitLimitExpiry => exact execWaitLimitExpiry_atLaw h he
  | joinDeadlineExpiry => exact execJoinDeadlineExpiry_atLaw h he
  | voiceWindowExpiry => exact execVoiceWindowExpiry_atLaw h he
  | ringTimerExpiry => exact execRingTimerExpiry_atLaw h he
  | primingBoundExpiry => exact execPrimingBoundExpiry_atLaw h he
  | followCountdownExpiry => exact execFollowCountdownExpiry_atLaw h he
  | coarseDwellExpiry => exact execCoarseDwellExpiry_atLaw h he
  | fineDwellExpiry => exact execFineDwellExpiry_atLaw h he
  | autoSurveyIntervalExpiry => exact execAutoSurveyIntervalExpiry_atLaw h he
  | storeOperationTimeout => exact execStoreOperationTimeout_atLaw h he
  | scanReadCompletion => exact execScanReadCompletion_atLaw h he
  | fetchCompletion => exact execFetchCompletion_atLaw h he
  | directoryStepCompletion => exact execDirectoryStepCompletion_atLaw h he
  | programmingStepCompletion => exact execProgrammingStepCompletion_atLaw h he
  | eraseStepCompletion => exact execEraseStepCompletion_atLaw h he

/-- A port command of a frame is run by its row; another row does nothing here. -/
theorem runCommand_cases (i : Instr) (s : State) : runCommand i s = .next s ∨ (Instr.isRaw i = false ∧ runCommand i s = exec i s) := by
  cases i
  case unknownCommandFrame | transactionCutShort | powerOnReset | restartBegin | resetIntervalEnd | audioFrame
    | playerPhaseEnd | twoToneSwitch | toneGeneratorEnd | chimeEnd | blockDone | terminalCount | rampTick
    | waitLimitExpiry | joinDeadlineExpiry | voiceWindowExpiry | ringTimerExpiry | primingBoundExpiry
    | followCountdownExpiry | coarseDwellExpiry | fineDwellExpiry | autoSurveyIntervalExpiry | storeOperationTimeout
    | scanReadCompletion | fetchCompletion | directoryStepCompletion | programmingStepCompletion | eraseStepCompletion =>
    exact Or.inl rfl
  all_goals exact Or.inr ⟨rfl, rfl⟩

/-- Every row but those given by bytes ends with the arbiter at work. -/
theorem exec_served_of_row {i : Instr} (hi : Instr.isRaw i = false) (he : exec i s = .next u) : u.served = true := by
  cases i
  case unknownCommandFrame | transactionCutShort => cases hi
  all_goals
    cases he
    exact State.arbitrate_served _

/-- A transaction given by its bytes keeps the laws, and the link served (R204 to R206, R211). -/
theorem rawTransaction_keeps (h : s.AtLaw) (hs : s.served = true) (p : Port) (bytes : List Byte)
    (he : s.rawTransaction p bytes = .next u) : u.AtLaw ∧ u.served = true := by
  have hq := s.clockThrough_silent p bytes.length
  have h1 : (s.clockThrough p bytes.length).AtLaw := State.Rests.of_silent h hq
  have hs1 : (s.clockThrough p bytes.length).served = true :=
    (State.served_congr (congrArg State.resetLeft hq :) (congrArg State.clips hq :) (congrArg State.chans hq :)).trans hs
  unfold State.rawTransaction at he
  simp only at he
  split at he
  · cases he
    exact ⟨h1, hs1⟩
  · split at he
    · cases he
      exact ⟨State.restartNow_atLaw _, rfl⟩
    · split at he
      · cases he
        exact ⟨h1, hs1⟩
      · split at he
        · cases he
          refine ⟨State.Rests.arbitrate ?_, State.arbitrate_served _⟩
          exact State.Rests.of_silent h1 rfl
        · next i _ =>
          rcases runCommand_cases i s with e | ⟨hi, e⟩
          · rw [e] at he
            cases he
            exact ⟨h, hs⟩
          · rw [e] at he
            exact ⟨exec_atLaw_of_row hi h he, exec_served_of_row hi he⟩

theorem exec_keeps (i : Instr) (h : s.AtLaw) (hs : s.served = true) (he : exec i s = .next u) : u.AtLaw ∧ u.served = true := by
  cases hi : Instr.isRaw i with
  | false => exact ⟨exec_atLaw_of_row hi h he, exec_served_of_row hi he⟩
  | true =>
    cases i with
    | unknownCommandFrame p bytes => exact rawTransaction_keeps h hs p bytes he
    | transactionCutShort p bytes => exact rawTransaction_keeps h hs p bytes he
    | _ => cases hi

/-- The laws do not read the queue of waiting commands. -/
theorem State.safe_pending (h : s.safe = true) (l : List Instr) : ({ s with pending := l } : State).safe = true := by
  obtain ⟨h1, h2, h3⟩ := (State.safe_iff s).mp h
  exact (State.safe_iff _).mpr ⟨State.Rests.of_ruled h1 rfl, (State.served_congr rfl rfl rfl).trans h2, h3⟩

theorem step_safe (h : s.safe = true) (hstep : step s = .next u) : u.safe = true := by
  unfold step at hstep
  split at hstep
  · cases hstep
    exact h
  · next i rest _ =>
    obtain ⟨h1, h2, h3⟩ := (State.safe_iff _).mp (State.safe_pending h rest)
    obtain ⟨k1, k2⟩ := exec_keeps i h1 h2 hstep
    exact (State.safe_iff u).mpr ⟨k1, k2, exec_outputsAnswered i (s := { s with pending := rest }) h3 u hstep⟩

/-- A run of one step more that answers a next state begins with a step that does. -/
theorem run_succ_next {M : Host.Core} {n : Nat} {s u : M.State} (h : M.run (n + 1) s = .next u) :
    ∃ v, M.step s = .next v ∧ M.run n v = .next u := by
  unfold Host.Core.run at h
  split at h
  · next v hv => exact ⟨v, hv, h⟩
  · cases h
  · cases h

theorem run_safe (n : Nat) (h : s.safe = true) (hrun : Sys2Proof.core.run n s = Host.Outcome.next u) : u.safe = true := by
  induction n generalizing s with
  | zero =>
    cases hrun
    exact h
  | succ n ih =>
    obtain ⟨v, hv, hrest⟩ := run_succ_next (M := Sys2Proof.core) hrun
    exact ih (step_safe h hv) hrest

/-- Settles O17: each command and event keeps the laws at rest, the arbiter serves the link at the end of its step, and a run is
its steps. -/
theorem everyRunFromResetKeepsTheLaws : Obligations.EveryRunFromResetKeepsTheLaws :=
  ⟨fun _ _ hs _ hstep => step_safe hs hstep,
    fun commands n _ _ hrun => run_safe n (State.safe_pending theResetStateIsSafe.1 commands) hrun⟩

end Steps

end Sys2Proof.Machine
end
